-- ==== Sys2Proof/Word.lean ====
section
/-!
DEFINITION. The word types of the manual: the 72-bit native word (R6), the byte, device time (R63), and the
small widths that several units share.
-/

namespace Sys2Proof

/-- The native word: 72 bits of payload, bit 71 most significant (R6). -/
abbrev Word := BitVec 72

/-- One byte of a datagram or of the wire form of a native word (R7). -/
abbrev Byte := BitVec 8

/-- Device time in cycles (R63); it wraps after 2^64 − 1 (R64). -/
abbrev Time := BitVec 64

/-- An epoch number (R44). -/
abbrev Epoch := BitVec 16

/-- One complex sample with 18-bit parts (R98, R194, R315). -/
structure Sample where
  i : BitVec 18
  q : BitVec 18
  deriving DecidableEq, Repr

end Sys2Proof
end

