-- ==== Sys2Proof/Config.lean ====
section
/-!
DEFINITION. What an implementation fixes and what the manual leaves open: the family members (R1), the free values
(assumption log 1), and the fixed functions whose values the manual does not state (log 2, 3, 4).
-/

namespace Sys2Proof

/-- The members of the family (R1). -/
inductive Member where
  | pw2 | pw4 | pw8
  deriving DecidableEq, Repr

/-- Dies of a member (R1). -/
def Member.dies : Member → Nat
  | .pw2 => 2
  | .pw4 => 4
  | .pw8 => 8

/-- The n-th value the manual leaves open during a run: a TAG, a challenge, a lost record's content, an instant
that Fredom chooses. No body: nothing is known of it (log 1). -/
opaque Config.freeNat : Nat → Nat

/-- The coefficients of the fixed linear-phase interpolation filter of R102 for an envelope sample 0, 1, 2, … DAC samples
away, in units of `2^-interpBits`, which the manual does not give (log 2). -/
opaque Config.interpFilter : List Int

/-- Bits below the point of the coefficients of the interpolation filter (log 2). -/
opaque Config.interpBits : Nat

/-- Whether a quotient that is not whole is rounded up, where the manual does not state it: the number of the rule, numerator
and denominator (log 11). -/
opaque Config.roundsUp : Nat → Int → Nat → Bool

/-- The ADC samples (R184): die, RF input, cycle, and sample 0–7 within it. The signal at the lands is the world's (log 62). -/
opaque Config.adc : Nat → Nat → Nat → Nat → BitVec 12

/-- The coefficients of the demodulator's fixed linear-phase decimating filter (R193) for an ADC sample 0, 1, 2, … samples away
from the middle of the cycle; the manual gives its response alone (log 62). -/
opaque Config.decimFilter : List Int

/-- The coefficients of the channelizer's filter (R312), likewise (log 62). -/
opaque Config.binFilter : List Int

/-- The coefficients of a detector tone's decimator (R314), by its exponent k, for a bin sample 0, 1, 2, … away (log 62). -/
opaque Config.toneFilter : Nat → List Int

/-- Cycles in which an event of a producer outside the fabric domain crosses into the fabric, by producer: fixed, not stated
(R62, R353, log 65). -/
opaque Config.crossing : Nat → Nat

/-- PHASE of R315 of a sample of 0, which has no angle (log 3). -/
opaque Config.phaseOfZero : BitVec 18

/-- Bits below the point of the 40-bit state of an IIR stage (R111): as many as leave room for every output of 18 bits; the
manual does not state how many (log 2). -/
opaque Config.iirBits : Fin 23

/-- What the state of an IIR stage becomes where a sum does not fit its 40 bits (log 2). -/
opaque Config.iirBeyond : Int → BitVec 40

/-- The factory trim of an object: object id, selector and word (R505, R565), fixed per device (log 4). -/
opaque Config.factory : Nat → Nat → Nat → Word

/-- The nominal trims that a unit takes when its record is lost (R559): object, selector and word; not stated (log 4). -/
opaque Config.nominalTrim : Nat → Nat → Nat → Word

/-- The JEDEC manufacturer identity assigned to Koilabex (R601), not stated in the manual (log 4). -/
opaque Config.jedec : BitVec 11

/-- The places of ALERT_N's and SYNC_OUT's cells in the boundary-scan chain, whose order is not stated (R600, R601; log 24). -/
opaque Config.alertCell : Nat
opaque Config.syncOutCell : Nat

/-- What a 32-bit counter reads after it has passed 2^32 − 1, which the manual does not state: object and selector
(log 10). -/
opaque Config.pastLimit : Nat → Nat → BitVec 32

/-- The fixed PHY latency of the Ethernet port in picoseconds (R88), not stated in the manual (log 12). -/
opaque Config.phyLatency : Int

/-- SIZE of BIAS_ENQUEUE, which only its directory entry states (R510, log 4). -/
opaque Config.biasEnqueueSize : Nat

/-- The vendor test definitions that DICT_DIRECTORY lists (R517), as directory entries (R513); not stated in the
manual (log 4). -/
opaque Config.vendorDirectory : List Word

/-- EXC_I of R408 where its quotient has no value or lies outside 64 bits: numerator and SNS_REF_TRIM field; not stated
(log 1). -/
opaque Config.excUnstated : Int → Nat → BitVec 64

end Sys2Proof
end

