-- ==== Sys2Proof/Syntax.lean ====
section
/-!
DEFINITION. The commands of the block: one constructor per row of the opcode table, with the operands the row acts on.
A command names its units by die and by index within the die (R3, R4). What the surroundings of the device supply (a
received message, a converter's measurement, the outcome of a check of stored bits) is an operand too (log 5, log 7). An
operand of type Unit carries nothing: its place stood for a sample that now follows from the signal (log 62).
-/

namespace Sys2Proof

/-- What the check bits of a word say when it is read (R6): no error, a corrected single-bit error, or an
uncorrectable one. The memory cells themselves are the environment's (log 7). -/
inductive Ecc where
  | clean | corrected | uncorrectable
  deriving DecidableEq, Repr

/-- The UDP payload of a datagram that arrives, and what the check bits of an engine's memory say of the words that its
READBLOCK reads, by position in the block, where they are not clean (R304, log 7). -/
structure Datagram where
  bytes : List (BitVec 8)
  checks : List (Nat × Ecc) := []
  deriving DecidableEq, Repr

/-- What the check bits of the two native words of a microword say when it is fetched (R130, R173). -/
structure MwEcc where
  hi : Ecc := .clean
  lo : Ecc := .clean
  deriving DecidableEq, Repr

/-- A Tattoo marker (R72, R73): master, hop count, send time in steps of 1/64 sample, and the round trip the sender
measured for the receiver's previous echo. -/
structure Marker where
  master : Nat := 0
  hops : Nat := 0
  sent : Nat := 0
  trip : Option Nat := none
  deriving DecidableEq, Repr

/-- A PTP Announce message (R87): the Ethernet port it came by, the sender, its grandmaster; the interval is in cycles. -/
structure Announce where
  port : Nat
  master : BitVec 64
  grandmaster : BitVec 64
  domain : Nat
  priority1 : Nat
  clockClass : Nat
  accuracy : Nat
  variance : Nat
  priority2 : Nat
  steps : Nat
  utcOffset : BitVec 16
  interval : Nat
  deriving DecidableEq, Repr

/-- A PTP Sync message (R88): port, domain, sender, sequence number, whether a Follow_Up brings the origin time, and the
origin time in picoseconds of TAI. -/
structure PtpSync where
  port : Nat
  domain : Nat
  master : BitVec 64
  seq : Nat
  twoStep : Bool
  origin : Int
  deriving DecidableEq, Repr

/-- A PTP Follow_Up message (R87). -/
structure PtpFollowUp where
  port : Nat
  domain : Nat
  master : BitVec 64
  seq : Nat
  origin : Int
  deriving DecidableEq, Repr

/-- A PTP Delay_Resp message (R87): the master's receipt time of the Delay_Req, in picoseconds of TAI. -/
structure PtpDelayResp where
  port : Nat
  domain : Nat
  master : BitVec 64
  seq : Nat
  received : Int
  deriving DecidableEq, Repr

/-- What a slice's calibration measured (R228): the corrections needed, in steps of 1/16 code, 2^−16 and 25 fs, whether
the input's power kept the skew estimate from being taken (R227), and whether the noise and handover checks passed. -/
structure CalMeas where
  offset : Int := 0
  gain : Int := 0
  skew : Int := 0
  skewHeld : Bool := false
  noiseOk : Bool := true
  handoverOk : Bool := true
  deriving DecidableEq, Repr

/-- A forward entry whose installation Fredom completes (R251): for a mirror of this device from a source of this
device; at this device as the source for a mirror of another; or at this device as the mirror's, once the other
device's Fredom has installed its entry, or has found its table full (R249). -/
inductive Install where
  | here (mDie mSlot : Nat)
  | toOther (srcDie srcSlot dev mDie mSlot stag : Nat)
  | fromOther (mDie mSlot : Nat) (full : Bool)
  deriving DecidableEq, Repr

/-- A decision message between devices (R260). -/
structure DecMsg where
  die : Nat
  /-- Destination mirror slot − 768. -/
  mirror : Nat
  value : BitVec 8
  valid : Bool
  gen : BitVec 7
  stag : Nat
  deriving DecidableEq, Repr

/-- The payload of a numbered flit (R430): a decision flit (R259) or a bulk flit with 128 bits of a Fredom message. -/
inductive FlitBody where
  | decision (dest src : Nat) (msgs : List DecMsg)
  | bulk (dest src : Nat) (data : BitVec 128)
  deriving DecidableEq, Repr

/-- A numbered flit (R431). -/
structure Flit where
  seq : BitVec 8
  body : FlitBody
  deriving DecidableEq, Repr

/-- The body of a CALL or HELLO ordered set (R433). -/
structure LaneSet where
  device : Nat
  member : Member
  port : Nat
  lane : Nat
  rxGood : BitVec 4
  txStripe : BitVec 4
  rxSleep : BitVec 4
  deriving DecidableEq, Repr

/-- A link of a link-state record (R450): local port, partner device and port, ⌈f⌉. -/
structure LinkRec where
  port : Nat
  partner : Nat
  partnerPort : Nat
  f : Nat
  deriving DecidableEq, Repr

/-- A link-state record (R450). -/
structure LinkStateRec where
  device : Nat
  member : Member
  links : List LinkRec
  deriving DecidableEq, Repr

/-- A write to a majority unit (R351): MAJ_CONFIG, or words of MAJ_GROUP from an offset. -/
inductive MajWrite where
  | config (v : BitVec 64)
  | group (offset : Nat) (ws : List Word)
  deriving DecidableEq, Repr

/-- What a conversion of a sensor channel read over its window (R407, R410, R412): the 24-bit results of the sense and the
reference modulator, whether an input left its full scale, and whether an amplifier saturated. -/
structure ConvMeas where
  sense : BitVec 24 := 0
  ref : BitVec 24 := 0
  beyond : Bool := false
  saturated : Bool := false
  deriving DecidableEq, Repr

/-- Where a Landing datagram comes from (R475): source address (an IPv4 address as ::ffff:a.b.c.d, R496) and UDP port. -/
structure Peer where
  addr : BitVec 128
  udp : BitVec 16
  deriving DecidableEq, Repr

/-- What an Ethernet frame carries, as far as the MAC and the offload tell frames apart (R464, R465, R468). -/
inductive FrameBody where
  /-- Landing, PTP, DHCP, ARP and the other traffic that a row of its own acts on. -/
  | served
  /-- A UDP datagram to some other port, or with a bad checksum and to port 47801 or not. -/
  | otherPort
  | badChecksum (landing : Bool)
  | fragment
  | otherIcmp
  /-- A MAC control frame (PAUSE, priority flow control). -/
  | macControl
  | otherEthertype
  deriving DecidableEq, Repr

/-- A received Ethernet frame: its length with FCS, its VLAN tag's VID, the codewords that FEC corrected and could not
correct in it (R463). -/
structure EthFrame where
  len : Nat
  vid : Option (BitVec 12)
  body : FrameBody
  corrected : Nat
  uncorrected : Nat
  deriving DecidableEq, Repr

/-- A DHCPv4 reply (R466): the address offered with prefix and gateway (options 1 and 3), the server (option 54), the
lease in seconds (option 51). -/
inductive DhcpMsg where
  | offer (addr server : BitVec 32)
  | ack (addr : BitVec 32) (pfx : Nat) (gateway server : BitVec 32) (lease : Nat)
  | nak
  deriving DecidableEq, Repr

/-- An ARP message (R468). -/
structure ArpMsg where
  sender : BitVec 32
  mac : BitVec 48
  target : BitVec 32
  deriving DecidableEq, Repr

/-- An echo request of ICMP or ICMPv6 (R468): its sender, the address it is sent to, and the bytes of its IP packet. -/
structure EchoMsg where
  v6 : Bool
  src : BitVec 128
  dst : BitVec 128
  len : Nat
  deriving DecidableEq, Repr

/-- An IPv6 neighbour solicitation (R467). -/
structure NsMsg where
  src : BitVec 128
  target : BitVec 128
  deriving DecidableEq, Repr

/-- What the read of the nonvolatile store finds (R559): the dies for which a copy of a mirrored record was rewritten, and
the records with no good copy, as die and byte offset in the store. -/
structure StoreRead where
  rewritten : List Nat := []
  lost : List (Nat × Nat) := []
  deriving DecidableEq, Repr

/-- The commands (opcode_table.json), in the table's order; those without operands last, since Lean's compiler builds no
constructor with operands beyond the 245th. -/
inductive Instr where
  /-- EPOCH_REQUEST (R46): A host write to EPOCH_REQUEST issues an epoch request from die 0, where it is checked
    against die 0's record. -/
  | epochRequest (v : Word)
  /-- EPOCH_REQUEST_ARRIVE (R47): An epoch request reaches another die after its Gangway hops; it is checked against
    that die's record and handed to the die's units. -/
  | epochRequestArrive (d : Nat)
  /-- EPOCH_APPLY (R49): A unit reaches its boundary and applies the furthest request it has received, changing its
    setting if its die is in DIEMASK, and publishes the epoch. -/
  | epochApply (cls entry : Nat)
  /-- GANGWAY_LINK_FAIL (R25): A Gangway link stops carrying traffic; its routes become undeliverable and decision
    messages on them are dropped. -/
  | gangwayLinkFail (d link : Nat)
  /-- GANGWAY_SPARE_SWAP (R555): After 1,024 cycles of duplicated data, a spare wire group takes the place of a
    group that met the correction rule. -/
  | gangwaySpareSwap (d link group : Nat)
  /-- REMOTE_COMMAND_ARRIVE (R109): A REMOTE PLAY, FREQ or PHASE reaches the generator queue of its target die after
    its Gangway hops and is admitted or refused. -/
  | remoteCommandArrive (d : Nat)
  /-- REMOTE_REFUSAL_RETURN (R32): The refusal of a REMOTE command, or the later free-entry notice, returns over the
    Gangway route and sets QFULL or QFREE at the sequencer. -/
  | remoteRefusalReturn (d q : Nat)
  /-- COMMAND_ISSUE (R29): A queued PLAY, FREQ or PHASE leaves the queue and issues to its generator 34 cycles
    before its stamp. -/
  | commandIssue (d g : Nat) (fixed bad : List Nat)
  /-- PULSE_END (R103): A pulse's last envelope sample passes; the generator stops playing and either contributes 0
    or holds. -/
  | pulseEnd (d g : Nat)
  /-- OUTCOME_PORT_WRITE (R37): An outcome-file write port writes a waiting post into its slot, freeing a DSP
    post-buffer entry where it serves one. -/
  | outcomePortWrite (d p : Nat)
  /-- PLL_LOCK (R59): The root PLL locks to REFCLK and synchronises every divider. -/
  | pllLock (d : Nat)
  /-- TIME_SET (R69): A TIME_SET write steps device time when accepted, or is discarded with STEP_REFUSED. -/
  | timeSet (v : Time)
  /-- MARKER_RECEIVE (R73): A received Tattoo marker is echoed and accumulated into the receiver's marker average. -/
  | markerReceive (d : Nat) (m : Marker) (arrived : Nat)
  /-- MARKER_AVERAGE (R75): A marker average over 256 markers completes; the follower aligns, tracks, returns or
    retries a held step. -/
  | markerAverage (d : Nat)
  /-- DLY_APPLY (R76): A changed DLY or OUTPUT_SKEW takes effect at the first cycle in which none of the output's
    generators plays. -/
  | dlyApply (d o : Nat)
  /-- REFCLK_LOSS (R84): No REFCLK edge for 64 ns puts the PLL into holdover, sets REFCLK_LOST and starts an orderly
    shutdown. -/
  | refclkLoss (d : Nat)
  /-- CAL_SET (R86): A CAL_SET write sets the calendar and CAL_STATE HOST, or is discarded while PTP is enabled. -/
  | calSet (w0 w1 : Word)
  /-- PTP_ANNOUNCE_RECEIVE (R87): A PTP Announce message feeds the best master clock choice. -/
  | ptpAnnounceReceive (a : Announce)
  /-- PTP_SYNC_RECEIVE (R88): A PTP Sync message is timestamped and steers or steps the calendar. -/
  | ptpSyncReceive (m : PtpSync)
  /-- PTP_FOLLOW_UP_RECEIVE (R87): A Follow_Up message supplies the precise origin time of a two-step Sync. -/
  | ptpFollowUpReceive (m : PtpFollowUp)
  /-- PTP_DELAY_RESP_RECEIVE (R87): A Delay_Resp message completes a mean-path-delay measurement. -/
  | ptpDelayRespReceive (m : PtpDelayResp)
  /-- GEN_FREQ_WRITE (R127): A host write to GEN_FREQ replaces the frequency word at the sample the device applies
    it. -/
  | genFreqWrite (d g : Nat) (v : BitVec 64)
  /-- GEN_PHASE_OFFSET_WRITE (R127): A host write to GEN_PHASE_OFFSET replaces PHASE_OFFSET at the sample the device
    applies it. -/
  | genPhaseOffsetWrite (d g : Nat) (v : BitVec 32)
  /-- PD_COMMIT (R113): A write of 1 to PD_COMMIT arms a copy of the shadow coefficients; a write of 0 cancels a
    pending copy. -/
  | pdCommit (d o : Nat) (b : Bool)
  /-- PD_COMMIT_APPLY (R113): At the output's next idle boundary the shadow coefficients are copied to the active
    chain together. -/
  | pdCommitApply (d o : Nat)
  /-- OUTPUT_MODE_APPLY (R118): A written OUT_MODE, FS_CURRENT, HEADROOM or FIR_LONG takes effect at the output's
    idle boundary and starts settling where stated. -/
  | outputModeApply (d o : Nat)
  /-- OUTPUT_SETTLING_END (R118): After 25,000 cycles of settling the output stage leaves mid-scale and SETTLING
    clears. -/
  | outputSettlingEnd (d o : Nat)
  /-- SEQ_NOP (R135): A sequencer word with action NOP performs its counter operation, wait and branch only. -/
  | seqNop (d q : Nat) (e : MwEcc)
  /-- PLAY (R153): A sequencer PLAY enters the generator's command queue stamped with the word's T. -/
  | play (d q : Nat) (e : MwEcc)
  /-- FREQ (R154): A sequencer FREQ enters the generator's queue to replace the frequency word at its stamp. -/
  | freq (d q : Nat) (e : MwEcc)
  /-- PHASE (R154): A sequencer PHASE enters the generator's queue to add or set PHASE_OFFSET at its stamp. -/
  | phase (d q : Nat) (e : MwEcc)
  /-- MARK (R155): MARK writes a mark record and/or raises the MARK producer at fabric cycle T. -/
  | mark (d q : Nat) (e : MwEcc)
  /-- EVENT (R156): EVENT raises one of the sequencer's producers EV0–EV3 at fabric cycle T. -/
  | event (d q : Nat) (e : MwEcc)
  /-- SEQ_POST (R157): POST offers VALUE to a slot in 256–511 through the sequencer's write port, or is discarded
    with POST_RANGE. -/
  | seqPost (d q : Nat) (e : MwEcc)
  /-- READ (R158): READ schedules an integration window on a demodulator at the instant of R135. -/
  | read (d q : Nat) (e : MwEcc)
  /-- ACQ_ARM (R159): ACQ ARM arms raw capture, opens trigger gates or enables a majority unit at fabric cycle T. -/
  | acqArm (d q : Nat) (e : MwEcc)
  /-- ACQ_FORCE (R159): ACQ FORCE starts raw capture, forces trigger records or fires a majority unit at fabric
    cycle T. -/
  | acqForce (d q : Nat) (e : MwEcc)
  /-- ACQ_STOP (R159): ACQ STOP disarms raw capture, closes trigger gates or disables a majority unit at fabric
    cycle T. -/
  | acqStop (d q : Nat) (e : MwEcc)
  /-- BIAS_ACT_ENQUEUE (R160): A BIAS action with OP ENQUEUE offers a code to a bias output's queue at fabric cycle
    T. -/
  | biasActEnqueue (d q : Nat) (e : MwEcc)
  /-- BIAS_ACT_START (R160): A BIAS action with OP START starts a bias output at fabric cycle T. -/
  | biasActStart (d q : Nat) (e : MwEcc)
  /-- BIAS_ACT_STOP (R160): A BIAS action with OP STOP stops a bias output at fabric cycle T. -/
  | biasActStop (d q : Nat) (e : MwEcc)
  /-- BIAS_ACT_FLUSH (R160): A BIAS action with OP FLUSH empties a bias output's queue at fabric cycle T. -/
  | biasActFlush (d q : Nat) (e : MwEcc)
  /-- MSG (R161): MSG places a message in a DSP engine's inbound mailbox at fabric cycle T, or is lost with
    MSG_LOST. -/
  | msg (d q : Nat) (e : MwEcc)
  /-- REMOTE_PLAY (R162): REMOTE with KIND PLAY sends a PLAY to a generator of another die, or faults on a die the
    member lacks. -/
  | remotePlay (d q : Nat) (e : MwEcc)
  /-- REMOTE_FREQ (R162): REMOTE with KIND FREQ sends a FREQ to a generator of another die. -/
  | remoteFreq (d q : Nat) (e : MwEcc)
  /-- REMOTE_PHASE (R162): REMOTE with KIND PHASE sends a PHASE to a generator of another die. -/
  | remotePhase (d q : Nat) (e : MwEcc)
  /-- CNTLD (R163): CNTLD loads a counter, and optionally its reload register, with VALUE. -/
  | cntld (d q : Nat) (e : MwEcc)
  /-- EPOCH (R164): The EPOCH action issues an epoch request from the sequencer's die at fabric cycle T. -/
  | epoch (d q : Nat) (e : MwEcc)
  /-- TRET (R171): TRET restores the trap frame and resumes the interrupted word, halts on a non-resumable frame, or
    acts as NOP outside a handler. -/
  | tret (d q : Nat) (e : MwEcc)
  /-- BR_NEXT (R142): Branch mode NEXT selects NEXT as the successor. -/
  | brNext (d q : Nat)
  /-- BR_CONDALT (R142): Branch mode CONDALT selects ALT when the sampled COND is true, else NEXT. -/
  | brCondalt (d q : Nat)
  /-- BR_CONDNEXT (R142): Branch mode CONDNEXT selects NEXT when the sampled COND is true, else ALT. -/
  | brCondnext (d q : Nat)
  /-- BR_TABLE (R143): Branch mode TABLE forms an index from the table-index map and takes the decision-table entry. -/
  | brTable (d q : Nat)
  /-- BR_CALL (R144): Branch mode CALL pushes NEXT and goes to ALT, discarding the oldest entry on a full stack. -/
  | brCall (d q : Nat)
  /-- BR_RETURN (R144): Branch mode RETURN pops the return stack, or goes to NEXT with STACK_UNF on an empty stack. -/
  | brReturn (d q : Nat)
  /-- BR_LOOP (R142): Branch mode LOOP decrements the latched counter and goes to ALT, or goes to NEXT when it is 0. -/
  | brLoop (d q : Nat)
  /-- BR_HALT (R142): Branch mode HALT halts the sequencer after the word's counter operation and action. -/
  | brHalt (d q : Nat)
  /-- CNTOP_SEL (R147): Counter operation SEL latches CNTSEL into the counter-select latch. -/
  | cntopSel (d q : Nat) (e : MwEcc)
  /-- CNTOP_DEC (R147): Counter operation DEC decrements a counter, stopping at 0. -/
  | cntopDec (d q : Nat) (e : MwEcc)
  /-- CNTOP_INC (R147): Counter operation INC increments a counter modulo 2^24. -/
  | cntopInc (d q : Nat) (e : MwEcc)
  /-- CNTOP_CLR (R147): Counter operation CLR sets a counter to 0. -/
  | cntopClr (d q : Nat) (e : MwEcc)
  /-- CNTOP_RELOAD (R147): Counter operation RELOAD loads a counter from CNT_RELOAD. -/
  | cntopReload (d q : Nat) (e : MwEcc)
  /-- SEQ_CONDITION_MET (R137): A waiting word finds its condition true; the sample is taken, sources are consumed
    and the successor's T is set. -/
  | seqConditionMet (d q : Nat)
  /-- SEQ_WAIT_TIMEOUT (R137): A WAIT 11 word reaches D − 38 without its condition and times out, setting TIMEDOUT. -/
  | seqWaitTimeout (d q : Nat)
  /-- STAMPED_ACTION_DELIVER (R136): The stamped-action buffer delivers an action at its fabric cycle T, freeing an
    entry. -/
  | stampedActionDeliver (d q : Nat)
  /-- SEQ_START (R165): SEQ_COMMAND START starts a halted or armed sequencer at SEQ_START_ADDR with its start time. -/
  | seqStart (d q : Nat)
  /-- SEQ_HALT (R165): SEQ_COMMAND HALT stops a running sequencer before its next word or disarms an armed one. -/
  | seqHalt (d q : Nat)
  /-- SEQ_ABORT (R165): SEQ_COMMAND ABORT halts the sequencer, empties its stamped-action buffer and removes its
    unissued commands. -/
  | seqAbort (d q : Nat)
  /-- SEQ_ARM (R165): SEQ_COMMAND ARM makes a halted sequencer wait for its START task input. -/
  | seqArm (d q : Nat)
  /-- SEQ_DISARM (R165): SEQ_COMMAND DISARM returns an armed sequencer to halted. -/
  | seqDisarm (d q : Nat)
  /-- SEQ_START_TASK (R166): An event at a sequencer's START task input starts it if armed. -/
  | seqStartTask (d q : Nat)
  /-- SEQ_STOP_TASK (R166): An event at a sequencer's STOP task input acts as the HALT command. -/
  | seqStopTask (d q : Nat)
  /-- SEQ_EVC_TASK (R150): An event at EVC0–EVC3 is held for the TASK condition class. -/
  | seqEvcTask (d q n : Nat)
  /-- SEQ_EVT_TASK (R168): An event at EVT0–EVT3 raises trap cause 0–3. -/
  | seqEvtTask (d q n : Nat)
  /-- CS_SCRUB (R174): Every 512 cycles the scrubber reads one control-store word, correcting single-bit errors and
    poisoning uncorrectable words. -/
  | csScrub (d q : Nat) (e : Ecc)
  /-- WINDOW_OPEN (R199): A READ's integration window opens at its input cycle, latching frequency, phase and
    parameter set. -/
  | windowOpen (d m : Nat)
  /-- WINDOW_CLOSE (R210): A window's last sample is accumulated; the IQ point is formed, discriminated and posted
    on the fixed timeline. -/
  | windowClose (d m : Nat) (spare0 spare1 : Unit) (badWeights : List Nat) (fixedWeights : Nat)
  /-- INPUT_MODE_APPLY (R187): A written INPUT_MODE or INPUT_RANGE takes effect at the input's boundary, starting
    settling on a range change. -/
  | inputModeApply (d i : Nat)
  /-- INPUT_SETTLING_END (R187): 1,250 cycles after a range change, SETTLING clears. -/
  | inputSettlingEnd (d i : Nat)
  /-- ROTATION_STEP (R223): At each step of 154,400 cycles the calibrated slice enters a position and the slice it
    replaces leaves for calibration. -/
  | rotationStep (d i : Nat)
  /-- SLICE_CALIBRATION_END (R228): A slice's calibration ends; new corrections are loaded or the failure is
    recorded. -/
  | sliceCalibrationEnd (d i : Nat) (meas : CalMeas)
  /-- QUALITY_FIGURES (R232): At the end of each rotation, or every 2,624,800 cycles on a DEGRADED input,
    SPUR_OFFSET and SPUR_IMAGE are recomputed. -/
  | qualityFigures (d i : Nat) (offset image : BitVec 16)
  /-- SLICE_RESTORE (R231): Writing the retired slice's number to SLICE_RESTORE returns it to rotation and clears
    its history. -/
  | sliceRestore (d i : Nat) (v : Nat)
  /-- CAL_HOLD_SET (R233): Setting HOLD in CAL_CONTROL lets the current step finish and begins no further step. -/
  | calHoldSet (d i : Nat)
  /-- CAL_HOLD_CLEAR (R233): Clearing HOLD in CAL_CONTROL resumes rotation at the next frame boundary. -/
  | calHoldClear (d i : Nat)
  /-- WIRE_START (R235): WIRE_COMMAND START requests a wire check, or is refused at once in array mode. -/
  | wireStart (d i : Nat)
  /-- WIRE_CANCEL (R235): WIRE_COMMAND CANCEL ends a waiting check or ramps a running check's current to 0. -/
  | wireCancel (d i : Nat)
  /-- WIRE_CHECK_AUTO (R238): WIRE_PERIOD seconds after the previous check, the device requests an automatic check. -/
  | wireCheckAuto (d i : Nat)
  /-- WIRE_CHECK_BEGIN (R235): A waiting check begins at the first round boundary at which its conditions hold. -/
  | wireCheckBegin (d i : Nat)
  /-- WIRE_CHECK_ROUND (R235): At each housekeeping round boundary of a running check the current ramps or a voltage
    is read. -/
  | wireCheckRound (d i : Nat) (reading : Int)
  /-- WIRE_CHECK_RESULT (R237): At the end of round 4 the loop resistance and verdict are published and WIRE_DONE or
    WIRE_FAULT raised. -/
  | wireCheckResult (d i : Nat)
  /-- SLOT_CLEAR (R245): SLOT_CLEAR sets a slot's VALUE and VALID to 0, keeping GEN, and sends updates to its
    mirrors. -/
  | slotClear (d n : Nat)
  /-- SUB_CONFIG (R252): A SUB_CONFIG write disables and re-enables a subscription, asking for removal and
    installation of forward entries. -/
  | subConfig (d n : Nat) (v : Word)
  /-- FORWARD_ENTRY_INSTALL (R251): Fredom completes the installation of a forward entry on the source die and a
    resync is sent. -/
  | forwardEntryInstall (i : Install)
  /-- MIRROR_UPDATE_RECEIVE (R254): A mirror update or resync reaches the mirror's die and is written, making the
    subscription ACTIVE on a resync. -/
  | mirrorUpdateReceive (d : Nat)
  /-- FORWARD_REMOVAL (R262): Fredom of the source removes the forward entries named by a removal request or a
    disable. -/
  | forwardRemoval (dev : Option Nat) (mDie mSlot stag : Nat)
  /-- DSP_NOP (R282): DSP instruction NOP does nothing. -/
  | dspNop (d k : Nat) (e : Ecc)
  /-- DSP_BR (R280): DSP instruction BR transfers to TARGET after two delay slots when CC holds. -/
  | dspBr (d k : Nat) (e : Ecc)
  /-- DSP_CALL (R293): DSP instruction CALL pushes the return address and transfers after two delay slots. -/
  | dspCall (d k : Nat) (e : Ecc)
  /-- DSP_RET (R293): DSP instruction RET returns to the popped address, or continues with STACK_UNF. -/
  | dspRet (d k : Nat) (e : Ecc)
  /-- DSP_RETI (R282): DSP instruction RETI returns to IPC and restores ST from IST. -/
  | dspReti (d k : Nat) (e : Ecc)
  /-- DSP_REPEAT (R292): DSP instruction REPEAT repeats the next LEN instructions COUNT times. -/
  | dspRepeat (d k : Nat) (e : Ecc)
  /-- DSP_HALT (R282): DSP instruction HALT halts the engine after issued instructions complete. -/
  | dspHalt (d k : Nat) (e : Ecc)
  /-- DSP_WAIT (R294): DSP instruction WAIT stops issue until its condition holds. -/
  | dspWait (d k : Nat) (e : Ecc)
  /-- DSP_FLAG (R291): DSP instruction FLAG changes FLAGS, which sequencers see six fabric cycles after stage 6. -/
  | dspFlag (d k : Nat) (e : Ecc)
  /-- DSP_SIG (R291): DSP instruction SIG raises producer SIG0–SIG3. -/
  | dspSig (d k : Nat) (e : Ecc)
  /-- DSP_LDI (R282): DSP instruction LDI loads an immediate into a D register. -/
  | dspLdi (d k : Nat) (e : Ecc)
  /-- DSP_MOV (R282): DSP instruction MOV copies one D register to another. -/
  | dspMov (d k : Nat) (e : Ecc)
  /-- DSP_MVR (R283): DSP instruction MVR moves a D register to or from a special register. -/
  | dspMvr (d k : Nat) (e : Ecc)
  /-- DSP_LDSI (R283): DSP instruction LDSI loads an immediate into a special register. -/
  | dspLdsi (d k : Nat) (e : Ecc)
  /-- DSP_LD (R287): DSP instruction LD loads a halfword of data memory into a D register. -/
  | dspLd (d k : Nat) (e m : Ecc)
  /-- DSP_ST (R287): DSP instruction ST stores a D register to data memory. -/
  | dspSt (d k : Nat) (e m : Ecc)
  /-- DSP_ADD (R282): DSP instruction ADD adds two D registers. -/
  | dspAdd (d k : Nat) (e : Ecc)
  /-- DSP_SUB (R282): DSP instruction SUB subtracts two D registers. -/
  | dspSub (d k : Nat) (e : Ecc)
  /-- DSP_AND (R282): DSP instruction AND ands two D registers. -/
  | dspAnd (d k : Nat) (e : Ecc)
  /-- DSP_OR (R282): DSP instruction OR ors two D registers. -/
  | dspOr (d k : Nat) (e : Ecc)
  /-- DSP_XOR (R282): DSP instruction XOR exclusive-ors two D registers. -/
  | dspXor (d k : Nat) (e : Ecc)
  /-- DSP_SHL (R282): DSP instruction SHL shifts a D register left. -/
  | dspShl (d k : Nat) (e : Ecc)
  /-- DSP_SHR (R282): DSP instruction SHR shifts a D register right logically. -/
  | dspShr (d k : Nat) (e : Ecc)
  /-- DSP_ASR (R282): DSP instruction ASR shifts a D register right arithmetically. -/
  | dspAsr (d k : Nat) (e : Ecc)
  /-- DSP_CMP (R282): DSP instruction CMP sets flags from a subtraction. -/
  | dspCmp (d k : Nat) (e : Ecc)
  /-- DSP_PAR (R282): DSP instruction PAR computes the parity of an AND of two D registers. -/
  | dspPar (d k : Nat) (e : Ecc)
  /-- DSP_ADDI (R282): DSP instruction ADDI adds an immediate. -/
  | dspAddi (d k : Nat) (e : Ecc)
  /-- DSP_ANDI (R282): DSP instruction ANDI ands an immediate. -/
  | dspAndi (d k : Nat) (e : Ecc)
  /-- DSP_ORI (R282): DSP instruction ORI ors an immediate. -/
  | dspOri (d k : Nat) (e : Ecc)
  /-- DSP_XORI (R282): DSP instruction XORI exclusive-ors an immediate. -/
  | dspXori (d k : Nat) (e : Ecc)
  /-- DSP_ADD32 (R282): DSP instruction ADD32 adds two register pairs. -/
  | dspAdd32 (d k : Nat) (e : Ecc)
  /-- DSP_SUB32 (R282): DSP instruction SUB32 subtracts two register pairs. -/
  | dspSub32 (d k : Nat) (e : Ecc)
  /-- DSP_MPY (R286): DSP instruction MPY loads an accumulator with a product. -/
  | dspMpy (d k : Nat) (e : Ecc)
  /-- DSP_MAC (R286): DSP instruction MAC adds a product to an accumulator. -/
  | dspMac (d k : Nat) (e : Ecc)
  /-- DSP_MSU (R286): DSP instruction MSU subtracts a product from an accumulator. -/
  | dspMsu (d k : Nat) (e : Ecc)
  /-- DSP_MACM (R287): DSP instruction MACM accumulates a product of two memory halfwords with post-modify. -/
  | dspMacm (d k : Nat) (e m n : Ecc)
  /-- DSP_CLRA (R282): DSP instruction CLRA clears an accumulator. -/
  | dspClra (d k : Nat) (e : Ecc)
  /-- DSP_SHA (R282): DSP instruction SHA shifts an accumulator. -/
  | dspSha (d k : Nat) (e : Ecc)
  /-- DSP_STA (R286): DSP instruction STA stores a rounded, saturated accumulator into a D register. -/
  | dspSta (d k : Nat) (e : Ecc)
  /-- DSP_LDAC (R282): DSP instruction LDAC loads an accumulator from a register pair. -/
  | dspLdac (d k : Nat) (e : Ecc)
  /-- DSP_ADDA (R282): DSP instruction ADDA adds two accumulators. -/
  | dspAdda (d k : Nat) (e : Ecc)
  /-- DSP_SUBA (R282): DSP instruction SUBA subtracts two accumulators. -/
  | dspSuba (d k : Nat) (e : Ecc)
  /-- DSP_STAP (R286): DSP instruction STAP stores a rounded, saturated accumulator into a register pair. -/
  | dspStap (d k : Nat) (e : Ecc)
  /-- DSP_RDW (R288): DSP instruction RDW reads fields of a demodulator's IQ point. -/
  | dspRdw (d k : Nat) (e : Ecc)
  /-- DSP_RDS (R289): DSP instruction RDS reads an outcome slot and its UNREACH bit. -/
  | dspRds (d k : Nat) (e : Ecc)
  /-- DSP_RDC (R289): DSP instruction RDC reads a demodulator's result count. -/
  | dspRdc (d k : Nat) (e : Ecc)
  /-- DSP_RDM (R290): DSP instruction RDM removes the head message of the engine's mailbox. -/
  | dspRdm (d k : Nat) (e : Ecc)
  /-- DSP_POST (R291): DSP instruction POST writes a slot through the post buffer, stalling when the buffer is full. -/
  | dspPost (d k : Nat) (e : Ecc)
  /-- DSP_SMSG (R291): DSP instruction SMSG places a message in a sequencer's mailbox, or loses it with MBOX_LOST. -/
  | dspSmsg (d k : Nat) (e : Ecc)
  /-- DSP_EVENT_INPUT (R295): An event at an engine's event input sets its pending bit, or overruns if busy. -/
  | dspEventInput (d k i : Nat)
  /-- DSP_INTERRUPT_TAKE (R297): At an eligible boundary an enabled pending input is taken and the handler issues at
    its vector. -/
  | dspInterruptTake (d k : Nat)
  /-- DSP_WAIT_END (R294): A WAIT's condition holds; issue restarts in the next fabric cycle or an interrupt is
    taken. -/
  | dspWaitEnd (d k : Nat)
  /-- DSP_CMD_START (R302): DSP_COMMAND START starts a halted engine at DSP_START_ADDR. -/
  | dspCmdStart (d k : Nat)
  /-- DSP_CMD_HALT (R302): DSP_COMMAND HALT stops issue at the next eligible boundary. -/
  | dspCmdHalt (d k : Nat)
  /-- DSP_CMD_RESUME (R302): DSP_COMMAND RESUME continues a halted engine at its saved PC. -/
  | dspCmdResume (d k : Nat)
  /-- DSP_CMD_STEP (R302): DSP_COMMAND STEP issues from the saved PC to the next eligible boundary and halts. -/
  | dspCmdStep (d k : Nat)
  /-- TONE_SAMPLE (R316): A detector-tone sample reaches its trigger unit; conditions, streams and records are
    updated. -/
  | toneSample (d t : Nat) (spare0 spare1 : Unit)
  /-- TONE_RESTART (R317): A written TONE_CONFIG takes effect at the tone's next bin sample and the tone restarts. -/
  | toneRestart (d t : Nat)
  /-- PRE_SEGMENT_COPY (R346): A queued pre segment is copied from the ring into its record as copy bandwidth
    allows. -/
  | preSegmentCopy (d : Nat)
  /-- TRIG_ARM (R350): TRIG_COMMAND ARM opens the trigger unit's gate. -/
  | trigArm (d t : Nat)
  /-- TRIG_DISARM (R350): TRIG_COMMAND DISARM closes the trigger unit's gate. -/
  | trigDisarm (d t : Nat)
  /-- TRIG_FORCE (R330): TRIG_COMMAND FORCE asks for a record at the next sample. -/
  | trigForce (d t : Nat)
  /-- MAJORITY_DECIDE (R334): A majority unit decides on cycle t at lag Λ and, on a fire, writes its slot, raises
    MAJu and forces records. -/
  | majorityDecide (d u : Nat)
  /-- MAJ_FORCE_TASK (R336): An event at MAJ_FORCEu fires the majority unit as if by count. -/
  | majForceTask (d u : Nat)
  /-- MAJ_CONFIG_WRITE (R351): A write to MAJ_CONFIG or MAJ_GROUP empties the unit's counted fires. -/
  | majConfigWrite (d u : Nat) (w : MajWrite)
  /-- RAW_START_TASK (R341): An event at RAW_START starts an armed ADC capture, or is counted in RAW_IGNORED. -/
  | rawStartTask (d : Nat)
  /-- RAW_CAPTURE_END (R341): Raw capture has taken LENGTH samples or a whole trace, and the copy to a record
    begins. -/
  | rawCaptureEnd (d : Nat) (spare0 : Unit)
  /-- RAW_COPY_END (R341): The raw-capture copy ends; RAW_DONE is raised and capture re-arms or disarms. -/
  | rawCopyEnd (d : Nat)
  /-- ACQ_FLUSH (R348): ACQ_COMMAND FLUSH discards every complete record of the die's buffer. -/
  | acqFlush (d : Nat)
  /-- TICK (R354): A tick generator raises TICKn on its grid. -/
  | tick (d n : Nat)
  /-- CHAN_CONFIG (R359): A CHAN_CONFIG write sets a Bell channel and makes an unowned channel's writer its owner. -/
  | chanConfig (d c ses : Nat) (v : BitVec 32)
  /-- CHAN_FIRE_IMMEDIATE (R364): A CHAN_FIRE write with TIMED 0 fires the channel when the management core applies
    it. -/
  | chanFireImmediate (d c ses : Nat)
  /-- CHAN_FIRE_TIMED (R364): A CHAN_FIRE write with TIMED 1 queues a timed fire, or is refused on a full queue. -/
  | chanFireTimed (d c ses : Nat) (time : Time)
  /-- TIMED_FIRE_EXPIRE (R364): A queued timed fire reaches its TIME and fires the channel. -/
  | timedFireExpire (d : Nat)
  /-- CHAN_FIRE_CANCEL (R364): A CHAN_FIRE_CANCEL write removes every pending timed fire of the channel. -/
  | chanFireCancel (d c ses : Nat)
  /-- CHAN_RELEASE (R371): A CHAN_RELEASE write by the owner or an administrator removes the channel's owner. -/
  | chanRelease (d c ses : Nat)
  /-- REMEMBERED_EVENT_DELIVER (R362): A remembered unclocked event takes effect in the cycle after its task input
    stops being busy. -/
  | rememberedEventDeliver (d c : Nat)
  /-- BRIDGE_EVENT_ARRIVE (R367): A bridge event is raised on the far die as a bridge-in producer 30 cycles after
    entering its lane. -/
  | bridgeEventArrive (d : Nat)
  /-- ALERT_TASK (R369): An event at ALERT sets ALERT_EVENT and drives ALERT_N low. -/
  | alertTask (d : Nat)
  /-- ALERT_CLEAR (R369): A write of 1 to ALERT_CLEAR clears ALERT_EVENT. -/
  | alertClear (d : Nat)
  /-- HOST_NOTIFY_TASK (R370): An event at HOST_NOTIFY queues a notification to the owner of channel 255, or is
    discarded without owner. -/
  | hostNotifyTask (d : Nat)
  /-- BIAS_START_TASK (R382): An event at BIAS_START g starts outputs 16g to 16g + 15. -/
  | biasStartTask (d g : Nat)
  /-- BIAS_STOP_TASK (R382): An event at BIAS_STOP g stops outputs 16g to 16g + 15. -/
  | biasStopTask (d g : Nat)
  /-- BIAS_FLUSH_TASK (R382): An event at BIAS_FLUSH g flushes the queues of outputs 16g to 16g + 15. -/
  | biasFlushTask (d g : Nat)
  /-- BIAS_TICK (R380): At a tick a running bias output takes its head code, or starves, and waiting config fields
    take effect. -/
  | biasTick (d o : Nat)
  /-- DEGLITCH_HOLD_END (R386): After 200 cycles the track-and-hold releases and the new code reaches the lands. -/
  | deglitchHoldEnd (d o : Nat)
  /-- BIAS_START (R381): BIAS_COMMAND START makes the output running. -/
  | biasStart (d o : Nat)
  /-- BIAS_STOP (R381): BIAS_COMMAND STOP makes the output stopped, holding its code. -/
  | biasStop (d o : Nat)
  /-- BIAS_FLUSH (R381): BIAS_COMMAND FLUSH empties the output's queue. -/
  | biasFlush (d o : Nat)
  /-- BIAS_SAFE (R391): BIAS_COMMAND SAFE starts a safe ramp toward SAFE_CODE. -/
  | biasSafe (d o : Nat)
  /-- BIAS_ENQUEUE (R398): A host write to BIAS_ENQUEUE offers up to three codes per word to the queue. -/
  | biasEnqueue (d o : Nat) (v : Word)
  /-- COMPLIANCE_DETECT (R388): After 2,500 cycles beyond COMP_LIMIT the output sets IN_COMPLIANCE and raises
    COMPLIANCE. -/
  | complianceDetect (d o : Nat)
  /-- COMPLIANCE_CLEAR (R388): After 2,500 cycles within the limit IN_COMPLIANCE clears. -/
  | complianceClear (d o : Nat)
  /-- SAFE_RAMP_STEP (R390): Every 1,250 cycles a safe ramp moves the code by SAFE_SLEW toward SAFE_CODE, ending
    with SAFE_HELD. -/
  | safeRampStep (d o : Nat)
  /-- SENSOR_EDGE (R404): A timer edge of a sensor channel reverses, starts or ends the excitation and closes the
    running conversion window. -/
  | sensorEdge (d c : Nat) (m : ConvMeas)
  /-- SNS_EDGE_TASK (R404): An event at SNS_EDGE is one edge for every running EVENT sensor channel of the die. -/
  | snsEdgeTask (d : Nat) (ms : List ConvMeas)
  /-- CONVERSION_WINDOW_OPEN (R405): SETTLE after an edge the conversion window opens. -/
  | conversionWindowOpen (d c : Nat)
  /-- CONVERSION_WINDOW_CLOSE (R405): A conversion window closes 64 ms after opening when no edge closed it first. -/
  | conversionWindowClose (d c : Nat) (m : ConvMeas)
  /-- BURST_RESULT (R408): 2,500 cycles after a burst ends the result is published, DONE raised and SNS_BURSTS
    increased. -/
  | burstResult (d c : Nat)
  /-- SNS_START (R416): SNS_COMMAND START begins continuous bursts on a stopped channel. -/
  | snsStart (d c : Nat)
  /-- SNS_STOP (R416): SNS_COMMAND STOP finishes the current burst and stops. -/
  | snsStop (d c : Nat)
  /-- SNS_ONESHOT (R416): SNS_COMMAND ONESHOT runs one burst and its check window, then stops. -/
  | snsOneshot (d c : Nat)
  /-- SNS_ABORT (R416): SNS_COMMAND ABORT stops at once with no result. -/
  | snsAbort (d c : Nat)
  /-- FRAME_SEND (R429): Every 4 cycles each lane sends a frame with two flit slots, ordered-set and reverse-channel
    bits. -/
  | frameSend (d l : Nat)
  /-- FLIT_RECEIVE (R443): A received flit is accepted in sequence and delivered or forwarded, or discarded with a
    NAK. -/
  | flitReceive (d : Nat) (f : Flit) (ok : Bool)
  /-- CALL_ORDERED_SET (R433): A CALL ordered set from a partner's lane is received during bring-up. -/
  | callOrderedSet (d l : Nat) (b : LaneSet)
  /-- HELLO_RECEIVE (R436): A HELLO gives the partner identity and RX_GOOD, setting or widening the stripe. -/
  | helloReceive (d l : Nat) (b : LaneSet)
  /-- PROBE_SEND (R432): Once every 65,536 cycles each device sends a PROBE half-way between marker times. -/
  | probeSend (d : Nat)
  /-- PROBE_RECEIVE (R432): A received PROBE is echoed. -/
  | probeReceive (d sent : Nat)
  /-- ECHO_RECEIVE (R433): An ECHO completes a round-trip measurement and updates LINK_DELAY. -/
  | echoReceive (d trip : Nat)
  /-- ACK_RECEIVE (R443): An ACK frees acknowledged flits from the retry buffer. -/
  | ackReceive (d n : Nat)
  /-- NAK_RECEIVE (R443): A NAK makes the sender replay from the named flit. -/
  | nakReceive (d n : Nat)
  /-- LANES_RECEIVE (R446): A LANES word narrowing the partner's RX_GOOD narrows the stripe. -/
  | lanesReceive (d : Nat) (mask : BitVec 4)
  /-- ACK_TIMEOUT (R444): No ACK within RI + 16 cycles replays from the held flit and increments ACK_TIMEOUTS. -/
  | ackTimeout (d : Nat)
  /-- STRIPE_WIDEN (R446): At the first ordered-set boundary after a HELLO adds a lane, the stripe widens. -/
  | stripeWiden (d : Nat)
  /-- LANE_LOCK (R435): A receiver in SEARCH finds signal, SYNC, precoding and ordered sets and goes to LOCKED. -/
  | laneLock (d l : Nat) (precode skewed : Bool)
  /-- LANE_LOCK_LOSS (R445): A receive direction loses lock, returns to SEARCH and raises FERRY_CHANGE. -/
  | laneLockLoss (d l : Nat)
  /-- QUALIFICATION_PASS (R447): 1 ms without error qualifies a relocked lane, which becomes UP and rejoins RX_GOOD. -/
  | qualificationPass (d l : Nat)
  /-- LINK_STATE_RECORD_RECEIVE (R450): A link-state record from another device is received and used for routing and
    member checks. -/
  | linkStateRecordReceive (r : LinkStateRec)
  /-- SLEEP_TX (R440): LANE_COMMAND SLEEP_TX takes a transmit direction out of the stripe to electrical idle. -/
  | sleepTx (d l : Nat)
  /-- SLEEP_RX (R440): LANE_COMMAND SLEEP_RX removes the lane from RX_GOOD and lets the receiver sleep. -/
  | sleepRx (d l : Nat)
  /-- WAKE_TX (R440): LANE_COMMAND WAKE_TX wakes a transmit direction, which sends FERRYWAKE. -/
  | wakeTx (d l : Nat)
  /-- LANE_CONFIG_APPLY (R439): A written FFE tap, PRECODE_TX or CTLE_MAP takes effect at the lane's next
    ordered-set boundary. -/
  | laneConfigApply (d l : Nat)
  /-- LANDING_REQUEST_ARRIVE (R474): A Landing datagram arrives and joins die 0's request queue, or is discarded
    when the queue is full or malformed. -/
  | landingRequestArrive (port : Nat) (peer : Peer) (data : Datagram)
  /-- STREAM_FRAME_SEND (R489): A STREAM frame is sent when full or 10 µs after its first word, freeing records
    handed to every subscriber. -/
  | streamFrameSend (ses : Nat)
  /-- SESSION_TIMEOUT (R481): A session idle for SESSION_TIMEOUT seconds is closed. -/
  | sessionTimeout (ses : Nat)
  /-- SESSION_CLOSE (R481): An administrative write to SESSION_CLOSE closes the named session. -/
  | sessionClose (ses : Nat)
  /-- COMMISSION_SECRET (R477): A write to COMMISSION_SECRET stores the secret and sets COMMISSIONED. -/
  | commissionSecret (ws : List Word)
  /-- NETWORK_CONFIG_WRITE (R469): A write to an Ethernet or IP object takes effect, is saved at once, and may
    retake the link. -/
  | networkConfigWrite (port obj : Nat) (ws : List Word)
  /-- ETH_LINK_UP (R463): Negotiation and training complete and the Ethernet link comes up, starting DHCP where
    selected. -/
  | ethLinkUp (port : Nat)
  /-- ETH_LINK_DOWN (R489): The Ethernet link goes down and no stream frames are formed on the port. -/
  | ethLinkDown (port : Nat)
  /-- ETH_FRAME_RECEIVE (R465): An Ethernet frame is received and accepted, or discarded and counted. -/
  | ethFrameReceive (port : Nat) (f : EthFrame)
  /-- STATUS_CLEAR (R125): A write to a status-clear object clears the sticky bits written as 1. -/
  | statusClear (obj sel : Nat) (v : Word)
  /-- SLEEP_S0 (R533): SLEEP_REQUEST with STATE S0 wakes the named unit or die. -/
  | sleepS0 (v : Word)
  /-- SLEEP_S1 (R531): SLEEP_REQUEST with STATE S1 starts clock-gating entry of the named unit's domain. -/
  | sleepS1 (v : Word)
  /-- SLEEP_S2 (R531): SLEEP_REQUEST with STATE S2 starts power-gating entry of the named unit's domain. -/
  | sleepS2 (v : Word)
  /-- SLEEP_S3 (R530): SLEEP_REQUEST with STATE S3 starts entry of a die other than die 0 into S3. -/
  | sleepS3 (v : Word)
  /-- SLEEP_STANDBY (R530): SLEEP_REQUEST with STATE STANDBY starts entry into Device Standby. -/
  | sleepStandby (v : Word)
  /-- WAKE_COMPLETE (R533): A wake's stated time ends and the unit is in S0 under its latest epochs, releasing
    remembered events. -/
  | wakeComplete (target selector : Nat)
  /-- ETHERNET_ACTIVITY_WAKE (R533): Receive activity on an Ethernet port ends Device Standby. -/
  | ethernetActivityWake (port : Nat)
  /-- HK_ROUND_END (R537): A housekeeping round ends; readings, temperatures, bands, slopes and waiting regulator
    clocks are updated. -/
  | hkRoundEnd (d : Nat) (readings : List Int)
  /-- RAIL_SETTLED (R536): The DSP and management rail reaches a faster level's voltage and units apply that level. -/
  | railSettled (d : Nat)
  /-- VIN_VALID (R572): VIN rising through 42.0 V starts the power-up sequence. -/
  | vinValid (straps : BitVec 8) (store : StoreRead)
  /-- VERIFY_REQUEST (R568): VERIFY_REQUEST starts a verify on one unit, or is refused. -/
  | verifyRequest (v : Word)
  /-- RESET_N_RELEASE (R577): The release of RESET_N resamples the straps and restarts power-up from the store read. -/
  | resetNRelease (straps : BitVec 8) (store : StoreRead)
  /-- JTAG_SAMPLE_PRELOAD (R600): JTAG instruction SAMPLE/PRELOAD samples and preloads the boundary cells. -/
  | jtagSamplePreload (cells : List Bool)
  /-- GANGWAY_TRAINING_END (R63): Gangway training completes: device time starts at 0 at power-up or the die resumes
    the device's count, failed wire groups are replaced by spares, and the die's Gangway links begin to carry
    traffic. -/
  | gangwayTrainingEnd (d : Nat) (dly : Int) (groups : List (Nat × Nat)) (badLinks : List Nat)
  /-- FREDOM_BOOT_END (R580): Fredom finishes booting on a management core; the die's objects become present,
    waiting subscription installations complete and held fault-log entries are written. -/
  | fredomBootEnd (d : Nat)
  /-- FERRY_WAKE_SIGNAL (R440): Signal at a sleeping receiver wakes it, and its die from S3 when FERRY_WAKE is 1. -/
  | ferryWakeSignal (d l : Nat)
  /-- FERRYWAKE_END (R440): After 1,250 cycles of FERRYWAKE the transmitter sends FERRYCALL. -/
  | ferrywakeEnd (d l : Nat)
  /-- EYE_PUBLISH (R438): Every 100 ms an UP receiver publishes EYE_HEIGHT and EYE_WIDTH. -/
  | eyePublish (d l : Nat) (height width : BitVec 16)
  /-- AUTH_LOCKOUT_END (R478): 60 s after a lockout begins, administrative OPENs from that address are accepted
    again. -/
  | authLockoutEnd (addr : BitVec 128)
  /-- DHCP_MESSAGE_RECEIVE (R466): A DHCPv4 reply advances the client and applies a leased address. -/
  | dhcpMessageReceive (port : Nat) (m : DhcpMsg)
  /-- DHCP_RENEW (R466): At 50 % of the lease the client renews. -/
  | dhcpRenew (port : Nat)
  /-- DHCP_REBIND (R466): At 87.5 % of the lease the client rebinds. -/
  | dhcpRebind (port : Nat)
  /-- DHCP_EXPIRY (R466): At lease expiry the address is removed, DHCP_LOST set and DISCOVER restarted. -/
  | dhcpExpiry (port : Nat)
  /-- ARP_REQUEST_RECEIVE (R468): An ARP request for the port's address is answered. -/
  | arpRequestReceive (port : Nat) (m : ArpMsg)
  /-- ARP_REPLY_RECEIVE (R468): An ARP reply resolves a neighbour or sets ADDRESS_CONFLICT. -/
  | arpReplyReceive (port : Nat) (m : ArpMsg)
  /-- ARP_AGE_OUT (R468): A resolved neighbour ages out after 300 s. -/
  | arpAgeOut (port : Nat)
  /-- ICMP_ECHO_REQUEST (R468): An ICMP or ICMPv6 echo request is answered. -/
  | icmpEchoRequest (port : Nat) (m : EchoMsg)
  /-- NEIGHBOUR_SOLICITATION (R467): An IPv6 neighbour solicitation for the port's address is answered. -/
  | neighbourSolicitation (port : Nat) (m : NsMsg)
  /-- VENDOR_TEST_WRITE (R517): A write that passes every check to a vendor test object has an unstated effect
    within R19. -/
  | vendorTestWrite (obj sel : Nat) (v : Word)
  /-- TEMP_COMPARATOR_TRIP (R542): A sensor at 120 °C for 10 µs starts an immediate shutdown. -/
  | tempComparatorTrip (d sensor : Nat)
  /-- BROWNOUT_ORDERLY (R523): VIN below 40.0 V past the filter starts an orderly shutdown with a 1 ms window. -/
  | brownoutOrderly (d : Nat)
  /-- BROWNOUT_IMMEDIATE (R523): VIN below 38.0 V past the filter starts an immediate shutdown. -/
  | brownoutImmediate (d : Nat)
  /-- RESTORE_UNIT (R557): Writing a retired RF output or DSP engine selector to RESTORE_UNIT returns it to service
    at next power-up. -/
  | restoreUnit (selector : Nat)
  /-- VERIFY_COMPLETE (R568): A verify's interruption ends and its figure is published. -/
  | verifyComplete (d : Nat) (figure offset : BitVec 16)
  /-- WATCHDOG_EXPIRY (R580): 2,000 ms without service restarts the die's management core. -/
  | watchdogExpiry (d : Nat)
  /-- JTAG_RESERVED (R601): A reserved JTAG instruction acts as a write to the vendor test area. -/
  | jtagReserved (ir : BitVec 8)
  /-- TATTOO_MARKER_SEND (R72): A master or aligned follower sends a Tattoo marker on every link that is up, once
    every 65,536 cycles. -/
  | tattooMarkerSend
  /-- MARKER_LOSS (R80): A follower that hears no marker for 16 intervals sets MARKER_LOSS and reports UNVERIFIED or
    ALIGNING. -/
  | markerLoss
  /-- SYNC_IN_CAPTURE (R82): A REFCLK edge captures SYNC_IN high while armed and schedules the load of SYNC_LOAD. -/
  | syncInCapture
  /-- SYNC_LOAD_APPLY (R82): Ten REFCLK periods after capture, SYNC_LOAD is loaded into device time and TIME_STATE
    becomes SYNCED. -/
  | syncLoadApply
  /-- SYNC_OUT_PULSE (R83): SYNC_OUT rises for one REFCLK period at the REFCLK-aligned boundary at or after its
    scheduled time. -/
  | syncOutPulse
  /-- PTP_DELAY_REQ_SEND (R87): The device sends a Delay_Req for the end-to-end delay mechanism. -/
  | ptpDelayReqSend
  /-- PTP_ANNOUNCE_TIMEOUT (R88): The announce receipt timeout expires after PTP_LOCKED and the calendar enters
    HOLDOVER. -/
  | ptpAnnounceTimeout
  /-- ANCHOR_REFRESH (R89): At each whole TAI second the anchor is rewritten in one cycle. -/
  | anchorRefresh
  /-- LINK_STATE_FLOOD (R450): Fredom floods a link-state record on a link change and once every second. -/
  | linkStateFlood
  /-- ROUTE_UPDATE (R452): Routes are recomputed; withdrawn destinations are re-offered or reported unreachable,
    starting safe ramps. -/
  | routeUpdate
  /-- OPEN (R475): OPEN with ADMIN 0 opens an open session bound to the peer. -/
  | openSession
  /-- OPEN_ADMIN_CHALLENGE (R476): An administrative OPEN first step answers CHALLENGE, or opens at once while
    uncommissioned. -/
  | openAdminChallenge
  /-- OPEN_ADMIN_RESPONSE (R476): An administrative OPEN second step opens the session on a correct HMAC, or answers
    AUTH_FAILED. -/
  | openAdminResponse
  /-- CHALLENGE_EXPIRY (R476): A challenge expires 1 s after it was issued. -/
  | challengeExpiry
  /-- CLOSE (R481): CLOSE closes the session after its reply. -/
  | close
  /-- KEEPALIVE (R471): KEEPALIVE resets the idle time and returns DEVICE_TIME. -/
  | keepalive
  /-- LANDING_READ (R482): READ returns one non-DOMAIN object's value. -/
  | landingRead
  /-- LANDING_WRITE (R482): WRITE stores one non-DOMAIN object's value, for objects that have no row of their own. -/
  | landingWrite
  /-- READBLOCK (R485): READBLOCK returns words of a DOMAIN object in reply frames, capturing whole-cycle objects
    once. -/
  | readblock
  /-- WRITEBLOCK (R484): A WRITEBLOCK frame writes its words of a DOMAIN object on execution, wrapping within the
    object. -/
  | writeblock
  /-- SUBSCRIBE (R487): SUBSCRIBE sets or ends the session's record or notification subscription. -/
  | subscribe
  /-- FIRE (R492): The Landing FIRE message fires a Bell channel as a CHAN_FIRE write. -/
  | fire
  /-- WAKE (R493): The Landing WAKE message wakes the named dies without a session. -/
  | wake
  /-- RESET_UNIT (R579): RESET with SCOPE 0 stops one unit and returns its open objects to defaults. -/
  | resetUnit
  /-- RESET_DIE (R577): RESET with SCOPE 1 runs a stop window on a die and restarts it from Fredom boot. -/
  | resetDie
  /-- RESET_DEVICE (R577): RESET with SCOPE 2 runs a stop window on every die and restarts the device. -/
  | resetDevice
  /-- RESET_STOP_WINDOW_END (R578): The 5 ms stop window of a die or device reset ends and the reset proceeds. -/
  | resetStopWindowEnd
  /-- SLEEP_ENTRY_POINT (R531): An entry passes an abort point, completing, abandoning on a wake cause, or refusing
    all-or-nothing. -/
  | sleepEntryPoint
  /-- TIMED_WAKE (R550): Device time reaches WAKE_AT and the unit or die of the request wakes. -/
  | timedWake
  /-- SHUTDOWN_SIGNAL (R544): 64 cycles after a cause the shutdown signal takes effect on every die and the stop
    window begins. -/
  | shutdownSignal
  /-- SHUTDOWN_WINDOW_END (R545): At the end of the window pulses end, counters and the log are written and the
    domains power off. -/
  | shutdownWindowEnd
  /-- SHUTDOWN_COMMAND (R543): SHUTDOWN_COMMAND 1 starts an orderly shutdown. -/
  | shutdownCommand
  /-- SHUTDOWN_RESUME (R548): SHUTDOWN_COMMAND 2 (RESUME) leaves shutdown when accepted, waking every die as from
    S3. -/
  | shutdownResume
  /-- SHUTDOWN_READY (R548): Sensors below 85 °C for 10 s make STATE READY and resume at once with AUTO_RESUME. -/
  | shutdownReady
  /-- TRIM_SAVE (R566): TRIM_COMMAND SAVE starts copying every volatile trim register to the saved set. -/
  | trimSave
  /-- TRIM_SAVE_COMPLETE (R566): The saved set's validity word is written and BUSY clears. -/
  | trimSaveComplete
  /-- TRIM_LOAD_SAVED (R566): TRIM_COMMAND LOAD_SAVED loads the saved set into the volatile registers. -/
  | trimLoadSaved
  /-- TRIM_LOAD_FACTORY (R566): TRIM_COMMAND LOAD_FACTORY loads the factory set into the volatile registers. -/
  | trimLoadFactory
  /-- FAULT_LOG_WRITE (R563): Fredom writes a waiting fault-log entry to the store and notifies subscribers. -/
  | faultLogWrite
  /-- LIFETIME_WRITE (R561): Every 60 s of powered time Fredom writes the lifetime counters to the store. -/
  | lifetimeWrite
  /-- RESET_N_ASSERT (R577): RESET_N low for 1 µs powers off every domain except always-on within 20 µs. -/
  | resetNAssert
  /-- JTAG_EXTEST (R600): JTAG instruction EXTEST takes the scanned lands from their functions. -/
  | jtagExtest
  /-- JTAG_IDCODE (R601): JTAG instruction IDCODE selects the identity register. -/
  | jtagIdcode
  /-- JTAG_HIGHZ (R600): JTAG instruction HIGHZ floats the scanned lands. -/
  | jtagHighz
  /-- JTAG_CLAMP (R600): JTAG instruction CLAMP holds the lands from the boundary cells with bypass selected. -/
  | jtagClamp
  /-- JTAG_EXTEST_PULSE (R600): JTAG instruction EXTEST_PULSE tests AC-coupled lane pairs under 1149.6. -/
  | jtagExtestPulse
  /-- JTAG_EXTEST_TRAIN (R600): JTAG instruction EXTEST_TRAIN tests AC-coupled lane pairs with a pulse train. -/
  | jtagExtestTrain
  /-- JTAG_BYPASS (R600): JTAG instruction BYPASS selects the one-bit bypass register. -/
  | jtagBypass
  /-- REFCLK_RETURN (R84): REFCLK becomes present again: the always-on domain returns from the internal oscillator
    to REFCLK, and after 10 ms power-up continues or the device may leave REFCLK-loss shutdown by reset. -/
  | refclkReturn
  /-- SYNC_IN_RISE (R353): A REFCLK edge captures a rising SYNC_IN and raises the SYNC_IN producer, whatever
    TIME_SOURCE and SYNC_ARM are set to. -/
  | syncInRise
  deriving DecidableEq, Repr

end Sys2Proof
end

