-- ==== Sys2Proof/Machine/Sha256.lean ====
section
/-!
DEFINITION. HMAC-SHA-256 (R476), as FIPS 180-4 and FIPS 198-1 define it (log 13), over lists of bytes.
-/

namespace Sys2Proof.Machine

/-- A number as `n` bytes, most significant first (R7). -/
def toBytes (v : Nat) : Nat → List Byte
  | 0 => []
  | n + 1 => BitVec.ofNat 8 (v / 2 ^ (8 * n)) :: toBytes v n

/-- Bytes as a number, most significant first (R7). -/
def ofBytes (bs : List Byte) : Nat := bs.foldl (fun a b => a * 256 + b.toNat) 0

/-- The binary digits below bit `n` of the largest `r` from `r` up with `r ^ k ≤ v`, found from the highest down. -/
def rootFrom (k v : Nat) : Nat → Nat → Nat
  | 0, r => r
  | n + 1, r => rootFrom k v n (if (r + 2 ^ n) ^ k ≤ v then r + 2 ^ n else r)

/-- The first 32 bits of the fraction of the `k`-th root of a number below 512. -/
def rootBits (k p : Nat) : Nat := rootFrom k (p * 2 ^ (32 * k)) 37 0 % 2 ^ 32

/-- The first 64 primes: the numbers below 312 that no number from 2 to 17 other than themselves divides. -/
def firstPrimes : List Nat :=
  (List.range 312).filter (fun p => decide (2 ≤ p) && (List.range 18).all (fun q => decide (q < 2) || q == p || p % q != 0))

/-- The round constants: FIPS 180-4 takes them from the cube roots of the first 64 primes. -/
def roundConstants : List Nat := firstPrimes.map (rootBits 3)

/-- Rotation of a 32-bit word to the right. -/
def rotr (x n : Nat) : Nat := (x >>> n ||| x <<< (32 - n)) % 2 ^ 32

/-- The message schedule, newest word first, extended by `n` words. -/
def schedule : Nat → List Nat → List Nat
  | 0, w => w
  | n + 1, w =>
    let a := w.getD 14 0
    let b := w.getD 1 0
    let x := rotr a 7 ^^^ rotr a 18 ^^^ (a >>> 3)
    let y := rotr b 17 ^^^ rotr b 19 ^^^ (b >>> 10)
    schedule n ((w.getD 15 0 + x + w.getD 6 0 + y) % 2 ^ 32 :: w)

/-- The eight working variables of a round. -/
structure ShaVars where
  a : Nat
  b : Nat
  c : Nat
  d : Nat
  e : Nat
  f : Nat
  g : Nat
  h : Nat
  deriving DecidableEq, Repr

/-- One round, with its constant and its message word. -/
def shaRound (v : ShaVars) (kw : Nat × Nat) : ShaVars :=
  let s1 := rotr v.e 6 ^^^ rotr v.e 11 ^^^ rotr v.e 25
  let ch := (v.e &&& v.f) ^^^ ((v.e ^^^ 0xffffffff) &&& v.g)
  let t1 := v.h + s1 + ch + kw.1 + kw.2
  let s0 := rotr v.a 2 ^^^ rotr v.a 13 ^^^ rotr v.a 22
  let mj := (v.a &&& v.b) ^^^ (v.a &&& v.c) ^^^ (v.b &&& v.c)
  ⟨(t1 + s0 + mj) % 2 ^ 32, v.a, v.b, v.c, (v.d + t1) % 2 ^ 32, v.e, v.f, v.g⟩

/-- A block of 64 bytes compressed into the hash value. -/
def shaBlock (h : ShaVars) (block : List Byte) : ShaVars :=
  let words := (List.range 16).map (fun i => ofBytes ((block.drop (4 * i)).take 4))
  let w := (schedule 48 words.reverse).reverse
  let v := (roundConstants.zip w).foldl shaRound h
  ⟨(h.a + v.a) % 2 ^ 32, (h.b + v.b) % 2 ^ 32, (h.c + v.c) % 2 ^ 32, (h.d + v.d) % 2 ^ 32,
    (h.e + v.e) % 2 ^ 32, (h.f + v.f) % 2 ^ 32, (h.g + v.g) % 2 ^ 32, (h.h + v.h) % 2 ^ 32⟩

/-- The blocks of a padded message, `n` of them, compressed in order. -/
def shaBlocks (h : ShaVars) (m : List Byte) : Nat → ShaVars
  | 0 => h
  | n + 1 => shaBlocks (shaBlock h (m.take 64)) (m.drop 64) n

/-- SHA-256 of a message of bytes; the first value comes from the square roots of the first eight primes (FIPS 180-4). -/
def sha256 (m : List Byte) : List Byte :=
  let zeros := (119 - m.length % 64) % 64
  let padded := m ++ (0x80 :: List.replicate zeros 0) ++ toBytes (8 * m.length) 8
  let h := shaBlocks ⟨rootBits 2 2, rootBits 2 3, rootBits 2 5, rootBits 2 7, rootBits 2 11, rootBits 2 13, rootBits 2 17,
    rootBits 2 19⟩ padded (padded.length / 64)
  [h.a, h.b, h.c, h.d, h.e, h.f, h.g, h.h].flatMap (fun x => toBytes x 4)

/-- HMAC-SHA-256 under a key of at most 64 bytes. -/
def hmac (key m : List Byte) : List Byte :=
  let k := key ++ List.replicate (64 - key.length) 0
  sha256 (k.map (· ^^^ 0x5c) ++ sha256 (k.map (· ^^^ 0x36) ++ m))

end Sys2Proof.Machine
end

