-- ==== Sys2Proof/Machine/Objects.lean ====
section
/-!
DEFINITION. The object dictionary (R502): one constant per definition, whose value is index × 256 + subindex (R12),
and one row per definition with its type (R509), access (R14), attribute (R16), scope (R507) and size (R510), as the
object tables of the chapters state them.
-/

namespace Sys2Proof

/-- Types of objects, in the order of their codes (R509). -/
inductive ObjType where
  | bool | u8 | u16 | u32 | u64 | i16 | i32 | i64 | q15 | q31 | w72 | str | domain
  deriving DecidableEq, Repr

/-- Access codes, in the order of the directory's ACCESS field (R14, R513). -/
inductive Access where
  | ro | rw | wo | rwb
  deriving DecidableEq, Repr

/-- One definition of the dictionary (R502). -/
structure ObjRow where
  id : Nat
  ty : ObjType
  acc : Access
  secure : Bool
  scope : Nat
  size : Nat
  deriving DecidableEq, Repr

namespace Obj

/-- Object 0x1000.01 (R515). -/
abbrev VENDOR : Nat := 0x100001
/-- Object 0x1000.02 (R515). -/
abbrev PRODUCT : Nat := 0x100002
/-- Object 0x1000.03 (R515). -/
abbrev DIES : Nat := 0x100003
/-- Object 0x1000.04 (R515). -/
abbrev SERIAL : Nat := 0x100004
/-- Object 0x1000.05 (R515). -/
abbrev FREDOM_VERSION : Nat := 0x100005
/-- Object 0x1000.06 (R515). -/
abbrev DICT_VERSION : Nat := 0x100006
/-- Object 0x1000.07 (R515). -/
abbrev STEPPING : Nat := 0x100007
/-- Object 0x1000.08 (R515). -/
abbrev DIE_SERIAL : Nat := 0x100008
/-- Object 0x1001.01 (R515). -/
abbrev DICT_DIRECTORY : Nat := 0x100101
/-- Object 0x1001.02 (R515). -/
abbrev DICT_ENTRIES : Nat := 0x100102
/-- Object 0x1100.01 (R495). -/
abbrev SESSIONS_OPEN : Nat := 0x110001
/-- Object 0x1100.02 (R495). -/
abbrev SESSION_TIMEOUT : Nat := 0x110002
/-- Object 0x1100.03 (R495). -/
abbrev COMMISSIONED : Nat := 0x110003
/-- Object 0x1100.04 (R495). -/
abbrev COMMISSION_SECRET : Nat := 0x110004
/-- Object 0x1100.05 (R495). -/
abbrev AUTH_FAILURES : Nat := 0x110005
/-- Object 0x1100.06 (R495). -/
abbrev REQUESTS_DISCARDED : Nat := 0x110006
/-- Object 0x1110.01 (R495). -/
abbrev SESSION_INFO : Nat := 0x111001
/-- Object 0x1110.02 (R495). -/
abbrev SESSION_WEIGHT : Nat := 0x111002
/-- Object 0x1110.03 (R495). -/
abbrev NOTIFY_LOST : Nat := 0x111003
/-- Object 0x1110.04 (R495). -/
abbrev STREAM_FRAMES : Nat := 0x111004
/-- Object 0x1110.05 (R495). -/
abbrev SESSION_CLOSE : Nat := 0x111005
/-- Object 0x1200.01 (R497). -/
abbrev PHY_MODE : Nat := 0x120001
/-- Object 0x1200.02 (R497). -/
abbrev ETH_STATUS : Nat := 0x120002
/-- Object 0x1200.03 (R497). -/
abbrev ETH_STATUS_CLEAR : Nat := 0x120003
/-- Object 0x1200.04 (R497). -/
abbrev ETH_MAC : Nat := 0x120004
/-- Object 0x1200.05 (R497). -/
abbrev MTU : Nat := 0x120005
/-- Object 0x1200.06 (R497). -/
abbrev VLAN : Nat := 0x120006
/-- Object 0x1200.07 (R497). -/
abbrev ETH_RX_DISCARDED : Nat := 0x120007
/-- Object 0x1200.08 (R497). -/
abbrev FEC_CORRECTED : Nat := 0x120008
/-- Object 0x1200.09 (R497). -/
abbrev FEC_UNCORRECTED : Nat := 0x120009
/-- Object 0x1210.01 (R497). -/
abbrev IPV4_CONFIG : Nat := 0x121001
/-- Object 0x1210.02 (R497). -/
abbrev IPV4_APPLIED : Nat := 0x121002
/-- Object 0x1210.03 (R497). -/
abbrev DHCP_LEASE_LEFT : Nat := 0x121003
/-- Object 0x1220.01 (R497). -/
abbrev IPV6_CONFIG : Nat := 0x122001
/-- Object 0x1220.02 (R497). -/
abbrev IPV6_APPLIED : Nat := 0x122002
/-- Object 0x1230.01 (R90). -/
abbrev PTP_ENABLE : Nat := 0x123001
/-- Object 0x1230.02 (R90). -/
abbrev PTP_PORT : Nat := 0x123002
/-- Object 0x1230.03 (R90). -/
abbrev PTP_DOMAIN : Nat := 0x123003
/-- Object 0x1230.04 (R90). -/
abbrev PTP_OFFSET : Nat := 0x123004
/-- Object 0x1230.05 (R90). -/
abbrev PTP_MEAN_PATH : Nat := 0x123005
/-- Object 0x1230.06 (R90). -/
abbrev PTP_MASTER_ID : Nat := 0x123006
/-- Object 0x1230.07 (R90). -/
abbrev UTC_OFFSET : Nat := 0x123007
/-- Object 0x1230.08 (R90). -/
abbrev PTP_ANNOUNCE_TIMEOUT : Nat := 0x123008
/-- Object 0x1300.01 (R457). -/
abbrev CROSSING_DEVICE : Nat := 0x130001
/-- Object 0x1300.02 (R457). -/
abbrev CROSSING_REACHABLE : Nat := 0x130002
/-- Object 0x1300.03 (R457). -/
abbrev CROSSING_SIZE : Nat := 0x130003
/-- Object 0x1300.04 (R457). -/
abbrev ROUTE_TABLE : Nat := 0x130004
/-- Object 0x1301.01 (R457). -/
abbrev PORT_STATUS : Nat := 0x130101
/-- Object 0x1301.02 (R457). -/
abbrev PORT_STATUS_CLEAR : Nat := 0x130102
/-- Object 0x1301.03 (R457). -/
abbrev CRC_ERRORS : Nat := 0x130103
/-- Object 0x1301.04 (R457). -/
abbrev FLITS_RETRIED : Nat := 0x130104
/-- Object 0x1301.05 (R457). -/
abbrev ACK_TIMEOUTS : Nat := 0x130105
/-- Object 0x1310.01 (R457). -/
abbrev LANE_CONFIG : Nat := 0x131001
/-- Object 0x1310.02 (R457). -/
abbrev LANE_COMMAND : Nat := 0x131002
/-- Object 0x1310.03 (R457). -/
abbrev LANE_STATUS : Nat := 0x131003
/-- Object 0x1310.04 (R457). -/
abbrev LANE_STATUS_CLEAR : Nat := 0x131004
/-- Object 0x1310.05 (R457). -/
abbrev EYE_FIGURES : Nat := 0x131005
/-- Object 0x1310.06 (R457). -/
abbrev LANE_LOSSES : Nat := 0x131006
/-- Object 0x2000.01 (R90). -/
abbrev DEVICE_TIME : Nat := 0x200001
/-- Object 0x2000.02 (R90). -/
abbrev TIME_STATE : Nat := 0x200002
/-- Object 0x2000.03 (R90). -/
abbrev TIME_SOURCE : Nat := 0x200003
/-- Object 0x2000.04 (R90). -/
abbrev TIME_SET : Nat := 0x200004
/-- Object 0x2000.05 (R90). -/
abbrev TIME_STEPS : Nat := 0x200005
/-- Object 0x2000.06 (R90). -/
abbrev TIME_STATUS : Nat := 0x200006
/-- Object 0x2000.07 (R90). -/
abbrev TIME_STATUS_CLEAR : Nat := 0x200007
/-- Object 0x2001.01 (R90). -/
abbrev PLL_LOCK : Nat := 0x200101
/-- Object 0x2010.01 (R90). -/
abbrev TATTOO_ROLE : Nat := 0x201001
/-- Object 0x2010.02 (R90). -/
abbrev TATTOO_MASTER : Nat := 0x201002
/-- Object 0x2010.03 (R90). -/
abbrev TATTOO_HOPS : Nat := 0x201003
/-- Object 0x2010.04 (R90). -/
abbrev TATTOO_PORT : Nat := 0x201004
/-- Object 0x2011.01 (R90). -/
abbrev LINK_DELAY : Nat := 0x201101
/-- Object 0x2011.02 (R90). -/
abbrev LINK_OFFSET : Nat := 0x201102
/-- Object 0x2012.01 (R90). -/
abbrev OUTPUT_DELAY : Nat := 0x201201
/-- Object 0x2012.02 (R90). -/
abbrev OUTPUT_SKEW : Nat := 0x201202
/-- Object 0x2020.01 (R90). -/
abbrev SYNC_LOAD : Nat := 0x202001
/-- Object 0x2020.02 (R90). -/
abbrev SYNC_ARM : Nat := 0x202002
/-- Object 0x2020.03 (R90). -/
abbrev SYNC_OUT_TIME : Nat := 0x202003
/-- Object 0x2020.04 (R90). -/
abbrev SYNC_OUT_PERIOD : Nat := 0x202004
/-- Object 0x2020.05 (R90). -/
abbrev SYNC_OUT_ENABLE : Nat := 0x202005
/-- Object 0x2030.01 (R90). -/
abbrev CALENDAR : Nat := 0x203001
/-- Object 0x2030.02 (R90). -/
abbrev CAL_SET : Nat := 0x203002
/-- Object 0x2030.03 (R90). -/
abbrev CAL_STATE : Nat := 0x203003
/-- Object 0x2030.04 (R90). -/
abbrev ANCHOR : Nat := 0x203004
/-- Object 0x2040.01 (R53). -/
abbrev EPOCH_REQUEST : Nat := 0x204001
/-- Object 0x2040.02 (R53). -/
abbrev STALE_REQUESTS : Nat := 0x204002
/-- Object 0x2041.01 (R53). -/
abbrev REQUESTED_EPOCH_WAVEFORM : Nat := 0x204101
/-- Object 0x2041.02 (R53). -/
abbrev REQUESTED_EPOCH_KERNEL : Nat := 0x204102
/-- Object 0x2041.03 (R53). -/
abbrev REQUESTED_EPOCH_PERF : Nat := 0x204103
/-- Object 0x2041.04 (R53). -/
abbrev REQUESTED_EPOCH_BAND : Nat := 0x204104
/-- Object 0x2042.01 (R53). -/
abbrev APPLIED_VECTOR_WAVEFORM : Nat := 0x204201
/-- Object 0x2042.02 (R53). -/
abbrev APPLIED_VECTOR_KERNEL : Nat := 0x204202
/-- Object 0x2042.03 (R53). -/
abbrev APPLIED_VECTOR_PERF : Nat := 0x204203
/-- Object 0x2042.04 (R53). -/
abbrev APPLIED_VECTOR_BAND : Nat := 0x204204
/-- Object 0x2043.01 (R53). -/
abbrev LOWEST_APPLIED_WAVEFORM : Nat := 0x204301
/-- Object 0x2043.02 (R53). -/
abbrev LOWEST_APPLIED_KERNEL : Nat := 0x204302
/-- Object 0x2043.03 (R53). -/
abbrev LOWEST_APPLIED_PERF : Nat := 0x204303
/-- Object 0x2043.04 (R53). -/
abbrev LOWEST_APPLIED_BAND : Nat := 0x204304
/-- Object 0x2100.01 (R549). -/
abbrev REG_CLOCK_SC : Nat := 0x210001
/-- Object 0x2100.02 (R549). -/
abbrev REG_CLOCK_DIE : Nat := 0x210002
/-- Object 0x2110.01 (R549). -/
abbrev SLEEP_REQUEST : Nat := 0x211001
/-- Object 0x2110.02 (R549). -/
abbrev SLEEP_RESULT : Nat := 0x211002
/-- Object 0x2110.03 (R549). -/
abbrev SLEEP_MAP : Nat := 0x211003
/-- Object 0x2110.04 (R549). -/
abbrev FERRY_WAKE : Nat := 0x211004
/-- Object 0x2120.01 (R549). -/
abbrev MGMT_PL : Nat := 0x212001
/-- Object 0x2200.01 (R549). -/
abbrev HK_READINGS : Nat := 0x220001
/-- Object 0x2200.02 (R549). -/
abbrev DIE_TEMP : Nat := 0x220002
/-- Object 0x2200.03 (R549). -/
abbrev THERMAL_STATUS : Nat := 0x220003
/-- Object 0x2200.04 (R549). -/
abbrev THERMAL_STATUS_CLEAR : Nat := 0x220004
/-- Object 0x2200.05 (R549). -/
abbrev RISE_LIMIT : Nat := 0x220005
/-- Object 0x2210.01 (R549). -/
abbrev SHUTDOWN_COMMAND : Nat := 0x221001
/-- Object 0x2210.02 (R549). -/
abbrev SHUTDOWN_STATUS : Nat := 0x221002
/-- Object 0x2210.03 (R549). -/
abbrev AUTO_RESUME : Nat := 0x221003
/-- Object 0x2300.01 (R570). -/
abbrev POWER_ON_SECONDS : Nat := 0x230001
/-- Object 0x2300.02 (R570). -/
abbrev POWER_CYCLES : Nat := 0x230002
/-- Object 0x2300.03 (R570). -/
abbrev SHUTDOWNS : Nat := 0x230003
/-- Object 0x2301.01 (R570). -/
abbrev BAND_SECONDS_B0 : Nat := 0x230101
/-- Object 0x2301.02 (R570). -/
abbrev BAND_SECONDS_B1 : Nat := 0x230102
/-- Object 0x2301.03 (R570). -/
abbrev BAND_SECONDS_B2 : Nat := 0x230103
/-- Object 0x2301.04 (R570). -/
abbrev BAND_SECONDS_B3 : Nat := 0x230104
/-- Object 0x2301.05 (R570). -/
abbrev BAND_SECONDS_B4 : Nat := 0x230105
/-- Object 0x2301.06 (R570). -/
abbrev THERMAL_CYCLES : Nat := 0x230106
/-- Object 0x2310.01 (R570). -/
abbrev FAULT_LOG : Nat := 0x231001
/-- Object 0x2310.02 (R570). -/
abbrev FAULT_LOG_TOTAL : Nat := 0x231002
/-- Object 0x2310.03 (R570). -/
abbrev FAULT_LOG_LOST : Nat := 0x231003
/-- Object 0x2320.01 (R570). -/
abbrev NV_CORRECTED : Nat := 0x232001
/-- Object 0x2320.02 (R570). -/
abbrev RESTORE_UNIT : Nat := 0x232002
/-- Object 0x2320.03 (R570). -/
abbrev GANGWAY_UNCORR : Nat := 0x232003
/-- Object 0x2330.01 (R583). -/
abbrev RESET_CAUSE : Nat := 0x233001
/-- Object 0x2330.02 (R583). -/
abbrev LAST_BOOT : Nat := 0x233002
/-- Object 0x2330.03 (R583). -/
abbrev WATCHDOG_RESETS : Nat := 0x233003
/-- Object 0x2400.01 (R570). -/
abbrev TRIM_COMMAND : Nat := 0x240001
/-- Object 0x2400.02 (R570). -/
abbrev TRIM_STATUS : Nat := 0x240002
/-- Object 0x2400.03 (R570). -/
abbrev TRIM_BOOT : Nat := 0x240003
/-- Object 0x2410.01 (R570). -/
abbrev OUT_TRIM : Nat := 0x241001
/-- Object 0x2410.02 (R570). -/
abbrev IN_TRIM : Nat := 0x241002
/-- Object 0x2410.03 (R570). -/
abbrev BIAS_TRIM : Nat := 0x241003
/-- Object 0x2410.04 (R570). -/
abbrev DIE_TRIM : Nat := 0x241004
/-- Object 0x2420.01 (R570). -/
abbrev VERIFY_REQUEST : Nat := 0x242001
/-- Object 0x2420.02 (R570). -/
abbrev VERIFY_RESULT : Nat := 0x242002
/-- Object 0x3000.01 (R124). -/
abbrev OUT_MODE : Nat := 0x300001
/-- Object 0x3000.02 (R124). -/
abbrev FS_CURRENT : Nat := 0x300002
/-- Object 0x3000.03 (R124). -/
abbrev HEADROOM : Nat := 0x300003
/-- Object 0x3000.04 (R124). -/
abbrev OUT_STATUS : Nat := 0x300004
/-- Object 0x3000.05 (R124). -/
abbrev OUT_STATUS_CLEAR : Nat := 0x300005
/-- Object 0x3000.06 (R124). -/
abbrev SUM_SAT_COUNT : Nat := 0x300006
/-- Object 0x3000.07 (R124). -/
abbrev PD_SAT_COUNT : Nat := 0x300007
/-- Object 0x3000.08 (R124). -/
abbrev MUTED_PLAYS : Nat := 0x300008
/-- Object 0x3010.01 (R124). -/
abbrev IIR_SHADOW_0 : Nat := 0x301001
/-- Object 0x3010.02 (R124). -/
abbrev IIR_SHADOW_1 : Nat := 0x301002
/-- Object 0x3010.03 (R124). -/
abbrev IIR_SHADOW_2 : Nat := 0x301003
/-- Object 0x3010.04 (R124). -/
abbrev IIR_SHADOW_3 : Nat := 0x301004
/-- Object 0x3010.05 (R124). -/
abbrev IIR_ACTIVE_0 : Nat := 0x301005
/-- Object 0x3010.06 (R124). -/
abbrev IIR_ACTIVE_1 : Nat := 0x301006
/-- Object 0x3010.07 (R124). -/
abbrev IIR_ACTIVE_2 : Nat := 0x301007
/-- Object 0x3010.08 (R124). -/
abbrev IIR_ACTIVE_3 : Nat := 0x301008
/-- Object 0x3011.01 (R124). -/
abbrev FIR_SHADOW : Nat := 0x301101
/-- Object 0x3011.02 (R124). -/
abbrev FIR_ACTIVE : Nat := 0x301102
/-- Object 0x3012.01 (R124). -/
abbrev PD_COMMIT : Nat := 0x301201
/-- Object 0x3012.02 (R124). -/
abbrev FIR_LONG : Nat := 0x301202
/-- Object 0x3100.01 (R127). -/
abbrev GEN_FREQ : Nat := 0x310001
/-- Object 0x3100.02 (R127). -/
abbrev GEN_PHASE_OFFSET : Nat := 0x310002
/-- Object 0x3100.03 (R127). -/
abbrev GEN_BANK_FOLLOW : Nat := 0x310003
/-- Object 0x3100.04 (R127). -/
abbrev GEN_BANK_BASE : Nat := 0x310004
/-- Object 0x3100.05 (R127). -/
abbrev GEN_STATUS : Nat := 0x310005
/-- Object 0x3100.06 (R127). -/
abbrev GEN_STATUS_CLEAR : Nat := 0x310006
/-- Object 0x3100.07 (R127). -/
abbrev LATE_COMMANDS : Nat := 0x310007
/-- Object 0x3100.08 (R127). -/
abbrev REFUSED_COMMANDS : Nat := 0x310008
/-- Object 0x3200.01 (R128). -/
abbrev ENV_DATA : Nat := 0x320001
/-- Object 0x3200.02 (R128). -/
abbrev ENV_CORRECTED : Nat := 0x320002
/-- Object 0x3200.03 (R128). -/
abbrev ENV_UNCORR_COUNT : Nat := 0x320003
/-- Object 0x3200.04 (R128). -/
abbrev ENV_UNCORR_ADDR : Nat := 0x320004
/-- Object 0x3400.01 (R178). -/
abbrev SEQ_COMMAND : Nat := 0x340001
/-- Object 0x3400.02 (R178). -/
abbrev SEQ_START_ADDR : Nat := 0x340002
/-- Object 0x3400.03 (R178). -/
abbrev SEQ_START_TIME : Nat := 0x340003
/-- Object 0x3400.04 (R178). -/
abbrev SEQ_START_OFFSET : Nat := 0x340004
/-- Object 0x3400.05 (R178). -/
abbrev SEQ_LOOKAHEAD : Nat := 0x340005
/-- Object 0x3400.06 (R178). -/
abbrev SEQ_STOP_VECTOR : Nat := 0x340006
/-- Object 0x3400.07 (R178). -/
abbrev SEQ_STATUS : Nat := 0x340007
/-- Object 0x3400.08 (R178). -/
abbrev SEQ_STATUS_CLEAR : Nat := 0x340008
/-- Object 0x3400.09 (R178). -/
abbrev SEQ_ADDR : Nat := 0x340009
/-- Object 0x3400.0A (R178). -/
abbrev SEQ_TIMELINE : Nat := 0x34000A
/-- Object 0x3400.0B (R178). -/
abbrev LATE_WORDS : Nat := 0x34000B
/-- Object 0x3400.0C (R178). -/
abbrev MSG_LOST_COUNT : Nat := 0x34000C
/-- Object 0x3401.01 (R178). -/
abbrev SEQ_COUNTER_0 : Nat := 0x340101
/-- Object 0x3401.02 (R178). -/
abbrev SEQ_COUNTER_1 : Nat := 0x340102
/-- Object 0x3401.03 (R178). -/
abbrev SEQ_COUNTER_2 : Nat := 0x340103
/-- Object 0x3401.04 (R178). -/
abbrev SEQ_COUNTER_3 : Nat := 0x340104
/-- Object 0x3401.05 (R178). -/
abbrev SEQ_COUNTER_4 : Nat := 0x340105
/-- Object 0x3401.06 (R178). -/
abbrev SEQ_COUNTER_5 : Nat := 0x340106
/-- Object 0x3401.07 (R178). -/
abbrev SEQ_COUNTER_6 : Nat := 0x340107
/-- Object 0x3401.08 (R178). -/
abbrev SEQ_COUNTER_7 : Nat := 0x340108
/-- Object 0x3401.09 (R178). -/
abbrev CNT_RELOAD_0 : Nat := 0x340109
/-- Object 0x3401.0A (R178). -/
abbrev CNT_RELOAD_1 : Nat := 0x34010A
/-- Object 0x3401.0B (R178). -/
abbrev CNT_RELOAD_2 : Nat := 0x34010B
/-- Object 0x3401.0C (R178). -/
abbrev CNT_RELOAD_3 : Nat := 0x34010C
/-- Object 0x3401.0D (R178). -/
abbrev CNT_RELOAD_4 : Nat := 0x34010D
/-- Object 0x3401.0E (R178). -/
abbrev CNT_RELOAD_5 : Nat := 0x34010E
/-- Object 0x3401.0F (R178). -/
abbrev CNT_RELOAD_6 : Nat := 0x34010F
/-- Object 0x3401.10 (R178). -/
abbrev CNT_RELOAD_7 : Nat := 0x340110
/-- Object 0x3402.01 (R178). -/
abbrev COND_MAP : Nat := 0x340201
/-- Object 0x3403.01 (R178). -/
abbrev TRAP_ENABLE : Nat := 0x340301
/-- Object 0x3403.02 (R178). -/
abbrev TRAP_VECTORS : Nat := 0x340302
/-- Object 0x3403.03 (R178). -/
abbrev TRAP_FRAME : Nat := 0x340303
/-- Object 0x3403.04 (R178). -/
abbrev TRAP_PENDING : Nat := 0x340304
/-- Object 0x3403.05 (R178). -/
abbrev BREAK_ADDR : Nat := 0x340305
/-- Object 0x3403.06 (R178). -/
abbrev TRAPS_LOST : Nat := 0x340306
/-- Object 0x3404.01 (R178). -/
abbrev CS_DATA : Nat := 0x340401
/-- Object 0x3404.02 (R178). -/
abbrev CS_CORRECTED : Nat := 0x340402
/-- Object 0x3404.03 (R178). -/
abbrev CS_UNCORR_COUNT : Nat := 0x340403
/-- Object 0x3404.04 (R178). -/
abbrev CS_UNCORR_ADDR : Nat := 0x340404
/-- Object 0x3404.05 (R178). -/
abbrev CS_SPARES_USED : Nat := 0x340405
/-- Object 0x3600.01 (R217). -/
abbrev INPUT_MODE : Nat := 0x360001
/-- Object 0x3600.02 (R217). -/
abbrev INPUT_RANGE : Nat := 0x360002
/-- Object 0x3600.03 (R217). -/
abbrev INPUT_STATUS : Nat := 0x360003
/-- Object 0x3600.04 (R217). -/
abbrev INPUT_STATUS_CLEAR : Nat := 0x360004
/-- Object 0x3600.05 (R217). -/
abbrev CLIP_COUNT : Nat := 0x360005
/-- Object 0x3601.01 (R240). -/
abbrev CAL_CONTROL : Nat := 0x360101
/-- Object 0x3601.02 (R240). -/
abbrev CAL_STATUS : Nat := 0x360102
/-- Object 0x3601.03 (R240). -/
abbrev CAL_STATUS_CLEAR : Nat := 0x360103
/-- Object 0x3601.04 (R240). -/
abbrev SPUR_OFFSET : Nat := 0x360104
/-- Object 0x3601.05 (R240). -/
abbrev SPUR_IMAGE : Nat := 0x360105
/-- Object 0x3601.06 (R240). -/
abbrev SPUR_AT_RETIRE : Nat := 0x360106
/-- Object 0x3601.07 (R240). -/
abbrev CAL_STEPS : Nat := 0x360107
/-- Object 0x3601.08 (R240). -/
abbrev CAL_FAILURES : Nat := 0x360108
/-- Object 0x3601.09 (R240). -/
abbrev SKEW_HOLDS : Nat := 0x360109
/-- Object 0x3601.0A (R240). -/
abbrev SLICE_RESTORE : Nat := 0x36010A
/-- Object 0x3602.01 (R240). -/
abbrev WIRE_COMMAND : Nat := 0x360201
/-- Object 0x3602.02 (R240). -/
abbrev WIRE_CONFIG : Nat := 0x360202
/-- Object 0x3602.03 (R240). -/
abbrev WIRE_EXPECTED : Nat := 0x360203
/-- Object 0x3602.04 (R240). -/
abbrev WIRE_RESULT : Nat := 0x360204
/-- Object 0x3602.05 (R240). -/
abbrev WIRE_RESISTANCE : Nat := 0x360205
/-- Object 0x3602.06 (R240). -/
abbrev WIRE_RESULT_TIME : Nat := 0x360206
/-- Object 0x3700.01 (R218). -/
abbrev DEMOD_FREQ : Nat := 0x370001
/-- Object 0x3700.02 (R218). -/
abbrev DEMOD_PHASE : Nat := 0x370002
/-- Object 0x3700.03 (R218). -/
abbrev DEMOD_CONTROL : Nat := 0x370003
/-- Object 0x3700.04 (R218). -/
abbrev DEMOD_STATUS : Nat := 0x370004
/-- Object 0x3700.05 (R218). -/
abbrev DEMOD_STATUS_CLEAR : Nat := 0x370005
/-- Object 0x3700.06 (R218). -/
abbrev DEMOD_RESULT : Nat := 0x370006
/-- Object 0x3700.07 (R218). -/
abbrev DEMOD_RESULT_TIME : Nat := 0x370007
/-- Object 0x3700.08 (R218). -/
abbrev DEMOD_STATE : Nat := 0x370008
/-- Object 0x3700.09 (R218). -/
abbrev READ_COUNT : Nat := 0x370009
/-- Object 0x3700.0A (R218). -/
abbrev REFUSED_READS : Nat := 0x37000A
/-- Object 0x3700.0B (R218). -/
abbrev TRUNCATED_READS : Nat := 0x37000B
/-- Object 0x3700.0C (R218). -/
abbrev COLLIDED_READS : Nat := 0x37000C
/-- Object 0x3710.01 (R218). -/
abbrev DEMOD_SET_0 : Nat := 0x371001
/-- Object 0x3710.02 (R218). -/
abbrev DEMOD_SET_1 : Nat := 0x371002
/-- Object 0x3720.01 (R218). -/
abbrev WEIGHT_DATA : Nat := 0x372001
/-- Object 0x3720.02 (R218). -/
abbrev WEIGHT_CORRECTED : Nat := 0x372002
/-- Object 0x3720.03 (R218). -/
abbrev WEIGHT_UNCORR_COUNT : Nat := 0x372003
/-- Object 0x3720.04 (R218). -/
abbrev WEIGHT_UNCORR_ADDR : Nat := 0x372004
/-- Object 0x3800.01 (R268). -/
abbrev SLOT_STATE : Nat := 0x380001
/-- Object 0x3800.02 (R268). -/
abbrev SLOT_CLEAR : Nat := 0x380002
/-- Object 0x3800.03 (R268). -/
abbrev SLOT_SNAPSHOT : Nat := 0x380003
/-- Object 0x3801.01 (R268). -/
abbrev UPDATES_SENT : Nat := 0x380101
/-- Object 0x3801.02 (R268). -/
abbrev UPDATES_RECEIVED : Nat := 0x380102
/-- Object 0x3801.03 (R268). -/
abbrev UPDATES_DISCARDED : Nat := 0x380103
/-- Object 0x3801.04 (R268). -/
abbrev DECISION_DROPPED : Nat := 0x380104
/-- Object 0x3801.05 (R268). -/
abbrev FERRY_CONGESTED : Nat := 0x380105
/-- Object 0x3801.06 (R268). -/
abbrev FORWARD_USED : Nat := 0x380106
/-- Object 0x3802.01 (R268). -/
abbrev GANGWAY_CONGESTED_0 : Nat := 0x380201
/-- Object 0x3802.02 (R268). -/
abbrev GANGWAY_CONGESTED_1 : Nat := 0x380202
/-- Object 0x3802.03 (R268). -/
abbrev GANGWAY_CONGESTED_2 : Nat := 0x380203
/-- Object 0x3810.01 (R268). -/
abbrev SUB_CONFIG : Nat := 0x381001
/-- Object 0x3810.02 (R268). -/
abbrev SUB_STATUS : Nat := 0x381002
/-- Object 0x3810.03 (R268). -/
abbrev SUB_STATUS_CLEAR : Nat := 0x381003
/-- Object 0x3810.04 (R268). -/
abbrev SUB_LATENCY : Nat := 0x381004
/-- Object 0x3830.01 (R268). -/
abbrev DECISION_TABLE : Nat := 0x383001
/-- Object 0x3830.02 (R268). -/
abbrev TABLE_MAP : Nat := 0x383002
/-- Object 0x3A00.01 (R306). -/
abbrev DSP_COMMAND : Nat := 0x3A0001
/-- Object 0x3A00.02 (R306). -/
abbrev DSP_START_ADDR : Nat := 0x3A0002
/-- Object 0x3A00.03 (R306). -/
abbrev DSP_STATUS : Nat := 0x3A0003
/-- Object 0x3A00.04 (R306). -/
abbrev DSP_STATUS_CLEAR : Nat := 0x3A0004
/-- Object 0x3A00.05 (R306). -/
abbrev DSP_EV_OVERRUN : Nat := 0x3A0005
/-- Object 0x3A00.06 (R306). -/
abbrev DSP_EV_OVERRUN_CLEAR : Nat := 0x3A0006
/-- Object 0x3A00.07 (R306). -/
abbrev MBOX_LOST_COUNT : Nat := 0x3A0007
/-- Object 0x3A01.01 (R306). -/
abbrev DSP_PROGRAM : Nat := 0x3A0101
/-- Object 0x3A01.02 (R306). -/
abbrev DSP_DATA : Nat := 0x3A0102
/-- Object 0x3A01.03 (R306). -/
abbrev DSP_VECTORS : Nat := 0x3A0103
/-- Object 0x3A01.04 (R306). -/
abbrev DSP_REGS : Nat := 0x3A0104
/-- Object 0x3A02.01 (R306). -/
abbrev DSP_MEM_CORRECTED : Nat := 0x3A0201
/-- Object 0x3A02.02 (R306). -/
abbrev DSP_MEM_UNCORR_COUNT : Nat := 0x3A0202
/-- Object 0x3A02.03 (R306). -/
abbrev DSP_MEM_UNCORR_ADDR : Nat := 0x3A0203
/-- Object 0x3C00.01 (R349). -/
abbrev TONE_CONFIG : Nat := 0x3C0001
/-- Object 0x3C00.02 (R349). -/
abbrev TONE_DEADBAND : Nat := 0x3C0002
/-- Object 0x3C00.03 (R349). -/
abbrev TONE_KEEPALIVE : Nat := 0x3C0003
/-- Object 0x3C00.04 (R349). -/
abbrev TONE_STATUS : Nat := 0x3C0004
/-- Object 0x3C00.05 (R349). -/
abbrev TONE_STATUS_CLEAR : Nat := 0x3C0005
/-- Object 0x3C00.06 (R349). -/
abbrev TONE_LATEST : Nat := 0x3C0006
/-- Object 0x3C01.01 (R349). -/
abbrev BIN_PHASE : Nat := 0x3C0101
/-- Object 0x3D00.01 (R350). -/
abbrev TRIG_CONFIG : Nat := 0x3D0001
/-- Object 0x3D00.02 (R350). -/
abbrev TRIG_COMMAND : Nat := 0x3D0002
/-- Object 0x3D00.03 (R350). -/
abbrev TRIG_STATUS : Nat := 0x3D0003
/-- Object 0x3D00.04 (R350). -/
abbrev TRIG_RECORDS : Nat := 0x3D0004
/-- Object 0x3D00.05 (R350). -/
abbrev TRIG_SUPPRESSED : Nat := 0x3D0005
/-- Object 0x3D00.06 (R350). -/
abbrev LIVE_TIME : Nat := 0x3D0006
/-- Object 0x3D10.01 (R351). -/
abbrev MAJ_CONFIG : Nat := 0x3D1001
/-- Object 0x3D10.02 (R351). -/
abbrev MAJ_GROUP : Nat := 0x3D1002
/-- Object 0x3D10.03 (R351). -/
abbrev MAJ_LAMBDA : Nat := 0x3D1003
/-- Object 0x3D10.04 (R351). -/
abbrev MAJ_FIRES : Nat := 0x3D1004
/-- Object 0x3D10.05 (R351). -/
abbrev MAJ_LATE : Nat := 0x3D1005
/-- Object 0x3D20.01 (R351). -/
abbrev ACQ_COMMAND : Nat := 0x3D2001
/-- Object 0x3D20.02 (R351). -/
abbrev ACQ_RESUME : Nat := 0x3D2002
/-- Object 0x3D20.03 (R351). -/
abbrev ACQ_FILL : Nat := 0x3D2003
/-- Object 0x3D20.04 (R351). -/
abbrev ACQ_HIGH_WATER : Nat := 0x3D2004
/-- Object 0x3D20.05 (R351). -/
abbrev ACQ_DROPPED_RECORDS : Nat := 0x3D2005
/-- Object 0x3D20.06 (R351). -/
abbrev ACQ_DROPPED_WORDS : Nat := 0x3D2006
/-- Object 0x3D20.07 (R351). -/
abbrev ACQ_STATUS : Nat := 0x3D2007
/-- Object 0x3D20.08 (R351). -/
abbrev ACQ_STATUS_CLEAR : Nat := 0x3D2008
/-- Object 0x3D30.01 (R351). -/
abbrev RAW_CONFIG : Nat := 0x3D3001
/-- Object 0x3D30.02 (R351). -/
abbrev RAW_STATUS : Nat := 0x3D3002
/-- Object 0x3D30.03 (R351). -/
abbrev RAW_IGNORED : Nat := 0x3D3003
/-- Object 0x3E00.01 (R374). -/
abbrev CHAN_CONFIG : Nat := 0x3E0001
/-- Object 0x3E00.02 (R374). -/
abbrev CHAN_STATUS : Nat := 0x3E0002
/-- Object 0x3E00.03 (R374). -/
abbrev CHAN_STATUS_CLEAR : Nat := 0x3E0003
/-- Object 0x3E00.04 (R374). -/
abbrev CHAN_OWNER : Nat := 0x3E0004
/-- Object 0x3E00.05 (R374). -/
abbrev CHAN_RELEASE : Nat := 0x3E0005
/-- Object 0x3E00.06 (R374). -/
abbrev CHAN_FIRE : Nat := 0x3E0006
/-- Object 0x3E00.07 (R374). -/
abbrev CHAN_FIRE_CANCEL : Nat := 0x3E0007
/-- Object 0x3E00.08 (R374). -/
abbrev CHAN_EVENTS : Nat := 0x3E0008
/-- Object 0x3E00.09 (R374). -/
abbrev CHAN_DROPPED : Nat := 0x3E0009
/-- Object 0x3E01.01 (R374). -/
abbrev WIRING : Nat := 0x3E0101
/-- Object 0x3E02.01 (R374). -/
abbrev TIMED_FIRES_PENDING : Nat := 0x3E0201
/-- Object 0x3E02.02 (R374). -/
abbrev FIRE_REFUSED : Nat := 0x3E0202
/-- Object 0x3E02.03 (R374). -/
abbrev LATE_FIRES : Nat := 0x3E0203
/-- Object 0x3E02.04 (R374). -/
abbrev BRIDGE_DROPPED : Nat := 0x3E0204
/-- Object 0x3E03.01 (R374). -/
abbrev TICK_PERIOD_0 : Nat := 0x3E0301
/-- Object 0x3E03.02 (R374). -/
abbrev TICK_PERIOD_1 : Nat := 0x3E0302
/-- Object 0x3E03.03 (R374). -/
abbrev TICK_PERIOD_2 : Nat := 0x3E0303
/-- Object 0x3E03.04 (R374). -/
abbrev TICK_PERIOD_3 : Nat := 0x3E0304
/-- Object 0x3E03.05 (R374). -/
abbrev TICK_START_0 : Nat := 0x3E0305
/-- Object 0x3E03.06 (R374). -/
abbrev TICK_START_1 : Nat := 0x3E0306
/-- Object 0x3E03.07 (R374). -/
abbrev TICK_START_2 : Nat := 0x3E0307
/-- Object 0x3E03.08 (R374). -/
abbrev TICK_START_3 : Nat := 0x3E0308
/-- Object 0x3E04.01 (R374). -/
abbrev ALERT_EVENT : Nat := 0x3E0401
/-- Object 0x3E04.02 (R374). -/
abbrev ALERT_CLEAR : Nat := 0x3E0402
/-- Object 0x4000.01 (R396). -/
abbrev BIAS_CONFIG : Nat := 0x400001
/-- Object 0x4000.02 (R396). -/
abbrev BIAS_DIVIDER : Nat := 0x400002
/-- Object 0x4000.03 (R396). -/
abbrev BIAS_TICK_ORIGIN : Nat := 0x400003
/-- Object 0x4000.04 (R396). -/
abbrev BIAS_COMMAND : Nat := 0x400004
/-- Object 0x4000.05 (R396). -/
abbrev BIAS_ENQUEUE : Nat := 0x400005
/-- Object 0x4000.06 (R396). -/
abbrev BIAS_STATUS : Nat := 0x400006
/-- Object 0x4000.07 (R396). -/
abbrev BIAS_STATUS_CLEAR : Nat := 0x400007
/-- Object 0x4000.08 (R396). -/
abbrev BIAS_CODE : Nat := 0x400008
/-- Object 0x4000.09 (R396). -/
abbrev UNDERRUN_TICKS : Nat := 0x400009
/-- Object 0x4000.0A (R396). -/
abbrev BIAS_REFUSED : Nat := 0x40000A
/-- Object 0x4001.01 (R396). -/
abbrev SAFE_CODE : Nat := 0x400101
/-- Object 0x4001.02 (R396). -/
abbrev SAFE_SLEW : Nat := 0x400102
/-- Object 0x4001.03 (R396). -/
abbrev SAFE_WATCH : Nat := 0x400103
/-- Object 0x4100.01 (R420). -/
abbrev SNS_CONFIG : Nat := 0x410001
/-- Object 0x4100.02 (R420). -/
abbrev SNS_GAIN : Nat := 0x410002
/-- Object 0x4100.03 (R420). -/
abbrev SNS_COMMAND : Nat := 0x410003
/-- Object 0x4100.04 (R420). -/
abbrev SNS_STATUS : Nat := 0x410004
/-- Object 0x4100.05 (R420). -/
abbrev SNS_STATUS_CLEAR : Nat := 0x410005
/-- Object 0x4100.06 (R420). -/
abbrev SNS_RESULT : Nat := 0x410006
/-- Object 0x4100.07 (R420). -/
abbrev SNS_BURSTS : Nat := 0x410007
/-- Object 0x4100.08 (R420). -/
abbrev SNS_CONV_OVERRANGE : Nat := 0x410008
/-- Object 0x4100.09 (R420). -/
abbrev SNS_VOID_CONV : Nat := 0x410009
/-- Object 0x4101.01 (R420). -/
abbrev SNS_REF_TRIM : Nat := 0x410101

/-- Rows VENDOR to FEC_UNCORRECTED. -/
def rows0 : List ObjRow := [
  ⟨VENDOR, .str, .ro, false, 0, 0⟩,
  ⟨PRODUCT, .str, .ro, false, 0, 0⟩,
  ⟨DIES, .u8, .ro, false, 0, 0⟩,
  ⟨SERIAL, .u64, .ro, false, 0, 0⟩,
  ⟨FREDOM_VERSION, .u32, .ro, false, 0, 0⟩,
  ⟨DICT_VERSION, .u16, .ro, false, 0, 0⟩,
  ⟨STEPPING, .u16, .ro, false, 0, 0⟩,
  ⟨DIE_SERIAL, .u64, .ro, false, 1, 0⟩,
  ⟨DICT_DIRECTORY, .domain, .ro, false, 0, 0⟩,
  ⟨DICT_ENTRIES, .u16, .ro, false, 0, 0⟩,
  ⟨SESSIONS_OPEN, .u8, .ro, false, 0, 0⟩,
  ⟨SESSION_TIMEOUT, .u16, .rw, true, 0, 0⟩,
  ⟨COMMISSIONED, .bool, .ro, false, 0, 0⟩,
  ⟨COMMISSION_SECRET, .domain, .wo, true, 0, 4⟩,
  ⟨AUTH_FAILURES, .u32, .ro, false, 0, 0⟩,
  ⟨REQUESTS_DISCARDED, .u32, .ro, false, 0, 0⟩,
  ⟨SESSION_INFO, .domain, .ro, false, 5, 3⟩,
  ⟨SESSION_WEIGHT, .u8, .rw, false, 5, 0⟩,
  ⟨NOTIFY_LOST, .u32, .ro, false, 5, 0⟩,
  ⟨STREAM_FRAMES, .u32, .ro, false, 5, 0⟩,
  ⟨SESSION_CLOSE, .bool, .wo, true, 5, 0⟩,
  ⟨PHY_MODE, .u8, .rw, true, 2, 0⟩,
  ⟨ETH_STATUS, .u32, .ro, false, 2, 0⟩,
  ⟨ETH_STATUS_CLEAR, .u32, .wo, false, 2, 0⟩,
  ⟨ETH_MAC, .u64, .ro, false, 2, 0⟩,
  ⟨MTU, .u16, .rw, true, 2, 0⟩,
  ⟨VLAN, .u16, .rw, true, 2, 0⟩,
  ⟨ETH_RX_DISCARDED, .u32, .ro, false, 2, 0⟩,
  ⟨FEC_CORRECTED, .u32, .ro, false, 2, 0⟩,
  ⟨FEC_UNCORRECTED, .u32, .ro, false, 2, 0⟩
  ]
/-- Rows IPV4_CONFIG to TIME_STATE. -/
def rows1 : List ObjRow := [
  ⟨IPV4_CONFIG, .w72, .rw, true, 2, 0⟩,
  ⟨IPV4_APPLIED, .w72, .ro, false, 2, 0⟩,
  ⟨DHCP_LEASE_LEFT, .u32, .ro, false, 2, 0⟩,
  ⟨IPV6_CONFIG, .domain, .rw, true, 2, 4⟩,
  ⟨IPV6_APPLIED, .domain, .ro, false, 2, 4⟩,
  ⟨PTP_ENABLE, .bool, .rw, true, 0, 0⟩,
  ⟨PTP_PORT, .u8, .rw, true, 0, 0⟩,
  ⟨PTP_DOMAIN, .u8, .rw, true, 0, 0⟩,
  ⟨PTP_OFFSET, .i64, .ro, false, 0, 0⟩,
  ⟨PTP_MEAN_PATH, .i64, .ro, false, 0, 0⟩,
  ⟨PTP_MASTER_ID, .u64, .ro, false, 0, 0⟩,
  ⟨UTC_OFFSET, .i16, .ro, false, 0, 0⟩,
  ⟨PTP_ANNOUNCE_TIMEOUT, .u8, .rw, true, 0, 0⟩,
  ⟨CROSSING_DEVICE, .u8, .ro, false, 0, 0⟩,
  ⟨CROSSING_REACHABLE, .domain, .ro, false, 0, 4⟩,
  ⟨CROSSING_SIZE, .u16, .ro, false, 0, 0⟩,
  ⟨ROUTE_TABLE, .domain, .ro, false, 1, 128⟩,
  ⟨PORT_STATUS, .u32, .ro, false, 3, 0⟩,
  ⟨PORT_STATUS_CLEAR, .u32, .wo, false, 3, 0⟩,
  ⟨CRC_ERRORS, .u32, .ro, false, 3, 0⟩,
  ⟨FLITS_RETRIED, .u32, .ro, false, 3, 0⟩,
  ⟨ACK_TIMEOUTS, .u32, .ro, false, 3, 0⟩,
  ⟨LANE_CONFIG, .u32, .rwb, false, 4, 0⟩,
  ⟨LANE_COMMAND, .u8, .wo, false, 4, 0⟩,
  ⟨LANE_STATUS, .u32, .ro, false, 4, 0⟩,
  ⟨LANE_STATUS_CLEAR, .u32, .wo, false, 4, 0⟩,
  ⟨EYE_FIGURES, .u32, .ro, false, 4, 0⟩,
  ⟨LANE_LOSSES, .u32, .ro, false, 4, 0⟩,
  ⟨DEVICE_TIME, .u64, .ro, false, 0, 0⟩,
  ⟨TIME_STATE, .u8, .ro, false, 0, 0⟩
  ]
/-- Rows TIME_SOURCE to APPLIED_VECTOR_WAVEFORM. -/
def rows2 : List ObjRow := [
  ⟨TIME_SOURCE, .u8, .rw, true, 0, 0⟩,
  ⟨TIME_SET, .u64, .wo, true, 0, 0⟩,
  ⟨TIME_STEPS, .u32, .ro, false, 0, 0⟩,
  ⟨TIME_STATUS, .u32, .ro, false, 0, 0⟩,
  ⟨TIME_STATUS_CLEAR, .u32, .wo, false, 0, 0⟩,
  ⟨PLL_LOCK, .u8, .ro, false, 1, 0⟩,
  ⟨TATTOO_ROLE, .u8, .rw, true, 0, 0⟩,
  ⟨TATTOO_MASTER, .u8, .ro, false, 0, 0⟩,
  ⟨TATTOO_HOPS, .u8, .ro, false, 0, 0⟩,
  ⟨TATTOO_PORT, .u8, .ro, false, 0, 0⟩,
  ⟨LINK_DELAY, .u32, .ro, false, 3, 0⟩,
  ⟨LINK_OFFSET, .i64, .ro, false, 3, 0⟩,
  ⟨OUTPUT_DELAY, .u16, .ro, false, 6, 0⟩,
  ⟨OUTPUT_SKEW, .i16, .rwb, false, 6, 0⟩,
  ⟨SYNC_LOAD, .u64, .rw, true, 0, 0⟩,
  ⟨SYNC_ARM, .bool, .rw, true, 0, 0⟩,
  ⟨SYNC_OUT_TIME, .u64, .rw, false, 0, 0⟩,
  ⟨SYNC_OUT_PERIOD, .u32, .rw, false, 0, 0⟩,
  ⟨SYNC_OUT_ENABLE, .bool, .rw, false, 0, 0⟩,
  ⟨CALENDAR, .domain, .ro, false, 0, 2⟩,
  ⟨CAL_SET, .domain, .wo, true, 0, 2⟩,
  ⟨CAL_STATE, .u8, .ro, false, 0, 0⟩,
  ⟨ANCHOR, .domain, .ro, false, 0, 3⟩,
  ⟨EPOCH_REQUEST, .w72, .wo, false, 0, 0⟩,
  ⟨STALE_REQUESTS, .u32, .ro, false, 0, 0⟩,
  ⟨REQUESTED_EPOCH_WAVEFORM, .u16, .ro, false, 0, 0⟩,
  ⟨REQUESTED_EPOCH_KERNEL, .u16, .ro, false, 0, 0⟩,
  ⟨REQUESTED_EPOCH_PERF, .u16, .ro, false, 0, 0⟩,
  ⟨REQUESTED_EPOCH_BAND, .u16, .ro, false, 1, 0⟩,
  ⟨APPLIED_VECTOR_WAVEFORM, .domain, .ro, false, 0, 0⟩
  ]
/-- Rows APPLIED_VECTOR_KERNEL to BAND_SECONDS_B4. -/
def rows3 : List ObjRow := [
  ⟨APPLIED_VECTOR_KERNEL, .domain, .ro, false, 0, 0⟩,
  ⟨APPLIED_VECTOR_PERF, .domain, .ro, false, 0, 0⟩,
  ⟨APPLIED_VECTOR_BAND, .domain, .ro, false, 1, 0⟩,
  ⟨LOWEST_APPLIED_WAVEFORM, .u16, .ro, false, 0, 0⟩,
  ⟨LOWEST_APPLIED_KERNEL, .u16, .ro, false, 0, 0⟩,
  ⟨LOWEST_APPLIED_PERF, .u16, .ro, false, 0, 0⟩,
  ⟨LOWEST_APPLIED_BAND, .u16, .ro, false, 1, 0⟩,
  ⟨REG_CLOCK_SC, .u8, .rwb, true, 0, 0⟩,
  ⟨REG_CLOCK_DIE, .u8, .rwb, true, 1, 0⟩,
  ⟨SLEEP_REQUEST, .w72, .wo, true, 0, 0⟩,
  ⟨SLEEP_RESULT, .u32, .ro, false, 0, 0⟩,
  ⟨SLEEP_MAP, .domain, .ro, false, 1, 3⟩,
  ⟨FERRY_WAKE, .bool, .rw, true, 1, 0⟩,
  ⟨MGMT_PL, .u8, .ro, false, 1, 0⟩,
  ⟨HK_READINGS, .domain, .ro, false, 1, 32⟩,
  ⟨DIE_TEMP, .i16, .ro, false, 1, 0⟩,
  ⟨THERMAL_STATUS, .u32, .ro, false, 1, 0⟩,
  ⟨THERMAL_STATUS_CLEAR, .u32, .wo, false, 1, 0⟩,
  ⟨RISE_LIMIT, .u16, .rw, true, 0, 0⟩,
  ⟨SHUTDOWN_COMMAND, .u8, .wo, true, 0, 0⟩,
  ⟨SHUTDOWN_STATUS, .u32, .ro, false, 0, 0⟩,
  ⟨AUTO_RESUME, .bool, .rw, true, 0, 0⟩,
  ⟨POWER_ON_SECONDS, .u32, .ro, false, 0, 0⟩,
  ⟨POWER_CYCLES, .u32, .ro, false, 0, 0⟩,
  ⟨SHUTDOWNS, .u32, .ro, false, 0, 0⟩,
  ⟨BAND_SECONDS_B0, .u32, .ro, false, 1, 0⟩,
  ⟨BAND_SECONDS_B1, .u32, .ro, false, 1, 0⟩,
  ⟨BAND_SECONDS_B2, .u32, .ro, false, 1, 0⟩,
  ⟨BAND_SECONDS_B3, .u32, .ro, false, 1, 0⟩,
  ⟨BAND_SECONDS_B4, .u32, .ro, false, 1, 0⟩
  ]
/-- Rows THERMAL_CYCLES to IIR_SHADOW_2. -/
def rows4 : List ObjRow := [
  ⟨THERMAL_CYCLES, .u32, .ro, false, 1, 0⟩,
  ⟨FAULT_LOG, .domain, .ro, false, 0, 8192⟩,
  ⟨FAULT_LOG_TOTAL, .u32, .ro, false, 0, 0⟩,
  ⟨FAULT_LOG_LOST, .u32, .ro, false, 0, 0⟩,
  ⟨NV_CORRECTED, .u32, .ro, false, 1, 0⟩,
  ⟨RESTORE_UNIT, .u16, .wo, true, 0, 0⟩,
  ⟨GANGWAY_UNCORR, .u32, .ro, false, 1, 0⟩,
  ⟨RESET_CAUSE, .u32, .ro, false, 0, 0⟩,
  ⟨LAST_BOOT, .u16, .ro, false, 0, 0⟩,
  ⟨WATCHDOG_RESETS, .u32, .ro, false, 1, 0⟩,
  ⟨TRIM_COMMAND, .u8, .wo, true, 0, 0⟩,
  ⟨TRIM_STATUS, .u32, .ro, false, 1, 0⟩,
  ⟨TRIM_BOOT, .bool, .rw, true, 0, 0⟩,
  ⟨OUT_TRIM, .domain, .rw, true, 6, 6⟩,
  ⟨IN_TRIM, .domain, .rw, true, 8, 17⟩,
  ⟨BIAS_TRIM, .domain, .rw, true, 17, 1⟩,
  ⟨DIE_TRIM, .domain, .rw, true, 1, 64⟩,
  ⟨VERIFY_REQUEST, .w72, .wo, false, 0, 0⟩,
  ⟨VERIFY_RESULT, .u32, .ro, false, 1, 0⟩,
  ⟨OUT_MODE, .u8, .rwb, false, 6, 0⟩,
  ⟨FS_CURRENT, .u8, .rwb, false, 6, 0⟩,
  ⟨HEADROOM, .u8, .rwb, false, 6, 0⟩,
  ⟨OUT_STATUS, .u32, .ro, false, 6, 0⟩,
  ⟨OUT_STATUS_CLEAR, .u32, .wo, false, 6, 0⟩,
  ⟨SUM_SAT_COUNT, .u32, .ro, false, 6, 0⟩,
  ⟨PD_SAT_COUNT, .u32, .ro, false, 6, 0⟩,
  ⟨MUTED_PLAYS, .u32, .ro, false, 6, 0⟩,
  ⟨IIR_SHADOW_0, .domain, .rw, false, 6, 2⟩,
  ⟨IIR_SHADOW_1, .domain, .rw, false, 6, 2⟩,
  ⟨IIR_SHADOW_2, .domain, .rw, false, 6, 2⟩
  ]
/-- Rows IIR_SHADOW_3 to SEQ_ADDR. -/
def rows5 : List ObjRow := [
  ⟨IIR_SHADOW_3, .domain, .rw, false, 6, 2⟩,
  ⟨IIR_ACTIVE_0, .domain, .ro, false, 6, 2⟩,
  ⟨IIR_ACTIVE_1, .domain, .ro, false, 6, 2⟩,
  ⟨IIR_ACTIVE_2, .domain, .ro, false, 6, 2⟩,
  ⟨IIR_ACTIVE_3, .domain, .ro, false, 6, 2⟩,
  ⟨FIR_SHADOW, .domain, .rw, false, 6, 16⟩,
  ⟨FIR_ACTIVE, .domain, .ro, false, 6, 16⟩,
  ⟨PD_COMMIT, .bool, .rwb, false, 6, 0⟩,
  ⟨FIR_LONG, .bool, .rwb, false, 6, 0⟩,
  ⟨GEN_FREQ, .u64, .rw, false, 7, 0⟩,
  ⟨GEN_PHASE_OFFSET, .u32, .rw, false, 7, 0⟩,
  ⟨GEN_BANK_FOLLOW, .bool, .rw, false, 7, 0⟩,
  ⟨GEN_BANK_BASE, .u32, .ro, false, 7, 0⟩,
  ⟨GEN_STATUS, .u32, .ro, false, 7, 0⟩,
  ⟨GEN_STATUS_CLEAR, .u32, .wo, false, 7, 0⟩,
  ⟨LATE_COMMANDS, .u32, .ro, false, 7, 0⟩,
  ⟨REFUSED_COMMANDS, .u32, .ro, false, 7, 0⟩,
  ⟨ENV_DATA, .domain, .rw, false, 1, 1048576⟩,
  ⟨ENV_CORRECTED, .u32, .ro, false, 1, 0⟩,
  ⟨ENV_UNCORR_COUNT, .u32, .ro, false, 1, 0⟩,
  ⟨ENV_UNCORR_ADDR, .u32, .ro, false, 1, 0⟩,
  ⟨SEQ_COMMAND, .u8, .wo, false, 10, 0⟩,
  ⟨SEQ_START_ADDR, .u16, .rw, false, 10, 0⟩,
  ⟨SEQ_START_TIME, .u64, .rw, false, 10, 0⟩,
  ⟨SEQ_START_OFFSET, .u32, .rw, false, 10, 0⟩,
  ⟨SEQ_LOOKAHEAD, .u16, .rw, false, 10, 0⟩,
  ⟨SEQ_STOP_VECTOR, .u16, .rw, false, 10, 0⟩,
  ⟨SEQ_STATUS, .u32, .ro, false, 10, 0⟩,
  ⟨SEQ_STATUS_CLEAR, .u32, .wo, false, 10, 0⟩,
  ⟨SEQ_ADDR, .u16, .ro, false, 10, 0⟩
  ]
/-- Rows SEQ_TIMELINE to CS_UNCORR_ADDR. -/
def rows6 : List ObjRow := [
  ⟨SEQ_TIMELINE, .u64, .ro, false, 10, 0⟩,
  ⟨LATE_WORDS, .u32, .ro, false, 10, 0⟩,
  ⟨MSG_LOST_COUNT, .u32, .ro, false, 10, 0⟩,
  ⟨SEQ_COUNTER_0, .u32, .rw, false, 10, 0⟩,
  ⟨SEQ_COUNTER_1, .u32, .rw, false, 10, 0⟩,
  ⟨SEQ_COUNTER_2, .u32, .rw, false, 10, 0⟩,
  ⟨SEQ_COUNTER_3, .u32, .rw, false, 10, 0⟩,
  ⟨SEQ_COUNTER_4, .u32, .rw, false, 10, 0⟩,
  ⟨SEQ_COUNTER_5, .u32, .rw, false, 10, 0⟩,
  ⟨SEQ_COUNTER_6, .u32, .rw, false, 10, 0⟩,
  ⟨SEQ_COUNTER_7, .u32, .rw, false, 10, 0⟩,
  ⟨CNT_RELOAD_0, .u32, .rw, false, 10, 0⟩,
  ⟨CNT_RELOAD_1, .u32, .rw, false, 10, 0⟩,
  ⟨CNT_RELOAD_2, .u32, .rw, false, 10, 0⟩,
  ⟨CNT_RELOAD_3, .u32, .rw, false, 10, 0⟩,
  ⟨CNT_RELOAD_4, .u32, .rw, false, 10, 0⟩,
  ⟨CNT_RELOAD_5, .u32, .rw, false, 10, 0⟩,
  ⟨CNT_RELOAD_6, .u32, .rw, false, 10, 0⟩,
  ⟨CNT_RELOAD_7, .u32, .rw, false, 10, 0⟩,
  ⟨COND_MAP, .domain, .rw, false, 10, 32⟩,
  ⟨TRAP_ENABLE, .u8, .rw, false, 10, 0⟩,
  ⟨TRAP_VECTORS, .domain, .rw, false, 10, 2⟩,
  ⟨TRAP_FRAME, .domain, .ro, false, 10, 2⟩,
  ⟨TRAP_PENDING, .u8, .ro, false, 10, 0⟩,
  ⟨BREAK_ADDR, .u16, .rw, false, 10, 0⟩,
  ⟨TRAPS_LOST, .u32, .ro, false, 10, 0⟩,
  ⟨CS_DATA, .domain, .rw, false, 10, 32768⟩,
  ⟨CS_CORRECTED, .u32, .ro, false, 10, 0⟩,
  ⟨CS_UNCORR_COUNT, .u32, .ro, false, 10, 0⟩,
  ⟨CS_UNCORR_ADDR, .u16, .ro, false, 10, 0⟩
  ]
/-- Rows CS_SPARES_USED to DEMOD_STATE. -/
def rows7 : List ObjRow := [
  ⟨CS_SPARES_USED, .u8, .ro, false, 10, 0⟩,
  ⟨INPUT_MODE, .u8, .rwb, false, 8, 0⟩,
  ⟨INPUT_RANGE, .u8, .rwb, false, 8, 0⟩,
  ⟨INPUT_STATUS, .u32, .ro, false, 8, 0⟩,
  ⟨INPUT_STATUS_CLEAR, .u32, .wo, false, 8, 0⟩,
  ⟨CLIP_COUNT, .u32, .ro, false, 8, 0⟩,
  ⟨CAL_CONTROL, .u32, .rw, false, 8, 0⟩,
  ⟨CAL_STATUS, .u32, .ro, false, 8, 0⟩,
  ⟨CAL_STATUS_CLEAR, .u32, .wo, false, 8, 0⟩,
  ⟨SPUR_OFFSET, .i16, .ro, false, 8, 0⟩,
  ⟨SPUR_IMAGE, .i16, .ro, false, 8, 0⟩,
  ⟨SPUR_AT_RETIRE, .i16, .ro, false, 8, 0⟩,
  ⟨CAL_STEPS, .u32, .ro, false, 8, 0⟩,
  ⟨CAL_FAILURES, .u32, .ro, false, 8, 0⟩,
  ⟨SKEW_HOLDS, .u32, .ro, false, 8, 0⟩,
  ⟨SLICE_RESTORE, .u8, .wo, true, 8, 0⟩,
  ⟨WIRE_COMMAND, .u8, .wo, false, 8, 0⟩,
  ⟨WIRE_CONFIG, .u32, .rw, false, 8, 0⟩,
  ⟨WIRE_EXPECTED, .u32, .rw, false, 8, 0⟩,
  ⟨WIRE_RESULT, .u32, .ro, false, 8, 0⟩,
  ⟨WIRE_RESISTANCE, .u32, .ro, false, 8, 0⟩,
  ⟨WIRE_RESULT_TIME, .u64, .ro, false, 8, 0⟩,
  ⟨DEMOD_FREQ, .u64, .rw, false, 9, 0⟩,
  ⟨DEMOD_PHASE, .u32, .rw, false, 9, 0⟩,
  ⟨DEMOD_CONTROL, .u32, .rw, false, 9, 0⟩,
  ⟨DEMOD_STATUS, .u32, .ro, false, 9, 0⟩,
  ⟨DEMOD_STATUS_CLEAR, .u32, .wo, false, 9, 0⟩,
  ⟨DEMOD_RESULT, .w72, .ro, false, 9, 0⟩,
  ⟨DEMOD_RESULT_TIME, .u64, .ro, false, 9, 0⟩,
  ⟨DEMOD_STATE, .u8, .ro, false, 9, 0⟩
  ]
/-- Rows READ_COUNT to DSP_START_ADDR. -/
def rows8 : List ObjRow := [
  ⟨READ_COUNT, .u32, .ro, false, 9, 0⟩,
  ⟨REFUSED_READS, .u32, .ro, false, 9, 0⟩,
  ⟨TRUNCATED_READS, .u32, .ro, false, 9, 0⟩,
  ⟨COLLIDED_READS, .u32, .ro, false, 9, 0⟩,
  ⟨DEMOD_SET_0, .domain, .rw, false, 9, 10⟩,
  ⟨DEMOD_SET_1, .domain, .rw, false, 9, 10⟩,
  ⟨WEIGHT_DATA, .domain, .rw, false, 9, 2048⟩,
  ⟨WEIGHT_CORRECTED, .u32, .ro, false, 1, 0⟩,
  ⟨WEIGHT_UNCORR_COUNT, .u32, .ro, false, 1, 0⟩,
  ⟨WEIGHT_UNCORR_ADDR, .u32, .ro, false, 1, 0⟩,
  ⟨SLOT_STATE, .u32, .ro, false, 11, 0⟩,
  ⟨SLOT_CLEAR, .bool, .wo, false, 11, 0⟩,
  ⟨SLOT_SNAPSHOT, .domain, .ro, false, 1, 512⟩,
  ⟨UPDATES_SENT, .u32, .ro, false, 1, 0⟩,
  ⟨UPDATES_RECEIVED, .u32, .ro, false, 1, 0⟩,
  ⟨UPDATES_DISCARDED, .u32, .ro, false, 1, 0⟩,
  ⟨DECISION_DROPPED, .u32, .ro, false, 1, 0⟩,
  ⟨FERRY_CONGESTED, .u32, .ro, false, 1, 0⟩,
  ⟨FORWARD_USED, .u16, .ro, false, 1, 0⟩,
  ⟨GANGWAY_CONGESTED_0, .u32, .ro, false, 1, 0⟩,
  ⟨GANGWAY_CONGESTED_1, .u32, .ro, false, 1, 0⟩,
  ⟨GANGWAY_CONGESTED_2, .u32, .ro, false, 1, 0⟩,
  ⟨SUB_CONFIG, .u32, .rw, false, 12, 0⟩,
  ⟨SUB_STATUS, .u32, .ro, false, 12, 0⟩,
  ⟨SUB_STATUS_CLEAR, .u32, .wo, false, 12, 0⟩,
  ⟨SUB_LATENCY, .u32, .ro, false, 12, 0⟩,
  ⟨DECISION_TABLE, .domain, .rw, false, 10, 64⟩,
  ⟨TABLE_MAP, .u64, .rw, false, 10, 0⟩,
  ⟨DSP_COMMAND, .u8, .wo, false, 13, 0⟩,
  ⟨DSP_START_ADDR, .u16, .rw, false, 13, 0⟩
  ]
/-- Rows DSP_STATUS to MAJ_LATE. -/
def rows9 : List ObjRow := [
  ⟨DSP_STATUS, .u32, .ro, false, 13, 0⟩,
  ⟨DSP_STATUS_CLEAR, .u32, .wo, false, 13, 0⟩,
  ⟨DSP_EV_OVERRUN, .u16, .ro, false, 13, 0⟩,
  ⟨DSP_EV_OVERRUN_CLEAR, .u16, .wo, false, 13, 0⟩,
  ⟨MBOX_LOST_COUNT, .u32, .ro, false, 13, 0⟩,
  ⟨DSP_PROGRAM, .domain, .rw, false, 13, 4096⟩,
  ⟨DSP_DATA, .domain, .rw, false, 13, 8192⟩,
  ⟨DSP_VECTORS, .domain, .rw, false, 13, 4⟩,
  ⟨DSP_REGS, .domain, .rw, false, 13, 16⟩,
  ⟨DSP_MEM_CORRECTED, .u32, .ro, false, 13, 0⟩,
  ⟨DSP_MEM_UNCORR_COUNT, .u32, .ro, false, 13, 0⟩,
  ⟨DSP_MEM_UNCORR_ADDR, .u32, .ro, false, 13, 0⟩,
  ⟨TONE_CONFIG, .u64, .rwb, false, 14, 0⟩,
  ⟨TONE_DEADBAND, .u64, .rw, false, 14, 0⟩,
  ⟨TONE_KEEPALIVE, .u16, .rw, false, 14, 0⟩,
  ⟨TONE_STATUS, .u32, .ro, false, 14, 0⟩,
  ⟨TONE_STATUS_CLEAR, .u32, .wo, false, 14, 0⟩,
  ⟨TONE_LATEST, .w72, .ro, false, 14, 0⟩,
  ⟨BIN_PHASE, .u8, .ro, false, 1, 0⟩,
  ⟨TRIG_CONFIG, .domain, .rw, false, 14, 3⟩,
  ⟨TRIG_COMMAND, .u8, .wo, false, 14, 0⟩,
  ⟨TRIG_STATUS, .u32, .ro, false, 14, 0⟩,
  ⟨TRIG_RECORDS, .u32, .ro, false, 14, 0⟩,
  ⟨TRIG_SUPPRESSED, .u32, .ro, false, 14, 0⟩,
  ⟨LIVE_TIME, .u64, .ro, false, 14, 0⟩,
  ⟨MAJ_CONFIG, .u64, .rw, false, 15, 0⟩,
  ⟨MAJ_GROUP, .domain, .rw, false, 15, 5⟩,
  ⟨MAJ_LAMBDA, .u32, .ro, false, 15, 0⟩,
  ⟨MAJ_FIRES, .u32, .ro, false, 15, 0⟩,
  ⟨MAJ_LATE, .u32, .ro, false, 15, 0⟩
  ]
/-- Rows ACQ_COMMAND to TICK_START_0. -/
def rows10 : List ObjRow := [
  ⟨ACQ_COMMAND, .u8, .wo, false, 1, 0⟩,
  ⟨ACQ_RESUME, .u32, .rw, false, 1, 0⟩,
  ⟨ACQ_FILL, .u32, .ro, false, 1, 0⟩,
  ⟨ACQ_HIGH_WATER, .u32, .ro, false, 1, 0⟩,
  ⟨ACQ_DROPPED_RECORDS, .u32, .ro, false, 1, 0⟩,
  ⟨ACQ_DROPPED_WORDS, .u64, .ro, false, 1, 0⟩,
  ⟨ACQ_STATUS, .u32, .ro, false, 1, 0⟩,
  ⟨ACQ_STATUS_CLEAR, .u32, .wo, false, 1, 0⟩,
  ⟨RAW_CONFIG, .u32, .rw, false, 1, 0⟩,
  ⟨RAW_STATUS, .u32, .ro, false, 1, 0⟩,
  ⟨RAW_IGNORED, .u32, .ro, false, 1, 0⟩,
  ⟨CHAN_CONFIG, .u32, .rw, false, 16, 0⟩,
  ⟨CHAN_STATUS, .u32, .ro, false, 16, 0⟩,
  ⟨CHAN_STATUS_CLEAR, .u32, .wo, false, 16, 0⟩,
  ⟨CHAN_OWNER, .u8, .ro, false, 16, 0⟩,
  ⟨CHAN_RELEASE, .bool, .wo, false, 16, 0⟩,
  ⟨CHAN_FIRE, .w72, .wo, false, 16, 0⟩,
  ⟨CHAN_FIRE_CANCEL, .bool, .wo, false, 16, 0⟩,
  ⟨CHAN_EVENTS, .u32, .ro, false, 16, 0⟩,
  ⟨CHAN_DROPPED, .u32, .ro, false, 16, 0⟩,
  ⟨WIRING, .domain, .ro, false, 1, 128⟩,
  ⟨TIMED_FIRES_PENDING, .u8, .ro, false, 1, 0⟩,
  ⟨FIRE_REFUSED, .u32, .ro, false, 1, 0⟩,
  ⟨LATE_FIRES, .u32, .ro, false, 1, 0⟩,
  ⟨BRIDGE_DROPPED, .u32, .ro, false, 1, 0⟩,
  ⟨TICK_PERIOD_0, .u32, .rw, false, 1, 0⟩,
  ⟨TICK_PERIOD_1, .u32, .rw, false, 1, 0⟩,
  ⟨TICK_PERIOD_2, .u32, .rw, false, 1, 0⟩,
  ⟨TICK_PERIOD_3, .u32, .rw, false, 1, 0⟩,
  ⟨TICK_START_0, .u64, .rw, false, 1, 0⟩
  ]
/-- Rows TICK_START_1 to SNS_REF_TRIM. -/
def rows11 : List ObjRow := [
  ⟨TICK_START_1, .u64, .rw, false, 1, 0⟩,
  ⟨TICK_START_2, .u64, .rw, false, 1, 0⟩,
  ⟨TICK_START_3, .u64, .rw, false, 1, 0⟩,
  ⟨ALERT_EVENT, .bool, .ro, false, 1, 0⟩,
  ⟨ALERT_CLEAR, .bool, .wo, false, 1, 0⟩,
  ⟨BIAS_CONFIG, .u32, .rwb, false, 17, 0⟩,
  ⟨BIAS_DIVIDER, .u32, .rwb, false, 17, 0⟩,
  ⟨BIAS_TICK_ORIGIN, .u64, .rw, false, 17, 0⟩,
  ⟨BIAS_COMMAND, .u8, .wo, false, 17, 0⟩,
  ⟨BIAS_ENQUEUE, .domain, .wo, false, 17, 0⟩,
  ⟨BIAS_STATUS, .u32, .ro, false, 17, 0⟩,
  ⟨BIAS_STATUS_CLEAR, .u32, .wo, false, 17, 0⟩,
  ⟨BIAS_CODE, .u32, .ro, false, 17, 0⟩,
  ⟨UNDERRUN_TICKS, .u32, .ro, false, 17, 0⟩,
  ⟨BIAS_REFUSED, .u32, .ro, false, 17, 0⟩,
  ⟨SAFE_CODE, .u32, .rw, true, 17, 0⟩,
  ⟨SAFE_SLEW, .u32, .rw, true, 17, 0⟩,
  ⟨SAFE_WATCH, .u16, .rw, true, 17, 0⟩,
  ⟨SNS_CONFIG, .u64, .rwb, false, 18, 0⟩,
  ⟨SNS_GAIN, .u8, .rwb, false, 18, 0⟩,
  ⟨SNS_COMMAND, .u8, .wo, false, 18, 0⟩,
  ⟨SNS_STATUS, .u32, .ro, false, 18, 0⟩,
  ⟨SNS_STATUS_CLEAR, .u32, .wo, false, 18, 0⟩,
  ⟨SNS_RESULT, .domain, .ro, false, 18, 3⟩,
  ⟨SNS_BURSTS, .u32, .ro, false, 18, 0⟩,
  ⟨SNS_CONV_OVERRANGE, .u32, .ro, false, 18, 0⟩,
  ⟨SNS_VOID_CONV, .u32, .ro, false, 18, 0⟩,
  ⟨SNS_REF_TRIM, .domain, .rw, true, 18, 1⟩
  ]

/-- Every definition of the manual's object tables, in ascending order, without NUM_SUB, the type descriptors and the
vendor test area. The sizes of the applied-epoch vectors and of the directory depend on the member and read 0 here. -/
def rows : List ObjRow :=
  rows0 ++ rows1 ++ rows2 ++ rows3 ++ rows4 ++ rows5 ++ rows6 ++ rows7 ++ rows8 ++ rows9 ++ rows10 ++ rows11

/-- The row of an object, if the manual's tables define it. -/
def find (id : Nat) : Option ObjRow := rows.find? (fun r => r.id == id)

end Obj

end Sys2Proof
end

