-- ==== Sys2Proof/Machine/Tab.lean ====
section
/-!
DEFINITION. Sparse tables in one canonical form, and short histories of a value. A table is a list of key and value
pairs with keys strictly rising and no pair that holds the table's default, so that equal tables are equal data. The
native words of the spec's memories (R8, R510), the instances of its objects (R13) and its numbered units (R4) are all
held in such tables.
-/

namespace Sys2Proof.Machine

/-- A sparse table: key and value, keys strictly rising. -/
abbrev Tab (α : Type) := List (Nat × α)

/-- The value at a key; an unlisted key holds the table's default. -/
def look {α : Type} (d : α) : Tab α → Nat → α
  | [], _ => d
  | (k, v) :: t, i => if k = i then v else look d t i

/-- The pairs with other keys. -/
def dropKey {α : Type} (i : Nat) : Tab α → Tab α
  | [] => []
  | (k, v) :: t => if k = i then dropKey i t else (k, v) :: dropKey i t

/-- A pair put before the first larger key. -/
def insKey {α : Type} (i : Nat) (v : α) : Tab α → Tab α
  | [] => [(i, v)]
  | (k, w) :: t => if i < k then (i, v) :: (k, w) :: t else (k, w) :: insKey i v t

/-- The value at one key replaced; a default value is not listed. -/
def put {α : Type} [DecidableEq α] (d : α) (t : Tab α) (i : Nat) (v : α) : Tab α :=
  if v = d then dropKey i t else insKey i v (dropKey i t)

/-- Canonical form: every key of the table is at least the bound, keys rise strictly, no value is the default. -/
def Tab.wfFrom {α : Type} [DecidableEq α] (d : α) : Nat → Tab α → Bool
  | _, [] => true
  | b, (k, v) :: t => decide (b ≤ k) && decide (v ≠ d) && Tab.wfFrom d (k + 1) t

/-- The canonical form of a table. -/
def Tab.wf {α : Type} [DecidableEq α] (d : α) (t : Tab α) : Bool := Tab.wfFrom d 0 t

/-- The values of the keys a to a + n − 1, in order. -/
def lookRange {α : Type} (d : α) (t : Tab α) (a : Nat) : Nat → List α
  | 0 => []
  | n + 1 => look d t a :: lookRange d t (a + 1) n

/-- Values stored at consecutive keys. -/
def putRange {α : Type} [DecidableEq α] (d : α) (t : Tab α) (a : Nat) : List α → Tab α
  | [] => t
  | v :: vs => putRange d (put d t a v) (a + 1) vs

/-- A short history of one value: the cycle from which each value held, newest first. -/
abbrev Trail (α : Type) := List (Nat × α)

/-- The value that an observer sees who sees changes up to cycle `c`. -/
def seen {α : Type} (d : α) : Trail α → Nat → α
  | [], _ => d
  | (a, v) :: t, c => if a ≤ c then v else seen d t c

/-- The newest value. -/
def newest {α : Type} (d : α) : Trail α → α
  | [] => d
  | (_, v) :: _ => v

/-- Entries newer than cycle `c`, and the newest of the others: older ones are seen by nobody. -/
def trimTrail {α : Type} (c : Nat) : Trail α → Trail α
  | [] => []
  | (a, v) :: t => if a ≤ c then [(a, v)] else (a, v) :: trimTrail c t

/-- A value that holds from cycle `at`; entries that no observer `keep` cycles behind can see are dropped. -/
def pushTrail {α : Type} (keep cyc : Nat) (v : α) (t : Trail α) : Trail α :=
  (cyc, v) :: trimTrail (cyc - keep) t

/-- The first element with a property, and the list without it. -/
def takeFirst {α : Type} (p : α → Bool) : List α → Option (α × List α)
  | [] => none
  | x :: xs =>
    if p x then some (x, xs)
    else
      match takeFirst p xs with
      | some (y, ys) => some (y, x :: ys)
      | none => none

end Sys2Proof.Machine
end

