-- ==== Sys2Proof/Machine/State.lean ====
section
/-!
DEFINITION. The state of the device as plain data, the state after reset, and the reasons a command can stop.

Objects that are not DOMAIN objects are held in `regs`, by object and selector (R13); DOMAIN objects in `doms`, by
object, selector and word (R510). An instance that is not listed holds the object's default (R505). Everything that the
manual gives the machine beside its objects is held in the structures of this file. A field's reset value is its
default here; where the manual gives none, log 8 names it.
-/

namespace Sys2Proof.Machine

/-- Why the machine stops with a fault. -/
inductive Fault where
  /-- A command or a loaded program that R18 calls a host error: its result is unpredictable. Raised by the meanings
  where the spec calls what they are asked to do a host error and gives no effect. Safe. -/
  | hostError
  deriving DecidableEq, Repr

/-- Why a command has no meaning. -/
inductive Refusal where
  /-- The command has not been modelled. Safe. -/
  | notModelled (mnemonic : String)
  deriving DecidableEq, Repr

/-- How device time was last stepped (R68). -/
inductive StepKind where
  | none | host | synced | tattoo
  deriving DecidableEq, Repr

/-- Device time, its clocks and the SYNC pins (R56–R65, R82–R84). -/
structure Clock where
  /-- DEVICE_TIME (R63), reset 0. -/
  now : Time := 0
  /-- The sample phase (R63), reset 0. -/
  phase : BitVec 4 := 0
  /-- Cycles that have passed since reset, whatever steps device time makes: the model's own count (log 6), reset 0. -/
  cyc : Nat := 0
  /-- Cycles in which the device has been powered, for the windows of R553 that outlast a power cycle (R556): the model's own
  count, reset 0. -/
  lived : Nat := 0
  /-- Device time counts: Gangway training has completed (R63), reset false. -/
  counting : Bool := false
  /-- The cycle of the latest root PLL lock, from which REFCLK edges are counted (R59), reset 0. -/
  lockCyc : Nat := 0
  /-- REFCLK is present (R60, R84), reset true. -/
  refclk : Bool := true
  /-- The cycle from which REFCLK has been present again (R84), reset none. -/
  refBack : Option Nat := none
  /-- A root PLL is in holdover (R84), reset false. -/
  holdover : Bool := false
  /-- The always-on domain runs from REFCLK (R60), reset true. -/
  aonOnRef : Bool := true
  /-- The latest step of device time since power-up (R68), reset none. -/
  lastStep : StepKind := .none
  /-- The cycle of the latest step (R70), reset none. -/
  stepCyc : Option Nat := none
  /-- Device time before the latest step (R70), reset 0. -/
  stepFrom : Time := 0
  /-- The cycle at which SYNC_LOAD is to be loaded (R82), reset none. -/
  syncLoadAt : Option Nat := none
  /-- The cycle in which the SYNC_IN producer is to be raised (R353), reset none. -/
  syncInAt : Option Nat := none
  /-- The next scheduled SYNC_OUT pulse (R83), reset none. -/
  syncOutNext : Option Time := none
  /-- The SYNC_OUT pin is high while the cycle count is below this (R83), reset 0. -/
  syncOutUntil : Nat := 0
  deriving DecidableEq, Repr

/-- What a port keeps of its markers (R73, R74). -/
structure LinkAvg where
  /-- The neighbour's device number, from its HELLO (R74, R436), reset none. -/
  partner : Option Nat := none
  /-- Markers accumulated in the running average (R73), reset 0. -/
  count : Nat := 0
  /-- Sum of round trips, in steps (R73), reset 0. -/
  sumTrip : Nat := 0
  /-- Sum of twice the offsets of R75, in steps (R73), reset 0. -/
  sumOff2 : Int := 0
  /-- Masters heard on the port: number, hop count and cycle of the latest marker (R74, R81), reset none. -/
  heard : List (Nat × Nat × Nat) := []
  /-- The master whose markers the running average takes (R73, R81), reset none. -/
  avgOf : Option Nat := none
  /-- The latest marker sent on the port (R72), reset none. -/
  sent : Option Marker := none
  /-- A marker or a PROBE waits for the next ordered-set boundary (R432), reset false. -/
  markerDue : Bool := false
  probeDue : Bool := false
  /-- An echo waits (R73, R433): the SEND_CYCLE it answers and the cycle of its arrival, reset none. -/
  echoDue : Option (Nat × Nat) := none
  /-- The latest round trip measured by this device on the port, to be returned in its next marker (R73), reset none. -/
  trip : Option Nat := none
  deriving DecidableEq, Repr

/-- How far a follower has come (R68, R75, R80). -/
inductive Align where
  | never | aligning | aligned | unverified
  deriving DecidableEq, Repr

/-- The device's Tattoo state (R72–R81). -/
structure Tattoo where
  /-- Reset never (R68). -/
  align : Align := .never
  /-- The follower was once aligned (R80), reset false. -/
  once : Bool := false
  /-- ALIGN_PENDING: a step is held (R70, R91), reset false. -/
  pending : Bool := false
  /-- MARKER_LOSS has been found and markers have not yet been averaged again (R80), reset false. -/
  lost : Bool := false
  /-- The cycle of the latest MARKER_LOSS (R80), reset 0. -/
  lossAt : Nat := 0
  /-- A configured MASTER that follows a lower-numbered master (R81), reset false. -/
  demoted : Bool := false
  /-- The cycle in which Tattoo began to run as a follower (R80), reset none. -/
  began : Option Nat := none
  /-- The cycle of the latest marker from the followed master (R80), reset 0. -/
  heardAt : Nat := 0
  /-- TATTOO_MASTER, TATTOO_HOPS and TATTOO_PORT of a follower (R90), reset none (read 0xFF). -/
  follow : Option (Nat × Nat × Nat) := none
  /-- The device's DLY in steps (R75), reset 1,024. -/
  dly : Nat := 1024
  /-- The cycle of the latest marker sent (R72), reset none. -/
  sentAt : Option Nat := none
  deriving DecidableEq, Repr

/-- CAL_STATE (R85). -/
inductive CalState where
  | unset | host | acquiring | locked | holdover
  deriving DecidableEq, Repr

/-- ANCHOR (R89, R93). -/
structure Anchor where
  valid : Bool := false
  sec : Nat := 0
  cycle : Time := 0
  frac : Nat := 0
  rate : Int := 0
  deriving DecidableEq, Repr

/-- The calendar and its anchor (R85–R89). -/
structure Calendar where
  /-- CAL_STATE, reset UNSET (R85). -/
  st : CalState := .unset
  /-- TAI seconds, reset 0 (R85). -/
  sec : Nat := 0
  /-- Fraction of a second in units of 2^−64 s (R85), reset 0. -/
  frac : Nat := 0
  /-- What an increment of 0.8 ns × (1 + RATE × 10^−12) leaves below that resolution, in units of 5^−22 of it, carried to
  the next cycle (R86; log 59), reset 0. -/
  below : Nat := 0
  /-- Rate deviation from 0.8 ns per cycle in units of 10^−12 (R93), reset 0. -/
  rate : Int := 0
  /-- A whole second began and the anchor has not yet been rewritten for it: the device time at which it began and the
  further 1/256 cycles (R89), reset none. -/
  due : Option (Time × Nat) := none
  anchor : Anchor := {}
  deriving DecidableEq, Repr

/-- The PTP slave (R87, R88). -/
structure Ptp where
  /-- Foreign masters heard, with the cycle of the latest Announce, reset none. -/
  foreign : List (Announce × Nat) := []
  /-- The chosen master, reset none. -/
  master : Option Announce := none
  /-- A two-step Sync that waits for its Follow_Up: sequence number and receipt time in picoseconds, reset none. -/
  sync : Option (Nat × Int) := none
  /-- The latest master-to-slave difference in picoseconds, reset none. -/
  ms : Option Int := none
  /-- The outstanding Delay_Req: sequence number and send time in picoseconds, reset none. -/
  req : Option (Nat × Int) := none
  /-- The next Delay_Req sequence number, reset 0. -/
  reqSeq : Nat := 0
  /-- A mean path delay has been measured, reset false. -/
  havePath : Bool := false
  /-- Consecutive Sync messages within 1 µs (R85), reset 0. -/
  good : Nat := 0
  /-- The calendar has locked once (R88), reset false. -/
  lockedOnce : Bool := false
  deriving DecidableEq, Repr

/-- An epoch request (R54). -/
structure EpochReq where
  cls : Nat
  epoch : Epoch
  mask : BitVec 8
  setting : BitVec 32
  deriving DecidableEq, Repr

/-- A die's record of one epoch class (R46) and the requests its units have received or are about to receive, newest
first, with the cycle from which the units have them (R47). -/
structure EpochRec where
  last : Epoch := 0
  reqs : List (Nat × EpochReq) := []
  deriving DecidableEq, Repr

/-- What one unit has published of one epoch class (R49, R52): its applied epochs, newest first, each with the cycle of
publication, and the newest request that a reset dropped (R579). -/
structure Applied where
  pub : Trail Epoch := []
  dropped : Option Epoch := none
  /-- The SETTING it last applied (R48): the level of class 2, the band of class 3. -/
  setting : BitVec 32 := 0
  deriving DecidableEq, Repr

/-- One direction of a Gangway link, keyed by die × 4 + link (R20, R24, R25, R555). -/
structure GLink where
  /-- The link carries traffic, reset false: it is trained during power-up (R572). -/
  up : Bool := false
  /-- Wire groups moved to spares, kept in the nonvolatile store (R557), reset none. -/
  spared : List Nat := []
  /-- The link has failed or could not be trained (R25, R574), reset false. -/
  failed : Bool := false
  deriving DecidableEq, Repr

/-- A command of a tone generator (R97, R99–R106). -/
inductive GenOp where
  | play (addr : BitVec 20) (len : Nat) (amp : BitVec 16) (fine : BitVec 4) (hold preset : Bool)
  | freq (w : BitVec 48)
  | phase (v : BitVec 32) (set : Bool)
  deriving DecidableEq, Repr

/-- A queued command: its effective stamp, its source and its order of issue (R29, R30); the cycle of its arrival, and
whether it was late and was the first to set LATE_CMD (R32, R108). -/
structure GenCmd where
  op : GenOp
  stamp : Time
  die : Nat
  seq : Nat
  ord : Nat
  at_ : Nat := 0
  late : Bool := false
  first : Bool := false
  deriving DecidableEq, Repr

/-- An issued command on its way to the lands (R107): the cycle of its effect, the words of its envelope that a single bit
and that more fail (R122), the bank latched for it, and the envelope words read so far. -/
structure PipeFx where
  due : Nat
  op : GenOp
  fixed : List Nat := []
  bad : List Nat := []
  bank : Option (BitVec 20) := none
  got : Nat := 0
  words : List Word := []
  deriving DecidableEq, Repr

/-- A pulse at the lands (R99–R105): the cycle of its first envelope sample, its parameters, the bank latched for it,
how many of its words have been read, how many have played, and the words from the one that plays now on. -/
structure Pulse where
  start : Nat
  addr : BitVec 20
  len : Nat
  amp : BitVec 16
  fine : BitVec 4
  hold : Bool
  preset : Bool
  bank : BitVec 20
  fixed : List Nat
  bad : List Nat
  got : Nat
  gone : Nat
  words : List Word
  deriving DecidableEq, Repr

/-- A tone generator (R94–R109). -/
structure Gen where
  /-- FREQ (R95), GEN_FREQ, reset 0. -/
  freq : BitVec 48 := 0
  /-- ACC (R96), reset 0. -/
  acc : BitVec 48 := 0
  /-- PHASE_OFFSET (R97), GEN_PHASE_OFFSET, reset 0. -/
  pofs : BitVec 32 := 0
  /-- BANK_BASE (R121), GEN_BANK_BASE, reset 0. -/
  bank : BitVec 20 := 0
  /-- The command queue in order of effect (R29), reset empty. -/
  queue : List GenCmd := []
  /-- Commands issued and not yet in effect (R107), reset empty. -/
  pipe : List PipeFx := []
  /-- The pulse that plays or is held (R103), reset none. -/
  pulse : Option Pulse := none
  /-- Sequencers owed a free-entry notice of this queue (R32), reset none. -/
  owed : List (Nat × Nat) := []
  /-- The latest inputs of the interpolator, AMP x envelope, newest first (R102, R107), reset none. -/
  recent : List (Int × Int) := []
  /-- FINE of the latest pulse to take effect (R106), reset 0. -/
  fine : BitVec 4 := 0
  /-- The sample in the mixer (R94), reset 0. -/
  out : Int × Int := (0, 0)
  deriving DecidableEq, Repr

/-- One component of an IIR stage (R111): x[n − 1], and y[n − 1] in 40 bits. -/
structure IirState where
  x1 : BitVec 18 := 0
  y1 : BitVec 40 := 0
  deriving DecidableEq, Repr

/-- An RF output (R110–R119). -/
structure RfOut where
  /-- Applied OUT_MODE (R115), reset 0. -/
  mode : Nat := 0
  /-- Applied FS_CURRENT (R118), reset 5. -/
  current : Nat := 5
  /-- Applied HEADROOM (R110), reset 0. -/
  headroom : Nat := 0
  /-- Applied FIR_LONG (R114), reset false. -/
  firLong : Bool := false
  /-- The output stage settles while the cycle count is below this (R118), reset 0. -/
  settle : Nat := 0
  /-- A settling period runs (R118), reset false. -/
  settling : Bool := false
  /-- A written OUT_MODE, FS_CURRENT, HEADROOM or FIR_LONG waits for its boundary (R118, R125), reset false. -/
  written : Bool := false
  /-- PD_PENDING (R113), reset false. -/
  commit : Bool := false
  /-- OUTPUT_DELAY: the DLY in force with its skew (R75, R79), reset 1,024. -/
  dly : Nat := 1024
  /-- The states of the four IIR stages, for I and then for Q (R111), reset 0. -/
  iirI : List IirState := []
  iirQ : List IirState := []
  /-- Inputs of the FIR, newest first (R112), reset none. -/
  fir : List (Int × Int) := []
  /-- The latest codes of the chain, newest first, for the 2 cycles that FIR_LONG adds (R112, R114), reset none. -/
  codes : List Int := []
  /-- The 14-bit code at the lands (R112), reset 0 (mid-scale). -/
  code : Int := 0
  /-- The instant of that code at the lands, in steps of 1/64 DAC sample since power-up, DLY included (R107), reset 0. -/
  at_ : Int := 0
  /-- Trims that stay in force until the boundary after a write or a load of OUT_TRIM: the band's word and word 5 (R565),
  reset none. -/
  heldTrim : Option (Word × Word) := none
  /-- A summer saturation has been counted in this cycle (R110), reset false. -/
  sumSat : Bool := false
  /-- A verify drives mid-scale (R568), reset false. -/
  verify : Bool := false
  deriving DecidableEq, Repr

/-- Whether a sequencer runs (R165). -/
inductive SeqRun where
  | halted | armed | running
  deriving DecidableEq, Repr

/-- How far the current word has come (R146): not begun, counter operation done, action done, condition sampled. -/
inductive WordPhase where
  | ready | counted | acted | sampled
  deriving DecidableEq, Repr

/-- The trap frame (R170). -/
structure Frame where
  cause : Nat := 0
  resumable : Bool := false
  waiting : Bool := false
  addr : Nat := 0
  wait : Nat := 0
  cond : Nat := 0
  time : Nat := 0
  latch : Nat := 0
  sp : Nat := 0
  t : Time := 0
  /-- REMOTE_FAULT has been raised in the interrupted wait (R263). -/
  faulted : Bool := false
  deriving DecidableEq, Repr

/-- An action that takes effect at fabric cycle T (R135, R136). -/
inductive StampAct where
  | mark (tag : BitVec 32) (record signal : Bool)
  | event (p : Nat)
  | post (slot : Nat) (value : BitVec 8)
  | acq (op kind first last : Nat)
  | bias (output : Nat) (code : BitVec 20) (op : Nat)
  | msg (engine : Nat) (data : BitVec 32)
  | epoch (r : EpochReq)
  deriving DecidableEq, Repr

/-- An entry of the stamped-action buffer (R135, R136): the device time at which it takes effect, its stamp T, and what it
does. -/
structure Stamped where
  due : Nat
  stamp : Nat
  act : StampAct
  deriving DecidableEq, Repr

/-- A microword (R131). -/
abbrev MW := BitVec 144

/-- A sequencer (R130–R183), without its counters, reloads, maps and store, which are objects. -/
structure Seq where
  /-- Reset halted (R575). -/
  run : SeqRun := .halted
  phase : WordPhase := .ready
  /-- The address of the current word, and of the last word executed (R178), reset 0. -/
  addr : Nat := 0
  last : Nat := 0
  /-- T, SEQ_TIMELINE (R132), reset 0. -/
  t : Time := 0
  /-- R, the cycle in which the word becomes ready (R141), reset 0. -/
  ready : Nat := 0
  /-- E, the word's execution cycle (R133), reset 0. -/
  exec : Nat := 0
  /-- The microword fetched (R131), reset 0. -/
  mw : MW := 0
  /-- The word resumes after a BREAKPOINT frame (R171), reset false. -/
  skipBreak : Bool := false
  /-- The word resumes unexecuted after TRET (R171), reset false. -/
  resumed : Bool := false
  /-- The sample cycle, the sampled COND and the sampled index (R138), reset 0. -/
  sampleCyc : Nat := 0
  cond : Bool := false
  index : Nat := 0
  /-- REMOTE_FAULT has been raised in this wait (R263), reset false. -/
  waitFault : Bool := false
  /-- T for the successor of a condition wait (R137), reset 0. -/
  succT : Time := 0
  /-- The counter-select latch (R145), reset 0. -/
  latch : Nat := 0
  /-- The eight cells of the return stack, cell 0 first, and the stack pointer (R144, R171), reset 0. -/
  cells : List Nat := []
  sp : Nat := 0
  frame : Frame := {}
  /-- IN_HANDLER (R169), reset false. -/
  inHandler : Bool := false
  /-- The cycle in which the latest trap was taken (R169), reset 0. -/
  takenAt : Nat := 0
  /-- TRAP_PENDING (R172), reset 0. -/
  pend : BitVec 8 := 0
  /-- Causes raised while a word is half done, taken when its action is done (R169), reset 0. -/
  raised : BitVec 8 := 0
  /-- Cycles in which REMOTE_FAULT is to be raised (R168), reset none. -/
  faultAt : List Nat := []
  /-- Events held at EVC0–EVC3 (R150, R166), reset 0. -/
  evc : BitVec 4 := 0
  /-- The inbound mailbox, head first (R150), reset empty. -/
  mbox : List (BitVec 8) := []
  /-- The generation count that each condition-map entry captured, from the cycle in which samples see it (R150, R151),
  reset 0. -/
  fresh : Tab (Trail Nat) := []
  /-- TIMEDOUT, QFULL, QFREE (R137, R32), reset false. -/
  timedOut : Bool := false
  qfull : Bool := false
  qfree : Bool := false
  /-- Die and generator of the latest refusal (R32), reset none. -/
  refusedBy : Option (Nat × Nat) := none
  /-- The stamped-action buffer (R136), the entries due first in front and those due together in stamp order, reset
  empty. -/
  buf : List Stamped := []
  /-- Sources read as 1 in the latest sample, consumed in the cycle after it (R141, R150): that cycle, and each source by
  the number of its condition and its entry; reset none. -/
  eaten : Option (Nat × List (Nat × Nat)) := none
  /-- Counters written by the host within a word, in force between two words (R178): counter and value; reset none. -/
  cntWrites : List (Nat × Nat) := []
  deriving DecidableEq, Repr

/-- What a control store keeps beside its words (R173–R176). -/
structure StoreProt where
  /-- Microword addresses moved to spares, in order of spares; kept in the nonvolatile store (R176, R557), reset none. -/
  spares : List Nat := []
  /-- Poisoned native words (R174), reset none. -/
  poison : List Nat := []
  /-- Single-bit corrections: microword address and cycle (R176), reset none. -/
  fixes : List (Nat × Nat) := []
  /-- The next native word to scrub and the cycle from which it is due (R174), reset 0. -/
  next : Nat := 0
  due : Nat := 0
  deriving DecidableEq, Repr

/-- An event on its way through a Bell channel (R360, R361): the cycle it was raised in, the first cycle in which it
may take effect, the last one, whether it came by the unclocked path, the candidates that raised it (bit 4 for a
software fire), and the configuration it was raised under. -/
structure BellEvent where
  raised : Nat
  due : Nat
  last : Nat
  unclocked : Bool
  cands : BitVec 5
  config : BitVec 32
  deriving DecidableEq, Repr

/-- A Bell channel beside its objects (R353–R376). -/
structure Chan where
  /-- CHAN_OWNER (R371), reset none (reads 0xFF). -/
  owner : Option Nat := none
  /-- Events on their way (R360, R361), oldest first, reset none. -/
  events : List BellEvent := []
  /-- The event remembered at the task input (R362), reset none. -/
  kept : Option BellEvent := none
  /-- The first cycle in which the remembered event may take effect (R362), reset 0. -/
  keptFrom : Nat := 0
  /-- The cycle of the latest event that took effect, for R363; reset none. -/
  lastAt : Option Nat := none
  deriving DecidableEq, Repr

/-- A pending timed fire (R364). -/
structure TimedFire where
  die : Nat
  chan : Nat
  time : Time
  deriving DecidableEq, Repr

/-- State of a power domain, in the codes of SLEEP_MAP (R528, R549). -/
inductive PState where
  | s0 | s1 | s2 | off
  deriving DecidableEq, Repr

/-- A power domain (R526). -/
structure PDom where
  st : PState := .off
  deriving DecidableEq, Repr

/-- A SLEEP_REQUEST whose entry is in progress (R531, R532). -/
structure SleepEntry where
  /-- STATE of the request: 1 S1, 2 S2, 3 S3, 4 STANDBY. -/
  want : Nat
  target : Nat
  selector : Nat
  /-- The domains concerned: die and domain number. -/
  domains : List (Nat × Nat)
  /-- The abort point that comes next, 1–4 for A1–A4 (R531). -/
  point : Nat
  /-- The cycle from which that point may be passed. -/
  due : Nat
  /-- A wake cause has arrived (R531). -/
  woken : Bool := false
  timed : Option (BitVec 48) := none
  deriving DecidableEq, Repr

/-- A die- or unit-level wake in progress (R533): the request's TARGET and selector, the completion cycle, and the
RESULT to be published. -/
structure WakeJob where
  target : Nat
  selector : Nat
  due : Nat
  result : Nat
  deriving DecidableEq, Repr

/-- An armed timed wake (R550): device time [47:0] to reach, the cycle of acceptance, TARGET and selector. -/
structure TimedWake where
  at48 : BitVec 48
  from_ : Time
  target : Nat
  selector : Nat
  deriving DecidableEq, Repr

/-- Sleep requests of the device (R528–R533). -/
structure Sleep where
  entry : Option SleepEntry := none
  /-- SLEEP_RESULT: RESULT, TARGET, UNIT (R550), reset 0. -/
  result : Nat := 0
  target : Nat := 0
  unit : Nat := 0
  wakes : List WakeJob := []
  timers : List TimedWake := []
  /-- The device is in Device Standby (R530), reset false. -/
  standby : Bool := false
  /-- Dies that Standby put in S3 (R533), reset none. -/
  stood : List Nat := []
  deriving DecidableEq, Repr

/-- STATE of SHUTDOWN_STATUS (R551). -/
inductive ShutState where
  | running | window | shutdown | ready
  deriving DecidableEq, Repr

/-- What a stop window ends in (R545, R578). -/
inductive StopKind where
  | shutdown | resetDie (d : Nat) | resetDevice
  deriving DecidableEq, Repr

/-- A cause whose shutdown signal has not yet taken effect (R544): cycle of the signal, CAUSE, DIE, window length. -/
structure StopCause where
  signal : Nat
  cause : Nat
  die : Nat
  window : Nat
  kind : StopKind
  deriving DecidableEq, Repr

/-- Shutdown and the stop windows of resets (R543–R548, R578). -/
structure Shutdown where
  st : ShutState := .running
  /-- CAUSE and DIE of SHUTDOWN_STATUS (R551), reset 0. -/
  cause : Nat := 0
  die : Nat := 0
  /-- Causes whose signal has not yet taken effect (R544), reset none. -/
  waiting : List StopCause := []
  /-- The cycle at which the window ends and what it ends in (R545, R578), reset none. -/
  stop : Option (Nat × StopKind) := none
  /-- A brown-out is among the causes of the window (R545), reset false. -/
  brown : Bool := false
  /-- The cause of an immediate shutdown, held in the always-on domain of die 0 (R547), reset none. -/
  held : Option (Nat × Nat) := none
  deriving DecidableEq, Repr

/-- A fault-log entry before it has its SEQ (R562, R564), and the cycle in which its fault was found. -/
structure LogEntry where
  at_ : Nat
  cls : Nat
  action : Nat
  die : Nat
  unit : Nat
  detail : BitVec 32
  powerOn : BitVec 32
  cycles : BitVec 16
  deriving DecidableEq, Repr

/-- A temperature sensor (R538, R541). -/
structure Sensor where
  /-- The readings of the latest rounds, each the sum of the round's two in 0.01 °C, newest first, at most 64 (R541), reset none. -/
  hist : List Int := []
  /-- Rounds in a row in which the reading has not changed (R538), reset 0. -/
  same : Nat := 0
  /-- SENSOR_BROKEN (R538), reset false. -/
  broken : Bool := false
  /-- Rounds in a row in which the slope was at or above RISE_LIMIT (R541), reset 0. -/
  hot : Nat := 0
  deriving DecidableEq, Repr

/-- What a running verify measures (R568). -/
structure Verify where
  /-- STATE, KIND and UNIT of VERIFY_RESULT (R571), reset 0. -/
  st : Nat := 0
  kind : Nat := 0
  unit : Nat := 0
  figure : BitVec 16 := 0
  due : Nat := 0
  deriving DecidableEq, Repr

/-- A die (R1): how far it has come up, its thermal state, its rail and its management core. -/
structure DieSt where
  /-- The nonvolatile store has been read (R572), reset false. -/
  stored : Bool := false
  /-- Fredom runs on the management core (R572, R580), reset false. -/
  booted : Bool := false
  /-- PLL_LOCK (R90), reset 0. -/
  plls : BitVec 3 := 0
  /-- The Gangway is trained and the fabric is on (R572), reset false. -/
  trained : Bool := false
  /-- The die is in S3 (R530), reset false. -/
  s3 : Bool := false
  /-- The die's own DLY correction in steps (R77), reset 0. -/
  dly : Int := 0
  /-- The cycle at which the running housekeeping round ends (R537), reset 0. -/
  hkEnd : Nat := 0
  /-- The latest cycle in which a sensor that is not broken was seen at 85 °C or more (R548), reset none. -/
  warmAt : Option Nat := none
  sensors : List Sensor := []
  /-- The band of DIE_TEMP with its hysteresis (R539), reset 0. -/
  band : Nat := 0
  /-- The band epoch of a band change since the last B0 has been counted (R561), reset false. -/
  cycled : Bool := false
  /-- WARNING (R539), reset false. -/
  warning : Bool := false
  /-- The temperature is at or above the orderly-shutdown figure, with its hysteresis (R539), reset false. -/
  beyond : Bool := false
  /-- The DSP and management rail in 1/25 mV: voltage at the cycle of the latest change, that cycle, and its target
  (R536); reset 0.85 V. -/
  railFrom : Nat := 21250
  railAt : Nat := 0
  railTo : Nat := 21250
  /-- Applied REG_CLOCK_DIE and, on the stage's die, REG_CLOCK_SC (R521), reset 1. -/
  regDie : Nat := 1
  regSc : Nat := 1
  verify : Verify := {}
  /-- The die's factory trims had no good copy at the latest read of the store (R559), reset false. -/
  trimLost : Bool := false
  /-- Entries of the fault log that wait for the store (R563), oldest first, reset none. -/
  logs : List LogEntry := []
  /-- Entries lost since the queue was last full (R563), reset 0. -/
  logsLost : Nat := 0
  /-- HOST_NOTIFY is busy (R355), reset false. -/
  notifyBusy : Bool := false
  deriving DecidableEq, Repr

/-- The nonvolatile store beside the objects that live in it (R557–R566). -/
structure Store where
  /-- Retired RF outputs (R123), by selector, reset none. -/
  outs : List Nat := []
  /-- Retired DSP engines (R305), by selector, reset none. -/
  dsps : List Nat := []
  /-- Retired slices (R230, R231), by input: slice + 1 and the slices in the positions at retirement, reset none. -/
  slices : Tab (Nat × List Nat) := []
  /-- Failed calibrations (R230, R231), by input: slice and cycle, reset none. -/
  sliceFails : Tab (List (Nat × Nat)) := []
  /-- Units restored at the next power-up (R557): object class 6 or 13 and selector, reset none. -/
  restore : List (Nat × Nat) := []
  /-- Consecutive verifies of an output beyond the limit (R569), by selector, reset 0. -/
  fails : Tab Nat := []
  /-- Saved trims: object, selector, word (R566), reset none. -/
  saved : Tab (Tab (Tab Word)) := []
  savedRegs : Tab (Tab Word) := []
  /-- Dies whose saved set has its validity word (R566), reset none. -/
  savedValid : List Nat := []
  /-- The cycle at which a running TRIM_COMMAND ends (R566), reset none. -/
  busy : Option Nat := none
  /-- The lifetime counters as last written to the store (R561), reset 0. -/
  lifetime : Tab (Tab Word) := []
  /-- The cycle of the latest lifetime write (R561), reset 0. -/
  lifeAt : Nat := 0
  /-- The commissioning secret (R477), reset 0. -/
  secret : List Word := []
  deriving DecidableEq, Repr

/-- What a reader of an outcome slot sees (R243). -/
structure SlotView where
  value : BitVec 8 := 0
  valid : Bool := false
  gen : BitVec 7 := 0
  deriving DecidableEq, Repr

/-- A mirror update or resync under way to a mirror of this device (R253–R255): cycle of sending, its
source (device none for this one), the mirror, STAG and contents. -/
structure Update where
  sentAt : Nat
  dev : Option Nat
  srcDie : Nat
  srcSlot : Nat
  mDie : Nat
  mSlot : Nat
  stag : Nat
  view : SlotView
  deriving DecidableEq, Repr

/-- What crosses the Gangway (R23): messages of the decision class, and flits that a device forwards, of which those of
bulk traffic are of the bulk class. A message for a Ferry port names its destination device, whether there is a route to
it, and the cycle of its sending. -/
inductive MsgBody where
  | remote (gen : Nat) (cmd : GenCmd)
  | refusal (seq : Nat) (die gen : Nat)
  | freed (seq : Nat) (die gen : Nat)
  | epoch (r : EpochReq)
  | bridge (link lane : Nat) (chans : List Nat)
  | update (u : Update)
  | ferry (dev : Nat) (routed : Bool) (sent : Nat) (m : DecMsg)
  | flit (b : FlitBody)
  deriving DecidableEq, Repr

/-- A message in flight: the cycle in which it is offered to the next link of its route or, with none left, has arrived;
its dies and source unit (R24); its body; the links still to cross, by the die before each,
and whether it has waited at the next; the sequencer of its source
die that issued it (R25); and whether a step of device time discards it on arrival (R70). -/
structure Msg where
  due : Nat
  src : Nat
  dst : Nat
  body : MsgBody
  unit : Nat := 0
  left : List (Nat × Nat) := []
  waited : Bool := false
  issuer : Option Nat := none
  doomed : Bool := false
  deriving DecidableEq, Repr

/-- A value that a recent write replaced, for units that see a write only some cycles later (R143, R151, R177, R354,
R359). -/
structure Recent where
  id : Nat
  sel : Nat
  w : Nat
  old : Word
  cyc : Nat
  deriving DecidableEq, Repr

/-- An outcome slot (R243–R245, R256): its views with the cycle from which the condition inputs see each, the cycle and
write port of its latest write, UNREACH and its values at the condition inputs, a clear that waits, and the cycle of the latest clear. -/
structure Slot where
  pub : Trail SlotView := []
  wrote : Option (Nat × Nat) := none
  unreach : Bool := false
  unreachPub : Trail Bool := []
  clearing : Bool := false
  cleared : Option Nat := none
  deriving DecidableEq, Repr

/-- Who posts to an outcome slot (R36). -/
inductive Poster where
  | disc (m : Nat) | dsp (k : Nat) | seq (q : Nat) | maj (u : Nat)
  deriving DecidableEq, Repr

/-- A post that waits at a write port: the cycle in which it is offered, its slot and value, and who posts (R37). -/
structure Post where
  due : Nat
  slot : Nat
  value : BitVec 8
  src : Poster
  deriving DecidableEq, Repr

/-- A write port of an outcome file (R36, R37): posts waiting, in order of arrival, and the cycle in which it last wrote
for a discriminator and for another unit. -/
structure WPort where
  posts : List Post := []
  discAt : Option Nat := none
  otherAt : Option Nat := none
  deriving DecidableEq, Repr

/-- A forward entry of a source die (R249, R262): source slot, the mirror's device (none for this one), die and slot,
and its STAG. -/
structure Forward where
  srcDie : Nat
  srcSlot : Nat
  dev : Option Nat
  mDie : Nat
  mSlot : Nat
  stag : Nat
  deriving DecidableEq, Repr

/-- A Ferry hop by name (R256): the device and port it leaves, the device and port it enters. -/
structure Hop where
  dev : Nat
  port : Nat
  partner : Nat
  partnerPort : Nat
  deriving DecidableEq, Repr

/-- STATE of a subscription (R250). -/
inductive SubState where
  | off | pending | active | unreachable | refusedSource | refusedFull
  deriving DecidableEq, Repr

/-- A subscription beside SUB_CONFIG (R250–R257). -/
structure Sub where
  st : SubState := .off
  /-- STAG of the latest installed forward entry (R262), reset 0. -/
  stag : Nat := 0
  /-- The forward entry is installed and its resync is awaited (R250), reset false. -/
  awaited : Bool := false
  /-- SUB_LATENCY and the route it was taken over (R256, R257), reset 0. -/
  latency : Nat := 0
  route : Option (List Hop) := none
  deriving DecidableEq, Repr

/-- A READ that waits for its window to open (R199): device time of opening, sequencer, length, TRACE and NOPOST. -/
structure ReadReq where
  opens : Nat
  seq : Nat
  len : Nat
  trace : Bool
  nopost : Bool
  deriving DecidableEq, Repr

/-- An integration window (R199–R204): its first cycle and device time, its last input cycle, what it has latched, and
the weights read so far, newest first. -/
structure Window where
  start : Nat
  time : Time
  last : Nat
  /-- The record of raw capture that takes its trace (R214), none where it is not taken. -/
  trace : Option Nat
  nopost : Bool
  kset : Nat
  /-- The phase at the first ADC sample and the frequency word, both latched (R190, R192). -/
  phase : BitVec 48 := 0
  freq : BitVec 48 := 0
  /-- The window opened during SETTLING (R208). -/
  settling : Bool
  /-- The latched parameter set, ten words (R205). -/
  set : List Word
  weights : List (Int × Int) := []
  deriving DecidableEq, Repr

/-- A result on its fixed timeline (R210): the last input cycle, the IQ point, the window's first input cycle, the value
of R208, NOPOST, and whether the point has been published. -/
structure DemodResult where
  last : Nat
  iq : Word
  time : Time
  value : BitVec 8
  nopost : Bool
  shown : Bool := false
  deriving DecidableEq, Repr

/-- A demodulator beside its objects (R190–R213). -/
structure Demod where
  reads : List ReadReq := []
  /-- Windows open or not yet closed, oldest first. -/
  windows : List Window := []
  results : List DemodResult := []
  /-- Applied parameter set (R213), reset 0. -/
  kset : Nat := 0
  /-- The phase at a cycle, in units of 2^−48 turn, that cycle, and the frequency word it runs at (R190, R192), reset
  0. -/
  phase : BitVec 48 := 0
  phaseAt : Nat := 0
  freq : BitVec 48 := 0
  /-- A DEMOD_FREQ written in a window, in force from the cycle after the window (R192), reset none. -/
  next : Option (Nat × BitVec 48) := none
  deriving DecidableEq, Repr

/-- A wire check of an RF input (R234–R238). -/
structure Wire where
  /-- A request waits (R235), reset false. -/
  waiting : Bool := false
  /-- The round of a running check, 1–4, 0 for none; reset 0. -/
  round : Nat := 0
  /-- V+ and V− as read, in units of 10 nV (R537); reset 0. -/
  vPlus : Int := 0
  vMinus : Int := 0
  /-- Round 4 has ended (R235), reset false. -/
  beyond : Bool := false
  /-- The cycle of the latest change of round (R235), reset 0. -/
  at_ : Nat := 0
  /-- The current is ramping or held: signed, in µA (R235), reset 0; and I of the running check. -/
  current : Int := 0
  amps : Nat := 0
  /-- Device time of the end of the previous check (R238), reset 0. -/
  ended : Time := 0
  deriving DecidableEq, Repr

/-- The rotation of an RF input's slices (R221–R233). -/
structure Rotation where
  /-- Rotation has begun since the domain turned on (R224), reset false. -/
  begun : Bool := false
  /-- The step number and the cycle it began in (R223), reset 0. -/
  step : Nat := 0
  start : Nat := 0
  /-- The slice out of service (R224), reset 16. -/
  out : Nat := 16
  /-- The slice in each position (R224), reset slice p in position p. -/
  pos : List Nat := [0, 1, 2, 3, 4, 5, 6, 7, 8, 9, 10, 11, 12, 13, 14, 15]
  /-- The calibration of the running step has ended (R225), reset false. -/
  calibrated : Bool := false
  /-- The calibration of the running step failed (R228), reset false. -/
  failed : Bool := false
  /-- The slice's third failure: it is retired at the end of the step (R230), reset false. -/
  retire : Bool := false
  /-- The corrections that a handover check which is to fail restores (R225, R228), reset none. -/
  undo : Option (Int × Int × Int) := none
  /-- The running step is abandoned and is to restart (R233), reset false. -/
  abandoned : Bool := false
  /-- HELD (R233), reset false. -/
  held : Bool := false
  /-- Steps of the running rotation of 17 completed (R232), reset 0. -/
  done : Nat := 0
  /-- The cycle of the latest quality figures (R232), reset 0. -/
  figuresAt : Nat := 0
  /-- A restored slice's first step has not yet ended without failure (R231), reset false. -/
  restoring : Bool := false
  /-- Working corrections of each slice: offset, gain, skew (R222), once loaded; reset none. -/
  corr : List (Int × Int × Int) := []
  /-- Slices whose written or loaded corrections wait for their next entry into service (R222), reset none. -/
  fresh : List Nat := []
  deriving DecidableEq, Repr

/-- An RF input (R184–R189, R221–R242). -/
structure RfIn where
  /-- Applied INPUT_MODE and INPUT_RANGE (R187), reset 0. -/
  mode : Nat := 0
  range : Nat := 0
  /-- SETTLING and the cycle at which it ends (R187), reset false and 0. -/
  settling : Bool := false
  settle : Nat := 0
  /-- The cycle of a write of INPUT_MODE or INPUT_RANGE that has not taken effect (R187), reset none. -/
  written : Option Nat := none
  wire : Wire := {}
  rot : Rotation := {}
  deriving DecidableEq, Repr

/-- A numbered flit held until an ACK covers it (R441): when it was last sent. -/
structure HeldFlit where
  flit : Flit
  sentAt : Nat
  deriving DecidableEq, Repr

/-- A flit that waits at a port (R261): its sending turn, the cycle its messages arrived in, and its body. -/
structure WaitFlit where
  turn : Nat
  arrived : Nat
  body : FlitBody
  deriving DecidableEq, Repr

/-- A frame as a lane sends it (R429): kinds, SEQ, ordered-set bits, reverse-channel nibble, and the flit payloads with
their CRCs, before scrambling. -/
structure Frame340 where
  cycle : Nat
  kindA : BitVec 2
  kindB : BitVec 2
  seq : BitVec 8
  osb : BitVec 2
  rc : BitVec 4
  flitA : BitVec 160
  flitB : BitVec 160
  deriving DecidableEq, Repr

/-- RX_STATE (R435). -/
inductive RxState where
  | sleep | search | locked | up | retired
  deriving DecidableEq, Repr

/-- A lane of a Ferry port (R424–R448). -/
structure Lane where
  /-- RX_STATE, reset SLEEP until the port is powered. -/
  rx : RxState := .sleep
  /-- The transmit direction is asleep (R440), reset true until the port is powered. -/
  txSleep : Bool := true
  /-- The cycle in which FERRYWAKE began to be sent (R440), reset none. -/
  waking : Option Nat := none
  /-- SLEEP_RX has been asked for (R440), reset false. -/
  sleepRx : Bool := false
  /-- RX_PRECODE (R426), reset false. -/
  precode : Bool := false
  /-- Its skew against the port's earliest lane exceeds 8 cycles (R431), reset false. -/
  skewed : Bool := false
  /-- Cycles of its losses of lock (R448), reset none. -/
  losses : List Nat := []
  /-- The lane has been qualified since its port was powered: the first qualification is waived (R435), reset false. -/
  known : Bool := false
  /-- The cycle from which a relocked lane has shown no error (R447), reset 0. -/
  cleanFrom : Nat := 0
  /-- LANE_CONFIG in force (R439), reset 0 until its first boundary. -/
  config : BitVec 32 := 0
  /-- CTLE preset in force (R428), reset 0. -/
  ctle : Nat := 0
  /-- The latest frame sent (R429), reset none. -/
  frame : Option Frame340 := none
  /-- The ordered set being sent (R432), reset 0. -/
  oset : BitVec 128 := 0
  /-- Scrambler register (R430) and the precoder's last symbol (R426), reset 0. -/
  scrambler : BitVec 58 := 0
  symbol : Nat := 0
  /-- The 170 symbol values of the latest frame, first sent first (R425), reset none. -/
  symbols : List Nat := []
  /-- The cycle of the latest eye publication (R438), reset 0. -/
  eyeAt : Nat := 0
  deriving DecidableEq, Repr

/-- A Ferry port (R424–R461). -/
structure FPort where
  /-- The partner's device, member and port, from HELLO (R433), reset none. -/
  partner : Option (Nat × Member × Nat) := none
  /-- RX_GOOD, TX_STRIPE and RX_SLEEP of the partner (R433), reset 0. -/
  good : BitVec 4 := 0
  theirStripe : BitVec 4 := 0
  asleep : BitVec 4 := 0
  /-- Lanes that a HELLO has reported good, and no report since has taken away: flits may be placed on them (R436, R446),
  reset 0. -/
  helloGood : BitVec 4 := 0
  /-- Stripe of the transmit direction (R436), reset 0. -/
  stripe : BitVec 4 := 0
  /-- The latest round trips measured, newest first, at most 256 (R433), reset none. -/
  trips : List Nat := []
  /-- LINK_UP (R437), reset false. -/
  up : Bool := false
  /-- The next sequence number (R431), reset 0. -/
  nextSeq : BitVec 8 := 0
  /-- Retry buffer, oldest first (R441), and flits still to be resent (R443), reset empty. -/
  retry : List HeldFlit := []
  replay : List Flit := []
  /-- Flits that wait, decision flits and bulk flits (R442), reset empty. -/
  waiting : List WaitFlit := []
  bulk : List FlitBody := []
  /-- Sending turns taken, by cycle (R261), reset none. -/
  turns : List (Nat × Nat) := []
  /-- The next number expected (R443), reset 0. -/
  expect : BitVec 8 := 0
  /-- Flits are discarded until the expected one arrives (R443), reset false. -/
  discarding : Bool := false
  /-- NAKs sent for the same number (R444), reset 0. -/
  naks : Nat := 0
  /-- Reverse-channel words due (R434): LANES, NAK, ACK; reset false. -/
  rcLanes : Bool := false
  rcNak : Bool := false
  rcAck : Bool := false
  /-- The reverse-channel word being sent and the nibbles of it still to come (R434), reset 0. -/
  rcWord : BitVec 16 := 0
  rcLeft : Nat := 0
  /-- The cycle of the latest PROBE (R432), reset none. -/
  probeAt : Option Nat := none
  deriving DecidableEq, Repr

/-- A route to a destination device (R451, R460): egress die, Ferry hops, H_P, the cycle the latest message left on it,
and the first cycle in which a message may leave after a change (R453). -/
structure Route where
  valid : Bool := false
  egress : Nat := 0
  hops : Nat := 0
  cost : Nat := 0
  lastAt : Nat := 0
  notBefore : Nat := 0
  deriving DecidableEq, Repr

/-- A register value on its way (R279): the number of the first instruction that sees it, the register, the bits written
and the value. -/
structure DspWrite where
  vis : Nat
  reg : Nat
  mask : Nat
  val : Nat
  deriving DecidableEq, Repr

/-- A running REPEAT (R292): its address, the number of instructions of a pass, the position in the pass, the first pass
has begun, and an LC written inside the block. -/
structure DspRepeat where
  addr : Nat
  len : Nat
  at_ : Nat
  begun : Bool
  newLc : Option Nat
  deriving DecidableEq, Repr

/-- Where an engine's program goes on (R274, R280, R292): PC, a transfer with the delay slots still to come and its target
(none: it falls through), the running REPEAT and LC. -/
structure DspFlow where
  pc : Nat := 0
  br : Option (Nat × Option Nat) := none
  rep : Option DspRepeat := none
  lc : Nat := 0
  deriving DecidableEq, Repr

/-- What an instruction does when it completes stage 6 (R283, R291). -/
inductive DspOut where
  | flags (v : BitVec 8)
  | sig (p : Nat)
  | post (slot : Nat) (value : BitVec 8)
  | smsg (seq : Nat) (value : BitVec 8)
  deriving DecidableEq, Repr

/-- A message of an inbound mailbox (R290): the first cycle in which it can be read, DATA, and the sender. -/
structure DspMail where
  from_ : Nat
  data : BitVec 32
  sender : Nat
  deriving DecidableEq, Repr

/-- A WAIT in progress (R294): WCOND, Da and SRC, and the cycle from which its condition is sampled. -/
structure DspWaiting where
  cond : Nat
  val : Nat
  src : Nat
  from_ : Nat
  deriving DecidableEq, Repr

/-- A DSP engine (R272–R310), without its memories and vectors, which are objects. -/
structure Dsp where
  /-- Reset halted (R575). -/
  run : Bool := false
  /-- Instructions issued so far: the model's own count, by which R279 is stated. -/
  num : Nat := 0
  /-- The first fabric cycle of stage 1 of the next instruction (R278), reset 0. -/
  issueAt : Nat := 0
  flow : DspFlow := {}
  /-- D0–D15, X0–X7 (16), N0–N7 (24), ST (33), IPC (34), IST (35), IE (36), FLAGS (37), A0–A3 (38): reset 0. -/
  regs : Tab Nat := []
  /-- Values that are not yet visible to every later instruction, in program order (R279). -/
  pend : List DspWrite := []
  /-- The cells of the return stack, RS0 the oldest, and its depth SP, 0–8 (R293, R309), reset 0. A cell at or above SP keeps
  what it held (log 64). -/
  rs : Tab Nat := []
  sp : Nat := 0
  /-- ST takes IST when the next instruction outside the delay slots issues (R282), reset false. -/
  retiDue : Bool := false
  /-- IP (R295): for each pending input the cycle in which it was set, plus 1; reset none. -/
  ip : Tab Nat := []
  /-- The inbound mailbox (R290), head first, reset empty. -/
  mbox : List DspMail := []
  wait : Option DspWaiting := none
  /-- Outputs whose instruction has not yet left the engine (R291): the cycle in which stage 6 completes, and the output. -/
  outs : List (Nat × DspOut) := []
  /-- SIG and SMSG on their way into the fabric (R299): the cycle in which they act. -/
  cross : List (Nat × DspOut) := []
  /-- Posts in the post buffer (R38), reset 0, and the cycle in which an entry was last freed. -/
  buffered : Nat := 0
  freedAt : Nat := 0
  /-- The pipeline is held by a POST that found the post buffer full: the first fabric cycle of its stage 6 (R301), reset
  none. -/
  stalled : Option Nat := none
  /-- FLAGS as the sequencers' conditions see it (R291), reset 0. -/
  flagPub : Trail (BitVec 8) := []
  /-- A HALT command and the cycle in which it came (R302); the engine runs for one STEP; reset none, false. -/
  haltReq : Option Nat := none
  /-- An interrupt taken at a boundary that execution, at stage 3, has not reached (R297): the input, and the number of the
  instruction that was next to issue; reset none. -/
  taking : Option (Nat × Nat) := none
  stepping : Bool := false
  /-- Issue has stopped, and the engine halts when its issued instructions have completed (R302), reset false; the last
  fabric cycle of stage 6 of the latest instruction, reset 0. -/
  ending : Bool := false
  doneAt : Nat := 0
  /-- Cycles of uncorrectable errors (R305), reset none. -/
  errs : List Nat := []
  deriving DecidableEq, Repr

/-- A session's record subscription to a die (R348, R487): die and mask of record types. Other fields of a session
follow with the Landing protocol. -/
structure RecSub where
  die : Nat
  mask : BitVec 16
  deriving DecidableEq, Repr

/-- A sample of a detector tone as the tone's decimator delivers it (R315), and whether a clipped sample or SETTLING
contributed to it (R345). -/
structure ToneSample where
  x : Sample
  suspect : Bool := false
  deriving DecidableEq, Repr

/-- TYPE of a record (R343). -/
inductive RecType where
  | trigger | forced | change | keepalive | block | raw | trace | mark | majority | gap
  deriving DecidableEq, Repr

/-- A record of an acquisition buffer (R343–R346), of `len` words. Samples are 36 bits, those of RAW records 12 bits. -/
structure Rec where
  id : Nat
  typ : RecType
  unit : Nat
  /-- FLAGS [63:56] (R345). -/
  flags : BitVec 8 := 0
  /-- Cycle of reservation, for the order of R346. -/
  at_ : Nat
  len : Nat
  /-- The time tag of word 1 (R66), and word 2 of TRIGGER, FORCED and GAP records. -/
  tag : Word := 0
  word2 : Word := 0
  /-- PRE, POST or COUNT, TAG, tones counted, or records dropped (R344). -/
  pre : Nat := 0
  count : Nat := 0
  body : Nat := 0
  /-- Pre and post samples in order, or block, trace and ADC samples. -/
  preSamples : List (BitVec 36) := []
  samples : List (BitVec 36) := []
  /-- Words that have still to be written: its samples, its pre segment (R346). -/
  open_ : Bool := false
  copying : Bool := false
  /-- The cycle in which the last word that arrives with its sample is written (R331, R346). -/
  fullAt : Nat := 0
  /-- Sessions whose subscription covered it, and which it has not been handed to (R348). -/
  owed : List Nat := []
  /-- Some session's subscription covered it (R348). -/
  covered : Bool := false
  deriving DecidableEq, Repr

/-- A pre segment whose copy is queued (R346): record, tone, restarts of the tone, its first sample's number. -/
structure PreCopy where
  id : Nat
  tone : Nat
  life : Nat
  first : Nat
  /-- The cycle in which the copy is queued (R331). -/
  at_ : Nat
  deriving DecidableEq, Repr

/-- Raw capture (R341, R342). -/
structure Raw where
  armed : Bool := false
  capturing : Bool := false
  copying : Bool := false
  /-- The record, the cycle of the start and the input of a capture (R341), reset none and 0. -/
  record : Option Nat := none
  start : Nat := 0
  input : Nat := 0
  /-- Samples to take (R341, R342), reset 0. -/
  len : Nat := 0
  /-- A trace is being taken (R342), with the phase and frequency of its window, reset false and 0. -/
  trace : Bool := false
  phase : BitVec 48 := 0
  freq : BitVec 48 := 0
  /-- The window of the trace has closed (R342), reset false. -/
  closed : Bool := false
  /-- The cycle in which taking samples ended early (R341, R345), reset none; OP STOP has disarmed capture, reset false. -/
  cut : Option Nat := none
  stop : Bool := false
  deriving DecidableEq, Repr

/-- The acquisition buffer of a die and its raw capture (R341–R348). -/
structure Acq where
  recs : List Rec := []
  /-- Records that begin, to be reserved in the cycle of each (R346), reset none. -/
  wants : List Rec := []
  /-- Forces of majority units on their way to their member tones: cycle of arrival and unit (R334), reset none. -/
  forces : List (Nat × Nat) := []
  /-- The number of the next record: the model's own. -/
  nextId : Nat := 0
  /-- Pre segments that are still to be copied into their records (R340), reset none. -/
  copies : List PreCopy := []
  /-- DROPPING, and the GAP record to come: first and last dropped record's tag and the number dropped (R347). -/
  dropping : Bool := false
  gapFirst : Word := 0
  gapLast : Word := 0
  gapCount : Nat := 0
  /-- ACQ_HIGH_WATER (R351), reset 0. -/
  high : Nat := 0
  raw : Raw := {}
  deriving DecidableEq, Repr

/-- A detector tone and its trigger unit (R311–R340). -/
structure Tone where
  /-- The tone runs (R311), reset false. -/
  on : Bool := false
  /-- TONE_CONFIG in force (R317), reset its default. -/
  config : BitVec 64 := 0x0200000000000000
  /-- Restarts so far: the model's own count. -/
  life : Nat := 0
  /-- A write of TONE_CONFIG waits for its boundary (R317, R349), reset false. -/
  written : Bool := false
  /-- The cycle of the latest restart (R317), and that of the instant of the latest sample, reset 0 and none. -/
  restart : Nat := 0
  lastAt : Option Nat := none
  /-- Samples since the restart, and the ring of the latest 512, newest first (R325). -/
  n : Nat := 0
  ring : List ToneSample := []
  /-- Arming of C0 rising, C0 falling, C1 rising, C1 falling (R320, R323), reset unarmed. -/
  arm : List Bool := [false, false, false, false]
  /-- ARMED (R325) and the samples for which the gate stays closed after a record (R327), reset false and 0. -/
  armed : Bool := false
  shut : Nat := 0
  /-- The record that collects post samples and how many are still to come, reset none. -/
  collecting : Option (Nat × Nat) := none
  /-- The record whose last post sample has arrived, and the cycle in which it did (R330), reset none. -/
  filled : Option (Nat × Nat) := none
  /-- Samples that met a closed gate and samples with a suppressed fire since the latest record (R329), reset 0. -/
  dead : Nat := 0
  suppressed : Nat := 0
  /-- A force that has arrived: from a majority unit, and its cycle (R330), reset none. -/
  force : Option (Bool × Nat) := none
  /-- The last stored sample of a CHANGE stream and the samples since (R338, R339), reset none. -/
  stored : Option (BitVec 36) := none
  since : Nat := 0
  /-- The block being filled and the samples in it (R340), reset none. -/
  block : Option (Nat × Nat) := none
  deriving DecidableEq, Repr

/-- A majority unit (R332–R336). -/
structure Maj where
  /-- MAJ_LAMBDA (R334), reset 0. -/
  lambda : Nat := 0
  /-- Counted fires: die tone and fire cycle (R333), reset none. -/
  fires : List (Nat × Nat) := []
  /-- Fires at or before this cycle are discarded (R333), reset none. -/
  deaf : Option Nat := none
  /-- The latest cycle decided on, reset none. -/
  decided : Option Nat := none
  deriving DecidableEq, Repr

/-- A notification item (R490): NKIND, DIE, TIME_TAG and DATA, and the cycle it was queued in. -/
structure Item where
  kind : Nat
  die : Nat
  tag : Word
  data : Word
  at_ : Nat
  deriving DecidableEq, Repr

/-- The record stream of a session from one die (R488, R489): words sent, the record whose words go next and how many of
them have been placed in frames, and the records that are ready to go, oldest first, each with the cycle from which it
has been. -/
structure Stream where
  sent : Nat := 0
  recId : Nat := 0
  placed : Nat := 0
  ready : List (Nat × Nat) := []
  deriving DecidableEq, Repr

/-- A Landing session (R475–R481). -/
structure Session where
  live : Bool := false
  admin : Bool := false
  /-- Ethernet port, peer and TAG it is bound to (R475), reset 0. -/
  port : Nat := 0
  peer : Peer := ⟨0, 0⟩
  tag : BitVec 32 := 0
  /-- The SEQ of its OPEN, and the reply (R475), reset 0, none. -/
  openSeq : BitVec 32 := 0
  opened : List Byte := []
  /-- S_MAX and the executed requests of its window with their held replies (R479, R480), reset 0, none. -/
  smax : BitVec 32 := 0
  done : List (BitVec 32 × Option (List Byte)) := []
  /-- The cycle of the latest request that passed the session check (R481), reset 0. -/
  lastAt : Nat := 0
  /-- Kinds of notification subscribed to (R487), reset none. -/
  notify : BitVec 16 := 0
  /-- The notification queue, and items lost since the last LOST item (R490), reset empty. -/
  items : List Item := []
  lost : Nat := 0
  /-- STREAM frames sent (R488), reset 0; the streams of records, by die, and of notifications. -/
  frames : BitVec 32 := 0
  streams : Tab Stream := []
  itemsSent : Nat := 0
  deriving DecidableEq, Repr

/-- A safe ramp (R390): the cycle from which its next step counts. -/
structure Ramp where
  at_ : Nat
  deriving DecidableEq, Repr

/-- A bias output beside its objects (R377–R399). -/
structure Bias where
  /-- Running (R381), reset false; BIAS_CODE (R377), reset 0. -/
  run : Bool := false
  code : Int := 0
  /-- The queue, head first (R380), reset empty. -/
  queue : List Int := []
  /-- STARVED, and the running spell of underrun has been reported (R384), reset false. -/
  starved : Bool := false
  spell : Bool := false
  /-- Applied RANGE, DEGLITCH and COMP_LIMIT, and BIAS_DIVIDER (R387), reset their defaults. -/
  range : Nat := 0
  deglitch : Nat := 0
  limit : Nat := 30
  divider : Nat := 1250
  /-- Code and RANGE at the lands, from the cycle they reach them (R386, R387), newest first. -/
  lands : Trail (Int × Nat) := []
  /-- HOLDING: the cycles in which the hold begins and ends (R386), reset none. -/
  hold : Option (Nat × Nat) := none
  ramp : Option Ramp := none
  /-- SAFE_HELD (R390), reset false. -/
  safeHeld : Bool := false
  /-- IN_COMPLIANCE (R388), reset false. -/
  inComp : Bool := false
  /-- A written DEGLITCH, COMP_LIMIT or BIAS_DIVIDER, and a written RANGE, wait for their ticks (R387): reset false. -/
  written : Bool := false
  rangeWritten : Bool := false
  deriving DecidableEq, Repr

/-- What a bias output meets in the cycle that runs, in the order of R382: the output as the cycle met it; FLUSH, START, STOP
and SAFE; a step of a ramp; the tick with the configuration and divider that it applies (R387); the codes offered, with
their sources (a sequencer, or 16 for the host). Then what the output reports as the cycle ends: codes refused (R383), a
tick without a code, and that it is the first of its spell (R384). -/
structure BiasTurn where
  base : Bias := {}
  flush : Bool := false
  start : Bool := false
  stop : Bool := false
  safe : Bool := false
  step : Bool := false
  tick : Option (Word × Nat) := none
  codes : List (Nat × Int) := []
  /-- BIAS_CONFIG or BIAS_DIVIDER, and RANGE, were written after the tick. -/
  wrote : Bool := false
  wroteRange : Bool := false
  refused : Nat := 0
  starved : Bool := false
  first : Bool := false
  deriving DecidableEq, Repr

/-- A valid conversion of a burst (R408): of a positive half-period, its two results, and the gain it used. -/
structure Conv where
  pos : Bool
  sense : Int
  ref : Int
  gain : Nat
  deriving DecidableEq, Repr

/-- A sensor channel beside its objects (R400–R423). -/
structure Sns where
  /-- RUNNING; ONESHOT; STOP waits for the burst's end (R416): reset false. -/
  run : Bool := false
  once : Bool := false
  stopping : Bool := false
  /-- Applied SNS_CONFIG, GAIN and SNS_REF_TRIM (R406): reset their defaults. -/
  config : BitVec 64 := 0x000000080879030B
  gain : Nat := 0
  trim : Word := 0
  /-- A written SNS_GAIN, and a written SNS_CONFIG or SNS_REF_TRIM, wait for their boundaries (R406): reset false. -/
  gainWritten : Bool := false
  written : Bool := false
  /-- A burst is in progress, a rest is in progress (R403), and the half-period within it; reset false, 0. -/
  exciting : Bool := false
  resting : Bool := false
  half : Nat := 0
  /-- The cycle of the latest edge (R404), reset 0. -/
  edgeAt : Nat := 0
  /-- The conversion window is open, and it has closed (R405): reset false. -/
  opened : Bool := false
  closed : Bool := false
  /-- A check window is in progress (R413), reset false. -/
  checking : Bool := false
  /-- The latest conversion was OVERRANGE (R411), reset false. -/
  lastOver : Bool := false
  /-- Valid conversions and flags of the burst (R408, R422): OVERRANGE, BROKEN, VOID; reset none. -/
  convs : List Conv := []
  beyond : Bool := false
  broken : Bool := false
  voided : Bool := false
  /-- BURST_TIME, and bursts since START (R413): reset 0. -/
  burstTime : Time := 0
  bursts : Nat := 0
  /-- WIRE_BROKEN (R414), reset false. -/
  wireBroken : Bool := false
  /-- Results that wait for their publication (R408): its cycle and the three words. -/
  results : List (Nat × List Word) := []
  deriving DecidableEq, Repr


/-- How far a port's DHCP client has come (R466). -/
inductive DhcpState where
  | init | selecting | requesting | bound | renewing | rebinding
  deriving DecidableEq, Repr

/-- An IPv4 address in use (R466, R499): MODE (1 static, 2 leased), address, prefix and gateway. -/
structure Ipv4 where
  mode : Nat
  addr : BitVec 32
  pfx : Nat
  gateway : BitVec 32
  deriving DecidableEq, Repr

/-- An Ethernet port (R462–R469). -/
structure EthPort where
  /-- LINK_UP, TRAINED and AN_DONE (R498), reset false. -/
  up : Bool := false
  trained : Bool := false
  anDone : Bool := false
  /-- IPv4 address in use (R466), reset none. -/
  ipv4 : Option Ipv4 := none
  dhcp : DhcpState := .init
  /-- DHCP server and lease: the cycle it began in and its seconds (R466), reset none. -/
  server : BitVec 32 := 0
  lease : Option (Nat × Nat) := none
  /-- Resolved neighbours, newest first, at most 256: address, MAC address and cycle (R468), reset none. -/
  neighbours : List (BitVec 32 × BitVec 48 × Nat) := []
  deriving DecidableEq, Repr

/-- What a DHCP client sends (R466). -/
inductive DhcpKind where
  | discover | request | renew | rebind
  deriving DecidableEq, Repr

/-- What the device has sent to hosts and neighbours (R466–R468, R470, R488): the model's own record. -/
inductive Sent where
  | landing (port : Nat) (src : BitVec 128) (peer : Peer) (bytes : List Byte)
  | dhcp (port : Nat) (kind : DhcpKind) (addr : BitVec 32)
  | arpAnnounce (port : Nat) (addr : BitVec 32)
  | arpReply (port : Nat) (dst : BitVec 32)
  | echoReply (port : Nat) (m : EchoMsg)
  | advert (port : Nat) (m : NsMsg)
  | igmpReport (port : Nat)
  | mldReport (port : Nat) (groups : List (BitVec 128))
  | delayReq (port seq : Nat)
  deriving DecidableEq, Repr

/-- A Landing request that waits (R474). -/
structure Request where
  port : Nat
  peer : Peer
  data : Datagram
  deriving DecidableEq, Repr

/-- A challenge that stands (R476), and the cycle it was issued in. -/
structure Challenge where
  value : BitVec 128
  at_ : Nat
  deriving DecidableEq, Repr

/-- The shared egress of an Ethernet port (R41): the session served last in the round and the deficit of each. -/
structure Egress where
  at_ : Nat := 0
  deficit : Tab Nat := []
  deriving DecidableEq, Repr

/-- The Landing engine beside the sessions (R474–R478). -/
structure Landing where
  /-- Requests that wait, oldest first, at most 256 (R474), reset none. -/
  queue : List Request := []
  challenges : List Challenge := []
  /-- AUTH_FAILED replies by source address and cycle, and addresses locked out with the cycle of the end (R478), reset
  none. -/
  failures : List (BitVec 128 × Nat) := []
  lockouts : List (BitVec 128 × Nat) := []
  /-- The first port has become reachable since power-up or reset (R573, R594), reset false; the cycle of VIN valid. -/
  reached : Bool := false
  vinAt : Nat := 0
  /-- RESET_N is low (R577), reset false. -/
  resetLow : Bool := false
  /-- CROSSING_REACHABLE, TIME_STATE and CAL_STATE as last notified (R490), reset 0. -/
  lastReach : List Nat := [0]
  lastTime : Nat := 0
  /-- The egress of each port (R41), reset none. -/
  egress : Tab Egress := []
  deriving DecidableEq, Repr

/-- The test access port (R600, R601). -/
structure Jtag where
  /-- The instruction register, reset IDCODE (log 24). -/
  ir : BitVec 8 := 2
  /-- The boundary cells, reset none. -/
  cells : List Bool := []
  deriving DecidableEq, Repr

/-- The state of the device. -/
structure State where
  /-- Commands that wait, first in first out: the model's queue. -/
  pending : List Instr
  /-- How many free values have been taken: the model's own counter, not the manual's (log 1). -/
  free : Nat
  /-- The member of the family (R1), which no command changes. -/
  member : Member
  /-- Objects that are not DOMAIN objects (R502): object, selector, value. -/
  regs : Tab (Tab Word)
  /-- DOMAIN objects (R510): object, selector, word number, word. -/
  doms : Tab (Tab (Tab Word))
  /-- Values that recent writes replaced (R143, R151, R177, R354, R359). -/
  recent : List Recent
  clock : Clock
  tattoo : Tattoo
  /-- Marker averages, by die of the port (R73). -/
  links : Tab LinkAvg
  cal : Calendar
  ptp : Ptp
  /-- Epoch records, by die × 4 + class (R46). -/
  epochs : Tab EpochRec
  /-- Applied epochs, by class × 2^16 + selector of the unit (R49). -/
  applied : Tab Applied
  /-- Gangway links, by die × 4 + link (R20). -/
  glinks : Tab GLink
  /-- Decision-class messages in flight (R23), in order of sending. -/
  flight : List Msg
  /-- Order of issue of generator commands (R30). -/
  issued : Nat
  gens : Tab Gen
  outs : Tab RfOut
  seqs : Tab Seq
  stores : Tab StoreProt
  chans : Tab Chan
  /-- Pending timed fires of all dies, in order of TIME (R364). -/
  fires : List TimedFire
  /-- Power domains, by die × 128 + domain (R526). -/
  power : Tab PDom
  sleep : Sleep
  shut : Shutdown
  dies : Tab DieSt
  nv : Store
  slots : Tab Slot
  /-- Write ports of the outcome files, by die × 16 + port (R36). -/
  ports : Tab WPort
  subs : Tab Sub
  /-- Forward entries of every die, in order of installation (R249). -/
  forwards : List Forward
  /-- Removal requests outstanding: source device, mirror's die, slot and STAG (R262). -/
  removals : List (Option Nat × Nat × Nat × Nat)
  demods : Tab Demod
  /-- RF inputs, by selector (R184). -/
  inputs : Tab RfIn
  /-- Lanes, by the die's selector with the lane as unit (R457). -/
  lanes : Tab Lane
  /-- Ferry ports, by die (R424). -/
  fports : Tab FPort
  /-- Routes, by die × 256 + device (R451). -/
  routes : Tab Route
  /-- Link-state records of other devices (R450). -/
  devices : List LinkStateRec
  /-- The cycle of the latest link-state flood (R450). -/
  floodAt : Nat
  /-- A link of this device went up or down or changed its ⌈f⌉ since the latest flood (R450). -/
  linkChanged : Bool
  /-- Mirrors to be marked unreachable: cycle, die, slot (R256). -/
  marks : List (Nat × Nat × Nat)
  /-- DSP engines, by selector (R4). -/
  dsps : Tab Dsp
  /-- Detector tones and their trigger units, by selector (R311). -/
  tones : Tab Tone
  /-- Majority units, by selector (R332). -/
  majs : Tab Maj
  /-- Acquisition buffers, by die (R346). -/
  acqs : Tab Acq
  /-- Producers to be raised in a coming cycle (R353): cycle, die, producer. -/
  later : List (Nat × Nat × Nat)
  /-- Record subscriptions, by session (R348). -/
  recSubs : Tab (List RecSub)
  /-- Landing sessions, by number (R475). -/
  sessions : Tab Session
  /-- Bias outputs, by selector (R4). -/
  biases : Tab Bias
  /-- What bias outputs meet in the cycle that runs, by selector (R382). -/
  biasTurns : Tab BiasTurn
  /-- Sensor channels, by selector (R4). -/
  channels : Tab Sns
  /-- Ethernet ports, by die (R462). -/
  eths : Tab EthPort
  /-- The Landing engine (R474). -/
  landing : Landing
  /-- Datagrams and frames sent, oldest first: the model's own record. -/
  sent : List Sent
  /-- The test access port (R600). -/
  jtag : Jtag
  deriving DecidableEq, Repr

/-- The machine right after reset: nothing powered but the always-on domains, every object at its default, nothing
listed in any table (R505, R572). Power-up begins with VIN_VALID (log 9). -/
def State.reset : State where
  pending := []
  free := 0
  member := .pw8
  regs := []
  doms := []
  recent := []
  clock := {}
  tattoo := {}
  links := []
  cal := {}
  ptp := {}
  epochs := []
  applied := []
  glinks := []
  flight := []
  issued := 0
  gens := []
  outs := []
  seqs := []
  stores := []
  chans := []
  fires := []
  power := []
  sleep := {}
  shut := {}
  dies := []
  nv := {}
  slots := []
  ports := []
  subs := []
  forwards := []
  removals := []
  demods := []
  inputs := []
  lanes := []
  fports := []
  routes := []
  devices := []
  floodAt := 0
  linkChanged := false
  marks := []
  dsps := []
  tones := []
  majs := []
  acqs := []
  later := []
  recSubs := []
  sessions := []
  biases := []
  biasTurns := []
  channels := []
  eths := []
  landing := {}
  sent := []
  jtag := {}

end Sys2Proof.Machine
end

