-- ==== Sys2Proof/Machine/Ops.lean ====
section
/-!
DEFINITION. The operations that the meanings share: objects and their defaults, units of the device, bits of words,
time, the Gangway, epochs, the fault log, power domains and the raising of Bell events.
-/

namespace Sys2Proof.Machine

/-- The outcome of a command. -/
abbrev Out := Host.Outcome State Fault Refusal

/-- A further operation on the state of a command that has a next state. -/
def Out.andThen (o : Out) (f : State → Out) : Out :=
  match o with
  | .next s => f s
  | .fault r => .fault r
  | .refused r => .refused r

/-- The fault of a host error (R18). -/
def hostError : Out := .fault .hostError

/-- A next state, or the fault of a host error where a rule of the manual is broken (R18). -/
def unlessError (bad : Bool) (s : State) : Out := if bad then hostError else .next s

/-! Bits of words. -/

/-- Bits [hi:lo] of a word as a number. -/
def bits {w : Nat} (v : BitVec w) (hi lo : Nat) : Nat := (v.toNat >>> lo) % 2 ^ (hi + 1 - lo)

/-- A bit of a word. -/
def bit {w : Nat} (v : BitVec w) (i : Nat) : Bool := v.getLsbD i

/-- A number as a native word. -/
def word (n : Nat) : Word := BitVec.ofNat 72 n

/-- 1 for true. -/
def b2n (b : Bool) : Nat := if b then 1 else 0

/-- A word of `w` bits with one bit set. -/
def oneBit (w i : Nat) : BitVec w := BitVec.ofNat w (2 ^ i)

/-- Two's complement of a `w`-bit field (R509). -/
def signed (w n : Nat) : Int := if n % 2 ^ w < 2 ^ (w - 1) then ((n % 2 ^ w : Nat) : Int) else ((n % 2 ^ w : Nat) : Int) - (2 ^ w : Nat)

/-- A native word that carries a two's-complement number (R509). -/
def wordOfInt (i : Int) : Word := BitVec.ofInt 72 i

/-! Units. -/

/-- The selector of unit `u` of die `d` (R13). -/
def sel (d u : Nat) : Nat := d * 8192 + u

/-- The die of a selector (R13). -/
def selDie (k : Nat) : Nat := k / 8192

/-- The unit index of a selector (R13). -/
def selUnit (k : Nat) : Nat := k % 8192

/-- The dies of the member (R1). -/
def State.dieList (s : State) : List Nat := List.range s.member.dies

/-- The port of die k (R73). -/
def State.link (s : State) (k : Nat) : LinkAvg := look {} s.links k

/-- The port of die k (R73), replaced. -/
def State.setLink (s : State) (k : Nat) (x : LinkAvg) : State := { s with links := put {} s.links k x }

/-- The epoch record of die × 4 + class (R46). -/
def State.epochRec (s : State) (k : Nat) : EpochRec := look {} s.epochs k

/-- The epoch record of die × 4 + class (R46), replaced. -/
def State.setEpochRec (s : State) (k : Nat) (x : EpochRec) : State := { s with epochs := put {} s.epochs k x }

/-- The unit of an epoch class (R49). -/
def State.appl (s : State) (k : Nat) : Applied := look {} s.applied k

/-- The unit of an epoch class (R49), replaced. -/
def State.setAppl (s : State) (k : Nat) (x : Applied) : State := { s with applied := put {} s.applied k x }

/-- The Gangway link of die × 4 + link (R20). -/
def State.glink (s : State) (k : Nat) : GLink := look {} s.glinks k

/-- The Gangway link of die × 4 + link (R20), replaced. -/
def State.setGlink (s : State) (k : Nat) (x : GLink) : State := { s with glinks := put {} s.glinks k x }

/-- The tone generator by selector (R4). -/
def State.gen (s : State) (k : Nat) : Gen := look {} s.gens k

/-- The tone generator by selector (R4), replaced. -/
def State.setGen (s : State) (k : Nat) (x : Gen) : State := { s with gens := put {} s.gens k x }

/-- The RF output by selector (R4). -/
def State.out (s : State) (k : Nat) : RfOut := look {} s.outs k

/-- The RF output by selector (R4), replaced. -/
def State.setOut (s : State) (k : Nat) (x : RfOut) : State := { s with outs := put {} s.outs k x }

/-- The sequencer by selector (R4). -/
def State.seq (s : State) (k : Nat) : Seq := look {} s.seqs k

/-- The sequencer by selector (R4), replaced. -/
def State.setSeq (s : State) (k : Nat) (x : Seq) : State := { s with seqs := put {} s.seqs k x }

/-- The control store by its sequencer's selector (R130). -/
def State.store (s : State) (k : Nat) : StoreProt := look {} s.stores k

/-- The control store by its sequencer's selector (R130), replaced. -/
def State.setStore (s : State) (k : Nat) (x : StoreProt) : State := { s with stores := put {} s.stores k x }

/-- The Bell channel by selector (R4). -/
def State.chan (s : State) (k : Nat) : Chan := look {} s.chans k

/-- The Bell channel by selector (R4), replaced. -/
def State.setChan (s : State) (k : Nat) (x : Chan) : State := { s with chans := put {} s.chans k x }

/-- The power domain of die × 128 + number (R526). -/
def State.dom (s : State) (k : Nat) : PDom := look {} s.power k

/-- The power domain of die × 128 + number (R526), replaced. -/
def State.setDom (s : State) (k : Nat) (x : PDom) : State := { s with power := put {} s.power k x }

/-- The die (R3). -/
def State.die (s : State) (k : Nat) : DieSt := look {} s.dies k

/-- The die (R3), replaced. -/
def State.setDie (s : State) (k : Nat) (x : DieSt) : State := { s with dies := put {} s.dies k x }

/-- The outcome slot by selector (R4). -/
def State.slot (s : State) (k : Nat) : Slot := look {} s.slots k

/-- The outcome slot by selector (R4), replaced. -/
def State.setSlot (s : State) (k : Nat) (x : Slot) : State := { s with slots := put {} s.slots k x }

/-- The write port of die × 16 + number (R36). -/
def State.port (s : State) (k : Nat) : WPort := look {} s.ports k

/-- The write port of die × 16 + number (R36), replaced. -/
def State.setPort (s : State) (k : Nat) (x : WPort) : State := { s with ports := put {} s.ports k x }

/-- The subscription of a mirror slot by selector (R247). -/
def State.sub (s : State) (k : Nat) : Sub := look {} s.subs k

/-- The subscription of a mirror slot by selector (R247), replaced. -/
def State.setSub (s : State) (k : Nat) (x : Sub) : State := { s with subs := put {} s.subs k x }

/-- The demodulator by selector (R4). -/
def State.demod (s : State) (k : Nat) : Demod := look {} s.demods k

/-- The demodulator by selector (R4), replaced. -/
def State.setDemod (s : State) (k : Nat) (x : Demod) : State := { s with demods := put {} s.demods k x }

/-- The RF input by selector (R4). -/
def State.rfIn (s : State) (k : Nat) : RfIn := look {} s.inputs k

/-- The RF input by selector (R4), replaced. -/
def State.setRfIn (s : State) (k : Nat) (x : RfIn) : State := { s with inputs := put {} s.inputs k x }

/-- The lane of a selector of die and lane (R457). -/
def State.lane (s : State) (k : Nat) : Lane := look {} s.lanes k

/-- The lane of a selector of die and lane (R457), replaced. -/
def State.setLane (s : State) (k : Nat) (x : Lane) : State := { s with lanes := put {} s.lanes k x }

/-- The Ferry port of die k (R424). -/
def State.fport (s : State) (k : Nat) : FPort := look {} s.fports k

/-- The Ferry port of die k (R424), replaced. -/
def State.setFport (s : State) (k : Nat) (x : FPort) : State := { s with fports := put {} s.fports k x }

/-- The route from die × 256 + device (R451). -/
def State.fRoute (s : State) (k : Nat) : Route := look {} s.routes k

/-- The route from die × 256 + device (R451), replaced. -/
def State.setFRoute (s : State) (k : Nat) (x : Route) : State := { s with routes := put {} s.routes k x }

/-- The DSP engine by selector (R4). -/
def State.dsp (s : State) (k : Nat) : Dsp := look {} s.dsps k

/-- The DSP engine by selector (R4), replaced. -/
def State.setDsp (s : State) (k : Nat) (x : Dsp) : State := { s with dsps := put {} s.dsps k x }

/-- The detector tone by selector (R4). -/
def State.tone (s : State) (k : Nat) : Tone := look {} s.tones k

/-- The detector tone by selector (R4), replaced. -/
def State.setTone (s : State) (k : Nat) (x : Tone) : State := { s with tones := put {} s.tones k x }

/-- The majority unit by selector (R4). -/
def State.maj (s : State) (k : Nat) : Maj := look {} s.majs k

/-- The majority unit by selector (R4), replaced. -/
def State.setMaj (s : State) (k : Nat) (x : Maj) : State := { s with majs := put {} s.majs k x }

/-- The acquisition buffer of die k (R346). -/
def State.acq (s : State) (k : Nat) : Acq := look {} s.acqs k

/-- The acquisition buffer of die k (R346), replaced. -/
def State.setAcq (s : State) (k : Nat) (x : Acq) : State := { s with acqs := put {} s.acqs k x }

/-- The session of a number (R475). -/
def State.session (s : State) (k : Nat) : Session := look {} s.sessions k

/-- The session of a number (R475), replaced. -/
def State.setSession (s : State) (k : Nat) (x : Session) : State := { s with sessions := put {} s.sessions k x }

/-- The bias output by selector (R4). -/
def State.bias (s : State) (k : Nat) : Bias := look {} s.biases k

/-- The bias output by selector (R4), replaced. -/
def State.setBias (s : State) (k : Nat) (x : Bias) : State := { s with biases := put {} s.biases k x }

/-- The cycle of a bias output by selector (R382). -/
def State.biasTurn (s : State) (k : Nat) : BiasTurn := look {} s.biasTurns k

/-- The cycle of a bias output by selector (R382), replaced. -/
def State.setBiasTurn (s : State) (k : Nat) (x : BiasTurn) : State := { s with biasTurns := put {} s.biasTurns k x }

/-- The sensor channel by selector (R4). -/
def State.sns (s : State) (k : Nat) : Sns := look {} s.channels k

/-- The sensor channel by selector (R4), replaced. -/
def State.setSns (s : State) (k : Nat) (x : Sns) : State := { s with channels := put {} s.channels k x }

/-- The Ethernet port of die k (R462). -/
def State.eth (s : State) (k : Nat) : EthPort := look {} s.eths k

/-- The Ethernet port of die k (R462), replaced. -/
def State.setEth (s : State) (k : Nat) (x : EthPort) : State := { s with eths := put {} s.eths k x }

/-! Objects. -/

/-- Defaults of the objects that do not start at 0 (R505): the object tables of the chapters. -/
def objDefault (id k : Nat) : Word :=
  if id = Obj.OUTPUT_DELAY then 1024
  else if id = Obj.PTP_ANNOUNCE_TIMEOUT then 3
  else if id = Obj.FS_CURRENT then 5
  else if id = Obj.GEN_BANK_FOLLOW then 1
  else if id = Obj.SEQ_START_OFFSET then 1024
  else if id = Obj.SEQ_LOOKAHEAD then 128
  else if id = Obj.DEMOD_CONTROL then 3
  else if id = Obj.SPUR_OFFSET ∨ id = Obj.SPUR_IMAGE ∨ id = Obj.SPUR_AT_RETIRE then 0x7FFF
  else if id = Obj.TONE_CONFIG then 0x0200000000000000
  else if id = Obj.MAJ_CONFIG then 0x0001000000000000
  else if id = Obj.ACQ_RESUME then 262144
  else if id = Obj.BIAS_CONFIG then 0x1E00
  else if id = Obj.BIAS_DIVIDER then 1250
  else if id = Obj.SAFE_SLEW then 1024
  else if id = Obj.SNS_CONFIG then 0x000000080879030B
  else if id = Obj.CROSSING_SIZE then 1
  else if id = Obj.LANE_CONFIG then
    0x08800000 ||| (Config.factory id k 0 &&& 0xFFFFF)
  else if id = Obj.SESSION_TIMEOUT then 10
  else if id = Obj.SESSION_WEIGHT then 1
  else if id = Obj.MTU then 1500
  else if id = Obj.IPV4_CONFIG then 0x800000000000000000
  else if id = Obj.REG_CLOCK_SC ∨ id = Obj.REG_CLOCK_DIE ∨ id = Obj.FERRY_WAKE ∨ id = Obj.TRIM_BOOT then 1
  else if id = Obj.RISE_LIMIT then 200
  else if id = Obj.ETH_MAC ∨ id = Obj.SERIAL ∨ id = Obj.DIE_SERIAL ∨ id = Obj.FREDOM_VERSION ∨ id = Obj.STEPPING then
    Config.factory id k 0
  else 0

/-- Defaults of the words of DOMAIN objects: the pass-through chain (R126) and the factory trims (R505, R565). -/
def domDefault (id k w : Nat) : Word :=
  if (Obj.IIR_SHADOW_0 ≤ id ∧ id ≤ Obj.IIR_ACTIVE_3) then
    (if w = 0 then 0x000000000140000000#72 >>> 8 else 0)
  else if (id = Obj.FIR_SHADOW ∨ id = Obj.FIR_ACTIVE) then (if w = 4 then 0x10000#72 <<< 54 else 0)
  else if id = Obj.TRIG_CONFIG then (if w = 2 then 0x400000000 else 0)
  else if (id = Obj.OUT_TRIM ∨ id = Obj.IN_TRIM ∨ id = Obj.BIAS_TRIM ∨ id = Obj.DIE_TRIM ∨ id = Obj.SNS_REF_TRIM) then
    Config.factory id k w
  else 0

/-- The value an object holds (R512). -/
def State.rd (s : State) (id k : Nat) : Word := look (objDefault id k) (look [] s.regs id) k

/-- The value as a number. -/
def State.rdN (s : State) (id k : Nat) : Nat := (s.rd id k).toNat

/-- An object written whole (R512). -/
def State.wr (s : State) (id k : Nat) (v : Word) : State :=
  { s with regs := put [] s.regs id (put (objDefault id k) (look [] s.regs id) k v) }

/-- An object written with a number. -/
def State.wrN (s : State) (id k n : Nat) : State := s.wr id k (word n)

/-- Sticky bits set. -/
def State.setBits (s : State) (id k mask : Nat) : State := s.wr id k (s.rd id k ||| word mask)

/-- One sticky bit set. -/
def State.setBit (s : State) (id k i : Nat) : State := s.setBits id k (2 ^ i)

/-- Bits cleared (R125). -/
def State.clearBits (s : State) (id k : Nat) (mask : Word) : State := s.wr id k (s.rd id k &&& ~~~mask)

/-- A 32-bit counter raised by `n`; what a counter past 2^32 − 1 holds is not stated (log 10). -/
def State.count (s : State) (id k n : Nat) : State :=
  let v := s.rdN id k + n
  if v < 2 ^ 32 then s.wrN id k v else s.wr id k ((Config.pastLimit id k).setWidth 72)

/-- A 64-bit counter raised by `n`. -/
def State.count64 (s : State) (id k n : Nat) : State := s.wr id k (word ((s.rdN id k + n) % 2 ^ 64))

/-- A counter raised by 1. -/
def State.inc (s : State) (id k : Nat) : State := s.count id k 1

/-- A word of a DOMAIN object (R510). -/
def State.dw (s : State) (id k w : Nat) : Word :=
  look (domDefault id k w) (look [] (look [] s.doms id) k) w

/-- A word of a DOMAIN object written. -/
def State.setDw (s : State) (id k w : Nat) (v : Word) : State :=
  let t := look [] s.doms id
  { s with doms := put [] s.doms id (put [] t k (put (domDefault id k w) (look [] t k) w v)) }

/-- `n` words of a DOMAIN object from word `w`, joined with the first most significant (R510), as a number. -/
def State.dwJoin (s : State) (id k w : Nat) : Nat → Nat
  | 0 => 0
  | n + 1 => s.dwJoin id k w n * 2 ^ 72 + (s.dw id k (w + n)).toNat

/-! Writes that a unit sees some cycles later. -/

/-- The value that a write is about to replace, remembered (R143, R151, R177, R354, R359). -/
def State.note (s : State) (id k w : Nat) (old : Word) : State :=
  { s with recent := ⟨id, k, w, old, s.clock.cyc⟩ :: s.recent.filter (fun r => s.clock.cyc < r.cyc + 32) }

/-- The value that a write less than `delay` cycles ago replaced, oldest first. -/
def State.before (s : State) (id k w delay : Nat) : Option Word :=
  ((s.recent.filter (fun r => r.id == id && r.sel == k && r.w == w && decide (s.clock.cyc < r.cyc + delay))).getLast?).map
    (·.old)

/-- An object as a unit sees it that sees writes `delay` cycles late. -/
def State.rdSeen (s : State) (id k delay : Nat) : Word := (s.before id k 0 delay).getD (s.rd id k)

/-- A word of a DOMAIN object as a unit sees it that sees writes `delay` cycles late. -/
def State.dwSeen (s : State) (id k w delay : Nat) : Word := (s.before id k w delay).getD (s.dw id k w)

/-- An object written whose units see the write late. -/
def State.wrNoted (s : State) (id k : Nat) (v : Word) : State := (s.note id k 0 (s.rd id k)).wr id k v

/-- A word of a DOMAIN object written whose units see the write late. -/
def State.setDwNoted (s : State) (id k w : Nat) (v : Word) : State := (s.note id k w (s.dw id k w)).setDw id k w v

/-! Time and free values. -/

/-- The count of cycles that have passed (log 6). -/
abbrev State.cyc (s : State) : Nat := s.clock.cyc

/-- Device time as a number (R63). -/
def State.now (s : State) : Nat := s.clock.now.toNat

/-- A fresh value that the manual leaves open (log 1), and the state in which it has been taken. -/
def State.take (s : State) : Nat × State := (Config.freeNat s.free, { s with free := s.free + 1 })

/-- Serial order of epochs: `a` is at or beyond `b` (R44). -/
def epochAtLeast (a b : Epoch) : Bool := decide ((a - b).toNat < 32768)

/-- Serial order of epochs: `a` is beyond `b` (R44, R46). -/
def epochBeyond (a b : Epoch) : Bool := epochAtLeast a b && a != b

/-! Power domains (R526). -/

/-- State of domain `n` of die `d`. -/
def State.domSt (s : State) (d n : Nat) : PState := (s.dom (d * 128 + n)).st

/-- A domain that runs. -/
def State.domOn (s : State) (d n : Nat) : Bool := s.domSt d n == .s0

/-- A domain whose state is kept: S0 or S1 (R528). -/
def State.domKept (s : State) (d n : Nat) : Bool := s.domSt d n == .s0 || s.domSt d n == .s1

/-- Domain of RF output `o` (R526). -/
def domOut (o : Nat) : Nat := 6 + o
/-- Domain of the envelope memory (R526). -/
def domEnv : Nat := 22
/-- Domain of RF input `i` (R526). -/
def domIn (i : Nat) : Nat := 23 + i
/-- Domain of the weight memory (R526). -/
def domWeights : Nat := 31
/-- Domain of sequencer `q` (R526). -/
def domSeq (q : Nat) : Nat := 34 + q
/-- Domain of DSP engine `k` (R526). -/
def domDsp (k : Nat) : Nat := 50 + k
/-- Domain of the bias quad of output `o` (R526). -/
def domBias (o : Nat) : Nat := 58 + o / 4
/-- Domain of sensor channel `c` (R526). -/
def domSensor (c : Nat) : Nat := 74 + c

/-- A die of the member whose fabric runs (R368, R530). -/
def State.dieRuns (s : State) (d : Nat) : Bool :=
  decide (d < s.member.dies) && (s.die d).trained && !(s.die d).s3

/-! The Gangway (R20–R25). -/

/-- The die at the far end of a link, numbered as in R149 (R20). -/
def farDie (n d link : Nat) : Nat :=
  if link = 0 then (d + 1) % n else if link = 1 then (d + n - 1) % n else (d + n / 2) % n

/-- The link of the far die that faces a link (R367). -/
def farLink (n link : Nat) : Nat := if n = 2 then 0 else if link = 0 then 1 else if link = 1 then 0 else 2

/-- The fixed route between two dies: the die and the link of each hop (R22). -/
def route (n i j : Nat) : List (Nat × Nat) :=
  if n = 8 then
    match (j + 8 - i) % 8 with
    | 0 => []
    | 1 => [(i, 0)]
    | 2 => [(i, 0), ((i + 1) % 8, 0)]
    | 3 => [(i, 2), ((i + 4) % 8, 1)]
    | 4 => [(i, 2)]
    | 5 => [(i, 2), ((i + 4) % 8, 0)]
    | 6 => [(i, 1), ((i + 7) % 8, 1)]
    | _ => [(i, 1)]
  else if i = j then []
  else if n = 4 then
    match (j + 4 - i) % 4 with
    | 1 => [(i, 0)]
    | 3 => [(i, 1)]
    | _ => [(i, 2)]
  else [(i, 0)]

/-- Hop count of the route between two dies (R22). -/
def hops (n i j : Nat) : Nat := (route n i j).length

/-- A link that carries traffic in the direction away from die `d` (R25, R582). -/
def State.linkUp (s : State) (d link : Nat) : Bool :=
  (s.glink (d * 4 + link)).up &&
    (s.glink (farDie s.member.dies d link * 4 + farLink s.member.dies link)).up

/-- An epoch request in flight (R47). -/
def MsgBody.isEpoch : MsgBody → Bool
  | .epoch _ => true
  | _ => false

/-- A mirror update in flight (R254). -/
def MsgBody.isUpdate : MsgBody → Bool
  | .update _ => true
  | _ => false

/-- Decision messages that a flit carries; a bulk flit carries none (R259). -/
def flitMsgs : FlitBody → Nat
  | .decision _ _ ms => ms.length
  | .bulk .. => 0

/-- Places that a message takes of the sixteen of a link in a cycle (R24): a forwarded flit takes one for each decision
message it carries, and bulk traffic takes none (R23; log 55). -/
def MsgBody.places : MsgBody → Nat
  | .flit b => flitMsgs b
  | _ => 1

/-- A hop that a message to die `dst` can take: its link carries traffic, or it is the last hop of an epoch request or
mirror update to a die in S3, whose units apply the one at once and which discards the other (R25, R43, R262; log 55). -/
def State.hopOpen (s : State) (dst : Nat) (b : MsgBody) (h : Nat × Nat) : Bool :=
  s.linkUp h.1 h.2 || ((b.isEpoch || b.isUpdate) && (s.die dst).s3 && farDie s.member.dies h.1 h.2 == dst)

/-- REMOTE_FAULT is due at the sequencer that issued a message that has been dropped (R25, R168; log 55). -/
def State.issuerFault (s : State) (d : Nat) : Option Nat → State
  | some q => let x := s.seq (sel d q); s.setSeq (sel d q) { x with faultAt := x.faultAt ++ [s.cyc + 2] }
  | none => s

/-- A message put on its way along the fixed route (R22) at cycle `c`, whatever the route can carry. -/
def State.launch (s : State) (c src dst unit : Nat) (issuer : Option Nat) (body : MsgBody) : State :=
  { s with flight := s.flight ++
      [{ due := c, src := src, dst := dst, body := body, unit := unit, left := route s.member.dies src dst,
         issuer := issuer }] }

/-- A decision-class message sent from a unit of a die to another die. On an undeliverable route it is dropped and counted
in DECISION_DROPPED of the sending die, and the sequencer that issued it takes REMOTE_FAULT (R25). -/
def State.send (s : State) (src dst unit : Nat) (issuer : Option Nat) (body : MsgBody) : State :=
  if (route s.member.dies src dst).all (s.hopOpen dst body) then s.launch s.cyc src dst unit issuer body
  else (s.inc Obj.DECISION_DROPPED (sel src 0)).issuerFault src issuer

/-- The congestion counter of a link (R24). -/
def congested (link : Nat) : Nat :=
  if link = 0 then Obj.GANGWAY_CONGESTED_0 else if link = 1 then Obj.GANGWAY_CONGESTED_1 else Obj.GANGWAY_CONGESTED_2

/-- A message is offered to a link in this cycle. -/
def State.offers (s : State) (h : Nat × Nat) (m : Msg) : Bool := m.left.head? == some h && decide (m.due ≤ s.cyc)

/-- A message put among others of one cycle in the order of R24: source die, then source unit, then order of sending. -/
def Msg.place (m : Msg) : List Msg → List Msg
  | [] => [m]
  | x :: xs => if m.src < x.src ∨ (m.src = x.src ∧ m.unit < x.unit) then m :: x :: xs else x :: m.place xs

/-- Messages of one cycle in the order of R24. -/
def inTurn (ms : List Msg) : List Msg := ms.foldl (fun t m => m.place t) []

/-- One link takes messages in their turns while `room` places are left; the first that finds no room, and every later one,
waits one cycle and counts (R24). -/
def State.crossLink (s : State) (h : Nat × Nat) : Nat → List Msg → State
  | _, [] => s
  | room, m :: ms =>
    if !s.hopOpen m.dst m.body h then
      ((s.count Obj.DECISION_DROPPED (sel h.1 0) m.body.places).issuerFault m.src m.issuer).crossLink h room ms
    else if m.body.places ≤ room then
      ({ s with flight := s.flight ++ [{ m with due := s.cyc + 30, left := m.left.tail, waited := false }] } : State).crossLink h
        (room - m.body.places) ms
    else
      (({ s with flight := s.flight ++ [{ m with due := s.cyc + 1, waited := true }] } : State).count (congested h.2)
        (sel h.1 0) (if m.waited then 0 else m.body.places)).crossLink h 0 ms

/-- The messages offered to a link in this cycle cross it, wait, or are dropped on the die before it (R21, R24, R25). -/
def State.linkTurn (s : State) (h : Nat × Nat) : State :=
  let ms := s.flight.filter (s.offers h)
  ({ s with flight := s.flight.filter (fun m => !s.offers h m) } : State).crossLink h 16 (inTurn ms)

/-- Every link that is offered messages takes its turn, as the cycle ends. -/
def State.linkTurns (s : State) : State :=
  ((s.flight.filter (fun m => decide (m.due ≤ s.cyc))).filterMap (fun m => m.left.head?)).eraseDups.foldl State.linkTurn s

/-- A REMOTE command in flight (R109). -/
def MsgBody.isRemote : MsgBody → Bool
  | .remote .. => true
  | _ => false

/-- A bridge event in flight (R366). -/
def MsgBody.isBridge : MsgBody → Bool
  | .bridge .. => true
  | _ => false

/-- A refusal or a free-entry notice on its way to sequencer `q` (R32). -/
def MsgBody.isFor (q : Nat) : MsgBody → Bool
  | .refusal n _ _ => n == q
  | .freed n _ _ => n == q
  | _ => false

/-- The first message to die `d` that has arrived and has a property, taken out of flight. -/
def State.arrived (s : State) (d : Nat) (p : MsgBody → Bool) : Option (Msg × State) :=
  match takeFirst (fun m => m.dst == d && m.left.isEmpty && decide (m.due ≤ s.cyc) && p m.body) s.flight with
  | some (m, rest) => some (m, { s with flight := rest })
  | none => none

/-- The Ferry port of die `d` is up (R437). -/
def State.portUp (s : State) (d : Nat) : Bool := (s.fport d).up

/-- The device's own number (R449). -/
def State.ownDevice (s : State) : Nat := s.rdN Obj.CROSSING_DEVICE 0

/-! Epochs (R42–R51). -/

/-- The key of a unit of an epoch class. -/
def applKey (cls k : Nat) : Nat := cls * 65536 + k

/-- The epoch that a unit has applied (R49). -/
def State.appliedEpoch (s : State) (cls k : Nat) : Epoch := newest 0 (s.appl (applKey cls k)).pub

/-- A request checked against the record of a die (R46). -/
def State.receiveEpoch (s : State) (d : Nat) (r : EpochReq) : Bool × State :=
  let key := d * 4 + r.cls
  let e := s.epochRec key
  if epochBeyond r.epoch e.last then
    (true, s.setEpochRec key { last := r.epoch, reqs := (s.cyc + 2, r) :: trimTrail s.cyc e.reqs })
  else (false, s.inc Obj.STALE_REQUESTS 0)

/-- The same request sent to a list of dies, each reached after its hops (R47). -/
def State.sendEpochs (s : State) (src : Nat) (issuer : Option Nat) (r : EpochReq) : List Nat → State
  | [] => s
  | d :: ds => (if d = src then s else s.send src d (issuer.getD 0) issuer (.epoch r)).sendEpochs src issuer r ds

/-- A request issued at its die of origin by the host or by a sequencer (R45, R46). -/
def State.issueEpoch (s : State) (d : Nat) (issuer : Option Nat) (r : EpochReq) : State :=
  if r.cls = 3 then s.inc Obj.STALE_REQUESTS 0
  else
    match s.receiveEpoch d r with
    | (true, s1) => s1.sendEpochs d issuer r s1.dieList
    | (false, s1) => s1

/-- The request that a unit of die `d` applies at a boundary now: the furthest it has received, if it is beyond what it
has applied and no reset has dropped it (R49, R579). -/
def State.pendingEpoch (s : State) (d cls k : Nat) : Option EpochReq :=
  match (s.epochRec (d * 4 + cls)).reqs.filter (fun p => decide (p.1 ≤ s.cyc)) with
  | [] => none
  | (_, r) :: _ =>
    let a := s.appl (applKey cls k)
    if epochBeyond r.epoch (newest 0 a.pub) && a.dropped != some r.epoch then some r else none

/-- A unit publishes an applied epoch; observers up to two Gangway hops away see it later (R52). -/
def State.publish (s : State) (cls k : Nat) (r : EpochReq) (selected : Bool) : State :=
  let a := s.appl (applKey cls k)
  s.setAppl (applKey cls k)
    { a with pub := pushTrail 128 s.cyc r.epoch a.pub, setting := if selected then r.setting else a.setting }

/-- The CTLE preset of a lane for a band (R428, R439). -/
def State.preset (s : State) (k b : Nat) : Nat := bits (s.rd Obj.LANE_CONFIG k) (4 * b + 3) (4 * b)

/-- The CTLE preset of a lane for the band it has applied (R43, R428). -/
def State.bandPreset (s : State) (d l : Nat) : Nat :=
  s.preset (sel d l) ((s.appl (applKey 3 (d * 30 + 16 + l))).setting.toNat % 8)

/-! The fault log (R562–R564). -/

/-- A fault-log entry that waits for the store (R563). -/
def State.log (s : State) (d cls action unit detail : Nat) : State :=
  let x := s.die d
  if x.logs.length < 64 then
    s.setDie d { x with logs := x.logs ++ [⟨s.cyc, cls, action, d, unit, BitVec.ofNat 32 detail,
      BitVec.ofNat 32 (s.rdN Obj.POWER_ON_SECONDS 0), BitVec.ofNat 16 (s.rdN Obj.POWER_CYCLES 0)⟩] }
  else (s.setDie d { x with logsLost := x.logsLost + 1 }).inc Obj.FAULT_LOG_LOST 0

/-! Bell events at their producers (R353–R363). -/

/-- The candidate producers of a channel in order C0–C3 (R356). -/
def candidates (c : Nat) : List (Option Nat) :=
  if c < 160 then
    let s := c / 10
    let j := c % 10
    let e := s / 2
    if j = 0 then [some (7 * ((s + 15) % 16) + 5), some (160 + s), some 385, some (388 + s % 4)]
    else if j = 1 then [some (7 * s + 6), some (160 + s), some (7 * ((s + 1) % 16) + 5), some 382]
    else if j < 6 then
      let n := j - 2
      [some (7 * ((s + 15) % 16) + n), some (112 + 6 * e + n), some (160 + (s + n) % 16),
        some (334 + 16 * (n % 3) + s)]
    else
      let n := j - 6
      [some (7 * ((s + 1) % 16) + n), some (112 + 6 * e + n), some (194 + (4 * s + n)),
        some (334 + 16 * ((n + 1) % 3) + s)]
  else if c < 224 then
    let k := (c - 160) / 8
    let i := (c - 160) % 8
    if i < 4 then [some (7 * (2 * k) + i), some (7 * (2 * k + 1) + i), some (160 + (2 * k + i % 2)),
      some (334 + 16 * (i % 3) + (8 + k))]
    else if i = 4 then [some (7 * (2 * k) + 4), some (7 * (2 * k + 1) + 4), some 176, some 177]
    else if i = 5 then [some (7 * (2 * k) + 5), some (7 * (2 * k + 1) + 5), some (178 + 2 * k + 1), some (178 + 2 * k)]
    else if i = 6 then [some (388 + k % 4), some 385, some 386, some 383]
    else [some (322 + 3 * (k % 4)), some (322 + 3 * (k % 4) + 1), some (112 + 6 * ((k + 1) % 8) + 4),
      some (112 + 6 * ((k + 1) % 8) + 5)]
  else if c < 240 then
    let u := c - 224
    [some (7 * u), some (160 + (u + 1) % 16), some (334 + 16 * (u % 3) + u), some (388 + u % 4)]
  else if c = 240 then [some 4, some (7 * 8 + 4), some 160, some 385]
  else if c < 253 then
    let g := (c - 241) / 3
    if (c - 241) % 3 = 0 then [some (7 * (4 * g)), some (388 + g), some 385, some (334 + 16 * (g % 3) + (12 + g))]
    else if (c - 241) % 3 = 1 then [some (7 * (4 * g) + 1), some (160 + 4 * g), some 382, some (7 * (4 * g) + 5)]
    else [some (7 * (4 * g) + 2), some (7 * (4 * g + 1) + 2), some (112 + 6 * (2 * g)), none]
  else if c = 253 then [some 391, some (7 * 15 + 3), some 385, none]
  else if c = 254 then [some 382, some 387, some 176, some 3]
  else if c = 255 then [some 383, some 387, some 176, some (7 * 15 + 3)]
  else [none, none, none, none]

/-- The candidates of a channel that a producer is, as EN bits (R359). -/
def candMask (c p : Nat) : BitVec 4 :=
  let m := (candidates c).map (fun x => x == some p)
  BitVec.ofNat 4 (b2n (m.getD 0 false) + 2 * b2n (m.getD 1 false) + 4 * b2n (m.getD 2 false) + 8 * b2n (m.getD 3 false))

/-- A sticky bit of CHAN_STATUS set; the direct lines of R357 have no objects. -/
def State.chanBit (s : State) (k i : Nat) : State := if selUnit k < 256 then s.setBit Obj.CHAN_STATUS k i else s

/-- A counter of a channel increased; the direct lines of R357 have none. -/
def State.chanInc (s : State) (id k : Nat) : State := if selUnit k < 256 then s.inc id k else s

/-- An event on a channel, raised in this cycle under the configuration in force (R359, R360, R361). Events of one
channel raised in one cycle merge, and COINCIDENT is set (R363); a producer raised twice in it raises one (R353). The direct lines of R357 use the numbers 512 + 16k + i
and are clocked. -/
def State.addEvent (s : State) (d c : Nat) (cands : BitVec 5) : State :=
  let k := sel d c
  let cfg := (s.rdSeen Obj.CHAN_CONFIG k 2).setWidth 32
  let x := s.chan k
  let un := bit cfg 23 && bits cfg 21 20 == 0
  match takeFirst (fun e => e.raised == s.cyc) x.events with
  | some (e, _) =>
    if cands ≠ 16 ∧ e.cands &&& cands = cands then s
    else (s.setChan k { x with events := x.events.map (fun f => if f.raised = s.cyc then { f with cands := e.cands ||| cands } else f) }).chanBit
      k 2
  | none =>
    s.setChan k { x with events := x.events ++
      [⟨s.cyc, if un then s.cyc + 3 else s.cyc + 2, if un then s.cyc + 5 else s.cyc + 2, un, cands, cfg⟩] }

/-- The channels of a die whose configuration is not at its default or was not a few cycles ago. -/
def State.setChannels (s : State) (d : Nat) : List Nat :=
  let written := (look [] s.regs Obj.CHAN_CONFIG).map Prod.fst
  let changed := (s.recent.filter (fun r => r.id == Obj.CHAN_CONFIG)).map (·.sel)
  (written ++ changed).eraseDups.filterMap (fun k => if selDie k = d then some (selUnit k) else none)

/-- An event of producer `p` offered to a list of channels (R360). -/
def State.offer (s : State) (d p : Nat) : List Nat → State
  | [] => s
  | c :: cs =>
    let en : BitVec 4 := BitVec.ofNat 4 (bits (s.rdSeen Obj.CHAN_CONFIG (sel d c) 2) 27 24)
    let m := en &&& candMask c p
    (if m = 0 then s else s.addEvent d c (m.setWidth 5)).offer d p cs

/-- Producer `p` of die `d` raises its event in this cycle (R353). A die in S3, or one whose fabric is off, raises
nothing (R368). SIG0–SIG3 of DSP engine k also drive the direct lines of its neighbours (R357). -/
def State.raise (s : State) (d p : Nat) : State :=
  if s.dieRuns d then
    let s1 := s.offer d p (s.setChannels d)
    if 112 ≤ p ∧ p < 160 ∧ (p - 112) % 6 < 4 then
      let k := (p - 112) / 6
      let q := (p - 112) % 6
      (s1.addEvent d (512 + 16 * ((k + 1) % 8) + (8 + q)) 1).addEvent d (512 + 16 * ((k + 7) % 8) + (12 + q)) 1
    else s1
  else s

/-- A producer outside the fabric domain raises its event in the cycle in which its cause has crossed into the fabric, at the
fixed latency of R62, whose figure is not stated (R353, log 65). -/
def State.raiseAcross (s : State) (d p : Nat) : State :=
  if s.dieRuns d then { s with later := s.later ++ [(s.cyc + Config.crossing p, d, p)] } else s

/-- The scanned lands have left their functions (R601): EXTEST, HIGHZ, CLAMP, EXTEST_PULSE or EXTEST_TRAIN is in the
instruction register. -/
def State.scanning (s : State) : Bool :=
  s.jtag.ir == 0 || s.jtag.ir == 3 || s.jtag.ir == 4 || s.jtag.ir == 5 || s.jtag.ir == 6

end Sys2Proof.Machine
end

