-- ==== Sys2Proof/Machine/Bell.lean ====
section
/-!
DEFINITION. Bell channels: delivery to task inputs, configuration, fires, bridges, ticks and the ALERT consumer
(R353–R376).
-/

namespace Sys2Proof.Machine

/-- An event goes to its channel's own consumer, not over a bridge (R359). -/
def BellEvent.isLocal (e : BellEvent) : Bool := bits e.config 21 20 == 0

/-- Several events that take effect as one (R363). -/
def mergeEvents (es : List BellEvent) : Option BellEvent :=
  match es with
  | [] => none
  | e :: rest => some { e with cands := rest.foldl (fun m f => m ||| f.cands) e.cands,
                               unclocked := rest.foldl (fun m f => m || f.unclocked) e.unclocked }

/-- A task input has stopped being busy in this cycle, and is busy throughout it (R362). -/
def State.freeInput (s : State) (d c : Nat) : State :=
  let k := sel d c
  s.setChan k { s.chan k with keptFrom := s.cyc + 1 }

/-- The events of a channel that are due at its task input, delivered (R360–R363): the one event that takes effect, and
the state after it. `busy` says that the task input is busy; an event then is remembered or dropped. -/
def State.deliver (s : State) (d c : Nat) (busy : Bool) : Option BellEvent × State :=
  let k := sel d c
  let x := s.chan k
  let isDue := fun e : BellEvent => e.isLocal && decide (e.due ≤ s.cyc)
  let due := x.events.filter isDue
  let s1 := s.setChan k { x with events := x.events.filter (fun e => !isDue e) }
  if busy || decide (s.cyc < x.keptFrom) then
    match mergeEvents due with
    | none => (none, s)
    | some e =>
      let s2 := if 2 ≤ due.length then s1.chanBit k 2 else s1
      if e.unclocked ∧ x.kept = none then (none, s2.setChan k { s2.chan k with kept := some e })
      else (none, (s2.chanBit k 1).chanInc Obj.CHAN_DROPPED k)
  else
    let all := due ++ x.kept.toList
    match mergeEvents all with
    | none => (none, s)
    | some e =>
      let s2 := if 2 ≤ all.length ∨ x.lastAt = some s.cyc then s1.chanBit k 2 else s1
      let s3 := s2.setChan k { s2.chan k with kept := none, lastAt := some s.cyc }
      if x.lastAt = some s.cyc then (none, s3) else (some e, s3.chanInc Obj.CHAN_EVENTS k)

/-! Configuration and fires. -/

/-- Whether a session is administrative (R476). -/
def State.isAdmin (s : State) (ses : Nat) : Bool := (s.session ses).live && (s.session ses).admin

/-- A session that is not closed (R475). -/
def State.isOpen (s : State) (ses : Nat) : Bool := (s.session ses).live

/-- A session may write a channel's configuration (R371, R372): the channel's owner, an administrative session, or any
session on an unowned channel; attribute S is for administrative sessions. -/
def State.mayConfigure (s : State) (k ses : Nat) (wantS : Bool) : Bool :=
  let attr := bit (s.rd Obj.CHAN_CONFIG k) 22
  s.isAdmin ses || (s.isOpen ses && !attr && !wantS &&
    (match (s.chan k).owner with
     | none => true
     | some o => o == ses))

/-- A session may fire a channel (R365). -/
def State.mayFire (s : State) (k ses : Nat) : Bool := s.mayConfigure k ses false

/-- A CHAN_CONFIG value that breaks the rules: reserved bits, DEST 10 or 11, a link the member lacks, an absent
candidate (host errors of the chapter). -/
def chanConfigBad (m : Member) (c : Nat) (v : BitVec 32) : Bool :=
  bits v 31 28 != 0 || bits v 13 0 != 0 || decide (2 ≤ bits v 21 20) ||
    (bits v 21 20 == 1 && (bits v 19 18 == 3 || (m == .pw2 && bits v 19 18 != 0))) ||
    (List.range 4).any (fun n => bit v (24 + n) && (candidates c).getD n none == none)

/-- CHAN_CONFIG (R359, R371, R372): the channel takes its configuration, for events raised from 2 cycles later, and a
writer of an unowned channel becomes its owner. A write without the right changes nothing. -/
def execChanConfig (d c ses : Nat) (v : BitVec 32) (s : State) : Out :=
  let k := sel d c
  if !s.mayConfigure k ses (bit v 22) then .next s
  else
    let s1 := s.wrNoted Obj.CHAN_CONFIG k (v.setWidth 72)
    let x := s1.chan k
    unlessError (chanConfigBad s.member c v) (s1.setChan k { x with owner := some (x.owner.getD ses) })

/-- A channel fired by software in this cycle (R364). -/
def State.fireNow (s : State) (d c : Nat) : State := if s.dieRuns d then s.addEvent d c 16 else s

/-- CHAN_FIRE_IMMEDIATE (R364, R365). -/
def execChanFireImmediate (d c ses : Nat) (s : State) : Out :=
  if s.mayFire (sel d c) ses then .next (s.fireNow d c) else .next s

/-- Timed fires pending on a die (R364). -/
def State.firesOf (s : State) (d : Nat) : List TimedFire := s.fires.filter (fun f => f.die == d)

/-- A timed fire put in order of TIME (R364). -/
def insFire (f : TimedFire) : List TimedFire → List TimedFire
  | [] => [f]
  | g :: gs => if f.time.toNat < g.time.toNat then f :: g :: gs else g :: insFire f gs

/-- CHAN_FIRE_TIMED (R364, R365): a timed fire is queued; with the die's queue full it is refused and counted; with its
TIME past it fires at once and is counted. -/
def execChanFireTimed (d c ses : Nat) (time : Time) (s : State) : Out :=
  if !s.mayFire (sel d c) ses then .next s
  else if time.toNat < s.now then .next ((s.fireNow d c).inc Obj.LATE_FIRES (sel d 0))
  else if 64 ≤ (s.firesOf d).length then .next (s.inc Obj.FIRE_REFUSED (sel d 0))
  else .next { s with fires := insFire ⟨d, c, time⟩ s.fires }

/-- TIMED_FIRE_EXPIRE (R364): the fires of a die whose TIME has come take place, in order of TIME. -/
def execTimedFireExpire (d : Nat) (s : State) : Out :=
  let due := fun f : TimedFire => f.die == d && decide (f.time.toNat ≤ s.now)
  .next ((s.fires.filter due).foldl (fun t f => t.fireNow d f.chan) { s with fires := s.fires.filter (fun f => !due f) })

/-- CHAN_FIRE_CANCEL (R364, R371): every pending timed fire of the channel is removed. -/
def execChanFireCancel (d c ses : Nat) (s : State) : Out :=
  if s.mayConfigure (sel d c) ses false then .next { s with fires := s.fires.filter (fun f => !(f.die == d && f.chan == c)) }
  else .next s

/-- CHAN_RELEASE (R371, R372): the owner is removed by itself or by an administrative session; of a channel whose ATTR is 1 by
an administrative session alone. -/
def execChanRelease (d c ses : Nat) (s : State) : Out :=
  let k := sel d c
  let x := s.chan k
  let own := s.isOpen ses && x.owner == some ses && !bit (s.rd Obj.CHAN_CONFIG k) 22
  if s.isAdmin ses || own then .next (s.setChan k { x with owner := none }) else .next s

/-- A forward step of device time in this cycle skipped over a tick of a grid (R70, R354). -/
def State.skippedTick (s : State) (t p : Nat) : Bool :=
  s.clock.stepCyc == some s.cyc && decide (s.clock.stepFrom.toNat < s.now - (s.now - t) % p)

/-- TICK (R354): a tick generator raises its producer in the cycles of its grid, and once for ticks that a step skipped
over. The objects act 2 cycles after a write. -/
def execTick (d n : Nat) (s : State) : Out :=
  let p := (s.rdSeen (Obj.TICK_PERIOD_0 + n) (sel d 0) 2).toNat
  let t := (s.rdSeen (Obj.TICK_START_0 + n) (sel d 0) 2).toNat
  if n < 4 ∧ 0 < p ∧ t ≤ s.now ∧ ((s.now - t) % p = 0 ∨ s.skippedTick t p) then .next (s.raise d (388 + n)) else .next s

/-- ALERT_TASK (R369): an event at ALERT sets ALERT_EVENT of the die. -/
def execAlertTask (d : Nat) (s : State) : Out :=
  match s.deliver d 254 false with
  | (some _, s1) => .next (s1.wrN Obj.ALERT_EVENT (sel d 0) 1)
  | (none, s1) => .next s1

/-- ALERT_CLEAR (R369): a write of 1 clears ALERT_EVENT. -/
def execAlertClear (d : Nat) (s : State) : Out := .next (s.wrN Obj.ALERT_EVENT (sel d 0) 0)

/-! Bridges (R366–R368). -/

/-- The link that faces a link, as the bridge-in producer numbers it (R367). -/
def bridgeProducer (n link lane : Nat) : Nat := 334 + 16 * farLink n link + lane

/-- Channels of a die whose event reaches a bridge lane in this cycle: link, lane and channel. -/
def State.bridgeDue (s : State) (d : Nat) : List (Nat × Nat × Nat) :=
  s.chans.flatMap (fun p =>
    if selDie p.1 = d then
      (p.2.events.filter (fun e => !e.isLocal && decide (e.raised + 2 ≤ s.cyc))).map
        (fun e => (bits e.config 19 18, bits e.config 17 14, selUnit p.1))
    else [])

/-- One event entered on a bridge lane for a list of channels (R366, R368). -/
def State.enterLane (s : State) (d link lane : Nat) (cs : List Nat) : State :=
  let n := s.member.dies
  let far := farDie n d link
  let s1 := cs.foldl (fun t c =>
    let k := sel d c
    let u := (t.setChan k { t.chan k with lastAt := some t.cyc }).chanInc Obj.CHAN_EVENTS k
    if 2 ≤ cs.length then u.chanBit k 2 else u) s
  if !s1.linkUp d link || (s1.die far).s3 then s.inc Obj.BRIDGE_DROPPED (sel d 0)
  else
    { s1 with flight := s1.flight ++
        [{ due := s1.cyc, src := d, dst := far, body := .bridge link lane cs, unit := lane, left := [(d, link)] }] }

/-- Events of a die's channels with DEST BRIDGE enter their lanes (R366). -/
def State.bridgeEntry (s : State) (d : Nat) : State :=
  let due := s.bridgeDue d
  if due.isEmpty then s
  else
    let s1 := (s.chans.map Prod.fst).foldl (fun t k =>
      if selDie k = d then
        let x := t.chan k
        t.setChan k { x with events := x.events.filter (fun e => e.isLocal || decide (s.cyc < e.raised + 2)) }
      else t) s
    let lanes := (due.map (fun x => (x.1, x.2.1))).eraseDups
    lanes.foldl (fun t l => t.enterLane d l.1 l.2 ((due.filter (fun x => x.1 == l.1 && x.2.1 == l.2)).map (·.2.2))) s1

/-- BRIDGE_EVENT_ARRIVE (R367, R353): bridge events that have reached a die are raised as its bridge-in producers. -/
def execBridgeEventArrive (d : Nat) (s : State) : Out :=
  match s.arrived d MsgBody.isBridge with
  | some (m, s1) =>
    match m.body with
    | .bridge link lane _ => .next (s1.raise d (bridgeProducer s.member.dies link lane))
    | _ => .next s1
  | none => .next s

/-- CHAN_STATUS as read (R375). -/
def State.chanStatus (s : State) (k : Nat) : Word :=
  let x := s.chan k
  s.rd Obj.CHAN_STATUS k ||| word (b2n x.kept.isSome * 16 +
    b2n (s.fires.any (fun f => f.die == selDie k && f.chan == selUnit k)) * 8 + b2n x.owner.isSome)

/-- The code of a candidate in WIRING (R358). -/
def candCode (c : Option Nat) : Nat := c.getD 0x1FF

/-- The half of a WIRING word that holds a channel (R358). -/
def wiringHalf (c : Nat) : Nat := (candidates c).foldl (fun a x => a * 512 + candCode x) 0

/-- A word of WIRING (R358). -/
def wiringWord (w : Nat) : Word := word (wiringHalf (2 * w) * 2 ^ 36 + wiringHalf (2 * w + 1))

end Sys2Proof.Machine
end

