-- ==== Sys2Proof/Machine/Generators.lean ====
section
/-!
DEFINITION. Tone generators and RF outputs: command queues, pulses, modes and commits, and what one cycle does to a
generator (chapter "Tone Generators and RF Outputs"; R29–R34 of "Architecture").
-/

namespace Sys2Proof.Machine

/-- A generator plays: the cycle lies from that of its pulse's first envelope sample to that of its last (R103). -/
def Gen.playing (g : Gen) (c : Nat) : Bool :=
  match g.pulse with
  | some p => decide (p.start ≤ c) && decide (c < p.start + p.len)
  | none => false

/-- A generator holds the last sample of a pulse (R103). -/
def Gen.holding (g : Gen) (c : Nat) : Bool :=
  match g.pulse with
  | some p => decide (p.start + p.len ≤ c) && p.hold
  | none => false

/-- Generator `g` of die `d` plays in this cycle (R103). -/
def State.playing (s : State) (d g : Nat) : Bool := (s.gen (sel d g)).playing s.cyc

/-- The generators of an output (R4). -/
def gensOf (o : Nat) : List Nat := (List.range 8).map (fun i => 8 * o + i)

/-- None of the output's eight generators is playing: its boundary (R42, R113, R118). -/
def State.outIdle (s : State) (d o : Nat) : Bool := (gensOf o).all (fun g => !s.playing d g)

/-- A generator of the output plays or holds (R125). -/
def State.outActive (s : State) (d o : Nat) : Bool :=
  (gensOf o).any (fun g => s.playing d g || (s.gen (sel d g)).holding s.cyc)

/-- An RF output that a verify has retired (R123). -/
def State.outRetired (s : State) (k : Nat) : Bool := s.nv.outs.contains k

/-- The order of commands with one stamp: source die, sequencer, order of issue (R30). -/
def GenCmd.before (a b : GenCmd) : Bool :=
  if a.stamp ≠ b.stamp then decide (a.stamp.toNat < b.stamp.toNat)
  else if a.die ≠ b.die then decide (a.die < b.die)
  else if a.seq ≠ b.seq then decide (a.seq < b.seq)
  else decide (a.ord < b.ord)

/-- A command put in its place in a queue (R29, R30). -/
def insCmd (c : GenCmd) : List GenCmd → List GenCmd
  | [] => [c]
  | x :: xs => if c.before x then c :: x :: xs else x :: insCmd c xs

/-- A notice to a sequencer that the queue of its latest refusal has a free entry (R32). -/
def State.notifyFree (s : State) (d g : Nat) (owner : Nat × Nat) : State :=
  if owner.1 = d then
    let k := sel d owner.2
    let q := s.seq k
    if q.refusedBy = some (d, g) then s.setSeq k { q with qfree := true } else s
  else s.send d owner.1 g none (.freed owner.2 d g)

/-- The notices owed by a queue that has gained a free entry (R32). -/
def State.payOwed (s : State) (d g : Nat) : State :=
  let x := s.gen (sel d g)
  if x.owed.isEmpty || decide (32 ≤ x.queue.length) then s
  else x.owed.foldl (fun t o => t.notifyFree d g o) (s.setGen (sel d g) { x with owed := [] })

/-- A sequencer's command was refused: QFULL sets and QFREE clears (R32). -/
def State.seqRefused (s : State) (d q gd g : Nat) : State :=
  let x := s.seq (sel d q)
  s.setSeq (sel d q) { x with qfull := true, qfree := false, refusedBy := some (gd, g) }

/-- A sequencer's command was accepted: QFULL clears (R32). -/
def State.seqAccepted (s : State) (d q : Nat) : State :=
  let x := s.seq (sel d q)
  s.setSeq (sel d q) { x with qfull := false }

/-- The order in which the arrivals of one cycle are admitted: that of R30, source die, sequencer, order of issue (R32). -/
def GenCmd.ahead (a b : GenCmd) : Bool :=
  decide (a.die < b.die) || (a.die == b.die && (decide (a.seq < b.seq) || (a.seq == b.seq && decide (a.ord < b.ord))))

/-- A command is refused: its sequencer sees QFULL, over the Gangway where it is on another die (R32). -/
def State.refuseCmd (s : State) (d g : Nat) (c : GenCmd) : State :=
  let k := sel d g
  let x := s.gen k
  let owed := if x.owed.contains (c.die, c.seq) then x.owed else x.owed ++ [(c.die, c.seq)]
  let s1 := (s.setGen k { x with owed := owed }).inc Obj.REFUSED_COMMANDS k
  if c.die = d then s1.seqRefused d c.seq d g else s1.send d c.die g none (.refusal c.seq d g)

/-- A command is admitted. A late one takes the effective stamp arrival + 34 (R108); one admitted in the cycle of a step of
device time is discarded (R70). -/
def State.letIn (s : State) (d g : Nat) (c : GenCmd) : State :=
  let k := sel d g
  let s1 := s.seqAccepted c.die c.seq
  let x := s1.gen k
  if s.clock.stepCyc = some s.cyc then s1
  else if s.now + 34 ≤ c.stamp.toNat then s1.setGen k { x with queue := insCmd { c with at_ := s.cyc } x.queue }
  else
    let e := { c with stamp := BitVec.ofNat 64 (s.now + 34), at_ := s.cyc, late := true,
                      first := !bit (s.rd Obj.GEN_STATUS k) 3 }
    ((s1.setGen k { x with queue := insCmd e x.queue }).inc Obj.LATE_COMMANDS k).setBit Obj.GEN_STATUS k 3

/-- A command admitted in this cycle gives its place to one that is ahead of it (R32): it leaves no trace at the generator
and is refused. -/
def State.giveWay (s : State) (d g : Nat) (c : GenCmd) : State :=
  let k := sel d g
  let x := s.gen k
  let rest := x.queue.erase c
  let s1 := s.setGen k { x with queue := rest }
  let s2 := if c.late then s1.wrN Obj.LATE_COMMANDS k (s.rdN Obj.LATE_COMMANDS k - 1) else s1
  let s3 := if c.first ∧ !rest.any (fun y => y.late && y.at_ == s.cyc) then s2.clearBits Obj.GEN_STATUS k 8 else s2
  s3.refuseCmd d g c

/-- Of the commands of a queue that arrived in cycle `c`, the last in the order of R30. -/
def lastArrival (c : Nat) (q : List GenCmd) : Option GenCmd :=
  (q.filter (fun x => x.at_ == c)).foldl (fun t x => match t with
    | some y => if y.ahead x then some x else some y
    | none => some x) none

/-- A command reaches its generator's queue and is admitted or refused (R29, R32, R108, R529). Of the arrivals of one
cycle those ahead in the order of R30 are admitted. -/
def State.enqueue (s : State) (d g : Nat) (c : GenCmd) : State :=
  let x := s.gen (sel d g)
  if !s.domOn d (domOut (g / 8)) then s.refuseCmd d g c
  else if x.queue.length < 32 then s.letIn d g c
  else
    match lastArrival s.cyc x.queue with
    | some y => if c.ahead y then (s.giveWay d g y).letIn d g c else s.refuseCmd d g c
    | none => s.refuseCmd d g c

/-- The commands that issue together: those at the head of the queue with one stamp (R30). -/
def headGroup : List GenCmd → List GenCmd
  | [] => []
  | c :: cs => c :: cs.takeWhile (fun x => x.stamp == c.stamp)

/-- COLLIDE on a command: at the generator and at the sequencer it came from (R31). -/
def State.collide (s : State) (k : Nat) (c : GenCmd) : State :=
  (s.setBit Obj.GEN_STATUS k 2).setBit Obj.SEQ_STATUS (sel c.die c.seq) 12

/-- A group of commands with one stamp as effects: FREQ and PHASE in order, then the last PLAY (R30). -/
def groupEffects (due : Nat) (fixed bad : List Nat) (cs : List GenCmd) : List PipeFx :=
  let isPlay := fun c : GenCmd => match c.op with | .play .. => true | _ => false
  ((cs.filter (fun c => !isPlay c)).map (fun c => { due := due, op := c.op })) ++
    (match (cs.filter isPlay).getLast? with
     | some c => [{ due := due, op := c.op, fixed := fixed, bad := bad }]
     | none => [])

/-- COMMAND_ISSUE (R29): the commands at the head of the queue issue 34 cycles before their stamp and take effect at the
lands at the stamp (R107). `fixed` and `bad` are the words of the pulse's envelope, counted from its first, whose single
bit is corrected and which are uncorrectable when they are read (R122). -/
def execCommandIssue (d g : Nat) (fixed bad : List Nat) (s : State) : Out :=
  let k := sel d g
  let x := s.gen k
  match x.queue with
  | [] => .next s
  | c :: _ =>
    if s.now + 34 < c.stamp.toNat then .next s
    else
      let grp := headGroup x.queue
      let due := s.cyc + (c.stamp.toNat - s.now)
      let again := x.pipe.any (fun f => f.due == due)
      let s1 := s.setGen k { x with
        queue := x.queue.drop grp.length, pipe := x.pipe ++ groupEffects due fixed bad grp }
      let flagged := if again then grp else grp.drop 1
      .next ((flagged.foldl (fun t a => t.collide k a) s1).payOwed d g)

/-- PULSE_END (R103): after its last sample a pulse is over, or is held when HOLD was set. -/
def execPulseEnd (d g : Nat) (s : State) : Out :=
  let k := sel d g
  let x := s.gen k
  match x.pulse with
  | none => .next s
  | some p =>
    if p.start + p.len ≤ s.cyc ∧ p.hold = false then .next (s.setGen k { x with pulse := none }) else .next s

/-- GEN_FREQ_WRITE (R127): the frequency word is replaced at this sample; reserved bits are a host error. -/
def execGenFreqWrite (d g : Nat) (v : BitVec 64) (s : State) : Out :=
  let k := sel d g
  unlessError (bits v 63 48 != 0) (s.setGen k { s.gen k with freq := v.setWidth 48 })

/-- GEN_PHASE_OFFSET_WRITE (R127): PHASE_OFFSET is replaced at this sample. -/
def execGenPhaseOffsetWrite (d g : Nat) (v : BitVec 32) (s : State) : Out :=
  let k := sel d g
  .next (s.setGen k { s.gen k with pofs := v })

/-- A written mode, current, headroom or FIR length of an output has not taken effect (R125). -/
def State.modePending (s : State) (k : Nat) : Bool := (s.out k).written

/-- Coefficient A1 of a stage, in the lower word of its object, is at or beyond 1.0 or −1.0: the recursion does not decay. -/
def iirBad (v : Word) : Bool := decide (2 ^ 30 ≤ (signed 32 v.toNat).natAbs)

/-- PD_COMMIT (R113): a write of 1 arms a copy of the shadow coefficients, a write of 0 cancels a pending one. -/
def execPdCommit (d o : Nat) (b : Bool) (s : State) : Out :=
  let k := sel d o
  .next ((s.wrN Obj.PD_COMMIT k (b2n b)).setOut k { s.out k with commit := b })

/-- The words of one DOMAIN object copied to another. -/
def State.copyWords (s : State) (src dst k : Nat) (n : Nat) : State :=
  (List.range n).foldl (fun t w => t.setDw dst k w (t.dw src k w)) s

/-- A stage of the chain bypassed by its active coefficients (R111, R126). -/
def State.bypassed (s : State) (k stage : Nat) : Bool := bit (s.dw (Obj.IIR_ACTIVE_0 + stage) k 0) 24

/-- An element of a list replaced. -/
def setAt {α : Type} (l : List α) (i : Nat) (x : α) : List α := l.set i x

/-- PD_COMMIT_APPLY (R113): at the output's idle boundary every shadow coefficient is copied to the active chain, all
together; IIR and FIR states are kept, except in stages that the commit bypasses. -/
def execPdCommitApply (d o : Nat) (s : State) : Out :=
  let k := sel d o
  let x := s.out k
  if x.commit && s.outIdle d o then
    if (List.range 4).any (fun i => iirBad (s.dw (Obj.IIR_SHADOW_0 + i) k 1)) then hostError
    else
    let s1 := (List.range 4).foldl (fun t i => t.copyWords (Obj.IIR_SHADOW_0 + i) (Obj.IIR_ACTIVE_0 + i) k 2) s
    let s2 := s1.copyWords Obj.FIR_SHADOW Obj.FIR_ACTIVE k 16
    let keep := fun (l : List IirState) => (List.range 4).foldl (fun a i =>
      if s2.bypassed k i then setAt a i {} else a) l
    .next (s2.setOut k { x with commit := false, iirI := keep x.iirI, iirQ := keep x.iirQ })
  else .next s

/-- OUTPUT_MODE_APPLY (R118, R114): at the boundary the written OUT_MODE, FS_CURRENT and HEADROOM take effect, and
FIR_LONG when both outputs of the pair are idle. A change of OUT_MODE or FS_CURRENT starts 25,000 cycles of settling. -/
def execOutputModeApply (d o : Nat) (s : State) : Out :=
  let k := sel d o
  let x := s.out k
  if s.modePending k && s.outIdle d o && s.domKept d (domOut o) then
    let mode := s.rdN Obj.OUT_MODE k
    let cur := s.rdN Obj.FS_CURRENT k
    let change := mode != x.mode || cur != x.current
    let long := if s.outIdle d (o + 1) then s.rdN Obj.FIR_LONG k != 0 else x.firLong
    .next (s.setOut k { x with
      mode := mode, current := cur, headroom := s.rdN Obj.HEADROOM k, firLong := long,
      written := long != (s.rdN Obj.FIR_LONG k != 0),
      settle := if change then s.cyc + 25000 else x.settle, settling := x.settling || change })
  else .next s

/-- OUTPUT_SETTLING_END (R118): after 25,000 cycles the output stage leaves mid-scale and SETTLING clears. -/
def execOutputSettlingEnd (d o : Nat) (s : State) : Out :=
  let k := sel d o
  let x := s.out k
  if x.settling && decide (x.settle ≤ s.cyc) then .next (s.setOut k { x with settling := false }) else .next s

/-- Tattoo runs: TIME_SOURCE is TATTOO and TATTOO_ROLE is FOLLOWER or MASTER (R68, R72). -/
def State.tattooRuns (s : State) : Bool :=
  s.rdN Obj.TIME_SOURCE 0 == 1 && (s.rdN Obj.TATTOO_ROLE 0 == 1 || s.rdN Obj.TATTOO_ROLE 0 == 2)

/-- The device is the Tattoo master: its role is MASTER and no lower-numbered master is heard (R72, R81). -/
def State.isMaster (s : State) : Bool :=
  s.tattooRuns && s.rdN Obj.TATTOO_ROLE 0 == 2 && !s.tattoo.demoted

/-- The device is a Tattoo follower (R72, R81). -/
def State.isFollower (s : State) : Bool := s.tattooRuns && !s.isMaster

/-- DLY of the device in steps (R75, R82): that of its alignment as a follower, else 1,024. -/
def State.deviceDly (s : State) : Nat := if s.isFollower then s.tattoo.dly else 1024

/-- The DLY that an output is to take: the device's, the die's own correction and the output's skew (R75–R79; log 58). -/
def State.dlyTarget (s : State) (d o : Nat) : Nat :=
  ((s.deviceDly : Int) + (s.die d).dly + signed 16 (s.rdN Obj.OUTPUT_SKEW (sel d o))).toNat

/-- The trims of an output in force: current sources for the band it has applied, and word 5 (R119, R565, R567). -/
def State.outTrim (s : State) (k : Nat) : Word × Word :=
  let b := (s.appl (applKey 3 (selDie k * 30 + selUnit k))).setting.toNat % 8
  (s.out k).heldTrim.getD (s.dw Obj.OUT_TRIM k (min 4 b), s.dw Obj.OUT_TRIM k 5)

/-- The trims of an output stay in force until its boundary, whatever is written or loaded (R565). -/
def State.holdTrim (s : State) (k : Nat) : State :=
  if s.outIdle (selDie k) (selUnit k) then s else s.setOut k { s.out k with heldTrim := some (s.outTrim k) }

/-- DLY_APPLY (R76, R79): a changed DLY or skew takes effect in a cycle in which none of the output's generators plays. -/
def execDlyApply (d o : Nat) (s : State) : Out :=
  let k := sel d o
  if s.outIdle d o then .next (s.setOut k { s.out k with dly := s.dlyTarget d o }) else .next s

/-- GEN_STATUS as read (R127): sticky bits, and the live QDEPTH, HOLDING and PLAYING. -/
def State.genStatus (s : State) (k : Nat) : Word :=
  let x := s.gen k
  s.rd Obj.GEN_STATUS k ||| word (x.queue.length * 256 + b2n (x.holding s.cyc) * 2 + b2n (x.playing s.cyc))

/-- OUT_STATUS as read (R125). -/
def State.outStatus (s : State) (k : Nat) : Word :=
  let x := s.out k
  s.rd Obj.OUT_STATUS k ||| word (b2n x.commit * 128 + b2n (s.modePending k) * 64 + b2n x.settling * 32 +
    b2n (s.outRetired k) * 2 + b2n (s.outActive (selDie k) (selUnit k)))

/-! What a cycle does to a generator. -/

/-- The two samples of an envelope word (R98). -/
def wordSamples (w : Word) : Sample × Sample :=
  (⟨w.extractLsb' 54 18, w.extractLsb' 36 18⟩, ⟨w.extractLsb' 18 18, w.extractLsb' 0 18⟩)

/-- Words `got` to `got + n − 1` of a pulse as they stand now; an uncorrectable word reads as two samples of 0
(R99, R122). -/
def State.envWords (s : State) (d : Nat) (addr bank : BitVec 20) (bad : List Nat) (got : Nat) : Nat → List Word
  | 0 => []
  | n + 1 =>
    (if bad.contains got then 0 else s.dw Obj.ENV_DATA (sel d 0) (((addr + bank).toNat + got) % 1048576)) ::
      s.envWords d addr bank bad (got + 1) n

/-- How many of a pulse's words have been read by cycle `c`: word j is read by cycle s − 30 + 2j (R33, R107). -/
def wordsDue (start len c : Nat) : Nat :=
  if start ≤ c + 30 then min ((len + 1) / 2) ((c + 30 - start) / 2 + 1) else 0

/-- An issued PLAY reads the envelope words that fall due; its bank is latched when the first is read (R107, R121). -/
def State.fetchPipe (s : State) (d : Nat) (bank : BitVec 20) (c : Nat) (f : PipeFx) : PipeFx :=
  match f.op with
  | .play a len _ _ _ _ =>
    let n := wordsDue f.due len c - f.got
    if n = 0 then f
    else
      let bk := f.bank.getD bank
      { f with bank := some bk, got := f.got + n, words := f.words ++ s.envWords d a bk f.bad f.got n }
  | _ => f

/-- Words `got` to `got + n − 1` of an envelope from word `base` have been read for a generator (R122): each that a single
bit failed is counted, and each uncorrectable one is reported. -/
def State.envRead (s : State) (k base : Nat) (fixed bad : List Nat) (got : Nat) : Nat → State
  | 0 => s
  | n + 1 =>
    let d := sel (selDie k) 0
    let a := (base + got) % 1048576
    let s1 :=
      if bad.contains got then
        (((s.setBit Obj.GEN_STATUS k 4).inc Obj.ENV_UNCORR_COUNT d).wrN Obj.ENV_UNCORR_ADDR d a).log (selDie k) 0x03 0 k a
      else if fixed.contains got then s.inc Obj.ENV_CORRECTED d
      else s
    s1.envRead k base fixed bad (got + 1) n

/-- What the reads of an issued PLAY report, from before (`f`) and after (`g`) them. -/
def State.pipeRead (s : State) (k : Nat) (f g : PipeFx) : State :=
  match g.op, g.bank with
  | .play a _ _ _ _ _, some b => s.envRead k (a + b).toNat f.fixed f.bad f.got (g.got - f.got)
  | _, _ => s

/-- A pulse reads the envelope words that fall due. -/
def State.fetchPulse (s : State) (d : Nat) (c : Nat) (p : Pulse) : Pulse :=
  let n := wordsDue p.start p.len c - p.got
  if n = 0 then p else { p with got := p.got + n, words := p.words ++ s.envWords d p.addr p.bank p.bad p.got n }

/-- The effects of one command at the cycle of its stamp (R97, R103–R105). A pulse that takes effect ends an earlier
one. -/
def applyOp (x : Gen) (c : Nat) (f : PipeFx) (start : Bool) : Gen :=
  match f.op with
  | .freq w => { x with freq := w }
  | .phase v m => { x with pofs := if m then v else x.pofs + v }
  | .play a len amp fine hold preset =>
    if start then
      { x with fine := fine,
               pulse := some ⟨c, a, len, amp, fine, hold, preset, f.bank.getD x.bank, f.fixed, f.bad, f.got, 0, f.words⟩ }
    else x

/-- The output plays without analogue effect: MUTE, settling, a verify (R118, R568). -/
def RfOut.muted (x : RfOut) : Bool := x.mode == 0 || x.settling || x.verify

/-- The stop window is running on a die (R544, R578). -/
def State.stopping (s : State) (d : Nat) : Bool :=
  match s.shut.stop with
  | some (_, .resetDie e) => d == e
  | some _ => true
  | none => false

/-- A PLAY taking effect may start a pulse: not in the stop window after the shutdown signal (R544) nor while the
envelope memory sleeps (R529). -/
def State.mayPlay (s : State) (d : Nat) : Bool := !s.stopping d && s.domOn d domEnv

/-- The effects due in this cycle, in order; a PLAY without analogue effect, or one that starts no pulse, is counted
(R118, R529, R544). -/
def State.applyDue (s : State) (d g : Nat) : List PipeFx → State
  | [] => s
  | f :: fs =>
    let k := sel d g
    let o := sel d (g / 8)
    let x := s.gen k
    let may := s.mayPlay d
    let isPlay := match f.op with | .play .. => true | _ => false
    let s1 := s.setGen k (applyOp x s.cyc f may)
    (if isPlay && (!may || (s.out o).muted) then (s1.inc Obj.MUTED_PLAYS o).setBit Obj.OUT_STATUS o 4 else s1).applyDue d g fs

/-- Bring the words of a pulse up to the one that plays in cycle `c`. -/
def Pulse.advance (p : Pulse) (c : Nat) : Pulse :=
  if p.start < c ∧ c < p.start + p.len ∧ (c - p.start) % 2 = 0 then
    { p with words := p.words.drop 1, gone := p.gone + 1 } else p

/-- The envelope sample of a pulse in cycle `c`: the playing sample, or the held last one (R99, R100, R103). -/
def Pulse.sample (p : Pulse) (c : Nat) : Option Sample :=
  let i := c - p.start
  if i < p.len ∨ p.hold then
    let j := if i < p.len then i else p.len - 1
    let w := wordSamples (p.words.getD (j / 2 - p.gone) 0)
    some (if j % 2 = 0 then w.1 else w.2)
  else none

/-- What a pulse puts into the interpolator in cycle `c`: the envelope sample times AMP, in units of 2^−15 (R101, R107). -/
def Pulse.input (p : Pulse) (c : Nat) : Int × Int :=
  match p.sample c with
  | some e => (p.amp.toInt * e.i.toInt, p.amp.toInt * e.q.toInt)
  | none => (0, 0)

/-- A generator as the commands that have issued leave it in cycle `c` (R107). -/
def Gen.ahead (x : Gen) (c : Nat) (may : Bool) : Gen :=
  (x.pipe.filter (fun f => decide (f.due ≤ c))).foldl (fun y f => applyOp y f.due f may) x

/-- What the generator puts into the interpolator in cycle `c`: past inputs, or those of the words already read. -/
def Gen.input (x : Gen) (now : Nat) (may : Bool) (c : Nat) : Int × Int :=
  if c ≤ now then x.recent.getD (now - c) (0, 0)
  else match (x.ahead c may).pulse with
    | some p => p.input c
    | none => (0, 0)

/-- The interpolator's inputs of the latest four cycles, none where all are 0. -/
def keepInputs (l : List (Int × Int)) : List (Int × Int) :=
  if (l.take 4).all (fun v => v == (0, 0)) then [] else l.take 4

/-- What the beginning of a cycle does to one generator: words are read, effects due take place, and the envelope
moves on by one sample. -/
def State.genCycle (s : State) (k : Nat) : State :=
  let d := selDie k
  let g := selUnit k
  let c := s.cyc
  let x := s.gen k
  let pipe := x.pipe.map (s.fetchPipe d x.bank c)
  let due := pipe.filter (fun f => decide (f.due ≤ c))
  let s1 := (x.pipe.zip pipe).foldl (fun t p => t.pipeRead k p.1 p.2)
    (s.setGen k { x with pipe := pipe.filter (fun f => decide (c < f.due)) })
  let s2 := s1.applyDue d g due
  let y := s2.gen k
  match y.pulse with
  | none => s2.setGen k { y with recent := keepInputs ((0, 0) :: y.recent) }
  | some p =>
    let p1 := (s2.fetchPulse d c p).advance c
    (s2.setGen k { y with pulse := some p1, recent := keepInputs (p1.input c :: y.recent) }).envRead k
      (p.addr + p.bank).toNat p.fixed p.bad p.got (p1.got - p.got)

end Sys2Proof.Machine
end

