-- ==== Sys2Proof/Machine/Trig.lean ====
section
/-!
DEFINITION. Numbers that the manual states as real ones: rounding (log 11), and the cosine, sine and angle of a turn (log 60).
-/

namespace Sys2Proof.Machine

/-- A quotient that the manual gives without a rounding: itself where it is whole, else the whole number just below or just
above it, which of them is not stated (log 11). `tag` is the number of the rule. -/
def roundOpen (tag : Nat) (num : Int) (den : Nat) : Int :=
  if num % (den : Int) = 0 then num / (den : Int)
  else if Config.roundsUp tag num den then num / (den : Int) + 1 else num / (den : Int)

/-- A quotient rounded to the nearest whole number; which way a tie goes is not stated (log 11). -/
def roundNear (tag : Nat) (num : Int) (den : Nat) : Int :=
  let q := num / (den : Int)
  let r := 2 * (num % (den : Int))
  if r < (den : Int) then q
  else if (den : Int) < r then q + 1
  else if Config.roundsUp tag num den then q + 1 else q

/-- The mean of a sum of `n` terms (R73, log 11). -/
def mean (sum : Int) (n : Nat) : Int := roundOpen 73 sum n

/-- Bits below the point of the cosines, sines and pi of this file. -/
def trigBits : Nat := 192

/-- Terms of the series of the arctangent of 1 / n: `t` is 2^192 / n^m. -/
def arctanTerms (n : Nat) : Nat → Nat → Nat → Int
  | 0, _, _ => 0
  | f + 1, t, m => (t / m : Nat) - arctanTerms n f (t / (n * n)) (m + 2)

/-- Pi, in units of 2^-192: 16 arctan (1 / 5) - 4 arctan (1 / 239). -/
def piFixed : Int := 16 * arctanTerms 5 90 (2 ^ trigBits / 5) 1 - 4 * arctanTerms 239 30 (2 ^ trigBits / 239) 1

/-- Terms of the series of cosine (from `t` = 1 and `m` = 0) and sine (from `t` = `x` and `m` = 1) of an angle `x` in
radians, in units of 2^-192. -/
def circleTerms (x : Nat) : Nat → Nat → Nat → Int
  | 0, _, _ => 0
  | f + 1, t, m => (t : Int) - circleTerms x f (t * x / 2 ^ trigBits * x / 2 ^ trigBits / ((m + 1) * (m + 2))) (m + 2)

/-- Cosine and sine of at most an eighth of a turn, `r` in units of 2^-32 turn. -/
def octant (r : Nat) : Int × Int :=
  let x := piFixed.toNat * r / 2 ^ 31
  let c := circleTerms x 30 (2 ^ trigBits) 0
  (c, if r = 2 ^ 29 then c else circleTerms x 30 x 1)

/-- Cosine and sine, in units of 2^-192, of an angle in units of 2^-32 turn. Whole quarters are exact. -/
def cosSin (a : BitVec 32) : Int × Int :=
  let r := a.toNat % 2 ^ 30
  let v := if r ≤ 2 ^ 29 then octant r else ((octant (2 ^ 30 - r)).2, (octant (2 ^ 30 - r)).1)
  match a.toNat / 2 ^ 30 with
  | 0 => v
  | 1 => (-v.2, v.1)
  | 2 => (-v.1, -v.2)
  | _ => (v.2, -v.1)

/-- A complex number turned by an angle: the product with exp(j x 2 pi a / 2^32), in units of 2^-192. -/
def turned (v : Int × Int) (a : BitVec 32) : Int × Int :=
  let (c, s) := cosSin a
  (v.1 * c - v.2 * s, v.1 * s + v.2 * c)

/-- The number of whole units of 2^-18 turn in the angle of a sample that is not zero, with its remainder: whether the
angle is exactly that many. The bits are found from the highest down: the sample lies at or beyond an angle within the
half-turn that follows it. -/
def angleUnits (i q : Int) : Nat → Nat → Nat
  | 0, a => a
  | n + 1, a =>
    let b := a + 2 ^ n
    let (c, s) := cosSin (BitVec.ofNat 32 (b * 2 ^ 14))
    angleUnits i q n (if 0 ≤ c * q - s * i then b else a)

/-- The angle of a sample in units of 2^-18 turn, from 0 (R315): the half-plane first, then the bits below. -/
def angleFloor (i q : Int) : Nat :=
  if 0 < q ∨ (q = 0 ∧ 0 < i) then angleUnits i q 17 0 else 2 ^ 17 + angleUnits (-i) (-q) 17 0

/-- The angle of a sample is a whole number of eighths of a turn, the only ones of units of 2^-18 turn that a sample of
whole parts can have. -/
def angleExact (i q : Int) : Bool := i == 0 || q == 0 || i == q || i == -q

end Sys2Proof.Machine
end

