-- ==== Sys2Proof/Machine/Time.lean ====
section
/-!
DEFINITION. Device time, its steps, Tattoo, the SYNC pins, REFCLK, the calendar and PTP (chapter "Time Base, Tattoo
and the Calendar").
-/

namespace Sys2Proof.Machine

/-- A sequencer of the device is running; an armed one counts as halted (R70). -/
def State.anyRunning (s : State) : Bool := s.seqs.any (fun p => p.2.run == .running)

/-- TIME_STATE (R68). -/
def State.timeState (s : State) : Nat :=
  if s.isMaster then 3
  else if s.tattooRuns then
    match s.tattoo.align with
    | .never => 4
    | .aligning => 4
    | .aligned => 5
    | .unverified => 6
  else
    match s.clock.lastStep with
    | .none => 0
    | .host => 1
    | .synced => 2
    | .tattoo => 6

/-- TIME_STATUS as read: sticky bits and the live ALIGN_PENDING (R91). -/
def State.timeStatus (s : State) : Word := s.rd Obj.TIME_STATUS 0 ||| word (b2n s.tattoo.pending * 16)

/-- Every command that has not issued to its generator is discarded, those in flight on their arrival (R70). -/
def State.dropCommands (s : State) : State :=
  let s1 : State := { s with
    gens := s.gens.filterMap (fun p : Nat × Gen =>
      let g : Gen := { p.2 with queue := [] }
      if g = {} then none else some (p.1, g)),
    flight := s.flight.map (fun m : Msg => if m.body.isRemote then { m with doomed := true } else m) }
  (s1.gens.map Prod.fst).foldl (fun t k => t.payOwed (selDie k) (selUnit k)) s1

/-- What a step of device time changes at once (R70): queues are emptied, the anchor becomes invalid and TIME_STEPS increases.
Running marker averages are taken against the new count (R80), majority units forget their counted fires (R336), and the
sample grid of the detector tones, with BIN_PHASE, follows the new count (R316, R317). -/
def State.setTime (s : State) (t : Time) (kind : StepKind) : State :=
  let delta : Int := (t.toNat : Int) - (s.now : Int)
  let s1 := s.dropCommands
  let s2 : State := { s1 with
    clock := { s1.clock with now := t, lastStep := kind, stepCyc := some s1.cyc, stepFrom := s1.clock.now },
    cal := { s1.cal with anchor := { s1.cal.anchor with valid := false } },
    links := s1.links.map (fun p : Nat × LinkAvg => (p.1, { p.2 with sumOff2 := p.2.sumOff2 - 2048 * delta * p.2.count })) }
  let s3 := (s2.majs.map Prod.fst).foldl (fun u k => u.setMaj k { u.maj k with
    fires := [], deaf := (u.maj k).deaf.map (fun c => (c + delta).toNat) }) s2
  let s4 := s3.dieList.foldl (fun u d => u.wrN Obj.BIN_PHASE (sel d 0)
    (((u.rdN Obj.BIN_PHASE (sel d 0) : Int) + delta) % 128).toNat) s3
  s4.inc Obj.TIME_STEPS 0

/-- PLL_LOCK (R59, R572, R574): the PLLs of a booted die lock when REFCLK is present, 10 ms after it has come back; bit 2
of PLL_LOCK reads 0 on dies without an Ethernet port (R90). The relation to REFCLK of dies that run already stands. -/
def execPllLock (d : Nat) (s : State) : Out :=
  let x := s.die d
  let settled : Bool := match s.clock.refBack with
    | some c => decide (c + 12500000 ≤ s.cyc)
    | none => true
  if x.booted && s.clock.refclk && settled && x.plls == 0 then
    let running := s.dieList.any (fun e => (s.die e).trained)
    let v := if d < 2 then 7 else 3
    let s1 := ((s.setDie d { x with plls := BitVec.ofNat 3 v }).wrN Obj.PLL_LOCK (sel d 0) v).setDom (d * 128 + 1) { st := .s0 }
    .next { s1 with clock := { s1.clock with
      lockCyc := if running then s.clock.lockCyc else s.cyc, holdover := s.clock.holdover && running } }
  else .next s

/-- A REFCLK edge coincides with this cycle boundary (R59): while the root PLL's lock lasts, every fifth one. -/
def State.refEdge (s : State) : Bool := s.clock.refclk && !s.clock.holdover && (s.cyc - s.clock.lockCyc) % 5 == 0

/-- TATTOO_MARKER_SEND (R72, R74): a master sends on every Ferry link that is up, an aligned follower on every such link
but the one it takes its time from, once every 65,536 cycles. The marker returns the round trip last measured. -/
def execTattooMarkerSend (s : State) : Out :=
  let due := match s.tattoo.sentAt with
    | none => true
    | some c => decide (c + 65536 ≤ s.cyc)
  let from_ := s.tattoo.follow
  let sends := s.isMaster || (s.isFollower && s.tattoo.align == .aligned)
  if due && sends then
    let master := if s.isMaster then s.rdN Obj.CROSSING_DEVICE 0 else (from_.map (·.1)).getD 255
    let hop := if s.isMaster then 0 else (from_.map (·.2.1)).getD 255
    let port := if s.isMaster then none else from_.map (·.2.2)
    let ports := s.dieList.filter (fun d => s.portUp d && port != some d)
    let send := fun (t : State) (d : Nat) =>
      let x := t.link d
      t.setLink d { x with markerDue := true, sent := some ⟨master, hop, 1024 * t.now + 64 * t.clock.phase.toNat, x.trip⟩ }
    let s1 := ports.foldl send s
    .next { s1 with tattoo := { s1.tattoo with sentAt := some s1.cyc } }
  else .next s

/-- The masters heard on a port within 16 marker intervals (R81; log 58). -/
def State.heardOn (s : State) (d : Nat) : List (Nat × Nat) :=
  ((s.link d).heard.filter (fun x => decide (s.cyc < x.2.2 + 1048576))).map (fun x => (x.1, x.2.1))

/-- Every master heard: its number, its hop count and the port (R74, R81). -/
def State.heardPorts (s : State) : List (Nat × Nat × Nat) :=
  s.dieList.flatMap (fun d => (s.heardOn d).map (fun x => (x.1, x.2, d)))

/-- The better of two ports of one master: lowest hop count, then lower neighbour device number, then lower port
(R74). -/
def State.betterPort (s : State) (a b : Nat × Nat × Nat) : Nat × Nat × Nat :=
  let na := ((s.link a.2.2).partner).getD 256
  let nb := ((s.link b.2.2).partner).getD 256
  if b.2.1 < a.2.1 ∨ (b.2.1 = a.2.1 ∧ (nb < na ∨ (nb = na ∧ b.2.2 < a.2.2))) then b else a

/-- The port that a follower takes its time from: of the lowest-numbered master (R81), the best port (R74). -/
def State.choosePort (s : State) : Option (Nat × Nat × Nat) :=
  let ps := s.heardPorts
  match ps.map (·.1) with
  | [] => none
  | m :: ms =>
    let low := ms.foldl min m
    match ps.filter (fun p => p.1 == low) with
    | [] => none
    | p :: rest => some (rest.foldl s.betterPort p)

/-- The lowest-numbered of the masters heard on a port (R81). -/
def State.lowestOn (s : State) (d : Nat) : Option Nat :=
  match (s.heardOn d).map (·.1) with
  | [] => none
  | m :: ms => some (ms.foldl min m)

/-- What a port keeps of a marker (R73, R74): it is to be echoed, its master is noted, and it enters the running average
where that is of the lowest-numbered master the port hears. -/
def State.noteMarker (s : State) (d : Nat) (m : Marker) (arrived : Nat) : State :=
  let x := s.link d
  let s1 := s.setLink d { x with
    echoDue := some (m.sent, s.cyc), heard := (m.master, m.hops, s.cyc) :: x.heard.filter (fun h => h.1 != m.master) }
  let low := s1.lowestOn d
  let y := s1.link d
  let y1 := if y.avgOf = low then y else { y with avgOf := low, count := 0, sumTrip := 0, sumOff2 := 0 }
  match m.trip with
  | some trip =>
    if y1.count < 256 ∧ low = some m.master then
      s1.setLink d { y1 with
        count := y1.count + 1, sumTrip := y1.sumTrip + trip,
        sumOff2 := y1.sumOff2 + (2 * (m.sent : Int) + (trip : Int) - 2 * (arrived : Int)) }
    else s1.setLink d y1
  | none => s1.setLink d y1

/-- MARKER_RECEIVE (R73, R74, R80, R81): every marker is echoed; a follower accumulates it into the link's average,
follows the lowest-numbered master, and sets MASTER_CONFLICT where it hears two, or where a configured master hears a
lower one. `arrived` is the arrival time in local device time, in steps. -/
def execMarkerReceive (d : Nat) (m : Marker) (arrived : Nat) (s : State) : Out :=
  let s1 := s.noteMarker d m arrived
  if !s1.tattooRuns then .next s1
  else
    let own := s1.rdN Obj.CROSSING_DEVICE 0
    let lower := decide (m.master < own)
    let t := s1.tattoo
    let masters := (s1.heardPorts.map (·.1)).eraseDups
    let wasMaster := s1.isMaster
    let demote := wasMaster && lower
    let conflict := demote || decide (1 < masters.length)
    let s2 := if conflict then s1.setBit Obj.TIME_STATUS 0 3 else s1
    let t1 := if demote then { t with demoted := true, began := some s1.cyc, align := .never, once := false } else t
    let s3 := { s2 with tattoo := t1 }
    if s3.isFollower then
      match s3.choosePort with
      | some (fm, fh, fp) =>
        .next { s3 with tattoo := { t1 with follow := some (fm, fh + 1, fp),
                                            heardAt := if m.master = fm then s3.cyc else t1.heardAt } }
      | none => .next s3
    else .next s3

/-- The step and DLY of R75 from an averaged offset in steps: cycles to step and the DLY. -/
def alignStep (offset : Int) : Int × Nat :=
  let n := offset / 1024
  let r := offset % 1024
  if r ≤ 512 then (n, (1024 - r).toNat) else (n + 1, (2048 - r).toNat)

/-- MARKER_LOSS (R80): 16 marker intervals without a marker from the followed master. -/
def execMarkerLoss (s : State) : Out :=
  let t := s.tattoo
  let since := match t.follow, t.began with
    | some _, _ => some t.heardAt
    | none, b => b
  match since with
  | some c =>
    if s.isFollower && (!t.lost || decide (t.lossAt < t.heardAt)) && decide (c + 1048576 ≤ s.cyc) then
      let s1 := s.setBit Obj.TIME_STATUS 0 0
      .next { s1 with
        tattoo := { t with lost := true, lossAt := s.cyc, align := if t.align = .aligned then Align.unverified else t.align },
        links := s1.links.map (fun p => (p.1, { p.2 with count := 0, sumTrip := 0, sumOff2 := 0 })) }
    else .next s
  | none => .next s

/-- SYNC_IN_CAPTURE (R82): the first REFCLK edge that captures SYNC_IN high while SYNC_ARM is set schedules the load of
SYNC_LOAD 50 cycles later (log 58). -/
def execSyncInCapture (s : State) : Out :=
  if s.rdN Obj.TIME_SOURCE 0 == 2 && s.rdN Obj.SYNC_ARM 0 == 1 && s.clock.syncLoadAt.isNone && s.refEdge then
    .next { s with clock := { s.clock with syncLoadAt := some (s.cyc + 50) } }
  else .next s

/-- SYNC_OUT_PULSE (R83): the pin rises for one REFCLK period at the first REFCLK-aligned boundary at or after the
scheduled time; with a period the next pulse is scheduled (log 58). -/
def execSyncOutPulse (s : State) : Out :=
  match s.clock.syncOutNext with
  | some t =>
    if s.rdN Obj.SYNC_OUT_ENABLE 0 == 1 && decide (t.toNat ≤ s.now) && s.refEdge then
      let p := s.rd Obj.SYNC_OUT_PERIOD 0
      .next { s with clock := { s.clock with
        syncOutUntil := s.cyc + 5, syncOutNext := if p = 0 then none else some (t + p.setWidth 64) } }
    else .next s
  | none => .next s

/-- A cause of an orderly shutdown, whose signal takes effect 64 cycles later (R543, R544), or of a reset's stop window
(R578). A device that has already shut down finds no further cause of shutdown but a brown-out (log 31). -/
def State.stopCause (s : State) (cause die window : Nat) (kind : StopKind) : State :=
  if kind = .shutdown ∧ cause ≠ 3 ∧ (s.shut.st = .shutdown ∨ s.shut.st = .ready) then s
  else { s with shut := { s.shut with waiting := s.shut.waiting ++ [⟨s.cyc + 64, cause, die, window, kind⟩] } }

/-- REFCLK_LOSS (R59, R60, R84): holdover, REFCLK_LOST, UNVERIFIED if it was ALIGNED, the always-on domain on its internal
oscillator, and an orderly shutdown. PLL_LOCK keeps what it reads (log 58). -/
def execRefclkLoss (d : Nat) (s : State) : Out :=
  let t := s.tattoo
  let s1 := s.setBit Obj.TIME_STATUS 0 6
  let s2 := { s1 with
    clock := { s1.clock with refclk := false, refBack := none, holdover := true, aonOnRef := false },
    tattoo := { t with align := if t.align = Align.aligned then Align.unverified else t.align } }
  .next (s2.stopCause 4 d 62500000 .shutdown)

/-- REFCLK_RETURN (R60, R84): REFCLK is present again and the always-on domain returns to it. -/
def execRefclkReturn (s : State) : Out :=
  .next { s with clock := { s.clock with refclk := true, refBack := some s.cyc, aonOnRef := true } }

/-- SYNC_IN_RISE (R353): the SYNC_IN producer is raised on every die one cycle after the edge that captured the rise. -/
def execSyncInRise (s : State) : Out :=
  if s.refEdge then .next { s with clock := { s.clock with syncInAt := some (s.cyc + 1) } } else .next s

/-! The calendar (R85–R93). -/

/-- Units of the calendar's fraction in one second (R85). -/
def calUnit : Nat := 2 ^ 64

/-- The advance of one cycle, 0.8 ns × (1 + RATE × 10^−12) (R89), in units of 5^−22 × 2^−64 s, in which it is whole. -/
def calStep (rate : Int) : Nat := ((10 ^ 12 + rate) * 2 ^ 45).toNat

/-- The calendar set to seconds and fraction units (R86, R88). -/
def State.setCal (s : State) (sec frac : Nat) (rate : Int) (st : CalState) : State :=
  { s with cal := { s.cal with st := st, sec := sec % 2 ^ 48, frac := frac, below := 0, rate := rate, due := none } }

/-- CAL_SET (R86, R92): sets the calendar with a rate of exactly 0.8 ns per cycle; discarded while PTP is enabled. -/
def execCalSet (w0 w1 : Word) (s : State) : Out :=
  if bits w0 71 64 != 0 || bits w1 55 0 != 0 then hostError
  else if s.rdN Obj.PTP_ENABLE 0 == 1 then .next s
  else .next (s.setCal (bits w0 63 16) ((bits w0 15 0 * 2 ^ 16 + bits w1 71 56) * 2 ^ 32) 0 .host)

/-- CALENDAR as read (R92): word `w` of two. -/
def State.calendarWord (s : State) (w : Nat) : Word :=
  let st := match s.cal.st with | .unset => 0 | .host => 1 | .acquiring => 2 | .locked => 3 | .holdover => 4
  let frac := s.cal.frac / 2 ^ 32
  if w = 0 then word (st * 2 ^ 64 + s.cal.sec * 2 ^ 16 + frac / 2 ^ 16) else word (frac % 2 ^ 16 * 2 ^ 56)

/-- ANCHOR as read (R93): word `w` of three. -/
def State.anchorWord (s : State) (w : Nat) : Word :=
  let a := s.cal.anchor
  let rate := (BitVec.ofInt 32 a.rate).toNat
  if w = 0 then word (b2n a.valid * 2 ^ 71 + a.sec * 2 ^ 16 + a.cycle.toNat / 2 ^ 48)
  else if w = 1 then word (a.cycle.toNat % 2 ^ 48 * 2 ^ 24 + a.frac * 2 ^ 16 + rate / 2 ^ 16)
  else word (rate % 2 ^ 16 * 2 ^ 56)

/-- The calendar keeps the anchor fresh in this state (R89). -/
def CalState.anchored : CalState → Bool
  | .host | .locked | .holdover => true
  | _ => false

/-- What a cycle does to the calendar (R85, R89): it advances, and a whole second that begins is noted with the device
time at which it began. -/
def State.calCycle (s : State) : State :=
  let c := s.cal
  if c.st = .unset then s
  else
    let inc := calStep c.rate
    let f := c.frac * 5 ^ 22 + c.below + inc
    let one := calUnit * 5 ^ 22
    if f < one then { s with cal := { c with frac := f / 5 ^ 22, below := f % 5 ^ 22 } }
    else
      let beyond := f - one
      let began := if beyond = 0 then (s.clock.now, 0) else (s.clock.now - 1, (inc - beyond) * 256 / inc)
      { s with cal := { c with
        sec := (c.sec + 1) % 2 ^ 48, frac := beyond / 5 ^ 22, below := beyond % 5 ^ 22, due := some began } }

/-- ANCHOR_REFRESH (R89, R353): the anchor is rewritten for the second that has begun, and TAI_SECOND is raised on every
die. -/
def execAnchorRefresh (s : State) : Out :=
  match s.cal.due with
  | some (t, f) =>
    let s1 := { s with cal := { s.cal with due := none } }
    if s.cal.st.anchored then
      let s2 := { s1 with cal := { s1.cal with anchor := ⟨true, s.cal.sec, t, f, s.cal.rate⟩ } }
      .next (s2.dieList.foldl (fun u d => u.raise d 386) s2)
    else .next s1
  | none => .next s

/-! PTP (R87, R88). -/

/-- The calendar in picoseconds of TAI. -/
def State.calPs (s : State) : Int := (s.cal.sec : Int) * 10 ^ 12 + ((s.cal.frac * 10 ^ 12 / calUnit : Nat) : Int)

/-- The better of two foreign masters: the data-set comparison of IEEE 1588-2019 (R87, log 12). -/
def betterMaster (a b : Announce) : Bool :=
  let ka := [a.priority1, a.clockClass, a.accuracy, a.variance, a.priority2, a.grandmaster.toNat, a.steps, a.master.toNat]
  let kb := [b.priority1, b.clockClass, b.accuracy, b.variance, b.priority2, b.grandmaster.toNat, b.steps, b.master.toNat]
  decide (ka < kb)

/-- PTP is enabled and a message came by the port and in the domain it is set to (R87). -/
def State.ptpHears (s : State) (port domain : Nat) : Bool :=
  s.rdN Obj.PTP_ENABLE 0 == 1 && port == s.rdN Obj.PTP_PORT 0 && domain == s.rdN Obj.PTP_DOMAIN 0

/-- PTP_ANNOUNCE_RECEIVE (R87, R88, R85): a foreign master of the configured port and domain is recorded and the best is
chosen; its currentUtcOffset and identity are published. Another master than before has yet to lock. -/
def execPtpAnnounceReceive (a : Announce) (s : State) : Out :=
  if s.ptpHears a.port a.domain then
    let fresh := s.ptp.foreign.filter (fun p =>
      p.1.master != a.master && decide (s.cyc < p.2 + s.rdN Obj.PTP_ANNOUNCE_TIMEOUT 0 * p.1.interval))
    let all := (a, s.cyc) :: fresh
    let best := fresh.foldl (fun b p => if betterMaster p.1 b then p.1 else b) a
    let changed := (s.ptp.master.map (·.master)) != some best.master
    let p := s.ptp
    let p1 := if changed then { p with foreign := all, master := some best, sync := none, ms := none, req := none, good := 0 }
              else { p with foreign := all, master := some best }
    let s1 := { s with
      ptp := p1,
      cal := { s.cal with st := if s.cal.st = CalState.locked ∧ !changed then CalState.locked else .acquiring } }
    .next ((s1.wr Obj.UTC_OFFSET 0 (best.utcOffset.setWidth 72)).wr Obj.PTP_MASTER_ID 0 (best.master.setWidth 72))
  else .next s

/-- The calendar moved by a number of picoseconds. -/
def State.moveCal (s : State) (ps : Int) : State :=
  let t := s.calPs + ps
  let sec := t / 10 ^ 12
  let frac := (t % 10 ^ 12) * (calUnit : Int) / 10 ^ 12
  { s with cal := { s.cal with sec := sec.toNat % 2 ^ 48, frac := frac.toNat, below := 0, due := none } }

/-- What the servo does with a master-to-slave difference (R85, R88): the offset is published; beyond 1 ms, and at the
first lock since power-up or reset (log 58), the calendar steps; otherwise its increment is steered to a rate within ±200 × 10^−6 that the manual leaves
open (log 1). Sixteen offsets in a row within 1 µs lock it. -/
def State.servo (s : State) (ms : Int) : State :=
  let s0 := { s with ptp := { s.ptp with ms := some ms } }
  if !s.ptp.havePath then s0
  else
    let off := ms - signed 64 (s0.rdN Obj.PTP_MEAN_PATH 0)
    let s1 := s0.wr Obj.PTP_OFFSET 0 (wordOfInt off)
    if 10 ^ 9 < off.natAbs then
      (({ s1 with ptp := { s1.ptp with good := 0 } }).moveCal (-off)).setBit Obj.TIME_STATUS 0 1
    else
      let (v, s2) := s1.take
      let rate : Int := ((v % 400000001 : Nat) : Int) - 200000000
      let good := if off.natAbs ≤ 10 ^ 6 then s2.ptp.good + 1 else 0
      let s3 := { s2 with cal := { s2.cal with rate := rate }, ptp := { s2.ptp with good := good } }
      if 16 ≤ good then
        let s4 := { s3 with cal := { s3.cal with st := .locked }, ptp := { s3.ptp with lockedOnce := true } }
        if s3.ptp.lockedOnce then s4 else (s4.moveCal (-off)).setBit Obj.TIME_STATUS 0 1
      else s3

/-- A message of the chosen master on the configured port and domain while PTP is enabled (R87). -/
def State.fromMaster (s : State) (port domain : Nat) (m : BitVec 64) : Bool :=
  s.ptpHears port domain && (s.ptp.master.map (·.master)) == some m

/-- PTP_SYNC_RECEIVE (R88): the receipt is stamped in this cycle and corrected by the port's PHY latency; a one-step Sync is
used at once, a two-step Sync waits for its Follow_Up. -/
def execPtpSyncReceive (m : PtpSync) (s : State) : Out :=
  let received := s.calPs - Config.phyLatency
  if !s.fromMaster m.port m.domain m.master then .next s
  else if m.twoStep then .next { s with ptp := { s.ptp with sync := some (m.seq, received) } }
  else .next (s.servo (received - m.origin))

/-- PTP_FOLLOW_UP_RECEIVE (R87): the origin time of a two-step Sync. -/
def execPtpFollowUpReceive (m : PtpFollowUp) (s : State) : Out :=
  match s.ptp.sync with
  | some (q, t2) =>
    if s.fromMaster m.port m.domain m.master && q == m.seq then
      .next (({ s with ptp := { s.ptp with sync := none } }).servo (t2 - m.origin))
    else .next s
  | none => .next s

/-- PTP_DELAY_REQ_SEND (R87, R88): a Delay_Req leaves by PTP_PORT, stamped in this cycle and corrected by the port's PHY
latency. -/
def execPtpDelayReqSend (s : State) : Out :=
  if s.rdN Obj.PTP_ENABLE 0 == 1 && s.ptp.master.isSome && s.ptp.ms.isSome then
    let q := s.ptp.reqSeq
    .next { s with
      ptp := { s.ptp with req := some (q, s.calPs + Config.phyLatency), reqSeq := (q + 1) % 65536 },
      sent := s.sent ++ [.delayReq (s.rdN Obj.PTP_PORT 0) q] }
  else .next s

/-- PTP_DELAY_RESP_RECEIVE (R87): a mean-path-delay measurement completes. -/
def execPtpDelayRespReceive (m : PtpDelayResp) (s : State) : Out :=
  match s.ptp.req, s.ptp.ms with
  | some (q, t3), some ms =>
    if s.fromMaster m.port m.domain m.master && q == m.seq then
      let path := mean (ms + (m.received - t3)) 2
      .next (({ s with ptp := { s.ptp with req := none, havePath := true } }).wr Obj.PTP_MEAN_PATH 0 (wordOfInt path))
    else .next s
  | _, _ => .next s

/-- PTP_ANNOUNCE_TIMEOUT (R88): without an Announce for PTP_ANNOUNCE_TIMEOUT intervals, a locked calendar enters
HOLDOVER at the last rate. -/
def execPtpAnnounceTimeout (s : State) : Out :=
  match s.ptp.master with
  | some m =>
    let heard := match s.ptp.foreign.find? (fun p => p.1.master == m.master) with
      | some p => p.2
      | none => 0
    if decide (heard + s.rdN Obj.PTP_ANNOUNCE_TIMEOUT 0 * m.interval ≤ s.cyc) && s.rdN Obj.PTP_ENABLE 0 == 1 then
      .next { s with
        cal := { s.cal with st := if s.cal.st = .locked then .holdover else s.cal.st },
        ptp := { s.ptp with master := none, good := 0 } }
    else .next s
  | none => .next s

/-- TATTOO_MASTER, TATTOO_HOPS and TATTOO_PORT as read (R90). -/
def State.tattooView (s : State) (which : Nat) : Nat :=
  if s.isMaster then (if which = 0 then s.rdN Obj.CROSSING_DEVICE 0 else if which = 1 then 0 else 255)
  else if s.tattooRuns then
    match s.tattoo.follow with
    | some (m, h, p) => if which = 0 then m else if which = 1 then h else p
    | none => 255
  else 255

end Sys2Proof.Machine
end

