-- ==== Sys2Proof/Machine/Calibration.lean ====
section
/-!
DEFINITION. Rotation and calibration of the slices of an RF input, and its wire checks (R221–R242).
-/

namespace Sys2Proof.Machine

/-- A demodulator has an open window (R199). -/
def Demod.isOpen (x : Demod) (c : Nat) : Bool := x.windows.any (fun w => decide (w.start ≤ c) && decide (c ≤ w.last))

/-- A window of one of the 16 demodulators of an input is open (R187). -/
def State.windowOpen (s : State) (d i : Nat) : Bool :=
  (List.range 16).any (fun m => (s.demod (sel d (16 * i + m))).isOpen s.cyc)

/-- A READ of a demodulator opens a window in this cycle (R213). -/
def Demod.opensNow (x : Demod) (now : Nat) : Bool := x.reads.any (fun r => decide (r.opens ≤ now))

/-- A verify of a kind runs on a unit of the die (R568). -/
def State.verifying (s : State) (d kind u : Nat) : Bool :=
  let v := (s.die d).verify
  v.st == 1 && v.kind == kind && v.unit == u

/-- The retired slice of an input (R230). -/
def State.retiredSlice (s : State) (k : Nat) : Option Nat :=
  match look (0, []) s.nv.slices k with
  | (n + 1, _) => some n
  | (0, _) => none

/-- DEGRADED (R230, R231). -/
def State.degraded (s : State) (k : Nat) : Bool := (s.retiredSlice k).isSome || (s.rfIn k).rot.restoring

/-- The first cycle of an interleave frame (R221). -/
def State.atFrame (s : State) : Bool := (s.cyc - s.clock.lockCyc) % 2 == 0

/-- A boundary between housekeeping rounds of a die (R235, R537). -/
def State.atRound (s : State) (d : Nat) : Bool := (s.die d).hkEnd == s.cyc || (s.die d).hkEnd == s.cyc + 1280000

/-- The correction that word `w` of IN_TRIM holds (R567). -/
def trimOf (w : Word) : Int × Int × Int := (signed 12 (bits w 71 60), signed 18 (bits w 59 42), signed 9 (bits w 41 33))

/-- The word of IN_TRIM that holds a correction (R567). -/
def trimWord (c : Int × Int × Int) : Word :=
  (BitVec.ofInt 12 c.1).setWidth 72 <<< 60 ||| (BitVec.ofInt 18 c.2.1).setWidth 72 <<< 42 |||
    (BitVec.ofInt 9 c.2.2).setWidth 72 <<< 33

/-- The corrections a slice works with (R222). -/
def State.correction (s : State) (k slice : Nat) : Int × Int × Int :=
  match (s.rfIn k).rot.corr[slice]? with
  | some c => c
  | none => trimOf (s.dw Obj.IN_TRIM k slice)

/-- The working corrections of all slices, read from the trims where nothing has been loaded. -/
def State.corrections (s : State) (k : Nat) : List (Int × Int × Int) := (List.range 17).map (s.correction k)

/-- The working corrections stay as they are when IN_TRIM is written or loaded (R222). -/
def State.keepCorrections (s : State) (k : Nat) : State :=
  let x := s.rfIn k
  s.setRfIn k { x with rot := { x.rot with corr := s.corrections k } }

/-- A written or loaded correction enters a slice (R222). -/
def State.enterTrim (s : State) (k slice : Nat) : State :=
  let x := s.rfIn k
  s.setRfIn k { x with rot := { x.rot with
    corr := (s.corrections k).set slice (trimOf (s.dw Obj.IN_TRIM k slice)), fresh := x.rot.fresh.filter (· != slice) } }

/-- A slice's corrections have been written or loaded: they wait to enter it (R222). -/
def State.trimWritten (s : State) (k slice : Nat) : State :=
  let x := s.rfIn k
  s.setRfIn k { x with rot := { x.rot with fresh := x.rot.fresh.filter (· != slice) ++ [slice] } }

/-- A slice is retired (R230): it stays out of service, rotation stops, and the event is recorded. -/
def State.retireSlice (s : State) (d i slice : Nat) : State :=
  let k := sel d i
  let x := s.rfIn k
  let image := bits (s.rd Obj.SPUR_IMAGE k) 15 0
  let offset := bits (s.rd Obj.SPUR_OFFSET k) 15 0
  let s1 : State := { s with nv := { s.nv with slices := put (0, []) s.nv.slices k (slice + 1, x.rot.pos) } }
  ((s1.setRfIn k { x with rot := { x.rot with figuresAt := s.cyc, retire := false } }).wr Obj.SPUR_AT_RETIRE k (s.rd Obj.SPUR_IMAGE k)).log
    d 0x08 3 k (slice + 32 * image + 2 ^ 21 * (offset / 32))

/-- ROTATION_STEP (R223, R224, R230, R233): at the end of a step the calibrated slice enters the next position and the slice
it replaces leaves for calibration, or a slice that has failed for the third time is retired in place of the swap; rotation
begins, and an interrupted step restarts, when the input's domain is on; an abandoned step restarts; HOLD ends rotation after
the running step's swap, and no step begins under it. -/
def execRotationStep (d i : Nat) (s : State) : Out :=
  let k := sel d i
  let x := s.rfIn k
  let r := x.rot
  let hold := bit (s.rd Obj.CAL_CONTROL k) 0
  let anew : Rotation := { r with
    begun := true, held := false, start := s.cyc, calibrated := false, failed := false, abandoned := false, undo := none }
  if !s.domOn d (domIn i) || (s.retiredSlice k).isSome || !s.atFrame then .next s
  else if !r.begun || r.held then
    .next (s.setRfIn k { x with rot := if hold then { r with begun := true, held := true } else anew })
  else if s.cyc < r.start + 154400 then .next s
  else if r.retire then .next (s.retireSlice d i r.out)
  else if r.abandoned then .next (s.setRfIn k { x with rot := anew })
  else
    let n := r.step + 1
    let p := n % 16
    let s1 := if r.fresh.contains r.out then s.enterTrim k r.out else s
    let y := s1.rfIn k
    .next ((s1.setRfIn k { y with rot := { y.rot with
      step := n, start := s.cyc, out := r.pos.getD p 0, pos := r.pos.set p r.out, calibrated := false, failed := false,
      held := hold, done := r.done + 1, restoring := r.restoring && r.failed } }).inc Obj.CAL_STEPS k)

/-- The corrections needed lie outside their ranges, or the noise is too high (R228). -/
def calFails (m : CalMeas) : Bool :=
  decide (1024 < m.offset.natAbs) || decide (1966 < m.gain.natAbs) || (!m.skewHeld && decide (128 < m.skew.natAbs)) || !m.noiseOk

/-- A calibration has failed (R228, R230): the slice keeps its previous corrections and the failure is recorded; the third
within 3,600 s retires the slice at the end of the step. -/
def State.calFailed (s : State) (d i : Nat) : State :=
  let k := sel d i
  let x := s.rfIn k
  let r := x.rot
  let lived := s.clock.lived
  let hist := (look [] s.nv.sliceFails k).filter (fun f => decide (lived < f.2 + 4500000000000)) ++ [(r.out, lived)]
  let third := decide (3 ≤ (hist.filter (fun f => f.1 == r.out)).length)
  let s1 := s.setRfIn k { x with rot := { r with calibrated := true, failed := true, retire := r.retire || third } }
  let mask : Word := word (0x1F * 2 ^ 19)
  let s2 := ((s1.wr Obj.CAL_STATUS k (s1.rd Obj.CAL_STATUS k &&& ~~~mask ||| word (r.out * 2 ^ 19))).setBit
    Obj.CAL_STATUS k 17).inc Obj.CAL_FAILURES k
  let s3 : State := { s2 with nv := { s2.nv with sliceFails := put [] s2.nv.sliceFails k hist } }
  s3.log d 0x07 0 k (r.out + 32 * bits (s3.rd Obj.SPUR_IMAGE k) 15 0)

/-- Corrections loaded into the slice out of service, and into IN_TRIM unless a written value waits for the slice (R222). -/
def State.loadCorrection (s : State) (k : Nat) (c : Int × Int × Int) : State :=
  let x := s.rfIn k
  let s1 := s.setRfIn k { x with rot := { x.rot with corr := (s.corrections k).set x.rot.out c } }
  if x.rot.fresh.contains x.rot.out then s1 else s1.setDw Obj.IN_TRIM k x.rot.out (trimWord c)

/-- SLICE_CALIBRATION_END (R225, R227, R228): at cycle 154,272 of a step the out-of-service slice takes its new corrections, or
keeps its old ones and the failure is recorded. A handover check that fails does so at cycle 154,336. -/
def execSliceCalibrationEnd (d i : Nat) (meas : CalMeas) (s : State) : Out :=
  let k := sel d i
  let r := (s.rfIn k).rot
  if !r.begun || r.held || r.calibrated || r.abandoned || (s.retiredSlice k).isSome ||
      decide (s.cyc < r.start + 154272) || !s.domOn d (domIn i) then .next s
  else
    let s0 := if meas.skewHeld then (s.setBit Obj.CAL_STATUS k 18).inc Obj.SKEW_HOLDS k else s
    if calFails meas then .next (s0.calFailed d i)
    else
      let old := s.correction k r.out
      let x := s0.rfIn k
      .next ((s0.setRfIn k { x with rot := { r with calibrated := true, undo := if meas.handoverOk then none else some old } }).loadCorrection k
        (meas.offset, meas.gain, if meas.skewHeld then old.2.2 else meas.skew))

/-- What a cycle does to the slices of an input: a handover check fails as it ends (R225, R228), and written corrections enter
the slices of a DEGRADED input at a frame boundary (R222). -/
def State.sliceCycle (s : State) (k : Nat) : State :=
  let r := (s.rfIn k).rot
  let d := selDie k
  let i := selUnit k
  let s1 := match r.undo with
    | some c =>
      if r.start + 154336 ≤ s.cyc then
        let u := (s.loadCorrection k c).calFailed d i
        u.setRfIn k { u.rfIn k with rot := { (u.rfIn k).rot with undo := none } }
      else s
    | none => s
  if (s.retiredSlice k).isSome && s.atFrame && s.domOn d (domIn i) then r.fresh.foldl (fun t j => t.enterTrim k j) s1 else s1

/-- The inputs whose slices have something to do. -/
def State.sliceWork (s : State) : State :=
  ((s.inputs.filter (fun p => p.2.rot.undo.isSome || !p.2.rot.fresh.isEmpty)).map Prod.fst).foldl State.sliceCycle s

/-- QUALITY_FIGURES (R232): at the end of a rotation of 17 steps, or every 2,624,800 cycles on a DEGRADED input, the two
figures are recomputed. -/
def execQualityFigures (d i : Nat) (offset image : BitVec 16) (s : State) : Out :=
  let k := sel d i
  let x := s.rfIn k
  let due := if (s.retiredSlice k).isSome then decide (x.rot.figuresAt + 2624800 ≤ s.cyc) else decide (17 ≤ x.rot.done)
  if due && s.domOn d (domIn i) then
    .next (((s.setRfIn k { x with rot := { x.rot with done := 0, figuresAt := s.cyc } }).wr Obj.SPUR_OFFSET k
      (offset.setWidth 72)).wr Obj.SPUR_IMAGE k (image.setWidth 72))
  else .next s

/-- SLICE_RESTORE (R231): the retired slice's number returns it to rotation, which restarts with it out of service; its
failure history is cleared. Any other write is ignored. -/
def execSliceRestore (d i : Nat) (v : Nat) (s : State) : Out :=
  let k := sel d i
  if s.retiredSlice k = some v then
    let x := s.rfIn k
    let hist := (look [] s.nv.sliceFails k).filter (fun f => f.1 != v)
    let s1 : State := { s with nv := { s.nv with slices := put (0, []) s.nv.slices k (0, []), sliceFails := put [] s.nv.sliceFails k hist } }
    .next (s1.setRfIn k { x with rot := { x.rot with begun := false, step := 0, out := v, done := 0, held := false, retire := false, restoring := true } })
  else .next s

/-- CAL_HOLD_SET (R233): the running step finishes and no further step begins. -/
def execCalHoldSet (d i : Nat) (s : State) : Out := .next (s.wrN Obj.CAL_CONTROL (sel d i) 1)

/-- CAL_HOLD_CLEAR (R233): rotation resumes at the next frame boundary. -/
def execCalHoldClear (d i : Nat) (s : State) : Out := .next (s.wrN Obj.CAL_CONTROL (sel d i) 0)

/-- CAL_STATUS as read (R241). -/
def State.calStatus (s : State) (k : Nat) : Word :=
  let r := (s.rfIn k).rot
  let retired := s.retiredSlice k
  let rotating := r.begun && retired.isNone && !r.held && s.domOn (selDie k) (domIn (selUnit k))
  s.rd Obj.CAL_STATUS k ||| word (b2n r.held * 2 ^ 16 + b2n rotating * 2 ^ 13 + retired.getD 31 * 256 + retired.getD r.out)

/-! Wire checks. -/

/-- A wire check runs on the input (R202, R235). -/
def State.wireRuns (s : State) (k : Nat) : Bool := (s.rfIn k).wire.round != 0

/-- A check ends with a verdict and raises WIRE_DONE (R237). -/
def State.wireVerdict (s : State) (k verdict : Nat) : State :=
  let x := s.rfIn k
  ((s.setRfIn k { x with wire := { ended := s.clock.now } }).wrN Obj.WIRE_RESULT k verdict).raise (selDie k)
    (178 + 2 * selUnit k + 1)

/-- A request for a check (R235): refused at once in array mode, ignored while one waits or runs. -/
def State.wireRequest (s : State) (k : Nat) : State :=
  let x := s.rfIn k
  if x.wire.waiting || s.wireRuns k then s
  else if x.mode = 1 then s.wireVerdict k 4
  else s.setRfIn k { x with wire := { x.wire with waiting := true } }

/-- WIRE_START (R235). -/
def execWireStart (d i : Nat) (s : State) : Out := .next (s.wireRequest (sel d i))

/-- WIRE_CANCEL (R235): a waiting check ends, or a running check's current goes to 0, with VERDICT CANCELLED. -/
def execWireCancel (d i : Nat) (s : State) : Out :=
  let k := sel d i
  if (s.rfIn k).wire.waiting || s.wireRuns k then .next (s.wireVerdict k 5) else .next s

/-- WIRE_CHECK_AUTO (R238): WIRE_PERIOD seconds of device time after the previous check, one is requested. -/
def execWireCheckAuto (d i : Nat) (s : State) : Out :=
  let k := sel d i
  let p := bits (s.rd Obj.WIRE_CONFIG k) 23 8
  if 0 < p ∧ (s.rfIn k).wire.ended.toNat + p * 1250000000 ≤ s.now then .next (s.wireRequest k) else .next s

/-- The current of a check in µA (R236). -/
def State.wireCurrent (s : State) (k : Nat) : Nat := if bit (s.rd Obj.WIRE_CONFIG k) 0 then 10 else 1

/-- WIRE_CHECK_BEGIN (R235): a waiting check begins at the first round boundary at which the input is in qubit mode, its
domain is on and no window is open. -/
def execWireCheckBegin (d i : Nat) (s : State) : Out :=
  let k := sel d i
  let x := s.rfIn k
  if x.wire.waiting && s.atRound d && x.mode == 0 && s.domOn d (domIn i) && !s.windowOpen d i &&
      !(List.range 16).any (fun m => (s.demod (sel d (16 * i + m))).opensNow s.now) then
    .next (s.setRfIn k { x with wire := { x.wire with
      waiting := false, round := 1, current := s.wireCurrent k, amps := s.wireCurrent k, at_ := s.cyc, beyond := false } })
  else .next s

/-- WIRE_CHECK_ROUND (R235): at a round boundary of a running check the round that ends has settled the current or read
the loop voltage, in units of 10 nV; the current ramps to −I after round 2 and to 0 after round 4. -/
def execWireCheckRound (d i : Nat) (reading : Int) (s : State) : Out :=
  let k := sel d i
  let x := s.rfIn k
  let w := x.wire
  if s.atRound d && w.round != 0 && !w.beyond && decide (w.at_ + 2 ≤ s.cyc) then
    let w1 := { w with at_ := s.cyc }
    let w2 : Wire := match w.round with
      | 1 => { w1 with round := 2 }
      | 2 => { w1 with round := 3, vPlus := reading, current := -w.current }
      | 3 => { w1 with round := 4 }
      | _ => { w1 with vMinus := reading, current := 0, beyond := true }
    .next (s.setRfIn k { x with wire := w2 })
  else .next s

/-- WIRE_CHECK_RESULT (R234, R236, R237): R_meas is `v` / (20 × I) in 0.1 Ω, with `v` in 10 nV and I in µA. It is published,
rounded to 0.1 Ω; the verdict compares it exactly. One below 0 lies outside the measurable range (log 63). WIRE_FAULT is
raised on OPEN or SHORT and WIRE_DONE always. A tolerance of 0 or above 100 is a host error. -/
def execWireCheckResult (d i : Nat) (s : State) : Out :=
  let k := sel d i
  let w := (s.rfIn k).wire
  if !w.beyond then .next s
  else
    let tol := bits (s.rd Obj.WIRE_CONFIG k) 7 1
    let v := w.vPlus - w.vMinus
    let den : Int := 20 * (w.amps : Int)
    let beyond := decide (v < 0) || decide ((if w.amps = 10 then 50000 else 500000 : Int) * den < v)
    let want : Int := s.rdN Obj.WIRE_EXPECTED k
    let opened := beyond || decide (want * (100 + tol) * den < v * 100)
    let short := decide (v * 100 < want * (100 - (tol : Int)) * den)
    let s1 := (s.wrN Obj.WIRE_RESISTANCE k (if beyond then 0xFFFFFFFF else (roundOpen 234 v den.toNat).toNat)).wr Obj.WIRE_RESULT_TIME k
      (s.clock.now.setWidth 72)
    let s2 := if opened || short then s1.raise d (178 + 2 * i) else s1
    unlessError (tol == 0 || decide (100 < tol)) (s2.wireVerdict k (if opened then 2 else if short then 3 else 1))

/-- WIRE_RESULT as read (R242). -/
def State.wireResult (s : State) (k : Nat) : Word := s.rd Obj.WIRE_RESULT k ||| word (b2n (s.rfIn k).wire.waiting * 8)

end Sys2Proof.Machine
end

