-- ==== Sys2Proof/Machine/Signal.lean ====
section
/-!
DEFINITION. What the RF inputs sample and what their filters make of it: ADC samples, clipping, the demodulator's mixer and
decimator, the channelizer's bins and the detector tones' decimators (R184, R188, R190–R194, R312–R315). The signal at the
input lands is free, and so are the coefficients of the filters, which the manual does not give (log 62).
-/

namespace Sys2Proof.Machine

/-- The ADC sample of an input with number `n`, eight to a cycle (R184). -/
def adcAt (d i : Nat) (n : Int) : Int := if 0 ≤ n then (Config.adc d i (n / 8).toNat (n % 8).toNat).toInt else 0

/-- A cycle of an input holds a clipped sample (R188). -/
def clippedIn (d i c : Nat) : Bool :=
  (List.range 8).any (fun j => let v := (Config.adc d i c j).toInt; v == -2048 || v == 2047)

/-- A cycle from `a` up to but not including `a + n` holds a clipped sample. -/
def clippedOver (d i a n : Nat) : Bool := (List.range n).any (fun c => clippedIn d i (a + c))

/-- A linear-phase filter: the sum over the samples at each distance from the centre, on both sides, by the coefficient for
that distance. -/
def symSum (x : Int → Int × Int) : List Int → Nat → Int × Int
  | [], _ => (0, 0)
  | h :: hs, n =>
    let a := x n
    let b := if n = 0 then (0, 0) else x (-(n : Int))
    let r := symSum x hs (n + 1)
    (r.1 + h * (a.1 + b.1), r.2 + h * (a.2 + b.2))

/-- The gain of such a filter at zero frequency. -/
def symGain : List Int → Int
  | [] => 0
  | h :: hs => h + 2 * hs.sum

/-- A filter's sum on the scale of R194, where a sine of ADC amplitude a gives 32 × a: the mixer halves a sine, so the gain is
64. `tag` is the number of the rule, and `den` the units of the sum. The result stays within ±131,071 (R194). -/
def onScale (tag : Nat) (v : Int × Int) (den : Nat) : Sample :=
  let part := fun x : Int => BitVec.ofInt 18 (max (-131071) (min 131071 (roundOpen tag (64 * x) den)))
  ⟨part v.1, part v.2⟩

/-! Demodulators. -/

/-- An ADC sample times exp(−j θ): θ is `phase` at the first ADC sample of cycle `start`, and advances by 2 × FREQ units of
2^−48 turn per ADC sample, before and after it (R190, R192). -/
def demodMixed (d i start : Nat) (phase freq : BitVec 48) (n : Int) : Int × Int :=
  let turn := phase + BitVec.ofInt 48 (2 * (freq.toNat : Int) * (n - 8 * start))
  turned (adcAt d i n, 0) (-(turn.extractLsb' 16 32))

/-- The coefficients of the decimator that lie within the 14 cycles of its path (R193, R210). -/
def decimTaps : List Int := Config.decimFilter.take 108

/-- The decimated sample of an input cycle, centred on the middle of the cycle (R193, R194). -/
def decimated (d i start : Nat) (phase freq : BitVec 48) (t : Nat) : Sample :=
  onScale 193 (symSum (fun m => demodMixed d i start phase freq (8 * (t : Int) + 4 + m)) decimTaps 0)
    ((symGain decimTaps).toNat * 2 ^ trigBits)

/-- The decimated samples of `n` cycles from `start` on. -/
def decimatedFrom (d i start : Nat) (phase freq : BitVec 48) (n : Nat) : List Sample :=
  (List.range n).map (fun t => decimated d i start phase freq (start + t))

/-! Detector tones. -/

/-- The coefficients of the channelizer that lie within the delay of a tone (R312, R316). -/
def binTaps : List Int := Config.binFilter.take 16896

/-- The coefficients of a tone's decimator that lie within its delay (R314, R316). -/
def toneTaps (k : Nat) : List Int := (Config.toneFilter k).take (3 * 2 ^ k + 1)

/-- The sample of a bin centred on ADC sample `n` (R312): bin b is centred on b / 2,048 of the sampling rate. -/
def binSample (d i b : Nat) (n : Int) : Int × Int :=
  symSum (fun m => turned (adcAt d i (n + m), 0) (BitVec.ofInt 32 (-((b : Int) * 2 ^ 21 * (n + m))))) binTaps 0

/-- The sample of a tone centred on cycle `c`, of decimation k, on a bin, with its fine oscillator, both of which started in
cycle `restart` (R314, R315, R317). -/
def toneSampleAt (d i k b : Nat) (fine : Int) (restart c : Nat) : Sample :=
  let x := fun m : Int =>
    let at_ := (c : Int) + 128 * m
    if at_ < restart then (0, 0)
    else turned (binSample d i b (8 * at_)) (BitVec.ofInt 32 (-(fine * ((at_ - restart) / 128))))
  onScale 314 (symSum x (toneTaps k) 0) ((symGain binTaps * symGain (toneTaps k)).toNat * 2 ^ (2 * trigBits))

/-- How many cycles on either side of its instant contribute to a sample of a tone (R345). -/
def toneSpan (k : Nat) : Nat := (binTaps.length + 7) / 8 + 128 * (toneTaps k).length

end Sys2Proof.Machine
end

