-- ==== Sys2Proof/Machine/Crossing.lean ====
section
/-!
DEFINITION. Routes between devices and the way of a decision message to its Ferry port (R258–R261, R449–R453).
-/

namespace Sys2Proof.Machine

/-- ⌈f⌉ of a port: LINK_DELAY rounded up to whole cycles (R254, R444). -/
def State.hopTime (s : State) (d : Nat) : Nat := (s.rdN Obj.LINK_DELAY (sel d 0) + 1023) / 1024

/-- The device's own link-state record (R450). -/
def State.ownRecord (s : State) : LinkStateRec :=
  { device := s.ownDevice, member := s.member,
    links := s.dieList.filterMap (fun d =>
      match s.portUp d, (s.fport d).partner with
      | true, some (dev, _, p) => some ⟨d, dev, p, s.hopTime d⟩
      | _, _ => none) }

/-- Every link-state record known, this device's own first (R450). -/
def State.records (s : State) : List LinkStateRec := s.ownRecord :: s.devices

/-- A path found so far (R451): the device reached and the die of the port it is entered by, cost, Ferry hops, the first
next-hop device, the first egress port, and the hops taken. -/
structure Label where
  dev : Nat
  die : Nat
  cost : Nat
  hops : Nat
  next : Nat
  egress : Nat
  path : List Hop
  deriving DecidableEq, Repr

/-- The order of paths: cost, Ferry hops, next-hop device, egress port (R451). -/
def Label.better (a b : Label) : Bool := decide ([a.cost, a.hops, a.next, a.egress] < [b.cost, b.hops, b.next, b.egress])

/-- A path put among the best ones, one for each device and entry port. -/
def addLabel (a : Label) : List Label → List Label
  | [] => [a]
  | b :: bs =>
    if a.dev = b.dev ∧ a.die = b.die then (if a.better b then a :: bs else b :: bs) else b :: addLabel a bs

/-- The paths that go one Ferry hop further (R451). -/
def Label.extend (rs : List LinkStateRec) (a : Label) : List Label :=
  match rs.find? (fun r => r.device == a.dev) with
  | some r => r.links.map (fun l =>
      let first := a.hops == 0
      ⟨l.partner, l.partnerPort, a.cost + 30 * Sys2Proof.Machine.hops r.member.dies a.die l.port + 130 + l.f, a.hops + 1,
        if first then l.partner else a.next, if first then l.port else a.egress, a.path ++ [⟨a.dev, l.port, l.partner, l.partnerPort⟩]⟩)
  | none => []

/-- The best paths of at most `n` Ferry hops from a die of a device (R451). -/
def paths (rs : List LinkStateRec) (dev die : Nat) : Nat → List Label
  | 0 => [⟨dev, die, 0, 0, 0, 0, []⟩]
  | n + 1 =>
    let ls := paths rs dev die n
    (ls.flatMap (Label.extend rs)).foldl (fun t a => addLabel a t) ls

/-- The best path from a die of a device to another device (R451). -/
def bestPath (rs : List LinkStateRec) (dev die target : Nat) : Option Label :=
  match (paths rs dev die rs.length).filter (fun a => a.dev == target && decide (0 < a.hops)) with
  | [] => none
  | a :: as => some (as.foldl (fun b c => if c.better b then c else b) a)

/-- The route of die `d` to a device as the link-state records give it (R451, R460). -/
def State.computeRoute (s : State) (d dev : Nat) : Option (Nat × Nat × Nat) :=
  match bestPath s.records s.ownDevice d dev with
  | some a => some (a.egress, a.hops, a.cost - 30 * hops s.member.dies d a.egress)
  | none => none

/-- Lanes of a stripe. -/
def width (m : BitVec 4) : Nat := b2n (bit m 0) + b2n (bit m 1) + b2n (bit m 2) + b2n (bit m 3)

/-- Whether a port of width `w` has a turn left in cycle `c` (R261). -/
def turnFree (turns : List (Nat × Nat)) (w c : Nat) : Bool :=
  if w = 4 then look 0 turns c < 2
  else if w = 2 then look 0 turns c < 1
  else look 0 turns c < 1 && (c == 0 || look 0 turns (c - 1) < 1)

/-- The first cycle from `c` with a turn left (R261). -/
def nextTurn (turns : List (Nat × Nat)) (w c : Nat) : Nat → Nat
  | 0 => c
  | n + 1 => if turnFree turns w c then c else nextTurn turns w (c + 1) n

/-- A flit offered to a port: its sending turn (R261). -/
def State.offerFlit (s : State) (d : Nat) (b : FlitBody) (n : Nat) : State :=
  let x := s.fport d
  let turns := x.turns.filter (fun p => decide (s.cyc ≤ p.1 + 1))
  let t := nextTurn turns (width x.stripe) s.cyc (2 * turns.length + 2)
  let s1 := s.setFport d { x with turns := put 0 turns t (look 0 turns t + 1), waiting := x.waiting ++ [⟨t, s.cyc, b⟩] }
  if s.cyc < t then s1.count Obj.FERRY_CONGESTED (sel d 0) n else s1

/-- A message joins a flit of its cycle and device that is not yet full (R261); none where there is none. -/
def joinFlit (c dev src : Nat) (m : DecMsg) : List WaitFlit → Option (Bool × List WaitFlit)
  | [] => none
  | w :: ws =>
    match w.body with
    | .decision dest from_ ms =>
      if w.arrived = c ∧ dest = dev ∧ from_ = src ∧ ms.length < 4 then
        some (decide (c < w.turn), { w with body := .decision dest from_ (ms ++ [m]) } :: ws)
      else (joinFlit c dev src m ws).map (fun r => (r.1, w :: r.2))
    | .bulk .. => (joinFlit c dev src m ws).map (fun r => (r.1, w :: r.2))

/-- A decision message of this device enters the port of die `d`; on a port that is down it is dropped and counted
(R256, R261). -/
def State.enterPort (s : State) (d dev : Nat) (m : DecMsg) : State :=
  let x := s.fport d
  if !x.up then s.inc Obj.DECISION_DROPPED (sel d 0)
  else
    match joinFlit s.cyc dev s.ownDevice m x.waiting with
    | some (late, ws) =>
      let s1 := s.setFport d { x with waiting := ws }
      if late then s1.inc Obj.FERRY_CONGESTED (sel d 0) else s1
    | none => s.offerFlit d (.decision dev s.ownDevice [m]) 1

/-- The cycle in which a message to a device may leave die `d` (R453), and the state in which it has. -/
def State.departs (s : State) (d dev n : Nat) : Nat × State :=
  let key := d * 256 + dev
  let r := s.fRoute key
  let c := max s.cyc r.notBefore
  let s1 := s.setFRoute key { r with lastAt := c }
  (c, if s.cyc < c then s1.count Obj.FERRY_CONGESTED (sel r.egress 0) n else s1)

/-- A decision message for another device leaves slot `slot` of die `d` for its port (R258, R451–R453). One without a
route stays on its die until the cycle ends, and is dropped there. -/
def State.sendDevice (s : State) (d slot dev : Nat) (m : DecMsg) : State :=
  let r := s.fRoute (d * 256 + dev)
  if !r.valid then s.launch s.cyc d d slot none (.ferry dev false s.cyc m)
  else
    let (c, s1) := s.departs d dev 1
    s1.launch c d r.egress slot none (.ferry dev true s.cyc m)

/-- A whole flit enters the port of die `d` (R260, R261, R442). -/
def State.enterFlit (s : State) (d : Nat) (b : FlitBody) : State :=
  let x := s.fport d
  match b with
  | .decision .. => if x.up then s.offerFlit d b (flitMsgs b) else s.count Obj.DECISION_DROPPED (sel d 0) (flitMsgs b)
  | .bulk .. => if x.up then s.setFport d { x with bulk := x.bulk ++ [b] } else s

/-- A message or flit has crossed the Gangway to its port, and is not a message without a route (R256, R260). -/
def State.portArrive (s : State) (m : Msg) : State :=
  match m.body with
  | .ferry dev routed _ x => if routed then s.enterPort m.dst dev x else s.inc Obj.DECISION_DROPPED (sel m.src 0)
  | .flit b => s.enterFlit m.dst b
  | _ => s

/-- A message for a Ferry port (R260). -/
def MsgBody.isFerry : MsgBody → Bool
  | .ferry .. => true
  | .flit _ => true
  | _ => false

/-- Decision messages and flits that have crossed the Gangway to their port enter it as the cycle ends, those of one cycle
in order of source die and then of source slot (R261). -/
def State.portArrivals (s : State) : State :=
  let due := fun m : Msg => m.left.isEmpty && decide (m.due ≤ s.cyc) && m.body.isFerry
  (inTurn (s.flight.filter due)).foldl State.portArrive { s with flight := s.flight.filter (fun m => !due m) }

/-- Two decision messages for one mirror by one forward entry. -/
def sameMirror (a b : DecMsg) : Bool := a.die == b.die && a.mirror == b.mirror && a.stag == b.stag

/-- The contents of a message that left die `d` in this cycle are replaced (R253); false where none has left. -/
def State.replaceSent (s : State) (d dev : Nat) (m : DecMsg) : Bool × State :=
  let isIt := fun x : Msg => match x.body with
    | .ferry e _ t y => x.src == d && e == dev && t == s.cyc && sameMirror m y
    | _ => false
  let new := fun b : MsgBody => match b with
    | .ferry e r t _ => MsgBody.ferry e r t m
    | c => c
  (s.flight.any isIt, { s with flight := s.flight.map (fun x => if isIt x then { x with body := new x.body } else x) })

end Sys2Proof.Machine
end

