-- ==== Sys2Proof/Machine/Slots.lean ====
section
/-!
DEFINITION. Outcome slots, their write ports, subscriptions and mirror updates (R36–R39, R243–R271).
-/

namespace Sys2Proof.Machine

/-- A slot as its die's object access sees it (R243). -/
def Slot.view (x : Slot) : SlotView := newest {} x.pub

/-- A slot as the condition inputs see it in this cycle (R210, R254). -/
def State.slotSeen (s : State) (k : Nat) : SlotView := seen {} (s.slot k).pub s.cyc

/-- UNREACH of a slot as the condition inputs see it in this cycle (R289). -/
def State.unreachSeen (s : State) (k : Nat) : Bool := seen false (s.slot k).unreachPub s.cyc

/-- UNREACH of a slot changes (R256); the condition inputs see it one cycle later. -/
def State.setUnreach (s : State) (k : Nat) (b : Bool) : State :=
  let x := s.slot k
  if x.unreach = b then s else s.setSlot k { x with unreach := b, unreachPub := pushTrail 8 (s.cyc + 1) b x.unreachPub }

/-- A slot takes a new view, which reaches the condition inputs one cycle later. -/
def State.putView (s : State) (k : Nat) (v : SlotView) : State :=
  let x := s.slot k
  s.setSlot k { x with pub := pushTrail 8 (s.cyc + 1) v x.pub }

/-- The decision message of a forward entry to another device (R260). -/
def Forward.msg (f : Forward) (v : SlotView) : DecMsg := ⟨f.mDie, f.mSlot - 768, v.value, v.valid, v.gen, f.stag⟩

/-- A forward entry sends its slot's view (R253, R251): one update per cycle, with the view at the cycle's end. One
that meets a broken link is dropped on the die before it, and counted there (R256; log 54). -/
def State.forwardView (s : State) (f : Forward) : State :=
  let v := (s.slot (sel f.srcDie f.srcSlot)).view
  match f.dev with
  | none =>
    let new : Update := ⟨s.cyc, none, f.srcDie, f.srcSlot, f.mDie, f.mSlot, f.stag, v⟩
    let same : Msg → Bool := fun m => match m.body with
      | .update u => decide ({ u with view := v } = new)
      | _ => false
    if s.flight.any same then
      { s with flight := s.flight.map (fun m => if same m then { m with body := .update new } else m) }
    else (s.inc Obj.UPDATES_SENT (sel f.srcDie 0)).launch s.cyc f.srcDie f.mDie f.srcSlot none (.update new)
  | some dev =>
    match s.replaceSent f.srcDie dev (f.msg v) with
    | (true, s1) => s1
    | (false, _) => (s.inc Obj.UPDATES_SENT (sel f.srcDie 0)).sendDevice f.srcDie f.srcSlot dev (f.msg v)

/-- A written or cleared source slot sends an update to each of its forward entries (R253). -/
def State.sendUpdates (s : State) (d n : Nat) : State :=
  (s.forwards.filter (fun f => f.srcDie == d && f.srcSlot == n)).foldl State.forwardView s

/-- A post written to a slot through a port (R39, R243): of two ports in one cycle the higher-numbered one's value
stays. A clear of this cycle waits after all (R245). -/
def State.writeSlot (s : State) (d p n : Nat) (value : BitVec 8) : State :=
  let k := sel d n
  let x := s.slot k
  let v := x.view
  let later := match x.wrote with
    | some (c, q) => c == s.cyc && decide (p < q)
    | none => false
  let s1 := s.putView k ⟨if later then v.value else value, true, v.gen + 1⟩
  (s1.setSlot k { s1.slot k with wrote := some (s.cyc, if later then (x.wrote.map (·.2)).getD p else p),
                                 clearing := x.clearing || x.cleared == some s.cyc }).sendUpdates d n

/-- A post offered to a write port in cycle `due` (R36, R37). -/
def State.offerPost (s : State) (d p due n : Nat) (value : BitVec 8) (src : Poster) : State :=
  let k := d * 16 + p
  let x := s.port k
  s.setPort k { x with posts := x.posts ++ [⟨due, n, value, src⟩] }

/-- The order in which a port serves posts other than those of discriminators (R37): the rank of a poster. -/
def Poster.rank : Poster → Nat
  | .disc _ => 0
  | .maj _ => 0
  | .dsp _ => 1
  | .seq q => 2 + q % 2

/-- Posts of a port that are offered by now, of a rank (R37). -/
def State.offered (s : State) (k r : Nat) : List Post :=
  (s.port k).posts.filter (fun x => decide (x.due ≤ s.cyc) && x.src.rank == r)

/-- A DSP engine's post buffer loses the entry of a post that has been written (R38). -/
def State.freeBuffer (s : State) (d : Nat) (src : Poster) : State :=
  match src with
  | .dsp k => let x := s.dsp (sel d k); s.setDsp (sel d k) { x with buffered := x.buffered - 1, freedAt := s.cyc }
  | _ => s

/-- OUTCOME_PORT_WRITE (R37): a port writes every discriminator post at once, or, in a cycle without one, one further
post in the order DSP engine, lower sequencer, higher sequencer; port 8 writes every post offered to it. -/
def execOutcomePortWrite (d p : Nat) (s : State) : Out :=
  let k := d * 16 + p
  let discs := s.offered k 0
  let x := s.port k
  match discs with
  | _ :: _ =>
    let s1 := s.setPort k { x with posts := x.posts.filter (fun y => !(decide (y.due ≤ s.cyc) && y.src.rank == 0)),
                                   discAt := some s.cyc }
    .next (discs.foldl (fun t y => t.writeSlot d p y.slot y.value) s1)
  | [] =>
    if x.discAt = some s.cyc ∨ x.otherAt = some s.cyc then .next s
    else
      let next := (List.range 4).findSome? (fun r => (s.offered k r).head?)
      match next with
      | none => .next s
      | some y =>
        let s1 := s.setPort k { x with posts := x.posts.erase y, otherAt := some s.cyc }
        .next ((s1.freeBuffer d y.src).writeSlot d p y.slot y.value)

/-- A slot is a reserved one, which always reads 0 (R244). -/
def reservedSlot (n : Nat) : Bool := decide (144 ≤ n) && decide (n < 256)

/-- A clear applies to a slot: VALUE and VALID 0, GEN unchanged, and one update (R245). -/
def State.clearSlot (s : State) (d n : Nat) : State :=
  let k := sel d n
  let v := (s.slot k).view
  let s1 := (s.putView k ⟨0, false, v.gen⟩)
  (s1.setSlot k { s1.slot k with clearing := false, cleared := some s.cyc }).sendUpdates d n

/-- SLOT_CLEAR (R245): the slot is cleared; a clear that meets a write of the same cycle waits one cycle. -/
def execSlotClear (d n : Nat) (s : State) : Out :=
  let k := sel d n
  match (s.slot k).wrote with
  | some (c, _) =>
    if c = s.cyc then .next (s.setSlot k { s.slot k with clearing := true }) else .next (s.clearSlot d n)
  | none => .next (s.clearSlot d n)

/-! Subscriptions (R247–R257). -/

/-- ENABLE, SRC_DEVICE, SRC_DIE and SRC_SLOT of SUB_CONFIG (R270). -/
def State.subOn (s : State) (k : Nat) : Bool := bit (s.rd Obj.SUB_CONFIG k) 31
def State.subDevice (s : State) (k : Nat) : Nat := bits (s.rd Obj.SUB_CONFIG k) 20 13
def State.subDie (s : State) (k : Nat) : Nat := bits (s.rd Obj.SUB_CONFIG k) 12 10
def State.subSlot (s : State) (k : Nat) : Nat := bits (s.rd Obj.SUB_CONFIG k) 9 0

/-- A slot that may be a source (R248). -/
def sourceSlot (n : Nat) : Bool := decide (n < 144) || (decide (256 ≤ n) && decide (n < 512))

/-- The member of a device, where its link-state record is known (R248). -/
def State.memberOf (s : State) (dev : Nat) : Option Member := (s.devices.find? (fun r => r.device == dev)).map (·.member)

/-- The state in which an enabled subscription starts (R248, R252). -/
def State.subStart (s : State) (d n : Nat) : SubState :=
  let k := sel d n
  let dev := s.subDevice k
  let die := s.subDie k
  let own := s.ownDevice
  if !sourceSlot (s.subSlot k) then .refusedSource
  else if n < 768 then
    if dev = own ∧ die ≠ d ∧ die < s.member.dies then .pending else .refusedSource
  else if dev = own then .refusedSource
  else
    match s.memberOf dev with
    | some m => if die < m.dies then .pending else .refusedSource
    | none => .pending

/-- A removal request for a mirror's forward entry (R252, R262), unless one for the same mirror and STAG is outstanding. -/
def State.askRemoval (s : State) (dev : Option Nat) (d n stag : Nat) : State :=
  if s.removals.any (fun r => r.2 == (d, n, stag)) then s else { s with removals := s.removals ++ [(dev, d, n, stag)] }

/-- The source device of a mirror slot as a forward entry names it: none for this device. -/
def State.subSource (s : State) (n k : Nat) : Option Nat := if n < 768 then none else some (s.subDevice k)

/-- SUB_CONFIG (R252): a write disables the subscription, clearing UNREACH and asking for the removal of its forward
entry, and enables it with the new fields. Reserved bits are a host error. -/
def execSubConfig (d n : Nat) (v : Word) (s : State) : Out :=
  let k := sel d n
  let x := s.sub k
  let s1 := if x.st = .off then s
    else
      let t := if x.st = .active ∨ x.st = .pending ∨ x.st = .unreachable then s.askRemoval (s.subSource n k) d n x.stag else s
      t.setUnreach k false
  let s2 := s1.wr Obj.SUB_CONFIG k v
  unlessError (bits v 30 21 != 0)
    (s2.setSub k { stag := x.stag, st := if bit v 31 then s2.subStart d n else .off })

/-- Forward entries of a source die (R249). -/
def State.forwardUsed (s : State) (d : Nat) : Nat := (s.forwards.filter (fun f => f.srcDie == d)).length

/-- A forward entry installed on a source die sends its resync (R251). -/
def State.install (s : State) (f : Forward) : State := ({ s with forwards := s.forwards ++ [f] }).forwardView f

/-- H of a subscription and its route (R254, R256): over the Gangway within the device, else over the best path of the
link-state records from the source die to this device and on to the mirror's die. -/
def State.subRoute (s : State) (d n : Nat) : Option (Nat × List Hop) :=
  let k := sel d n
  if n < 768 then
    let r := Sys2Proof.Machine.route s.member.dies (s.subDie k) d
    if r.all (fun h => s.linkUp h.1 h.2) then some (30 * r.length, []) else none
  else
    match bestPath s.records (s.subDevice k) (s.subDie k) s.ownDevice with
    | some a => some (a.cost + 30 * hops s.member.dies a.die d, a.path)
    | none => none

/-- FORWARD_ENTRY_INSTALL (R249, R251, R262): the mirror's STAG advances, the entry is installed on the source die, and
the source die sends one resync; a full table refuses it. An entry for which no subscription waits, or whose source has
no route to the mirror (R250), is not installed. -/
def execForwardEntryInstall (i : Install) (s : State) : Out :=
  match i with
  | .here d n =>
    let k := sel d n
    let x := s.sub k
    if x.st = .pending ∧ x.awaited = false ∧ n < 768 ∧ (s.die (s.subDie k)).booted ∧ (s.subRoute d n).isSome then
      if 1024 ≤ s.forwardUsed (s.subDie k) then .next (s.setSub k { x with st := .refusedFull })
      else
        let tag := (x.stag + 1) % 8
        .next ((s.setSub k { x with stag := tag, awaited := true }).install
          ⟨s.subDie k, s.subSlot k, none, d, n, tag⟩)
    else .next s
  | .toOther sd ss dev d n tag =>
    if s.forwardUsed sd < 1024 ∧ sourceSlot ss ∧ 768 ≤ n ∧ (s.die sd).booted then .next (s.install ⟨sd, ss, some dev, d, n, tag⟩) else .next s
  | .fromOther d n full =>
    let k := sel d n
    let x := s.sub k
    if x.st = .pending ∧ x.awaited = false ∧ 768 ≤ n then
      .next (s.setSub k (if full then { x with st := .refusedFull } else { x with stag := (x.stag + 1) % 8, awaited := true }))
    else .next s

/-- FORWARD_REMOVAL (R262): every forward entry that targets the named mirror with the named STAG is removed, and a request
of this device that it answers is no longer outstanding. `dev` is the mirror's device, none where source and mirror are
both of this one; this device's own number says that the source device has done what it was asked. -/
def execForwardRemoval (dev : Option Nat) (mDie mSlot stag : Nat) (s : State) : Out :=
  let answers := fun r : Option Nat × Nat × Nat × Nat => r.2 == (mDie, mSlot, stag) &&
    (match dev with
     | none => r.1 == none
     | some x => x == s.ownDevice && r.1 != none)
  .next { s with
    forwards := s.forwards.filter (fun f => !(f.dev == dev && f.mDie == mDie && f.mSlot == mSlot && f.stag == stag)),
    removals := s.removals.filter (fun r => !answers r) }

/-- SUB_LATENCY (R256): H while the subscription is ACTIVE, else 0. -/
def State.subLatency (s : State) (k : Nat) : Nat := if (s.sub k).st = .active then (s.sub k).latency else 0

/-- A mirror update has reached its die (R253–R255, R262): it is written, and makes a subscription whose resync is awaited
ACTIVE; one that matches no subscription is discarded, counted, and answered with a removal request; one for a die in S3
is discarded and counted. -/
def State.receiveUpdate (s : State) (d : Nat) (u : Update) : Out :=
  let k := sel d u.mSlot
  let x := s.sub k
  if (s.die d).s3 then .next (s.inc Obj.UPDATES_DISCARDED (sel d 0))
  else
    let fits := (x.st = .active || (x.st = .pending && x.awaited)) && x.stag == u.stag &&
      (match u.dev with
       | none => decide (u.mSlot < 768) && s.subDie k == u.srcDie
       | some dev => decide (768 ≤ u.mSlot) && s.subDevice k == dev)
    if !fits then
      .next ((s.inc Obj.UPDATES_DISCARDED (sel d 0)).askRemoval u.dev d u.mSlot u.stag)
    else
      let resync := x.st = .pending && x.awaited
      let y := s.slot k
      let unreach := y.unreach && !resync
      let v := if unreach then { u.view with valid := false } else u.view
      let s1 := (s.putView k v).inc Obj.UPDATES_RECEIVED (sel d 0)
      let waits := y.clearing || y.cleared == some s.cyc
      let s2 := (s1.setSlot k { s1.slot k with wrote := some (s.cyc, 8), clearing := waits }).setUnreach k unreach
      if resync then
        let (h, p) := (s2.subRoute d u.mSlot).getD (x.latency, [])
        let changed := match x.route with
          | some q => q != p
          | none => false
        let s3 := s2.setSub k { x with st := .active, awaited := false, latency := h, route := some p }
        .next (if changed then s3.setBit Obj.SUB_STATUS k 4 else s3)
      else .next s2

/-- MIRROR_UPDATE_RECEIVE (R253–R255, R262): the first update that has reached a die. -/
def execMirrorUpdateReceive (d : Nat) (s : State) : Out :=
  match s.arrived d MsgBody.isUpdate with
  | none => .next s
  | some (m, s0) =>
    match m.body with
    | .update u => s0.receiveUpdate d u
    | _ => .next s0

/-- The route of a mirror's subscription is broken (R250, R256): an active one is marked unreachable, and its mirror keeps
VALUE and GEN, clears VALID and sets UNREACH; one whose resync was under way waits to be installed anew. -/
def State.markMirror (s : State) (d n : Nat) : State :=
  let k := sel d n
  let x := s.sub k
  if x.st = .active then
    let v := (s.slot k).view
    let s1 := s.putView k { v with valid := false }
    (s1.setUnreach k true).setSub k { x with st := .unreachable, awaited := false }
  else if x.st = .pending then s.setSub k { x with awaited := false }
  else s

/-- SLOT_STATE as read (R269). -/
def State.slotState (s : State) (k : Nat) : Nat :=
  if reservedSlot (selUnit k) then 0
  else
    let x := s.slot k
    let v := x.view
    b2n x.unreach * 65536 + b2n v.valid * 32768 + v.gen.toNat * 256 + v.value.toNat

/-- SUB_STATUS as read (R270). -/
def State.subStatus (s : State) (k : Nat) : Word :=
  let x := s.sub k
  let st := match x.st with
    | .off => 0 | .pending => 1 | .active => 2 | .unreachable => 3 | .refusedSource => 4 | .refusedFull => 5
  s.rd Obj.SUB_STATUS k ||| word (x.stag * 32 + st)

/-- A word of SLOT_SNAPSHOT (R269). -/
def State.snapshotWord (s : State) (d w : Nat) : Word :=
  word (s.slotState (sel d (2 * w)) * 2 ^ 36 + s.slotState (sel d (2 * w + 1)))

/-- Clears that waited apply in a cycle in which no port has written the slot (R245): as the cycle ends. -/
def State.pendingClears (s : State) : State :=
  (s.slots.filter (fun p => p.2.clearing)).foldl (fun t p =>
    match p.2.wrote with
    | some (c, _) => if c = s.cyc then t else t.clearSlot (selDie p.1) (selUnit p.1)
    | none => t.clearSlot (selDie p.1) (selUnit p.1)) s

/-- Mirrors whose marking falls due are marked (R256). -/
def State.dueMarks (s : State) : State :=
  let s1 := { s with marks := s.marks.filter (fun m => decide (s.cyc < m.1)) }
  (s.marks.filter (fun m => decide (m.1 ≤ s.cyc))).foldl (fun t m => t.markMirror m.2.1 m.2.2) s1

/-- The hops that the updates of a mirror take within this device (R256): from its source die, or from the port die that
its route ends at. -/
def State.mirrorHops (s : State) (k : Nat) : List (Nat × Nat) :=
  let n := s.member.dies
  if selUnit k < 768 then route n (s.subDie k) (selDie k)
  else match ((s.sub k).route.getD []).getLast? with
    | some h => route n h.partnerPort (selDie k)
    | none => []

/-- The mirrors of this device whose route within it uses a link that has stopped are due to be marked (R256). -/
def State.brokenMirrors (s : State) (d link : Nat) : State :=
  let n := s.member.dies
  let broken := s.subs.filter (fun p => (p.2.st == .active || (p.2.st == .pending && p.2.awaited)) &&
    (s.mirrorHops p.1).any (fun h => h == (d, link) || h == (farDie n d link, farLink n link)))
  { s with marks := s.marks ++ broken.map (fun p => (s.cyc + 2, selDie p.1, selUnit p.1)) }

/-- A link stops carrying traffic, for its mirrors and its later messages (R25, R256). -/
def State.stopLink (s : State) (d link : Nat) : State :=
  let k := d * 4 + link
  let far := farDie s.member.dies d link * 4 + farLink s.member.dies link
  let s1 := (s.setGlink k { s.glink k with up := false }).setGlink far { s.glink far with up := false }
  s1.brokenMirrors d link

/-- Gangway links of a die (R20). -/
def linkCount (n : Nat) : Nat := if n = 2 then 1 else 3

/-- GANGWAY_LINK_FAIL (R25, R256, R554): a link stops carrying traffic; a fault-log entry of class 0x0C records it. -/
def execGangwayLinkFail (d link : Nat) (s : State) : Out :=
  if linkCount s.member.dies ≤ link ∨ s.member.dies ≤ d then .next s
  else
    let far := farDie s.member.dies d link * 4 + farLink s.member.dies link
    let s1 := (s.setGlink (d * 4 + link) { s.glink (d * 4 + link) with failed := true })
    .next (((s1.setGlink far { s1.glink far with failed := true }).stopLink d link).log d 0x0C 0 0 link)

/-- GANGWAY_SPARE_SWAP (R554, R555): after 1,024 cycles of duplicated data a spare wire group takes the place of a group
that met the rule of class 0x0B. No message is delayed or lost. A group that is in service no more, or finds none of the
four spares left, is not replaced. -/
def execGangwaySpareSwap (d link group : Nat) (s : State) : Out :=
  let k := d * 4 + link
  let x := s.glink k
  if x.spared.length < 4 ∧ ¬ group ∈ x.spared ∧ group < 40 then
    .next ((s.setGlink k { x with spared := x.spared ++ [group] }).log d 0x0B 2 0 (link + 4 * group + 256 * x.spared.length))
  else .next s

end Sys2Proof.Machine
end

