-- ==== Sys2Proof/Machine/Array.lean ====
section
/-!
DEFINITION. Detector tones, trigger units, majority units, raw capture and the acquisition buffer (R311–R352).
-/

namespace Sys2Proof.Machine

/-- The largest r of `b` bits with r² at most n, found bit by bit from r. -/
def sqrtFrom (n : Nat) : Nat → Nat → Nat
  | 0, r => r
  | b + 1, r => if (r + 2 ^ b) * (r + 2 ^ b) ≤ n then sqrtFrom n b (r + 2 ^ b) else sqrtFrom n b r

/-- The square root rounded to the nearest whole number, for roots below 2^40. -/
def sqrtRound (n : Nat) : Nat := let r := sqrtFrom n 40 0; if r < n - r * r then r + 1 else r

/-- The square root rounded up, for roots below 2^40 (R207). -/
def sqrtUp (n : Nat) : Nat := let r := sqrtFrom n 40 0; if r * r < n then r + 1 else r

/-- A time tag (R66). -/
def timeTag (cycle frac : Nat) : Word := word (cycle % 2 ^ 64 * 256 + frac)

/-- A phase difference reduced modulo one turn into −0.5 to +0.5 turn (R321). -/
def reduceTurn (x : Int) : Int := (x + 131072) % 262144 - 131072

/-- PHASE of a sample, in units of 2^−18 turn (R315): its angle where that is a whole number of units, else the unit just
below or just above it, which of them is not stated (log 3). -/
def phaseOf (x : Sample) : BitVec 18 :=
  let (i, q) := (x.i.toInt, x.q.toInt)
  if i = 0 ∧ q = 0 then Config.phaseOfZero
  else
    let a := angleFloor i q
    BitVec.ofNat 18 (if angleExact i q then a else if Config.roundsUp 315 (i * 2 ^ 18 + q) 1 then a + 1 else a)

/-- AMP, PHASE, I or Q of a sample, by QTY (R315, R319). -/
def quantity (qty : Nat) (x : Sample) : Int :=
  if qty = 0 then (sqrtRound (x.i.toInt.natAbs ^ 2 + x.q.toInt.natAbs ^ 2) : Nat)
  else if qty = 1 then (phaseOf x).toInt
  else if qty = 2 then x.i.toInt
  else x.q.toInt

/-- The 36 bits of a tone sample in its FORMAT (R315). -/
def formatSample (format : Nat) (x : Sample) : BitVec 36 :=
  if format = 0 then x.i ++ x.q else BitVec.ofInt 18 (quantity 0 x) ++ phaseOf x

/-! The acquisition buffer (R346–R348). -/

/-- The order of reservations made in one cycle (R346). -/
def RecType.rank : RecType → Nat
  | .gap => 0
  | .mark => 1
  | .majority => 2
  | .raw => 3
  | .trace => 3
  | .trigger => 4
  | .forced => 4
  | .change => 5
  | .keepalive => 5
  | .block => 6

/-- TYPE of a record (R343). -/
def RecType.code : RecType → Nat
  | .trigger => 0
  | .forced => 1
  | .change => 2
  | .keepalive => 3
  | .block => 4
  | .raw => 5
  | .trace => 6
  | .mark => 7
  | .majority => 8
  | .gap => 9

/-- A record reserved before another (R346). -/
def Rec.before (a b : Rec) : Bool := decide ([a.at_, a.typ.rank, a.unit] < [b.at_, b.typ.rank, b.unit])

/-- A record put in its place. -/
def insRec (a : Rec) : List Rec → List Rec
  | [] => [a]
  | b :: bs => if a.before b then a :: b :: bs else b :: insRec a bs

/-- Words that the records of a buffer take: ACQ_FILL (R351). -/
def Acq.fill (x : Acq) : Nat := x.recs.foldl (fun n r => n + r.len) 0

/-- Sessions whose record subscription covers a type of a die (R348). -/
def State.covering (s : State) (d : Nat) (t : RecType) : List Nat :=
  s.recSubs.filterMap (fun p => if p.2.any (fun r => r.die == d && bit r.mask t.code) then some p.1 else none)

/-- A GAP record is reserved, and reservations are accepted again, once the free space has reached ACQ_RESUME (R347). -/
def State.acqResume (s : State) (d : Nat) : State :=
  let x := s.acq d
  if x.dropping ∧ s.rdN Obj.ACQ_RESUME (sel d 0) ≤ 4194304 - x.fill ∧ x.fill + 3 ≤ 4194304 then
    let subs := s.covering d .gap
    let g : Rec := { id := x.nextId, typ := .gap, unit := 0, at_ := s.cyc, len := 3, tag := x.gapFirst, word2 := x.gapLast,
                     body := x.gapCount, owed := subs, covered := !subs.isEmpty }
    s.setAcq d { x with dropping := false, gapCount := 0, recs := insRec g x.recs, nextId := x.nextId + 1,
                        high := max x.high (x.fill + 3) }
  else s

/-- A record that begins takes its place in the buffer, at its full length, or is dropped whole and counted (R346, R347). -/
def State.place (s : State) (d : Nat) (r : Rec) : State :=
  let s0 := s.acqResume d
  let x := s0.acq d
  if x.dropping ∨ 4194304 < x.fill + r.len then
    let tag := timeTag s0.now 0
    let s1 := s0.setAcq d { x with dropping := true, gapFirst := if x.gapCount = 0 then tag else x.gapFirst, gapLast := tag,
                                   gapCount := x.gapCount + 1 }
    let s2 := (s1.inc Obj.ACQ_DROPPED_RECORDS (sel d 0)).count64 Obj.ACQ_DROPPED_WORDS (sel d 0) r.len
    if x.dropping then s2 else (s2.setBit Obj.ACQ_STATUS (sel d 0) 0).raise d 176
  else
    let subs := s0.covering d r.typ
    s0.setAcq d { x with recs := insRec { r with owed := subs, covered := !subs.isEmpty } x.recs, high := max x.high (x.fill + r.len) }

/-- A record begins: it is to be reserved in its cycle `at_`, in the order of R346; its number. -/
def State.reserve (s : State) (d : Nat) (r : Rec) : Nat × State :=
  let x := s.acq d
  (x.nextId, s.setAcq d { x with wants := insRec { r with id := x.nextId } x.wants, nextId := x.nextId + 1 })

/-- The reservations of the cycle that ends are made, in order (R346). -/
def State.placeAll (s : State) (d : Nat) : State :=
  let x := s.acq d
  let due := x.wants.filter (fun r => decide (r.at_ ≤ s.cyc))
  if due.isEmpty then s
  else
    (due.foldl (fun t r => t.place d r)
      (s.setAcq d { x with wants := x.wants.filter (fun r => decide (s.cyc < r.at_)) })).acqResume d

/-- A record changed, in the buffer or before it is reserved. -/
def State.editRec (s : State) (d id : Nat) (f : Rec → Rec) : State :=
  let x := s.acq d
  let edit := fun l : List Rec => l.map (fun r => if r.id = id then f r else r)
  s.setAcq d { x with recs := edit x.recs, wants := edit x.wants }

/-- A record whose last word has been written (R346). -/
def Rec.complete (r : Rec) (now : Nat) : Bool := !r.open_ && !r.copying && decide (r.fullAt ≤ now)

/-- ACQ_FLUSH (R348): every complete record of the die's buffer is discarded. -/
def execAcqFlush (d : Nat) (s : State) : Out :=
  let x := s.acq d
  .next ((s.setAcq d { x with recs := x.recs.filter (fun r => !r.complete s.cyc) }).acqResume d)

/-- Samples of 36 bits, two a word, the earlier above (R315). -/
def pairWords : List (BitVec 36) → List Word
  | [] => []
  | [a] => [a ++ (0 : BitVec 36)]
  | a :: b :: t => (a ++ b) :: pairWords t

/-- ADC samples of 12 bits, six a word, the earliest above (R344). -/
def sixWords : List (BitVec 36) → Nat → List Word
  | _, 0 => []
  | xs, n + 1 =>
    word ((List.range 6).foldl (fun a j => a * 4096 + (xs.getD j 0).toNat % 4096) 0) :: sixWords (xs.drop 6) n

/-- A list brought to a length, missing samples reading 0. -/
def padTo (n : Nat) (xs : List (BitVec 36)) : List (BitVec 36) := (xs ++ List.replicate (n - xs.length) 0).take n

/-- The words of a record of die `d` (R343, R344). -/
def Rec.words (r : Rec) (d : Nat) : List Word :=
  let head := fun body : Nat => word (r.typ.code * 2 ^ 68 + r.flags.toNat * 2 ^ 56 + d * 2 ^ 53 + r.unit * 2 ^ 42 + body)
  match r.typ with
  | .trigger | .forced =>
    head (r.pre * 2 ^ 33 + r.count * 2 ^ 20 + r.len) :: r.tag :: r.word2 ::
      pairWords (padTo (2 * (r.len - 3)) (padTo r.pre r.preSamples ++ r.samples))
  | .change | .keepalive => [head (r.samples.headD 0).toNat, r.tag]
  | .block | .trace => head (r.count * 2 ^ 25 + r.len) :: r.tag :: pairWords (padTo (2 * (r.len - 2)) r.samples)
  | .raw => head (r.count * 2 ^ 25 + r.len) :: r.tag :: sixWords r.samples (r.len - 2)
  | .mark | .majority => [head r.body, r.tag]
  | .gap => [head r.body, r.tag, r.word2]

/-! Detector tones. -/

/-- Decimation exponent, sample period and delay of a tone (R314, R316). -/
def toneK (cfg : BitVec 64) : Nat := bits cfg 59 56
def toneP (cfg : BitVec 64) : Nat := 128 * 2 ^ toneK cfg
def toneA (cfg : BitVec 64) : Nat := 2112 + 384 * 2 ^ toneK cfg

/-- A TONE_CONFIG that is a host error. -/
def toneBad (cfg : BitVec 64) : Bool :=
  decide (toneK cfg < 2) || decide (12 < toneK cfg) || bits cfg 61 60 == 3 || bits cfg 55 43 != 0

/-- The tone's input is in array mode and its domain is on (R311). -/
def State.toneMayRun (s : State) (d t : Nat) : Bool :=
  (s.rfIn (sel d (t / 256))).mode == 1 && s.domOn d (domIn (t / 256)) && !s.verifying d 1 (t / 256)

/-- Records in progress of a tone are finished early (R318, R345). -/
def State.truncate (s : State) (d t : Nat) : State :=
  let k := sel d t
  let x := s.tone k
  let cut := fun (u : State) (id : Nat) (valid : Rec → Nat) =>
    (u.editRec d id (fun r => { r with open_ := false, count := valid r, flags := r.flags ||| 4 })).setBit Obj.TONE_STATUS k 3
  let s1 := match x.collecting with
    | some (id, left) => cut s id (fun r => r.count - left)
    | none => s
  match x.block with
  | some (id, n) => cut s1 id (fun _ => n)
  | none => s1

/-- A tone stops at once (R318): its records in progress are finished and its gate is closed. -/
def State.stopTone (s : State) (k : Nat) : State :=
  let s1 := s.truncate (selDie k) (selUnit k)
  s1.setTone k { s1.tone k with on := false, armed := false, collecting := none, filled := none, block := none }

/-- Every tone of an input stops (R318). -/
def State.stopTones (s : State) (d i : Nat) : State :=
  (s.tones.filter (fun p => selDie p.1 == d && selUnit p.1 / 256 == i)).foldl (fun t p => t.stopTone p.1) s

/-- TONE_RESTART (R317, R318): at the tone's next bin sample a written TONE_CONFIG takes effect, or a stopped tone starts
again; the decimator, oscillator, ring, conditions and stream restart. -/
def execToneRestart (d t : Nat) (s : State) : Out :=
  let k := sel d t
  let x := s.tone k
  let cfg := (s.rd Obj.TONE_CONFIG k).setWidth 64
  let phase := s.rdN Obj.BIN_PHASE (sel d 0)
  let due := s.toneMayRun d t && (x.written || (!x.on && bit cfg 63)) && ((s.now : Int) - phase) % 128 == 0
  if !due then .next s
  else
    let s1 := s.truncate d t
    unlessError (toneBad cfg) (s1.setTone k { x with
      on := bit cfg 63, config := cfg, written := false, life := x.life + 1, restart := s.cyc, lastAt := none, n := 0, ring := [],
      arm := [false, false, false, false], shut := 0, collecting := none, filled := none, dead := 0, suppressed := 0,
      stored := none, since := 0, block := none })

/-- The quantity of a condition at a sample with its predecessors, newest first; none while a slope has none (R322). -/
def condValue (w : Word) : List Sample → Option Int
  | [] => none
  | x :: prev =>
    let qty := bits w 69 68
    if bits w 71 70 = 2 then
      match prev[bits w 65 60]? with
      | some y =>
        let diff := quantity qty x - quantity qty y
        some (if qty = 1 then reduceTurn diff else diff)
      | none => none
    else some (quantity qty x)

/-- The sample and its predecessor are a wrap pair of PHASE, on which LEVEL and WINDOW do not fire (R321). -/
def wrapPair (w : Word) (x : Sample) (prev : List Sample) : Bool :=
  bits w 69 68 == 1 && bits w 71 70 != 2 &&
    (match prev with
     | y :: _ => let diff := quantity 1 x - quantity 1 y; reduceTurn diff != diff
     | [] => false)

/-- A bound of a condition: unsigned for AMP, else two's complement (R319). -/
def bound (w : Word) (hi lo : Nat) : Int := if bits w 69 68 = 0 then (bits w hi lo : Nat) else signed 18 (bits w hi lo)

/-- What a condition does on a sample (R320–R324): the threshold crossed if it fires, and its arming. -/
def condStep (w : Word) (x : Sample) (prev : List Sample) (up down : Bool) : Option Int × Bool × Bool :=
  match condValue w (x :: prev) with
  | none => (none, up, down)
  | some v =>
    let l := bound w 53 36
    let u := bound w 35 18
    let h : Int := (bits w 17 0 : Nat)
    let dir := bits w 67 66
    let wrap := wrapPair w x prev
    let before := (condValue w prev).getD v
    match bits w 71 70 with
    | 0 => (none, false, false)
    | 3 =>
      if dir = 0 then
        let fires := up && decide (l ≤ v) && decide (v ≤ u) && !wrap
        (if fires then some (if before < l then l else u) else none,
          !fires && (up || decide (v < l - h) || decide (u + h < v)), false)
      else
        let fires := up && (decide (v < l) || decide (u < v)) && !wrap
        (if fires then some (if v < l then l else u) else none,
          !fires && (up || (decide (l + h ≤ v) && decide (v ≤ u - h))), false)
    | _ =>
      let rises := up && decide (l ≤ v) && !wrap && dir != 1
      let falls := down && decide (v ≤ l) && !wrap && dir != 0
      (if rises || falls then some l else none, !rises && (up || decide (v < l - h)), !falls && (down || decide (l + h < v)))

/-- The fraction of a fire in 1/256 (R324): floor(256 × (B − a) / (b − a)) where it lies in 0 to 256. -/
def fraction (b a v : Int) : Option Nat :=
  let den := v - a
  let num := if den < 0 then 256 * (a - b) else 256 * (b - a)
  let f := num / (den.natAbs : Int)
  if den = 0 ∨ f < 0 ∨ 256 < f then none else some f.toNat

/-- The time tag and the fire cycle of a fire (R324); a fraction outside 0 to 1 is not stated and is left free (log 1). -/
def State.fireTag (s : State) (w : Word) (x : Sample) (prev : List Sample) (b : Int) (t p : Nat) : Word × Nat × State :=
  let v := (condValue w (x :: prev)).getD 0
  let a := (condValue w prev).getD v
  match fraction b a v with
  | some f => if f < 256 then (timeTag (t - p) f, t - p + f * p / 256, s) else (timeTag t 0, t, s)
  | none =>
    let (z, s1) := s.take
    let f := z % 256
    (timeTag (t - p) f, t - p + f * p / 256, s1)

/-! Majority units. -/

/-- Whether a die tone is a member of the group of one majority unit (R332). -/
def State.inGroup (s : State) (d u t : Nat) : Bool :=
  let k := sel d u
  let base := bits (s.dw Obj.MAJ_GROUP k 0) 10 0
  decide (base ≤ t) && decide (t < base + 256) && bit (s.dw Obj.MAJ_GROUP k (1 + (t - base) / 64)) ((t - base) % 64)

/-- Whether a die tone is a member of a majority unit (R332, R335). -/
def State.isMember (s : State) (d u t : Nat) : Bool :=
  let c := s.rd Obj.MAJ_CONFIG (sel d u)
  if bit c 62 then (List.range 16).any (fun v => bit c v && s.inGroup d v t) else s.inGroup d u t

/-- The member tones of a majority unit. -/
def State.members (s : State) (d u : Nat) : List Nat := (List.range 2048).filter (s.isMember d u)

/-- Λ over the member tones (R334). -/
def State.majLambda (s : State) (d u : Nat) : Nat :=
  ((s.members d u).map (fun t => let c := (s.tone (sel d t)).config; toneA c + toneP c)).foldl max 0 + 2

/-- ENABLE set with its Λ, or cleared (R332, R334). -/
def State.majEnable (s : State) (d u : Nat) (b : Bool) : State :=
  let k := sel d u
  let c := s.rd Obj.MAJ_CONFIG k
  if b then (s.wr Obj.MAJ_CONFIG k (c ||| oneBit 72 63)).setMaj k { s.maj k with lambda := s.majLambda d u }
  else s.wr Obj.MAJ_CONFIG k (c &&& ~~~(oneBit 72 63))

/-- A fire of a tone reaches the majority units that it is a member of (R331, R333, R334). -/
def State.majFires (s : State) (d t cyc : Nat) : State :=
  (List.range 16).foldl (fun u v =>
    let k := sel d v
    if bit (u.rd Obj.MAJ_CONFIG k) 63 && u.isMember d v t then
      let x := u.maj k
      let deaf := match x.deaf with
        | some c => decide (cyc ≤ c)
        | none => false
      if cyc + x.lambda < u.now + 1 then u.inc Obj.MAJ_LATE k
      else if deaf then u
      else u.setMaj k { x with fires := x.fires ++ [(t, cyc)] }
    else u) s

/-- The distinct tones with a counted fire in the window that ends at cycle t (R333). -/
def State.majCount (s : State) (d u t : Nat) : Nat :=
  let w := bits (s.rd Obj.MAJ_CONFIG (sel d u)) 47 36 + 1
  (((s.maj (sel d u)).fires.filter (fun f => decide (f.2 ≤ t) && decide (t < f.2 + w))).map (·.1)).eraseDups.length

/-- A force reaches a trigger unit (R330): while the unit collects, the record in progress takes MAJ if a majority unit forced
it; otherwise it waits for the unit's next sample. -/
def State.forceTone (s : State) (d t : Nat) (maj : Bool) : State :=
  let x := s.tone (sel d t)
  let during := match x.collecting, x.filled with
    | some (id, _), _ => some id
    | none, some (id, c) => if c = s.cyc then some id else none
    | none, none => none
  match during with
  | some id => if maj then s.editRec d id (fun r => { r with flags := r.flags ||| 16 }) else s
  | none => s.setTone (sel d t) { x with force := match x.force with
      | some (m, c) => some (m || maj, c)
      | none => some (maj, s.cyc) }

/-- The member tones of a majority unit are forced (R334). -/
def State.forceMembers (s : State) (d u : Nat) : State := (s.members d u).foldl (fun x t => x.forceTone d t true) s

/-- Forces of majority units whose cycle has come reach the member tones (R334). -/
def State.majForces (s : State) (d : Nat) : State :=
  let x := s.acq d
  if x.forces.isEmpty then s
  else (x.forces.filter (fun f => decide (f.1 ≤ s.cyc))).foldl (fun t f => t.forceMembers d f.2)
    (s.setAcq d { x with forces := x.forces.filter (fun f => decide (s.cyc < f.1)) })

/-- A majority unit fires on cycle t, its effects taking place at cycle `at_` of the model's count (R334, R336). -/
def State.majFire (s : State) (d u t at_ state : Nat) : State :=
  let k := sel d u
  let c := s.rd Obj.MAJ_CONFIG k
  let n := s.majCount d u t
  let m := bits c 59 48
  let value := BitVec.ofNat 8 (min n 31 * 8 + b2n (decide (m < n)) * 4 + state)
  let last := t + bits c 35 20
  let x := s.maj k
  let s1 := (s.setMaj k { x with fires := x.fires.filter (fun f => decide (last < f.2)), deaf := some last }).inc Obj.MAJ_FIRES k
  let s2 := s1.offerPost d 8 at_ (128 + u) value (.maj u)
  let s3 := if at_ = s.cyc then s2.raise d (160 + u) else { s2 with later := s2.later ++ [(at_, d, 160 + u)] }
  let s4 :=
    if !bit c 61 then s3
    else if at_ = s.cyc then s3.forceMembers d u
    else s3.setAcq d { s3.acq d with forces := (s3.acq d).forces ++ [(at_, u)] }
  if bit c 60 then
    (s4.reserve d { id := 0, typ := .majority, unit := u, at_ := at_, len := 2, tag := timeTag t 0, body := n % 4096 }).2
  else s4

/-- MAJORITY_DECIDE (R333, R334): the unit decides on cycle t in fabric cycle t + Λ, and fires where at least M distinct
member tones have a fire cycle in the window. Fires that the window has left are forgotten, but for those that a force of
this cycle still counts (R336). -/
def execMajorityDecide (d u : Nat) (s : State) : Out :=
  let k := sel d u
  let c := s.rd Obj.MAJ_CONFIG k
  let x := s.maj k
  if !bit c 63 || decide (s.now < x.lambda) || x.decided == some (s.now - x.lambda) || !s.domOn d 32 then .next s
  else
    let t := s.now - x.lambda
    let w := bits c 47 36 + 1
    let s1 := s.setMaj k { x with decided := some t, fires := x.fires.filter (fun f => decide (t < f.2 + w + 1)) }
    if bits c 59 48 ≤ s1.majCount d u t then .next (s1.majFire d u t (s.cyc + 1) 1) else .next s1

/-- A majority unit is fired by force, so that its slot is written in this cycle (R336). -/
def State.majForce (s : State) (d u : Nat) : State :=
  if bit (s.rd Obj.MAJ_CONFIG (sel d u)) 63 then s.majFire d u (s.now - (s.maj (sel d u)).lambda - 1) s.cyc 2 else s

/-- MAJ_FORCE_TASK (R336): an event at MAJ_FORCEu fires the majority unit. -/
def execMajForceTask (d u : Nat) (s : State) : Out :=
  match s.deliver d (224 + u) false with
  | (some _, s1) => .next (s1.majForce d u)
  | (none, s1) => .next s1

/-- A MAJ_CONFIG value that is a host error. -/
def majBad (v : BitVec 64) : Bool := bits v 59 48 == 0 || bits v 19 16 != 0

/-- Whether the members of a group name a tone beyond 2,047 or its reserved bits are set (host error). -/
def State.groupBad (s : State) (d u : Nat) : Bool :=
  let k := sel d u
  let base := bits (s.dw Obj.MAJ_GROUP k 0) 10 0
  bits (s.dw Obj.MAJ_GROUP k 0) 71 11 != 0 || (List.range 4).any (fun j => bits (s.dw Obj.MAJ_GROUP k (j + 1)) 71 64 != 0) ||
    (List.range 256).any (fun i => decide (2048 ≤ base + i) && bit (s.dw Obj.MAJ_GROUP k (1 + i / 64)) (i % 64))

/-- Words of a DOMAIN object written from an offset, wrapping within it (R484). -/
def State.writeWords (s : State) (id k size : Nat) : Nat → List Word → State
  | _, [] => s
  | o, v :: vs => (s.setDw id k (o % size) v).writeWords id k size (o + 1) vs

/-- MAJ_CONFIG_WRITE (R351, R334): the unit's counted fires are emptied; a write that sets ENABLE takes Λ. -/
def execMajConfigWrite (d u : Nat) (w : MajWrite) (s : State) : Out :=
  let k := sel d u
  let s0 := s.setMaj k { s.maj k with fires := [] }
  match w with
  | .config v =>
    let s1 := s0.wr Obj.MAJ_CONFIG k (v.setWidth 72)
    unlessError (majBad v) (if bit v 63 then s1.majEnable d u true else s1)
  | .group o ws =>
    let s1 := s0.writeWords Obj.MAJ_GROUP k 5 o ws
    unlessError (s1.groupBad d u) s1

/-! Trigger units. -/

/-- A TRIG_CONFIG condition word that is a host error. -/
def condBad (w : Word) : Bool :=
  bits w 67 66 == 3 || (bits w 67 66 == 2 && bits w 71 70 == 3) || bits w 59 54 != 0

/-- A TRIG_CONFIG that is a host error. -/
def State.trigBad (s : State) (k : Nat) : Bool :=
  let w := s.dw Obj.TRIG_CONFIG k 2
  condBad (s.dw Obj.TRIG_CONFIG k 0) || condBad (s.dw Obj.TRIG_CONFIG k 1) || decide (256 < bits w 71 63) || bits w 32 0 != 0

/-- The gate as a sample meets it (R325, R327). -/
def Tone.gate (x : Tone) : Bool := x.on && x.armed && x.shut == 0

/-- A record from a trigger or a force begins on this sample (R327–R331). -/
def State.beginRecord (s : State) (d t : Nat) (typ : RecType) (flags : Nat) (tag : Word) (y : ToneSample) : State :=
  let k := sel d t
  let x := s.tone k
  let w := s.dw Obj.TRIG_CONFIG k 2
  let p := toneP x.config
  let want := bits w 71 63
  let pre := min want x.ring.length
  let post := bits w 62 51 + 1
  let fmt := b2n (bit x.config 62)
  let dead := min (x.dead * p) (2 ^ 40 - 1)
  let supp := min x.suppressed (2 ^ 32 - 1)
  let fl := flags + (if pre < want then 32 else 0) + (if y.suspect then 8 else 0)
  let (id, s1) := s.reserve d {
    id := 0, typ := typ, unit := t, flags := BitVec.ofNat 8 fl, at_ := s.cyc + 1,
    len := 3 + (pre + post + 1) / 2, tag := tag, word2 := word (dead * 2 ^ 32 + supp), pre := pre, count := post,
    samples := [formatSample fmt y.x], open_ := decide (1 < post), copying := decide (0 < pre), fullAt := s.cyc + 1 }
  let s2 := if pre = 0 then s1
    else let a := s1.acq d; s1.setAcq d { a with copies := a.copies ++ [⟨id, t, x.life, x.n - pre, s.cyc + 1⟩] }
  (s2.setTone k { x with
    collecting := if post = 1 then none else some (id, post - 1),
    filled := if post = 1 then some (id, s.cyc) else none,
    shut := post + bits w 50 35 - 1, dead := 0, suppressed := 0, force := none }).inc Obj.TRIG_RECORDS k

/-- A sample without a record of its own: it counts as dead or suppressed time, and the gate's closure runs on. -/
def State.plainSample (s : State) (d t : Nat) (fired : Bool) : State :=
  let k := sel d t
  let x := s.tone k
  s.setTone k { x with
    dead := x.dead + b2n (!x.gate), suppressed := x.suppressed + b2n (fired && !x.gate), shut := x.shut - 1 }

/-- The record that collects takes this sample (R327). -/
def State.collectSample (s : State) (d t : Nat) (y : ToneSample) : State :=
  let k := sel d t
  let x := s.tone k
  match x.collecting with
  | some (id, left) =>
    let fmt := b2n (bit x.config 62)
    (s.editRec d id (fun r => { r with samples := r.samples ++ [formatSample fmt y.x], open_ := decide (1 < left), fullAt := s.cyc + 1,
                                       flags := if y.suspect then r.flags ||| 8 else r.flags })).setTone k
      { x with collecting := if left ≤ 1 then none else some (id, left - 1),
               filled := if left ≤ 1 then some (id, s.cyc) else none }
  | none => s

/-- Two stored samples differ by more than the deadbands (R338). -/
def beyondBand (format : Nat) (db : BitVec 64) (a b : BitVec 36) : Bool :=
  let hi := fun v : BitVec 36 => if format = 0 then signed 18 (bits v 35 18) else ((bits v 35 18 : Nat) : Int)
  let d0 := hi a - hi b
  let e := signed 18 (bits a 17 0) - signed 18 (bits b 17 0)
  let d1 := if format = 0 then e else reduceTurn e
  decide (bits db 35 18 < d0.natAbs) || decide (bits db 17 0 < d1.natAbs)

/-- The tone's stream takes this sample (R338–R340). -/
def State.streamSample (s : State) (d t instant : Nat) (y : ToneSample) : State :=
  let k := sel d t
  let x := s.tone k
  let fmt := b2n (bit x.config 62)
  let v := formatSample fmt y.x
  let fl : BitVec 8 := if y.suspect then 8 else 0
  match bits x.config 61 60 with
  | 1 =>
    let change := match x.stored with
      | none => true
      | some o => beyondBand fmt ((s.rd Obj.TONE_DEADBAND k).setWidth 64) v o
    let ka := s.rdN Obj.TONE_KEEPALIVE k
    let keep := decide (0 < ka) && decide (ka ≤ x.since)
    if change || keep then
      ((s.reserve d {
        id := 0, typ := if change then .change else .keepalive, unit := t, flags := fl, at_ := s.cyc + 1, len := 2,
        tag := timeTag instant 0, samples := [v], fullAt := s.cyc + 1 }).2).setTone k { x with stored := some v, since := 0 }
    else s.setTone k { x with since := x.since + 1 }
  | 2 =>
    match x.block with
    | none =>
      let (id, s1) := s.reserve d {
        id := 0, typ := .block, unit := t, flags := fl, at_ := s.cyc + 1, len := 130,
        tag := timeTag instant 0, samples := [v], count := 256, open_ := true }
      s1.setTone k { x with block := some (id, 1) }
    | some (id, n) =>
      (s.editRec d id (fun r => { r with samples := r.samples ++ [v], open_ := decide (n + 1 < 256), fullAt := s.cyc + 1, flags := r.flags ||| fl })).setTone k
        { x with block := if n + 1 < 256 then some (id, n + 1) else none }
  | _ => s

/-- The sample's own part of a step of a trigger unit, once its conditions have been evaluated (R325–R331): whether C0
and C1 fired, with the tag of the fire. -/
def State.triggerStep (s : State) (d t : Nat) (f0 f1 : Bool) (tag plain : Word) (y : ToneSample) : State :=
  let k := sel d t
  let x := s.tone k
  let fired := f0 || f1
  let forced := match x.force with
    | some (_, c) => decide (c < s.cyc)
    | none => false
  let maj := match x.force with
    | some (m, c) => m && decide (c < s.cyc)
    | none => false
  let s1 := if x.gate then s.count64 Obj.LIVE_TIME k (toneP x.config) else s
  let s2 := if fired && !x.gate then s1.inc Obj.TRIG_SUPPRESSED k else s1
  match x.collecting with
  | some _ => (s2.collectSample d t y).plainSample d t fired
  | none =>
    let flags := b2n f0 * 128 + b2n f1 * 64 + b2n maj * 16
    if fired && x.gate then s2.beginRecord d t .trigger flags tag y
    else if forced then s2.beginRecord d t .forced flags plain y
    else s2.plainSample d t fired

/-- An input cycle that contributes to a tone's sample centred on cycle `c` holds a clipped sample or lies in SETTLING
(R345). -/
def State.toneSuspect (s : State) (d i k c : Nat) : Bool :=
  let x := s.rfIn (sel d i)
  let n := toneSpan k
  clippedOver d i (c - n) (2 * n + 1) || (decide (0 < x.settle) && decide (c < x.settle + n) && decide (x.settle ≤ c + n + 1250))

/-- TONE_SAMPLE (R316, R319–R331, R338–R340): a sample reaches its trigger unit, A_k cycles after its instant; its
conditions, its stream, its records and its ring are updated. None is due off the tone's grid, nor one whose instant lies
within A_k cycles after a restart (R317). -/
def execToneSample (d t : Nat) (_ _ : Unit) (s : State) : Out :=
  let k := sel d t
  let z := s.tone k
  let p := toneP z.config
  let a := toneA z.config
  let phase := s.rdN Obj.BIN_PHASE (sel d 0)
  let c := s.cyc - a
  let instant := (s.now + 2 ^ 64 - a) % 2 ^ 64
  let due := z.on && s.toneMayRun d t && decide (z.restart + 2 * a < s.cyc) && (((s.now : Int) - a - phase) % p == 0) &&
    z.lastAt != some c
  if !due then .next s
  else
    let i := t / 256
    let x := toneSampleAt d i (toneK z.config) (bits z.config 42 32) (signed 32 (bits z.config 31 0)) z.restart c
    let y : ToneSample := ⟨x, s.toneSuspect d i (toneK z.config) c⟩
    let prev := z.ring.map (·.x)
    let w0 := s.dw Obj.TRIG_CONFIG k 0
    let w1 := s.dw Obj.TRIG_CONFIG k 1
    let w2 := s.dw Obj.TRIG_CONFIG k 2
    let r0 := condStep w0 x prev (z.arm.getD 0 false) (z.arm.getD 1 false)
    let r1 := condStep w1 x prev (z.arm.getD 2 false) (z.arm.getD 3 false)
    let s1 := s.setTone k { z with arm := [r0.2.1, r0.2.2, r1.2.1, r1.2.2] }
    let plain := timeTag instant 0
    let (tag1, cyc1, s2) := match r1.1 with
      | some b => s1.fireTag w1 x prev b instant p
      | none => (plain, instant, s1)
    let (tag0, cyc0, s3) := match r0.1 with
      | some b => s2.fireTag w0 x prev b instant p
      | none => (tag1, cyc1, s2)
    let s4 := s3.triggerStep d t r0.1.isSome r1.1.isSome tag0 plain y
    let s5 := s4.streamSample d t instant y
    let s6 := if r0.1.isSome && bit w2 34 then s5.majFires d t cyc0 else s5
    let s7 := if r1.1.isSome && bit w2 33 then s6.majFires d t cyc1 else s6
    let u := s7.tone k
    let fmt := b2n (bit u.config 62)
    unlessError (s.trigBad k || bits (s.rd Obj.TONE_DEADBAND k) 63 36 != 0)
      ((s7.setTone k { u with ring := (y :: u.ring).take 512, n := u.n + 1, lastAt := some c }).wr Obj.TONE_LATEST k
        ((formatSample fmt x).setWidth 72))

/-- A tone sample by its number since the restart, if the ring still holds it (R325). -/
def Tone.sampleNo (x : Tone) (life j : Nat) : Option ToneSample :=
  if x.life = life ∧ j < x.n then x.ring[x.n - 1 - j]? else none

/-- PRE_SEGMENT_COPY (R346): the queued pre segment reserved first is copied from its tone's ring into its record;
samples that have left the ring read 0 and the record takes TRUNC. -/
def execPreSegmentCopy (d : Nat) (s : State) : Out :=
  let a := s.acq d
  match a.copies with
  | [] => .next s
  | c :: rest =>
    if s.cyc < c.at_ then .next s
    else
    let x := s.tone (sel d c.tone)
    let fmt := b2n (bit x.config 62)
    let s1 := s.setAcq d { a with copies := rest }
    let s2 := s1.editRec d c.id (fun r =>
      let ys := (List.range r.pre).map (fun j => x.sampleNo c.life (c.first + j))
      let lost := ys.any (·.isNone)
      let suspect := ys.any (fun y => match y with | some z => z.suspect | none => false)
      { r with
        preSamples := ys.map (fun y => match y with | some z => formatSample fmt z.x | none => 0)
        copying := false
        flags := r.flags ||| (if lost then 4 else 0) ||| (if suspect then 8 else 0) })
    let lost := (List.range (((a.recs ++ a.wants).find? (fun r => r.id == c.id)).map (·.pre)).toList.sum).any
      (fun j => (x.sampleNo c.life (c.first + j)).isNone)
    .next (if lost then s2.setBit Obj.TONE_STATUS (sel d c.tone) 3 else s2)

/-- The trigger unit's gate is opened or closed (R325). An arm leaves its conditions unarmed until a sample arms them
(R320). -/
def State.armTone (s : State) (d t : Nat) (b : Bool) : State :=
  let k := sel d t
  let x := s.tone k
  s.setTone k (if b then { x with armed := true, arm := [false, false, false, false] } else { x with armed := false })

/-- TRIG_ARM (R350). -/
def execTrigArm (d t : Nat) (s : State) : Out := .next (s.armTone d t true)

/-- TRIG_DISARM (R350). -/
def execTrigDisarm (d t : Nat) (s : State) : Out := .next (s.armTone d t false)

/-- TRIG_FORCE (R330, R350). -/
def execTrigForce (d t : Nat) (s : State) : Out := .next (s.forceTone d t false)

/-- TRIG_STATUS as read (R350). -/
def State.trigStatus (s : State) (k : Nat) : Nat :=
  let x := s.tone k
  b2n x.collecting.isSome * 4 + b2n x.gate * 2 + b2n x.armed

/-- TONE_STATUS as read (R349). -/
def State.toneStatus (s : State) (k : Nat) : Word :=
  let x := s.tone k
  s.rd Obj.TONE_STATUS k ||| word (b2n x.written * 4 + b2n (decide (256 ≤ x.ring.length)) * 2 + b2n x.on)

/-! Raw capture (R341, R342). -/

/-- Raw capture replaced. -/
def State.setRaw (s : State) (d : Nat) (r : Raw) : State := s.setAcq d { s.acq d with raw := r }

/-- SOURCE, INPUT and LENGTH of RAW_CONFIG (R351). -/
def State.rawSource (s : State) (d : Nat) : Nat := bits (s.rd Obj.RAW_CONFIG (sel d 0)) 30 30
def State.rawInput (s : State) (d : Nat) : Nat := bits (s.rd Obj.RAW_CONFIG (sel d 0)) 29 27
def State.rawLength (s : State) (d : Nat) : Nat := bits (s.rd Obj.RAW_CONFIG (sel d 0)) 16 0 + 1

/-- Raw capture captures or copies. -/
def Raw.busy (r : Raw) : Bool := r.capturing || r.copying

/-- A capture is started in this cycle (R341): it starts if armed for ADC samples; a start while capture runs or copies
is counted. -/
def State.rawStart (s : State) (d : Nat) : State :=
  let r := (s.acq d).raw
  if r.busy then s.inc Obj.RAW_IGNORED (sel d 0)
  else if r.armed ∧ s.rawSource d = 0 then
    let n := s.rawLength d
    let (id, s1) := s.reserve d {
      id := 0, typ := .raw, unit := s.rawInput d, at_ := s.cyc, len := 2 + (n + 5) / 6,
      tag := timeTag s.now 0, count := n, open_ := true, copying := true }
    s1.setRaw d { armed := true, capturing := true, record := some id, start := s.cyc, input := s.rawInput d, len := n }
  else s

/-- RAW_START_TASK (R341): an event at RAW_START starts an armed capture. -/
def execRawStartTask (d : Nat) (s : State) : Out :=
  match s.deliver d 240 false with
  | (some _, s1) => .next (s1.rawStart d)
  | (none, s1) => .next s1

/-- The cycle by which raw capture has taken the first `n` samples: ADC samples eight a cycle, decimated samples one a cycle
after 14 cycles (R184, R210). -/
def Raw.takenBy (r : Raw) (n : Nat) : Nat := if r.trace then r.start + 14 + n else r.start + (n + 7) / 8

/-- The samples that raw capture has taken (R341, R342): all, or those taken before it ended early. -/
def Raw.got (r : Raw) : Nat :=
  match r.cut with
  | some c => min r.len (if r.trace then c - r.start - 14 else 8 * (c - r.start))
  | none => r.len

/-- An input cycle of the samples taken holds a clipped sample or lies in SETTLING (R345). -/
def State.rawSuspect (s : State) (d : Nat) (r : Raw) (n : Nat) : Bool :=
  let m := if r.trace then n else (n + 7) / 8
  let x := s.rfIn (sel d r.input)
  clippedOver d r.input r.start m || (decide (0 < m) && decide (r.start < x.settle) && decide (x.settle ≤ r.start + m + 1250))

/-- RAW_CAPTURE_END (R341, R342, R345): raw capture has taken its samples, or has ended early, and the copy begins. -/
def execRawCaptureEnd (d : Nat) (_ : Unit) (s : State) : Out :=
  let r := (s.acq d).raw
  let ended := r.cut.isSome || (decide (r.takenBy r.len ≤ s.cyc) && (!r.trace || r.closed))
  match r.record with
  | some id =>
    if r.capturing && ended then
      let n := r.got
      let xs : List (BitVec 36) :=
        if r.trace then (decimatedFrom d r.input r.start r.phase r.freq n).map (fun y => y.i ++ y.q)
        else (List.range n).map (fun j => BitVec.ofInt 36 (adcAt d r.input (8 * r.start + j)))
      let suspect := s.rawSuspect d r n
      let s1 := s.editRec d id (fun x => { x with
        samples := xs, open_ := false, count := n,
        flags := x.flags ||| (if n < x.count then 4 else 0) ||| (if suspect then 8 else 0) })
      .next (s1.setRaw d { r with capturing := false, copying := true })
    else .next s
  | none => .next s

/-- RAW_COPY_END (R341): the copy ends, RAW_DONE is raised, and capture re-arms or disarms. -/
def execRawCopyEnd (d : Nat) (s : State) : Out :=
  let r := (s.acq d).raw
  if !r.copying then .next s
  else
    let s1 := match r.record with
      | some id => s.editRec d id (fun x => { x with copying := false })
      | none => s
    let again := if r.stop then r.armed else bit (s.rd Obj.RAW_CONFIG (sel d 0)) 31
    .next ((s1.setRaw d { armed := again }).raise d 177)

/-- The trace of a window that opens now is offered to raw capture (R214, R342): taken when it is armed for traces of the
window's input and holds no other trace. The number of its record, where it is taken. -/
def State.traceOffer (s : State) (d m len : Nat) (phase freq : BitVec 48) : Option Nat × State :=
  let r := (s.acq d).raw
  if r.armed ∧ !r.busy ∧ s.rawSource d = 1 ∧ s.rawInput d = m / 16 then
    let (id, s1) := s.reserve d {
      id := 0, typ := .trace, unit := m, at_ := s.cyc, len := 2 + (len + 1) / 2,
      tag := timeTag s.now 128, count := len, open_ := true, copying := true }
    (some id, s1.setRaw d { armed := true, capturing := true, record := some id, start := s.cyc, input := m / 16, len := len,
                            trace := true, phase := phase, freq := freq })
  else (none, s.setBit Obj.DEMOD_STATUS (sel d m) 7)

/-- The window whose trace raw capture takes has ended with `n` samples (R200, R342). -/
def State.traceClosed (s : State) (d n : Nat) (record : Option Nat) : State :=
  let r := (s.acq d).raw
  if record.isSome && r.record == record && r.capturing && r.trace then s.setRaw d { r with closed := true, len := n } else s

/-- Raw capture ends early (R341, R345). -/
def State.rawCut (s : State) (d : Nat) : State :=
  let r := (s.acq d).raw
  if r.capturing && r.cut.isNone then s.setRaw d { r with cut := some s.cyc } else s

/-- RAW_STATUS as read (R351). -/
def State.rawStatus (s : State) (d : Nat) : Nat :=
  let r := (s.acq d).raw
  b2n r.copying * 4 + b2n r.capturing * 2 + b2n r.armed

/-- What an ACQ action does at its fabric cycle (R159, R325, R332, R336, R341). -/
def State.acqAct (s : State) (d op kind first last : Nat) : State :=
  let tones := (List.range 2048).filter (fun t => decide (first ≤ t) && decide (t ≤ last))
  match kind, op with
  | 0, 0 =>
    let c := s.rd Obj.RAW_CONFIG (sel d 0)
    let s1 := s.wr Obj.RAW_CONFIG (sel d 0) (c &&& ~~~(word (7 * 2 ^ 27)) ||| word (first % 8 * 2 ^ 27))
    s1.setRaw d { (s1.acq d).raw with armed := true }
  | 0, 1 => s.rawStart d
  | 0, _ =>
    let s1 := s.rawCut d
    s1.setRaw d { (s1.acq d).raw with armed := false, stop := true }
  | 1, 0 => tones.foldl (fun u t => u.armTone d t true) s
  | 1, 1 => tones.foldl (fun u t => u.forceTone d t false) s
  | 1, _ => tones.foldl (fun u t => u.armTone d t false) s
  | _, 0 => s.majEnable d (first % 16) true
  | _, 1 => s.majForce d (first % 16)
  | _, _ => s.majEnable d (first % 16) false

/-- A mark record (R155, R344). -/
def State.markRecord (s : State) (d q : Nat) (tag : BitVec 32) (cycle : Nat) : State :=
  (s.reserve d { id := 0, typ := .mark, unit := q, at_ := s.cyc, len := 2, tag := timeTag cycle 0, body := tag.toNat }).2

end Sys2Proof.Machine
end

