-- ==== Sys2Proof/Machine/Readout.lean ====
section
/-!
DEFINITION. RF inputs, demodulators, discriminators and their windows (R184–R220).
-/

namespace Sys2Proof.Machine

/-! RF inputs. -/

/-- A READ is refused (R202, R529, R568): array mode, domain not on, wire check or verify, weight memory asleep. -/
def State.readRefused (s : State) (d m : Nat) : Bool :=
  let i := m / 16
  (s.rfIn (sel d i)).mode == 1 || !s.domOn d (domIn i) || s.wireRuns (sel d i) || s.verifying d 1 i ||
    !s.domOn d domWeights

/-- A window of a demodulator is open in this cycle, one that a READ opens in it included (R199, R213). -/
def State.demodOpen (s : State) (d m : Nat) : Bool :=
  let x := s.demod (sel d m)
  x.isOpen s.cyc || (x.opensNow s.now && !s.readRefused d m)

/-- A written INPUT_MODE or INPUT_RANGE has not taken effect (R187). -/
def State.inputPending (s : State) (k : Nat) : Bool := (s.rfIn k).written.isSome

/-- The boundary of an input (R187): in array mode the cycle after the write, else the first in which no window is open and
no wire check runs. -/
def State.inputBoundary (s : State) (d i : Nat) : Bool :=
  let x := s.rfIn (sel d i)
  match x.written with
  | none => false
  | some c => if x.mode = 1 then decide (c < s.cyc)
    else !(List.range 16).any (fun m => s.demodOpen d (16 * i + m)) && !s.wireRuns (sel d i)

/-- INPUT_MODE_APPLY (R187, R233, R318): at the input's boundary the written mode and range take effect; a change of
range starts 1,250 cycles of settling and abandons the running calibration step; leaving array mode stops the tones. -/
def execInputModeApply (d i : Nat) (s : State) : Out :=
  let k := sel d i
  let x := s.rfIn k
  let mode := s.rdN Obj.INPUT_MODE k
  let range := s.rdN Obj.INPUT_RANGE k
  if !s.inputBoundary d i then .next s
  else
    let ranged := range != x.range
    let s1 := if x.mode = 1 ∧ mode ≠ 1 then s.stopTones d i else s
    let y := s1.rfIn k
    let rot := if ranged && y.rot.begun && !y.rot.held then { y.rot with abandoned := true } else y.rot
    unlessError (decide (1 < mode) || decide (3 < range)) (s1.setRfIn k { y with
      mode := mode, range := range, rot := rot, written := none,
      settling := y.settling || ranged, settle := if ranged then s.cyc + 1250 else y.settle })

/-- INPUT_SETTLING_END (R187): 1,250 cycles after a range change SETTLING clears. -/
def execInputSettlingEnd (d i : Nat) (s : State) : Out :=
  let k := sel d i
  let x := s.rfIn k
  if x.settling && decide (x.settle ≤ s.cyc) then .next (s.setRfIn k { x with settling := false }) else .next s

/-- INPUT_STATUS as read (R217). -/
def State.inputStatus (s : State) (k : Nat) : Word :=
  let x := s.rfIn k
  let d := selDie k
  let i := selUnit k
  s.rd Obj.INPUT_STATUS k ||| word (b2n (s.degraded k) * 128 + b2n (s.wireRuns k) * 64 + b2n (s.inputPending k) * 32 +
    b2n x.settling * 16 + b2n (x.mode == 1) * 4 + b2n (s.domOn d (domIn i)) * 2 + b2n (s.windowOpen d i))

/-! Windows. -/

/-- A field of a parameter set of ten words (R205). -/
def setField (ws : List Word) (hi lo : Nat) : Nat :=
  ((ws.foldl (fun a w => a * 2 ^ 72 + w.toNat) 0) >>> lo) % 2 ^ (hi + 1 - lo)

/-- A parameter set that is a host error. -/
def setBad (ws : List Word) : Bool := decide (2 ≤ setField ws 695 694) || setField ws 672 648 != 0

/-- The phase that runs on from window to window, advanced to cycle `c` (R190, R192): 16 × FREQ units of 2^−48 turn in a
cycle. -/
def Demod.phaseNow (x : Demod) (c : Nat) : BitVec 48 :=
  match x.next with
  | some (e, f) =>
    x.phase + BitVec.ofNat 48 (16 * x.freq.toNat * (min c e - x.phaseAt)) + BitVec.ofNat 48 (16 * f.toNat * (c - e))
  | none => x.phase + BitVec.ofNat 48 (16 * x.freq.toNat * (c - x.phaseAt))

/-- DEMOD_FREQ written (R192): between windows the phase runs on at the new word; a window that is open keeps its own,
and the new word is in force from its end. -/
def State.demodFreq (s : State) (k : Nat) (v : Word) : State :=
  let s1 := s.wr Obj.DEMOD_FREQ k v
  let x := s.demod k
  let f : BitVec 48 := v.setWidth 48
  match x.windows.find? (fun w => decide (w.start ≤ s.cyc) && decide (s.cyc ≤ w.last)) with
  | some w => s1.setDemod k { x with next := some (w.last + 1, f) }
  | none => s1.setDemod k { x with phase := x.phaseNow s.cyc, phaseAt := s.cyc, freq := f, next := none }

/-- An earlier window ends in the cycle before a new one (R200). -/
def State.truncateWindow (s : State) (d m : Nat) : State :=
  let k := sel d m
  let x := s.demod k
  if x.windows.any (fun w => decide (w.start < s.cyc) && decide (s.cyc ≤ w.last)) then
    ((s.setDemod k { x with windows := x.windows.map (fun w =>
      if w.start < s.cyc ∧ s.cyc ≤ w.last then { w with last := s.cyc - 1 } else w) }).setBit Obj.DEMOD_STATUS k 5).inc
      Obj.TRUNCATED_READS k
  else s

/-- A READ opens its window in this cycle (R192, R199, R204): frequency, phase and parameter set are latched. The running
phase starts from 0 with PRESET 1; DEMOD_PHASE is added to it. -/
def State.openWindow (s : State) (d m : Nat) (r : ReadReq) : State :=
  let k := sel d m
  let s1 := s.truncateWindow d m
  let x := s1.demod k
  let set := lookRange 0 (look [] (look [] s1.doms (if x.kset = 0 then Obj.DEMOD_SET_0 else Obj.DEMOD_SET_1)) k) 0 10
  let freq : BitVec 48 := (s1.rd Obj.DEMOD_FREQ k).setWidth 48
  let run := if bit (s1.rd Obj.DEMOD_CONTROL k) 0 then 0 else x.phaseNow s.cyc
  let phase := run + (s1.rd Obj.DEMOD_PHASE k).setWidth 48 <<< 16
  let (taken, s2) := if r.trace then s1.traceOffer d m r.len phase freq else (none, s1)
  let y := s2.demod k
  s2.setDemod k { y with
    phase := run, phaseAt := s.cyc, freq := freq, next := none,
    windows := y.windows ++ [{ start := s.cyc, time := s.clock.now, last := s.cyc + r.len - 1, trace := taken, nopost := r.nopost,
                               kset := x.kset, phase := phase, freq := freq,
                               settling := decide (s.cyc < (s.rfIn (sel d (m / 16))).settle), set := set }] }

/-- WINDOW_OPEN (R199–R202): the READs of a demodulator whose window opens now. Of several, the highest-numbered
sequencer's governs; refused ones open no window; an earlier open window ends. -/
def execWindowOpen (d m : Nat) (s : State) : Out :=
  let k := sel d m
  let x := s.demod k
  let isDue := fun r : ReadReq => decide (r.opens ≤ s.now)
  let due := x.reads.filter isDue
  match due with
  | [] => .next s
  | r :: rest =>
    let s0 := s.setDemod k { x with reads := x.reads.filter (fun r => !isDue r) }
    if s.readRefused d m then .next ((s0.setBit Obj.DEMOD_STATUS k 6).count Obj.REFUSED_READS k due.length)
    else
      let top := rest.foldl (fun a b => if a.seq < b.seq then b else a) r
      let s1 := if rest.isEmpty then s0 else (s0.setBit Obj.DEMOD_STATUS k 4).count Obj.COLLIDED_READS k rest.length
      let s2 := s1.openWindow d m top
      unlessError (bits (s.rd Obj.DEMOD_FREQ k) 63 48 != 0 || bits (s.rd Obj.DEMOD_CONTROL k) 31 2 != 0 ||
        setBad (((s2.demod k).windows.getLast?.map (·.set)).getD [])) s2

/-- Weight n of a window as the weight memory holds it now (R195, R196). -/
def State.weight (s : State) (k : Nat) (w : Window) (n : Nat) : Int × Int :=
  if n < setField w.set 708 696 then
    let j := (2 * setField w.set 719 709 + n) % 4096
    let v := s.dw Obj.WEIGHT_DATA k (j / 2)
    if j % 2 = 0 then (signed 18 (bits v 71 54), signed 18 (bits v 53 36)) else (signed 18 (bits v 35 18), signed 18 (bits v 17 0))
  else (65536, 0)

/-- The partition word that holds weight n of a window (R196). -/
def weightWord (w : Window) (n : Nat) : Nat := (2 * setField w.set 719 709 + n) % 4096 / 2

/-- The weights that the windows of a demodulator read in this cycle: w_n of a window is read in cycle start + 14 + n
(R210, R215). -/
def State.readWeights (s : State) (k : Nat) : State :=
  let x := s.demod k
  if x.windows.isEmpty then s
  else s.setDemod k { x with windows := x.windows.map (fun w =>
    if w.start + 14 + w.weights.length ≤ s.cyc ∧ w.start + w.weights.length ≤ w.last ∧ w.weights.length < setField w.set 708 696 then
      { w with weights := s.weight k w w.weights.length :: w.weights }
    else w) }

/-- The exact complex sum of products of weights and samples, from sample n on (R197). Weights beyond those read are 1;
weights of the bad words are 0 (R216). -/
def sumProducts (w : Window) (read : List (Int × Int)) (bad : List Nat) : Nat → List Sample → Int × Int
  | _, [] => (0, 0)
  | n, x :: xs =>
    let c := if n < setField w.set 708 696 then (if bad.contains (weightWord w n) then (0, 0) else read.getD n (0, 0)) else (65536, 0)
    let r := sumProducts w read bad (n + 1) xs
    (c.1 * x.i.toInt - c.2 * x.q.toInt + r.1, c.1 * x.q.toInt + c.2 * x.i.toInt + r.2)

/-- A sum rounded half up to units of 2^16 (R197). -/
def roundHalfUp (x : Int) : Int := (x + 32768) / 65536

/-- LINES (R206): state and confidence of a point. -/
def lines (ws : List Word) (i q : Int) : Nat × Bool :=
  let side := fun k : Nat =>
    let lo := 576 - 72 * k
    signed 18 (setField ws (lo + 71) (lo + 54)) * i + signed 18 (setField ws (lo + 53) (lo + 36)) * q -
      65536 * signed 36 (setField ws (lo + 35) lo)
  let ben := setField ws 675 673
  let on := fun k : Nat => ben / 2 ^ k % 2 == 1
  let b := fun k : Nat => b2n (on k && decide (0 ≤ side k))
  let r := 4 * b 2 + 2 * b 1 + b 0
  let conf := fun k : Nat =>
    let margin := setField ws (431 - 36 * k) (396 - 36 * k)
    on k && decide ((side k).natAbs < 65536 * margin)
  (setField ws 691 676 / 4 ^ r % 4, conf 0 || conf 1 || conf 2)

/-- A centroid of a set (R205). -/
def centroid (ws : List Word) (c : Nat) : Int × Int :=
  (signed 36 (setField ws (287 - 72 * c) (252 - 72 * c)), signed 36 (setField ws (251 - 72 * c) (216 - 72 * c)))

/-- The squared distance of two points. -/
def dist2 (a b : Int × Int) : Nat := (a.1 - b.1).natAbs ^ 2 + (a.2 - b.2).natAbs ^ 2

/-- The centroid of smallest distance among candidates, a tie going to the lower number (R207). -/
def nearestOf (ws : List Word) (p : Int × Int) : List Nat → Option Nat
  | [] => none
  | c :: cs =>
    match nearestOf ws p cs with
    | none => some c
    | some e => if dist2 p (centroid ws e) < dist2 p (centroid ws c) then some e else some c

/-- NEAREST (R207): state and confidence of a point. -/
def nearest (ws : List Word) (i q : Int) : Nat × Bool :=
  let used := List.range (setField ws 693 692 + 1)
  match nearestOf ws (i, q) used with
  | none => (0, false)
  | some a =>
    match nearestOf ws (i, q) (used.filter (· != a)) with
    | none => (a, false)
    | some b =>
      let l := sqrtUp (dist2 (centroid ws a) (centroid ws b))
      let gap := dist2 (i, q) (centroid ws b) - dist2 (i, q) (centroid ws a)
      (a, decide (gap < 2 * setField ws 323 288 * l))

/-- The discriminator (R206, R207). -/
def discriminate (ws : List Word) (i q : Int) : Nat × Bool := if setField ws 695 694 = 1 then nearest ws i q else lines ws i q

/-- A cycle with a clipped sample is counted at every input whose domain is on (R188). -/
def State.countClips (s : State) (d : Nat) : State :=
  (List.range 8).foldl (fun t i =>
    if t.domOn d (domIn i) && clippedIn d i t.cyc then (t.inc Obj.CLIP_COUNT (sel d i)).setBit Obj.INPUT_STATUS (sel d i) 3 else t) s

/-- Uncorrectable weight words of a window (R216). -/
def State.badWeights (s : State) (d m : Nat) (bad : List Nat) : State :=
  bad.foldl (fun t w =>
    let a := m * 2048 + w % 2048
    (((t.setBit Obj.DEMOD_STATUS (sel d m) 8).inc Obj.WEIGHT_UNCORR_COUNT (sel d 0)).wrN Obj.WEIGHT_UNCORR_ADDR (sel d 0) a).log
      d 0x04 0 (sel d m) a) s

/-- The IQ point of samples under the weights read for a window (R197): I and Q, each rounded half up to 36 bits. -/
def iqPoint (w : Window) (bad : List Nat) (xs : List Sample) : Int × Int :=
  let sum := sumProducts w w.weights.reverse bad 0 xs
  (roundHalfUp sum.1, roundHalfUp sum.2)

/-- WINDOW_CLOSE (R190–R197, R206–R210, R216): the oldest window whose last sample has been accumulated closes: its point is
formed from the decimated samples x_T, x_{T+1}, …, discriminated, and posted on the fixed timeline. `bad` and `fixed` are what
the check bits of its weight words said: the uncorrectable words, and how many were corrected. -/
def execWindowClose (d m : Nat) (_ _ : Unit) (bad : List Nat) (fixed : Nat) (s : State) : Out :=
  let k := sel d m
  let x := s.demod k
  match takeFirst (fun w : Window => decide (w.last + 14 ≤ s.cyc)) x.windows with
  | none => .next s
  | some (w, rest) =>
    let n := w.last + 1 - w.start
    let (i, q) := iqPoint w bad (decimatedFrom d (m / 16) w.start w.phase w.freq n)
    let iq : Word := BitVec.ofInt 36 i ++ BitVec.ofInt 36 q
    let (st, conf) := discriminate w.set i q
    let suspect := clippedOver d (m / 16) w.start n || w.settling || !bad.isEmpty
    let value := BitVec.ofNat 8 (w.kset * 16 + b2n suspect * 8 + b2n conf * 4 + st)
    let s1 := s.setDemod k { x with windows := rest, results := x.results ++ [⟨w.last, iq, w.time, value, w.nopost, false⟩] }
    let s2 := s1.count Obj.WEIGHT_CORRECTED (sel d 0) fixed
    let s3 := s2.badWeights d m bad
    let s4 := if suspect then s3.setBit Obj.DEMOD_STATUS k 3 else s3
    let s5 := s4.traceClosed d n w.trace
    .next (if w.nopost then s5 else s5.offerPost d (m / 16) (w.last + 21) m value (.disc m))

/-- The results of a demodulator move along their timeline (R210): the point is published 18 cycles after the last input
cycle and the discriminator's value 21 cycles after it. -/
def State.demodTimeline (s : State) (k : Nat) : State :=
  let x := s.demod k
  if x.results.isEmpty then s
  else
    let show_ := x.results.filter (fun r => !r.shown && decide (r.last + 18 ≤ s.cyc))
    let s1 := show_.foldl (fun t r => ((t.wr Obj.DEMOD_RESULT k r.iq).wr Obj.DEMOD_RESULT_TIME k (r.time.setWidth 72)).inc Obj.READ_COUNT k) s
    let done := x.results.filter (fun r => decide (r.last + 21 ≤ s.cyc))
    let s2 := done.foldl (fun t r => t.wr Obj.DEMOD_STATE k (r.value.setWidth 72)) s1
    s2.setDemod k { x with results := (x.results.filter (fun r => decide (s.cyc < r.last + 21))).map (fun r =>
      if r.last + 18 ≤ s.cyc then { r with shown := true } else r) }

/-- Windows of an input whose domain turns off are abandoned and count as refused (R203); raw capture of the input ends. -/
def State.abandonWindows (s : State) (d i : Nat) : State :=
  let s1 := if (s.acq d).raw.input = i then s.rawCut d else s
  (List.range 16).foldl (fun t j =>
    let k := sel d (16 * i + j)
    let x := t.demod k
    let n := (x.windows.filter (fun w => decide (s.cyc ≤ w.last))).length
    if n = 0 then t
    else ((t.setDemod k { x with windows := x.windows.filter (fun w => decide (w.last < s.cyc)) }).setBit Obj.DEMOD_STATUS k 6).count
      Obj.REFUSED_READS k n) s1

/-- A demodulator's boundary (R213). -/
def State.demodIdle (s : State) (d m : Nat) : Bool :=
  !s.demodOpen d m || (s.rfIn (sel d (m / 16))).mode == 1 || !s.domOn d (domIn (m / 16))

/-- DEMOD_STATUS as read (R219). -/
def State.demodStatus (s : State) (k : Nat) : Word :=
  let x := s.demod k
  s.rd Obj.DEMOD_STATUS k ||| word (x.kset * 4 + b2n (s.pendingEpoch (selDie k) 1 (selDie k * 128 + selUnit k)).isSome * 2 + b2n (x.isOpen s.cyc))

end Sys2Proof.Machine
end

