-- ==== Sys2Proof/Machine/BiasOut.lean ====
section
/-!
DEFINITION. Flux bias outputs (R377–R399).
-/

namespace Sys2Proof.Machine

/-- A code as a number (R377). -/
def codeOf (n : Nat) : Int := signed 20 n

/-- The code at the lands in a cycle (R386). -/
def Bias.landCode (x : Bias) (c : Nat) : Int := (seen (0, 0) x.lands c).1

/-- A code change is a major transition: it alters bits [19:14] (R386). -/
def majorMove (a b : Int) : Bool := (BitVec.ofInt 20 a).toNat / 16384 != (BitVec.ofInt 20 b).toNat / 16384

/-- A code presented to the DAC in cycle `c` (R386): held transitions reach the lands 224 cycles later, others 24. -/
def Bias.present (x : Bias) (c : Nat) (v : Int) : Bias :=
  let held := match x.deglitch with
    | 0 => majorMove x.code v
    | 1 => x.code != v
    | _ => false
  let y := { x with code := v }
  if held then { y with hold := some (c + 24, c + 224), lands := (c + 224, (v, x.range)) :: trimTrail c x.lands }
  else { y with lands := (c + 24, (v, x.range)) :: trimTrail c x.lands }

/-- SAFE_CODE of an output (R396). -/
def State.safeCode (s : State) (k : Nat) : Int := codeOf (s.rdN Obj.SAFE_CODE k)

/-- START (R381, R390): ignored during a ramp. -/
def Bias.started (x : Bias) : Bias :=
  if x.ramp.isSome ∨ x.run then x else { x with run := true, safeHeld := false, spell := false }

/-- STOP (R381, R390): ignored during a ramp. -/
def Bias.stopped (x : Bias) : Bias := if x.ramp.isSome then x else { x with run := false }

/-- The end of a ramp (R390). -/
def Bias.endRamp (x : Bias) (safe : Int) : Bias := if x.code = safe then { x with ramp := none, safeHeld := true } else x

/-- SAFE (R390, R391): the output stops and ramps from its present code. -/
def Bias.madeSafe (x : Bias) (c : Nat) (safe : Int) : Bias :=
  ({ x with run := false, safeHeld := false, ramp := some ⟨c⟩ } : Bias).endRamp safe

/-- One step of a code toward the safe code (R390). -/
def rampStep (c safe : Int) (slew : Nat) : Int :=
  if slew = 0 then safe
  else if (c - safe).natAbs ≤ slew then safe
  else if c < safe then c + slew else c - slew

/-- A step of a ramp, 1,250 cycles after the trigger or the previous step (R390). -/
def Bias.ramped (x : Bias) (c : Nat) (safe : Int) (slew : Nat) : Bias :=
  match x.ramp with
  | some r =>
    if c < r.at_ + 1250 then x
    else (({ x with ramp := some ⟨r.at_ + 1250⟩ } : Bias).present c (rampStep x.code safe slew)).endRamp safe
  | none => x

/-- The fields of BIAS_CONFIG (R397). -/
def biasRange (w : Word) : Nat := bits w 2 0
def biasDeglitch (w : Word) : Nat := bits w 4 3
def biasLimit (w : Word) : Nat := bits w 12 8

/-- The configuration that a tick applies (R387): DEGLITCH, COMP_LIMIT and BIAS_DIVIDER, and RANGE on a stopped output,
under a hold of 200 cycles. -/
def Bias.configured (x : Bias) (c : Nat) (w : Word) (div : Nat) : Bias :=
  let y : Bias := { x with deglitch := biasDeglitch w, limit := biasLimit w, divider := div, written := false }
  if x.run then y
  else if x.range = biasRange w then { y with rangeWritten := false }
  else { y with range := biasRange w, rangeWritten := false, hold := some (c + 24, c + 224),
                lands := (c + 224, (x.code, biasRange w)) :: trimTrail c x.lands }

/-- The tick of a running output (R380, R384): the head of its queue is presented, or it starves; whether it starved, and
whether that is the first tick of a spell. -/
def Bias.ticked (x : Bias) (c : Nat) : Bias × Bool × Bool :=
  if !x.run then (x, false, false)
  else
    match x.queue with
    | v :: rest => (({ x with queue := rest, starved := false, spell := false } : Bias).present c v, false, false)
    | [] => ({ x with starved := true, spell := true }, true, !x.spell)

/-- Codes offered to a queue of 512 (R380, R383), and how many it refused. -/
def Bias.offered (x : Bias) (codes : List Int) : Bias × Nat :=
  let room := 512 - x.queue.length
  ({ x with queue := x.queue ++ codes.take room, spell := x.spell && (codes.take room).isEmpty }, codes.length - room)

/-- Codes of one cycle in order of source (R382). -/
def insCode (c : Nat × Int) : List (Nat × Int) → List (Nat × Int)
  | [] => [c]
  | x :: xs => if c.1 < x.1 then c :: x :: xs else x :: insCode c xs

/-- The cycle of an output in the order of R382, at cycle `c`, with its safe code and slew: the output after it, the codes
refused, and the report of the tick. -/
def BiasTurn.run (t : BiasTurn) (c : Nat) (safe : Int) (slew : Nat) : Bias × Nat × Bool × Bool :=
  let x1 := if t.flush then { t.base with queue := [] } else t.base
  let x2 := if t.start then x1.started else x1
  let x3 := if t.stop then x2.stopped else x2
  let x4 := if t.safe then x3.madeSafe c safe else x3
  let x5 := if t.step then x4.ramped c safe slew else x4
  let (x6, starved, first) := match t.tick with
    | some (w, div) => (x5.configured c w div).ticked c
    | none => (x5, false, false)
  let (x7, refused) := x6.offered (t.codes.map Prod.snd)
  (x7, refused, starved, first)

/-- One more thing happens to an output in this cycle: what the cycle does to it is done anew from the output as the cycle
met it, in the order of R382. What is reported is reported as the cycle ends. -/
def State.biasMeets (s : State) (k : Nat) (f : BiasTurn → BiasTurn) : State :=
  let x := s.bias k
  let old := s.biasTurn k
  let base := if old = {} then x
    else { old.base with inComp := x.inComp, written := old.base.written || x.written,
                         rangeWritten := old.base.rangeWritten || x.rangeWritten }
  let t := f { old with base := base }
  let r := t.run s.cyc (s.safeCode k) (s.rdN Obj.SAFE_SLEW k)
  (s.setBias k { r.1 with written := r.1.written || t.wrote, rangeWritten := r.1.rangeWritten || t.wroteRange }).setBiasTurn k
    { t with refused := r.2.1, starved := r.2.2.1, first := r.2.2.2 }

/-- BIAS_CONFIG or BIAS_DIVIDER of an output has been written (R387). -/
def State.biasWritten (s : State) (k : Nat) (range : Bool) : State :=
  let x := s.bias k
  let t := s.biasTurn k
  let s1 := s.setBias k { x with written := true, rangeWritten := x.rangeWritten || range }
  if t.tick.isSome then s1.setBiasTurn k { t with wrote := true, wroteRange := t.wroteRange || range } else s1

/-- What an output reports as a cycle ends (R383, R384). -/
def State.biasReport (s : State) (k : Nat) (t : BiasTurn) : State :=
  let s1 := if t.refused = 0 then s else (s.count Obj.BIAS_REFUSED k t.refused).setBit Obj.BIAS_STATUS k 9
  let s2 := if t.starved then s1.inc Obj.UNDERRUN_TICKS k else s1
  if t.first then (s2.setBit Obj.BIAS_STATUS k 7).raise (selDie k) (258 + selUnit k) else s2

/-- The bias outputs report as a cycle ends. -/
def State.biasReports (s : State) : State :=
  s.biasTurns.foldl (fun t p => t.biasReport p.1 p.2) ({ s with biasTurns := [] } : State)

/-- FLUSH, START, STOP and SAFE of an output (R381, R382, R390). -/
def State.biasFlush (s : State) (k : Nat) : State := s.biasMeets k (fun t => { t with flush := true })
def State.biasStart (s : State) (k : Nat) : State := s.biasMeets k (fun t => { t with start := true })
def State.biasStop (s : State) (k : Nat) : State := s.biasMeets k (fun t => { t with stop := true })
def State.biasSafe (s : State) (k : Nat) : State := s.biasMeets k (fun t => { t with safe := true })

/-- A code offered to an output (R380, R383). -/
def State.biasEnqueue (s : State) (k src : Nat) (code : Int) : State :=
  s.biasMeets k (fun t => { t with codes := insCode (src, code) t.codes })

/-- A bias output whose domain is on or keeps its state (R393). -/
def State.biasKept (s : State) (d o : Nat) : Bool := s.domKept d (domBias o)

/-- A BIAS action of a sequencer (R160, R382). -/
def State.biasAct (s : State) (d q o : Nat) (code : BitVec 20) (op : Nat) : State :=
  let k := sel d o
  if !s.biasKept d o then s
  else match op with
    | 0 => s.biasEnqueue k q code.toInt
    | 1 => s.biasStart k
    | 2 => s.biasStop k
    | _ => s.biasFlush k

/-- The 16 outputs of a group whose domains are on. -/
def State.biasGroup (s : State) (d g : Nat) (f : State → Nat → State) : State :=
  (List.range 16).foldl (fun t i => if t.domOn d (domBias (16 * g + i)) then f t (sel d (16 * g + i)) else t) s

/-- Every output of a group is asleep, so that its task inputs are busy (R355, log 66). -/
def State.biasAsleep (s : State) (d g : Nat) : Bool := (List.range 16).all (fun i => !s.domOn d (domBias (16 * g + i)))

/-- An event at a task input of a group of outputs acts on all sixteen (R382). -/
def State.biasTask (s : State) (d g j : Nat) (f : State → Nat → State) : State :=
  match s.deliver d (241 + 3 * g + j) (s.biasAsleep d g) with
  | (some _, s1) => s1.biasGroup d g f
  | (none, s1) => s1

/-- BIAS_START_TASK (R382). -/
def execBiasStartTask (d g : Nat) (s : State) : Out := .next (if g < 4 then s.biasTask d g 0 State.biasStart else s)

/-- BIAS_STOP_TASK (R382). -/
def execBiasStopTask (d g : Nat) (s : State) : Out := .next (if g < 4 then s.biasTask d g 1 State.biasStop else s)

/-- BIAS_FLUSH_TASK (R382). -/
def execBiasFlushTask (d g : Nat) (s : State) : Out := .next (if g < 4 then s.biasTask d g 2 State.biasFlush else s)

/-- A cycle on an output's tick grid (R380, R387). -/
def State.biasGrid (s : State) (k : Nat) : Bool :=
  ((s.now : Int) - ((s.rdSeen Obj.BIAS_TICK_ORIGIN k 2).toNat : Int)) % ((s.bias k).divider : Int) == 0

/-- What the chapter calls a host error in BIAS_CONFIG and BIAS_DIVIDER. -/
def biasConfigBad (w : Word) : Bool :=
  bits w 71 13 != 0 || bits w 7 5 != 0 || decide (5 ≤ biasRange w) || biasDeglitch w == 3 || decide (biasLimit w < 5) ||
    decide (30 < biasLimit w)

/-- BIAS_DIVIDER out of its range (host errors of the chapter). -/
def biasDividerBad (n : Nat) : Bool := decide (n < 1250) || decide (1250000 < n)

/-- BIAS_TICK (R380, R384, R387): a written configuration takes effect, and a running output presents the head of its
queue, or starves. -/
def execBiasTick (d o : Nat) (s : State) : Out :=
  let k := sel d o
  if !s.domOn d (domBias o) ∨ !s.biasGrid k ∨ (s.biasTurn k).tick.isSome then .next s
  else
    let w := s.rd Obj.BIAS_CONFIG k
    let div := s.rdN Obj.BIAS_DIVIDER k
    unlessError (biasConfigBad w || biasDividerBad div) (s.biasMeets k (fun t => { t with tick := some (w, div) }))

/-- DEGLITCH_HOLD_END (R386): the track-and-hold releases and the lands follow the DAC. -/
def execDeglitchHoldEnd (d o : Nat) (s : State) : Out :=
  let x := s.bias (sel d o)
  match x.hold with
  | some (_, e) => if e ≤ s.cyc then .next (s.setBias (sel d o) { x with hold := none }) else .next s
  | none => .next s

/-- BIAS_START (R381). -/
def execBiasStart (d o : Nat) (s : State) : Out := .next (if s.biasKept d o then s.biasStart (sel d o) else s)

/-- BIAS_STOP (R381). -/
def execBiasStop (d o : Nat) (s : State) : Out := .next (if s.biasKept d o then s.biasStop (sel d o) else s)

/-- BIAS_FLUSH (R381). -/
def execBiasFlush (d o : Nat) (s : State) : Out := .next (if s.biasKept d o then s.biasFlush (sel d o) else s)

/-- BIAS_SAFE (R391). -/
def execBiasSafe (d o : Nat) (s : State) : Out := .next (if s.domOn d (domBias o) then s.biasSafe (sel d o) else s)

/-- The codes that a native word of BIAS_ENQUEUE carries (R398). -/
def enqueueCodes (v : Word) : List Int :=
  ([codeOf (bits v 59 40), codeOf (bits v 39 20), codeOf (bits v 19 0)]).take (bits v 61 60)

/-- BIAS_ENQUEUE (R383, R398): the codes of one native word; reserved bits are a host error. -/
def execBiasEnqueue (d o : Nat) (v : Word) (s : State) : Out :=
  unlessError (bits v 71 62 != 0)
    (if s.biasKept d o then (enqueueCodes v).foldl (fun t c => t.biasEnqueue (sel d o) 16 c) s else s)

/-- COMPLIANCE_DETECT (R388): the land voltage has stayed beyond the limit for 2,500 cycles. -/
def execComplianceDetect (d o : Nat) (s : State) : Out :=
  let k := sel d o
  let x := s.bias k
  if !s.domOn d (domBias o) ∨ x.inComp then .next s
  else .next (((s.setBias k { x with inComp := true }).setBit Obj.BIAS_STATUS k 8).raise d (194 + o))

/-- COMPLIANCE_CLEAR (R388): 2,500 cycles within the limit. -/
def execComplianceClear (d o : Nat) (s : State) : Out :=
  let k := sel d o
  let x := s.bias k
  if s.domOn d (domBias o) then .next (s.setBias k { x with inComp := false }) else .next s

/-- SAFE_RAMP_STEP (R390): 1,250 cycles after the trigger or the previous step. -/
def execSafeRampStep (d o : Nat) (s : State) : Out :=
  let k := sel d o
  match (s.bias k).ramp with
  | some r =>
    if s.cyc < r.at_ + 1250 ∨ !s.domOn d (domBias o) then .next s
    else
      unlessError (s.rdN Obj.SAFE_CODE k ≥ 2 ^ 20 || s.rdN Obj.SAFE_SLEW k ≥ 2 ^ 20)
        (s.biasMeets k (fun t => { t with step := true }))
  | none => .next s

/-- The outputs whose SAFE_WATCH names a device that routing has found unreachable ramp (R391). -/
def State.safeWatch (s : State) (dev : Nat) : State :=
  if dev = s.ownDevice then s
  else
    (look [] s.regs Obj.SAFE_WATCH).foldl (fun t p =>
      if bit p.2 15 ∧ bits p.2 7 0 = dev ∧ t.domOn (selDie p.1) (domBias (selUnit p.1)) then t.biasSafe p.1 else t) s

/-- A bias domain that powers on drives SAFE_CODE, stopped and held, with an empty queue (R393). -/
def State.biasPowerOn (s : State) (k : Nat) : State :=
  let w := s.rd Obj.BIAS_CONFIG k
  s.setBias k { code := s.safeCode k, safeHeld := true, lands := [(s.cyc, (s.safeCode k, biasRange w))],
                range := biasRange w, deglitch := biasDeglitch w, limit := biasLimit w, divider := s.rdN Obj.BIAS_DIVIDER k }

/-- An output that may go to S2 (R393). -/
def State.biasMaySleep (s : State) (k : Nat) : Bool :=
  let x := s.bias k
  !x.run && x.ramp == none && x.code == s.safeCode k

/-- BIAS_STATUS as read (R397). -/
def State.biasStatus (s : State) (k : Nat) : Word :=
  let x := s.bias k
  let held := match x.hold with
    | some (b, e) => decide (b ≤ s.cyc) && decide (s.cyc < e)
    | none => false
  s.rd Obj.BIAS_STATUS k ||| word (x.queue.length * 2097152 + b2n (x.written || x.rangeWritten) * 1024 + b2n x.inComp * 64 + b2n held * 32 +
    b2n x.ramp.isSome * 16 + b2n x.safeHeld * 8 + b2n x.run * 4 + b2n (s.biasKept (selDie k) (selUnit k)) * 2 + b2n x.starved)

/-- BIAS_CODE as read (R396). -/
def State.biasCode (s : State) (k : Nat) : Nat := (BitVec.ofInt 20 (s.bias k).code).toNat

end Sys2Proof.Machine
end

