-- ==== Sys2Proof/Machine/Dsp.lean ====
section
/-!
DEFINITION. DSP engines (R272–R310). A command of an instruction carries it out at its stage 3, in program order; what
it does at later stages is kept with the cycle in which it happens. Register values become visible by the count of
instructions that R279 states (log 21).
-/

namespace Sys2Proof.Machine

/-! Register numbers of the model: D 0–15, then those of MVR (R283) from 16, then the accumulators. LC stands under its number
only while a write to it is not yet visible. -/

namespace DspReg
abbrev X : Nat := 16
abbrev N : Nat := 24
abbrev LC : Nat := 32
abbrev ST : Nat := 33
abbrev IPC : Nat := 34
abbrev IST : Nat := 35
abbrev IE : Nat := 36
abbrev FLAGS : Nat := 37
abbrev A : Nat := 38
end DspReg

/-- A write laid over a value: the bits of its mask. -/
def DspWrite.beyond (w : DspWrite) (v : Nat) : Nat := (v &&& (w.mask ^^^ (2 ^ 40 - 1))) ||| (w.val &&& w.mask)

/-- A register as the instruction numbered `n` sees it (R279). -/
def Dsp.sees (x : Dsp) (n r : Nat) : Nat :=
  (x.pend.filter (fun w => w.reg == r && decide (w.vis ≤ n))).foldl (fun v w => w.beyond v) (look 0 x.regs r)

/-- A register as the instruction that executes now sees it. -/
def Dsp.get (x : Dsp) (r : Nat) : Nat := x.sees x.num r

/-- A register as it stands after every instruction issued so far. -/
def Dsp.latest (x : Dsp) (r : Nat) : Nat :=
  (x.pend.filter (fun w => w.reg == r)).foldl (fun v w => w.beyond v) (look 0 x.regs r)

/-- A register written by the instruction that executes now; the instruction `k` later is the first to see it. -/
def Dsp.put (x : Dsp) (k r val : Nat) (mask : Nat := 0xFFFF) : Dsp :=
  { x with pend := x.pend ++ [⟨x.num + k, r, mask, val⟩] }

/-- Writes that every later instruction sees move into the registers, in program order. -/
def commitWrites (n : Nat) (regs : Tab Nat) : List DspWrite → Tab Nat × List DspWrite
  | [] => (regs, [])
  | w :: ws =>
    if w.vis ≤ n then commitWrites n (Sys2Proof.Machine.put 0 regs w.reg (w.beyond (look 0 regs w.reg))) ws
    else (regs, w :: ws)

/-- The registers once every instruction numbered below `n` has issued; LC is kept with the flow (R292). -/
def Dsp.commit (x : Dsp) (n : Nat) : Dsp :=
  let r := commitWrites n (Sys2Proof.Machine.put 0 x.regs DspReg.LC x.flow.lc) x.pend
  { x with regs := Sys2Proof.Machine.put 0 r.1 DspReg.LC 0, pend := r.2, flow := { x.flow with lc := look 0 r.1 DspReg.LC } }

/-- Every issued instruction completes (R302). -/
def Dsp.drain (x : Dsp) : Dsp := x.commit (x.num + 8)

/-- A register set at once, whatever was on its way to it. -/
def Dsp.force (x : Dsp) (r val : Nat) : Dsp :=
  { x with regs := Sys2Proof.Machine.put 0 x.regs r val, pend := x.pend.filter (fun w => w.reg != r) }

/-- The flags of an ALU instruction (R282, R284): Z, N, C and V in bits 0–3 of `mask`, seen by BR from i + 3. -/
def Dsp.setFlags (x : Dsp) (mask : Nat) (z n c v : Bool) : Dsp :=
  x.put 3 DspReg.ST (b2n z + 2 * b2n n + 4 * b2n c + 8 * b2n v) mask

/-- SV is set (R286). -/
def Dsp.setSv (x : Dsp) (b : Bool) : Dsp := if b then x.put 3 DspReg.ST 32 32 else x

/-- The pair d: D(d + 1) is most significant (R274). -/
def Dsp.pair (x : Dsp) (a : Nat) : Nat := x.get (a + 1) * 65536 + x.get a

/-- A pair written. -/
def Dsp.putPair (x : Dsp) (k d val : Nat) : Dsp := (x.put k d (val % 65536)).put k (d + 1) (val / 65536 % 65536)

/-! The performance level (R272, R273). -/

/-- The cap that a temperature band puts on the level (R539). -/
def bandCap (band : Nat) : Nat := if band = 3 then 1 else if 4 ≤ band then 2 else 0

/-- The cap of the band that engine `k` has applied (R273). -/
def State.dspCap (s : State) (d k : Nat) : Nat := bandCap ((s.appl (applKey 3 (d * 30 + 20 + k))).setting.toNat % 8)

/-- The level of engine `k` (R273). -/
def State.dspLevel (s : State) (d k : Nat) : Nat :=
  max ((s.appl (applKey 2 (d * 9 + k))).setting.toNat % 4) (s.dspCap d k)

/-- Fabric cycles of an instruction cycle (R272). -/
def State.dspQ (s : State) (d k : Nat) : Nat := 2 ^ s.dspLevel d k

/-! Program flow (R280, R292). -/

/-- The next address (R274). -/
def pcNext (pc : Nat) : Nat := (pc + 1) % 8192

/-- The first instruction of a repeated block's first pass issues: LC reads COUNT − 1 (R292). -/
def DspFlow.begin (f : DspFlow) : DspFlow :=
  match f.rep with
  | some r => if r.begun then f else { f with rep := some { r with begun := true }, lc := (f.lc + 8191) % 8192 }
  | none => f

/-- The flow after the instruction at PC (R280, R292). -/
def DspFlow.next (f : DspFlow) : DspFlow :=
  match f.br with
  | some (1, t) => { f with pc := t.getD (pcNext f.pc), br := none }
  | some (n, t) => { f with pc := pcNext f.pc, br := some (n - 1, t) }
  | none =>
    match f.rep with
    | none => { f with pc := pcNext f.pc }
    | some r =>
      if !r.begun then { f with pc := pcNext f.pc }
      else if r.at_ + 1 < r.len then { f with pc := pcNext f.pc, rep := some { r with at_ := r.at_ + 1 } }
      else
        let lc := r.newLc.getD f.lc
        if lc = 0 then { f with pc := pcNext f.pc, rep := none, lc := 0 }
        else { f with pc := pcNext r.addr, rep := some { r with at_ := 0, newLc := none }, lc := lc - 1 }

/-- A boundary before the next instruction at which an interrupt may be taken (R296). -/
def DspFlow.eligible (f : DspFlow) : Bool :=
  f.br == none &&
    (match f.rep with
     | some r => !r.begun
     | none => true)

/-- The next instruction to issue, as an interrupt saves it: a REPEAT whose block has not begun issues again (R296). -/
def DspFlow.resumeAt (f : DspFlow) : Nat :=
  match f.rep with
  | some r => r.addr
  | none => f.pc

/-! Fetch (R275, R303, R304). -/

/-- The instruction at an address, as a fetch of now sees the program memory (R275, R303). -/
def State.dspFetch (s : State) (k pc delay : Nat) : BitVec 36 :=
  let w := s.dwSeen Obj.DSP_PROGRAM k (pc / 2) delay
  BitVec.ofNat 36 (if pc % 2 = 0 then bits w 71 36 else bits w 35 0)

/-- OP (R282). -/
def opOf (w : BitVec 36) : Nat := bits w 35 30

/-- A reserved OP (R282). -/
def reservedOp (op : Nat) : Bool := (decide (0x2B ≤ op) && decide (op < 0x30)) || decide (0x36 ≤ op)

/-- COUNT of a REPEAT: 0 means 4,096 (R282). -/
def repeatCount (x : Dsp) (w : BitVec 36) : Nat :=
  let c := if bit w 23 then x.get (bits w 22 19) % 4096 else bits w 11 0
  if c = 0 then 4096 else c

/-- The instruction at PC issues, numbered `n` (R280, R292): what that does to the flow before its stage 3. A REPEAT brings
LC its COUNT; MVR and LDSI in a repeated block bring LC a value for the end of the pass (R283). -/
def State.afterIssue (s : State) (k : Nat) (x : Dsp) (n : Nat) (f : DspFlow) : DspFlow :=
  let g := f.begin
  let w := s.dspFetch k g.pc 2
  let y := { x with num := n }
  let newLc := fun v : Nat => { g with rep := g.rep.map (fun r => { r with newLc := some (v % 8192) }) }
  if opOf w = 5 then { g with lc := repeatCount y w, rep := some ⟨g.pc, bits w 29 24 + 1, 0, false, none⟩ }
  else if 1 ≤ opOf w ∧ opOf w ≤ 4 then { g with br := some (3, none) }
  else if opOf w = 12 ∧ !bit w 25 ∧ bits w 24 20 = 16 then newLc (y.get (bits w 29 26))
  else if opOf w = 13 ∧ bits w 24 20 = 16 then newLc (bits w 15 0)
  else g

/-- A WAIT or HALT lets no other instruction issue (R282). -/
def State.issueEnds (s : State) (k : Nat) (f : DspFlow) : Bool :=
  let w := s.dspFetch k f.begin.pc 2
  opOf w == 6 || opOf w == 7

/-- The flow once `n` more instructions have issued, the first of them numbered `m`: those that have issued and are still
short of their stage 3, where the model executes them. None where a WAIT or HALT is among them, which lets no other follow
(R280, R292). -/
def State.flowAhead (s : State) (k : Nat) (x : Dsp) (m : Nat) (f : DspFlow) : Nat → Option DspFlow
  | 0 => some f
  | n + 1 => if s.issueEnds k f then none else s.flowAhead k x (m + 1) (s.afterIssue k x m f).next n

/-- No instruction issues at the boundary before the one that follows `j` instructions after the next, in instruction
cycles of `q`: an interrupt is taken there, a HALT command or a STEP ends there (R297, R302). -/
def Dsp.pausesAt (x : Dsp) (q j : Nat) (f : DspFlow) : Bool :=
  x.taking.any (fun p => p.2 == x.num + j) ||
    (f.eligible && (x.stepping || x.haltReq.any (fun c => decide (c < x.issueAt + j * q))))

/-- LC when up to `n` instructions have issued from the one that follows `j` instructions after the next. -/
def State.lcAfter (s : State) (k q : Nat) (x : Dsp) (j : Nat) (f : DspFlow) : Nat → Nat
  | 0 => f.lc
  | n + 1 =>
    if x.pausesAt q j f then f.lc
    else
      let g := s.afterIssue k x (x.num + j) f
      if n = 0 ∨ s.issueEnds k f then g.lc else s.lcAfter k q x (j + 1) g.next n

/-- LC as an MVR sees it in its stage 3: the two instructions after it have issued by then (R283, R292). -/
def State.lcAhead (s : State) (k q : Nat) (x : Dsp) : Nat := s.lcAfter k q x 1 x.flow.next 2

/-- How many instructions have issued and are short of stage 3, when an instruction cycle begins in this fabric cycle. -/
def State.inFlight (s : State) (d k : Nat) : Option Nat :=
  let x := s.dsp (sel d k)
  let q := s.dspQ d k
  if x.issueAt ≤ s.cyc ∧ (s.cyc - x.issueAt) % q = 0 ∧ (s.cyc - x.issueAt) / q ≤ 2 then some ((s.cyc - x.issueAt) / q)
  else none

/-- The bits of ST that are not reserved (R284): a reserved one reads as 0 (R9). -/
def stMask : Nat := 0xFFEF

/-- What the boundary after `n` more instructions sees of the registers: none of these instructions' own writes to ST or
IE is visible yet (R279), but one of them may be the first after a RETI's delay slots. -/
def State.viewAhead (s : State) (k : Nat) (x : Dsp) (n : Nat) : Dsp :=
  let back := x.retiDue && (List.range n).any (fun m => (s.flowAhead k x x.num x.flow m).any (fun f => f.br == none))
  let y := if back then x.force DspReg.ST (x.get DspReg.IST &&& stMask) else x
  { y with num := x.num + n }

/-! Errors of the memories (R304, R305). -/

/-- A running engine halts (R302): its issued instructions have completed, and HALTED is raised. -/
def State.dspHalt (s : State) (d k : Nat) : State :=
  let x := s.dsp (sel d k)
  if !x.run then s
  else (s.setDsp (sel d k) { x.drain with run := false, stepping := false, haltReq := none, wait := none,
                                          ending := false }).raiseAcross d (112 + 6 * k + 4)

/-- Issue stops before the next instruction (R302, R304, R305): the engine halts when the issued instructions have
completed stage 6. -/
def State.dspStop (s : State) (d k : Nat) : State :=
  let x := s.dsp (sel d k)
  if !x.run then s
  else if x.doneAt < s.cyc then s.dspHalt d k
  else s.setDsp (sel d k) { x with ending := true }

/-- An uncorrectable word of an engine's memory (R304): reported, logged, and the third within 24 h retires the engine
(R305), which the caller then stops. -/
def State.dspUncorr (s : State) (d k mem w : Nat) : State :=
  let key := sel d k
  let a := mem * 8192 + w
  let s1 := (((s.setBit Obj.DSP_STATUS key 9).inc Obj.DSP_MEM_UNCORR_COUNT key).wrN Obj.DSP_MEM_UNCORR_ADDR key a).raiseAcross d
    (112 + 6 * k + 5)
  let s2 := s1.log d 0x05 0 key a
  let x := s2.dsp key
  let errs := s2.cyc :: x.errs.filter (fun c => decide (s.cyc < c + 108000000000000))
  let s3 := s2.setDsp key { x with errs := errs }
  if 3 ≤ errs.length ∧ ¬ key ∈ s3.nv.dsps then
    ({ s3 with nv := { s3.nv with dsps := s3.nv.dsps ++ [key] } } : State).log d 0x06 3 key a
  else s3

/-- A retired engine is halted (R305). -/
def State.dspRetired (s : State) (d k : Nat) : State := if sel d k ∈ s.nv.dsps then s.dspStop d k else s

/-! Issue. -/

/-- The highest-numbered enabled input that is pending (R296) and became so before cycle `t`. -/
def Dsp.interrupt (x : Dsp) (t : Nat) : Option Nat :=
  let ie := x.get DspReg.IE
  (List.range 16).reverse.find? (fun i => ie.testBit i && decide (0 < look 0 x.ip i) && decide (look 0 x.ip i ≤ t))

/-- GIE as the next instruction sees it (R284). -/
def Dsp.gie (x : Dsp) : Bool := (x.get DspReg.ST).testBit 15

/-- An interrupt is due at the boundary before the next instruction (R296). -/
def Dsp.interruptDue (x : Dsp) : Bool :=
  x.taking == none && x.gie && x.flow.eligible && (x.interrupt x.issueAt).isSome

/-- The interrupt taken was taken at the boundary before the next instruction. -/
def Dsp.entersNow (x : Dsp) : Bool := x.taking.any (fun p => p.2 == x.num)

/-- A HALT command stops issue at the boundary before the next instruction: one that began after the command (R302). -/
def Dsp.haltDue (x : Dsp) : Bool := x.taking == none && x.flow.eligible && x.haltReq.any (fun c => decide (c < x.issueAt))

/-- An engine whose next instruction is at its stage 3 or past it (R278), with nothing due before it. In a held pipeline an
instruction whose stage 3 began with the hold has sampled what it reads (R278, R301). -/
def State.dspReady (s : State) (d k : Nat) : Bool :=
  let x := s.dsp (sel d k)
  let rd := x.issueAt + 2 * s.dspQ d k
  x.run && !x.ending && x.wait == none && x.stalled.all (fun b => decide (rd ≤ b)) && s.domOn d (domDsp k) &&
    !x.interruptDue && !x.entersNow && decide (rd ≤ s.cyc) && !x.haltDue

/-- Control instructions, which may not stand in a delay slot or a repeated block (R281, R292). -/
def controlOp (op : Nat) : Bool := decide (1 ≤ op) && decide (op ≤ 7)

/-- The instruction at PC begins: what its issue changes (R282, R292). -/
def Dsp.begin (x : Dsp) : Dsp :=
  let y := { x with flow := x.flow.begin }
  if y.retiDue ∧ y.flow.br = none then { (y.force DspReg.ST (y.get DspReg.IST &&& stMask)) with retiDue := false } else y

/-- The instruction at PC has issued; the next follows one instruction cycle later (R278). A STEP ends at the next
eligible boundary (R302). -/
def State.dspDone (s : State) (d k : Nat) (x : Dsp) : State :=
  let q := s.dspQ d k
  let y := ({ x with num := x.num + 1, issueAt := x.issueAt + q, doneAt := x.issueAt + 6 * q - 1,
                     flow := x.flow.next }).commit (x.num + 1)
  let s1 := s.setDsp (sel d k) y
  if y.stepping ∧ y.flow.eligible then s1.dspStop d k else s1

/-- The cycle in which the instruction that executes now completes stage 6 (R278, R299). -/
def State.dspX (s : State) (d k : Nat) (x : Dsp) : Nat := x.issueAt + 6 * s.dspQ d k - 1

/-- One instruction (R278): `f` gives, from the state, the engine and the instruction, whether it is a host error, and
the state and engine after it. `goOn` is false for an instruction after which none issues. An uncorrectable word halts
the engine before it (R304). -/
def State.dspRow (s : State) (d k op : Nat) (e : Ecc) (f : State → Dsp → BitVec 36 → Bool × State × Dsp)
    (fin : State → Dsp → State := fun t y => t.dspDone d k y) : Out :=
  let key := sel d k
  let x := s.dsp key
  if !s.dspReady d k then .next s
  else
    let w := s.dspFetch key x.flow.pc (2 * s.dspQ d k + 2)
    if e = .uncorrectable then .next ((s.dspStop d k).dspUncorr d k 0 (x.flow.pc / 2))
    else if reservedOp (opOf w) then hostError
    else if opOf w ≠ op then .next s
    else
      let s1 := if e = .corrected then s.inc Obj.DSP_MEM_CORRECTED key else s
      let bad := controlOp op && (x.flow.br != none ||
        (match x.flow.rep with
         | some _ => true
         | none => false))
      let (bad', s2, y) := f s1 x.begin w
      unlessError (bad || bad') (fin s2 y)

/-- An instruction that changes registers alone: `bad` says it is a host error. -/
def State.dspPure (s : State) (d k op : Nat) (e : Ecc) (bad : BitVec 36 → Bool) (f : Dsp → BitVec 36 → Dsp) : Out :=
  s.dspRow d k op e (fun t x w => (bad w, t, f x w))

/-- Bits of an instruction below OP that are outside the mask of its fields must be 0 (host errors of the chapter). -/
def stray (w : BitVec 36) (mask : Nat) : Bool := (w.toNat % 2 ^ 30) &&& ((2 ^ 30 - 1) ^^^ mask) != 0

/-- The mask of a field. -/
def fld (hi lo : Nat) : Nat := 2 ^ (hi + 1) - 2 ^ lo

/-! Control flow. -/

/-- NOP (R282). -/
def execDspNop (d k : Nat) (e : Ecc) (s : State) : Out := s.dspPure d k 0x00 e (stray · 0) (fun x _ => x)

/-- CC of BR (R285). -/
def branchTaken (cc st : Nat) (mail : Bool) : Bool :=
  let z := st.testBit 0
  let n := st.testBit 1
  let c := st.testBit 2
  let v := st.testBit 3
  let u := st.testBit 10
  match cc with
  | 0 => true
  | 1 => z
  | 2 => !z
  | 3 => n
  | 4 => !n
  | 5 => c
  | 6 => !c
  | 7 => v
  | 8 => !v
  | 9 => n != v
  | 10 => n == v
  | 11 => z || n != v
  | 12 => !z && n == v
  | 13 => mail
  | 14 => !mail
  | 15 => u
  | _ => !u

/-- The inbound mailbox holds a message that can be read (R290). -/
def Dsp.hasMail (x : Dsp) (cyc : Nat) : Bool := x.mbox.any (fun m => decide (m.from_ ≤ cyc))

/-- A transfer to a target, after two delay slots (R280). -/
def Dsp.jump (x : Dsp) (t : Option Nat) : Dsp := { x with flow := { x.flow with br := some (3, t) } }

/-- BR (R282, R285). -/
def execDspBr (d k : Nat) (e : Ecc) (s : State) : Out :=
  s.dspRow d k 0x01 e (fun t x w =>
    let cc := bits w 29 25
    (stray w (fld 29 25 + fld 12 0) || decide (17 ≤ cc), t,
      x.jump (if branchTaken cc (x.get DspReg.ST) (x.hasMail t.cyc) then some (bits w 12 0) else none)))

/-- An address on the return stack (R293): a full one loses its oldest entry. -/
def Dsp.push (x : Dsp) (a : Nat) : Dsp :=
  if x.sp < 8 then { x with rs := Sys2Proof.Machine.put 0 x.rs x.sp a, sp := x.sp + 1 }
  else
    let top := Sys2Proof.Machine.put 0 x.rs 7 a
    { x with rs := (List.range 7).foldl (fun t i => Sys2Proof.Machine.put 0 t i (look 0 x.rs (i + 1))) top }

/-- CALL (R282, R293). -/
def execDspCall (d k : Nat) (e : Ecc) (s : State) : Out :=
  s.dspRow d k 0x02 e (fun t x w =>
    let t1 := if 8 ≤ x.sp then t.setBit Obj.DSP_STATUS (sel d k) 5 else t
    (stray w (fld 12 0), t1, (x.push ((x.flow.pc + 3) % 8192)).jump (some (bits w 12 0))))

/-- RET (R282, R293). -/
def execDspRet (d k : Nat) (e : Ecc) (s : State) : Out :=
  s.dspRow d k 0x03 e (fun t x w =>
    if x.sp = 0 then (stray w 0, t.setBit Obj.DSP_STATUS (sel d k) 6, x.jump none)
    else (stray w 0, t, ({ x with sp := x.sp - 1 }).jump (some (look 0 x.rs (x.sp - 1)))))

/-- RETI (R282). -/
def execDspReti (d k : Nat) (e : Ecc) (s : State) : Out :=
  s.dspPure d k 0x04 e (stray · 0) (fun x _ => ({ x with retiDue := true }).jump (some (x.get DspReg.IPC % 8192)))

/-- REPEAT (R282, R292). A write to LC that is still on its way comes before COUNT in the program and is lost (log 64). -/
def execDspRepeat (d k : Nat) (e : Ecc) (s : State) : Out :=
  s.dspPure d k 0x05 e (stray · (fld 29 19 + fld 11 0))
    (fun x w => { x with pend := x.pend.filter (fun p => p.reg != DspReg.LC),
                         flow := { x.flow with lc := repeatCount x w,
                                               rep := some ⟨x.flow.pc, bits w 29 24 + 1, 0, false, none⟩ } })

/-- HALT (R282, R302): the saved PC is the instruction that follows. -/
def execDspHalt (d k : Nat) (e : Ecc) (s : State) : Out :=
  s.dspRow d k 0x06 e (fun t x w => (stray w 0, t, x)) (fun t y => (t.dspDone d k { y with stepping := false }).dspStop d k)

/-- WAIT (R282, R294): issue stops at the WAIT. -/
def execDspWait (d k : Nat) (e : Ecc) (s : State) : Out :=
  s.dspRow d k 0x07 e
    (fun t x w => (stray w (fld 29 14), t,
      { x with wait := some ⟨bits w 29 28, x.get (bits w 27 24), bits w 23 14, t.cyc⟩, num := x.num + 1,
               issueAt := x.issueAt + t.dspQ d k, doneAt := x.issueAt + 6 * t.dspQ d k - 1 }))
    (fun t y =>
      if y.haltReq.isSome then (t.setDsp (sel d k) y).dspHalt d k else t.setDsp (sel d k) (y.commit y.num))

/-- FLAG (R282, R291). The engine itself sees FLAGS after stage 6. -/
def execDspFlag (d k : Nat) (e : Ecc) (s : State) : Out :=
  s.dspRow d k 0x08 e (fun t x w =>
    let old := x.latest DspReg.FLAGS
    let m := bits w 7 0
    let v := match bits w 29 28 with
      | 0 => old ||| m
      | 1 => old &&& (255 ^^^ m)
      | _ => old ^^^ m
    (stray w (fld 29 28 + fld 7 0) || bits w 29 28 == 3, t,
      { (x.put 4 DspReg.FLAGS v 255) with outs := x.outs ++ [(t.dspX d k x, .flags (BitVec.ofNat 8 v))] }))

/-- SIG (R282, R291). -/
def execDspSig (d k : Nat) (e : Ecc) (s : State) : Out :=
  s.dspRow d k 0x09 e (fun t x w =>
    (stray w (fld 1 0), t, { x with outs := x.outs ++ [(t.dspX d k x, .sig (bits w 1 0))] }))

/-! Moves (R282, R283). -/

/-- LDI. -/
def execDspLdi (d k : Nat) (e : Ecc) (s : State) : Out :=
  s.dspPure d k 0x0A e (stray · (fld 29 26 + fld 15 0)) (fun x w => x.put 1 (bits w 29 26) (bits w 15 0))

/-- MOV. -/
def execDspMov (d k : Nat) (e : Ecc) (s : State) : Out :=
  s.dspPure d k 0x0B e (stray · (fld 29 22)) (fun x w => x.put 1 (bits w 29 26) (x.get (bits w 25 22)))

/-- A special register written by MVR or LDSI (R283): LC at the end of the pass while a repeated block runs, FLAGS in
bits [7:0] and to the sequencers at stage 6. The reserved bit of ST stays 0 (R9). -/
def State.writeSpecial (s : State) (d k : Nat) (x : Dsp) (sreg v : Nat) : Dsp :=
  if sreg = 16 then
    match x.flow.rep with
    | some r => { x with flow := { x.flow with rep := some { r with newLc := some (v % 8192) } } }
    | none => x.put 3 DspReg.LC v 8191
  else if sreg = 21 then
    { (x.put 3 DspReg.FLAGS v 255) with outs := x.outs ++ [(s.dspX d k x, .flags (BitVec.ofNat 8 v))] }
  else if sreg = 17 then x.put 3 DspReg.ST v stMask
  else if sreg = 18 then x.put 3 DspReg.IPC v 8191
  else x.put 3 (16 + sreg) v

/-- A special register read by MVR (R283). -/
def State.readSpecial (s : State) (d k : Nat) (x : Dsp) (sreg : Nat) : Nat :=
  if sreg = 16 then s.lcAhead (sel d k) (s.dspQ d k) x else x.get (16 + sreg)

/-- MVR. -/
def execDspMvr (d k : Nat) (e : Ecc) (s : State) : Out :=
  s.dspRow d k 0x0C e (fun t x w =>
    let r := bits w 24 20
    (stray w (fld 29 20) || decide (22 ≤ r), t,
      if bit w 25 then x.put 1 (bits w 29 26) (t.readSpecial d k x r)
      else t.writeSpecial d k x r (x.get (bits w 29 26))))

/-- LDSI. -/
def execDspLdsi (d k : Nat) (e : Ecc) (s : State) : Out :=
  s.dspRow d k 0x0D e (fun t x w =>
    let r := bits w 24 20
    (stray w (fld 24 20 + fld 15 0) || decide (22 ≤ r), t, t.writeSpecial d k x r (bits w 15 0)))

/-! Data memory (R276, R277, R287, R304). -/

/-- The effective address of an access through Xk (R277). -/
def Dsp.indirect (x : Dsp) (i : Nat) : Nat := x.get (DspReg.X + i) % 32768

/-- Post-modification of Xk (R277). -/
def Dsp.postMod (x : Dsp) (i : Nat) : Dsp :=
  x.put 1 (DspReg.X + i) ((x.get (DspReg.X + i) + x.get (DspReg.N + i)) % 65536)

/-- A halfword of a data word (R276). -/
def half (w : Word) (a : Nat) : Nat := bits w (63 - 16 * (a % 4)) (48 - 16 * (a % 4))

/-- A halfword of a data word replaced (R276). -/
def setHalf (w : Word) (a v : Nat) : Word :=
  let sh := 48 - 16 * (a % 4)
  word ((w.toNat &&& (0xFFFFFFFFFFFFFFFFFF ^^^ (0xFFFF <<< sh))) ||| ((v % 65536) <<< sh))

/-- A load of a halfword; an uncorrectable word reads as 0 in all halfwords, and is reported (R304). -/
def State.dspLoad (s : State) (d k a : Nat) (m : Ecc) : Nat × State :=
  let key := sel d k
  match m with
  | .clean => (half (s.dw Obj.DSP_DATA key (a / 4)) a, s)
  | .corrected => (half (s.dw Obj.DSP_DATA key (a / 4)) a, s.inc Obj.DSP_MEM_CORRECTED key)
  | .uncorrectable => (0, s.dspUncorr d k 1 (a / 4))

/-- A store of a halfword; in an uncorrectable word the others become 0 (R304). -/
def State.dspStore (s : State) (d k a v : Nat) (m : Ecc) : State :=
  let key := sel d k
  match m with
  | .clean => s.setDw Obj.DSP_DATA key (a / 4) (setHalf (s.dw Obj.DSP_DATA key (a / 4)) a v)
  | .corrected =>
    (s.setDw Obj.DSP_DATA key (a / 4) (setHalf (s.dw Obj.DSP_DATA key (a / 4)) a v)).inc Obj.DSP_MEM_CORRECTED key
  | .uncorrectable => (s.setDw Obj.DSP_DATA key (a / 4) (setHalf 0 a v)).dspUncorr d k 1 (a / 4)

/-- The address of LD and ST (R287). -/
def Dsp.address (x : Dsp) (w : BitVec 36) : Nat :=
  if bits w 22 21 = 2 then bits w 14 0 else x.indirect (bits w 25 23)

/-- The register modification of LD and ST (R287). -/
def Dsp.modify (x : Dsp) (w : BitVec 36) : Dsp := if bits w 22 21 = 1 then x.postMod (bits w 25 23) else x

/-- What LD and ST may not hold: stray bits, AM 11. -/
def accessBad (w : BitVec 36) : Bool := stray w (fld 29 21 + fld 14 0) || bits w 22 21 == 3

/-- After an access to data memory: an error may have retired the engine, which then stops (R305). -/
def State.dspAfter (s : State) (d k : Nat) (y : Dsp) : State :=
  (s.dspDone d k { y with errs := (s.dsp (sel d k)).errs }).dspRetired d k

/-- LD (R287). -/
def execDspLd (d k : Nat) (e m : Ecc) (s : State) : Out :=
  s.dspRow d k 0x0E e (fun t x w =>
    let (v, t1) := t.dspLoad d k (x.address w) m
    (accessBad w, t1, (x.modify w).put 2 (bits w 29 26) v)) (fun t y => t.dspAfter d k y)

/-- ST (R287). -/
def execDspSt (d k : Nat) (e m : Ecc) (s : State) : Out :=
  s.dspRow d k 0x0F e (fun t x w =>
    (accessBad w, t.dspStore d k (x.address w) (x.get (bits w 29 26)) m, x.modify w)) (fun t y => t.dspAfter d k y)

/-! ALU (R282, R286). -/

/-- A sum of `n`-bit values with carry in: result, carry and overflow in the two's-complement sense (R286). -/
def addFlags (n a b cin : Nat) : Nat × Bool × Bool :=
  let sum := a % 2 ^ n + b % 2 ^ n + cin
  let r := sum % 2 ^ n
  let neg := fun v : Nat => v.testBit (n - 1)
  (r, decide (2 ^ n ≤ sum), neg a == neg b && neg a != neg r)

/-- A difference: C is not-borrow (R284). -/
def subFlags (n a b : Nat) : Nat × Bool × Bool := addFlags n a (2 ^ n - 1 - b % 2 ^ n) 1

/-- An `n`-bit result's Z, N, C and V. -/
def Dsp.arith (x : Dsp) (n : Nat) (r : Nat × Bool × Bool) : Dsp :=
  x.setFlags 15 (r.1 == 0) (r.1.testBit (n - 1)) r.2.1 r.2.2

/-- Z and N of a logical result; C and V become 0. -/
def Dsp.logic (x : Dsp) (r : Nat) : Dsp := x.setFlags 15 (r == 0) (r.testBit 15) false false

/-- The fields of ADD. -/
def aluMask : Nat := fld 29 18

/-- The fields of ADDI. -/
def immMask : Nat := fld 29 22 + fld 15 0

/-- ADD. -/
def execDspAdd (d k : Nat) (e : Ecc) (s : State) : Out :=
  s.dspPure d k 0x10 e (stray · aluMask) (fun x w =>
    let r := addFlags 16 (x.get (bits w 25 22)) (x.get (bits w 21 18)) 0
    (x.put 1 (bits w 29 26) r.1).arith 16 r)

/-- SUB. -/
def execDspSub (d k : Nat) (e : Ecc) (s : State) : Out :=
  s.dspPure d k 0x11 e (stray · aluMask) (fun x w =>
    let r := subFlags 16 (x.get (bits w 25 22)) (x.get (bits w 21 18))
    (x.put 1 (bits w 29 26) r.1).arith 16 r)

/-- AND. -/
def execDspAnd (d k : Nat) (e : Ecc) (s : State) : Out :=
  s.dspPure d k 0x12 e (stray · aluMask) (fun x w =>
    let r := x.get (bits w 25 22) &&& x.get (bits w 21 18)
    (x.put 1 (bits w 29 26) r).logic r)

/-- OR. -/
def execDspOr (d k : Nat) (e : Ecc) (s : State) : Out :=
  s.dspPure d k 0x13 e (stray · aluMask) (fun x w =>
    let r := x.get (bits w 25 22) ||| x.get (bits w 21 18)
    (x.put 1 (bits w 29 26) r).logic r)

/-- XOR. -/
def execDspXor (d k : Nat) (e : Ecc) (s : State) : Out :=
  s.dspPure d k 0x14 e (stray · aluMask) (fun x w =>
    let r := x.get (bits w 25 22) ^^^ x.get (bits w 21 18)
    (x.put 1 (bits w 29 26) r).logic r)

/-- A shift's result and flags: Z and N, and C as the last bit out, unless the count is 0. -/
def Dsp.shifted (x : Dsp) (w : BitVec 36) (r : Nat) (c : Bool) : Dsp :=
  (x.put 1 (bits w 29 26) r).setFlags (if bits w 17 14 = 0 then 3 else 7) (r == 0) (r.testBit 15) c false

/-- The fields of SHL. -/
def shiftMask : Nat := fld 29 22 + fld 17 14

/-- SHL. -/
def execDspShl (d k : Nat) (e : Ecc) (s : State) : Out :=
  s.dspPure d k 0x15 e (stray · shiftMask) (fun x w =>
    let a := x.get (bits w 25 22)
    let n := bits w 17 14
    x.shifted w ((a <<< n) % 65536) (a.testBit (16 - n)))

/-- SHR. -/
def execDspShr (d k : Nat) (e : Ecc) (s : State) : Out :=
  s.dspPure d k 0x16 e (stray · shiftMask) (fun x w =>
    let a := x.get (bits w 25 22)
    let n := bits w 17 14
    x.shifted w (a >>> n) (a.testBit (n - 1)))

/-- ASR. -/
def execDspAsr (d k : Nat) (e : Ecc) (s : State) : Out :=
  s.dspPure d k 0x17 e (stray · shiftMask) (fun x w =>
    let a := x.get (bits w 25 22)
    let n := bits w 17 14
    x.shifted w ((BitVec.ofNat 16 a).sshiftRight n).toNat (a.testBit (n - 1)))

/-- CMP. -/
def execDspCmp (d k : Nat) (e : Ecc) (s : State) : Out :=
  s.dspPure d k 0x18 e (stray · (fld 25 18)) (fun x w =>
    x.arith 16 (subFlags 16 (x.get (bits w 25 22)) (x.get (bits w 21 18))))

/-- Whether the low bits of a value hold an odd number of ones. -/
def oddOnes (v : Nat) : Nat → Bool
  | 0 => false
  | n + 1 => v.testBit n != oddOnes v n

/-- PAR. -/
def execDspPar (d k : Nat) (e : Ecc) (s : State) : Out :=
  s.dspPure d k 0x19 e (stray · aluMask) (fun x w =>
    let r := b2n (oddOnes (x.get (bits w 25 22) &&& x.get (bits w 21 18)) 16)
    (x.put 1 (bits w 29 26) r).setFlags 1 (r == 0) false false false)

/-- ADDI. -/
def execDspAddi (d k : Nat) (e : Ecc) (s : State) : Out :=
  s.dspPure d k 0x1A e (stray · immMask) (fun x w =>
    let r := addFlags 16 (x.get (bits w 25 22)) (bits w 15 0) 0
    (x.put 1 (bits w 29 26) r.1).arith 16 r)

/-- ANDI. -/
def execDspAndi (d k : Nat) (e : Ecc) (s : State) : Out :=
  s.dspPure d k 0x1B e (stray · immMask) (fun x w =>
    let r := x.get (bits w 25 22) &&& bits w 15 0
    (x.put 1 (bits w 29 26) r).logic r)

/-- ORI. -/
def execDspOri (d k : Nat) (e : Ecc) (s : State) : Out :=
  s.dspPure d k 0x1C e (stray · immMask) (fun x w =>
    let r := x.get (bits w 25 22) ||| bits w 15 0
    (x.put 1 (bits w 29 26) r).logic r)

/-- XORI. -/
def execDspXori (d k : Nat) (e : Ecc) (s : State) : Out :=
  s.dspPure d k 0x1D e (stray · immMask) (fun x w =>
    let r := x.get (bits w 25 22) ^^^ bits w 15 0
    (x.put 1 (bits w 29 26) r).logic r)

/-- A pair instruction's register numbers are even. -/
def pairsBad (w : BitVec 36) : Bool := stray w aluMask || bit w 26 || bit w 22 || bit w 18

/-- ADD32. -/
def execDspAdd32 (d k : Nat) (e : Ecc) (s : State) : Out :=
  s.dspPure d k 0x1E e pairsBad (fun x w =>
    let r := addFlags 32 (x.pair (bits w 25 22)) (x.pair (bits w 21 18)) 0
    (x.putPair 1 (bits w 29 26) r.1).arith 32 r)

/-- SUB32. -/
def execDspSub32 (d k : Nat) (e : Ecc) (s : State) : Out :=
  s.dspPure d k 0x1F e pairsBad (fun x w =>
    let r := subFlags 32 (x.pair (bits w 25 22)) (x.pair (bits w 21 18))
    (x.putPair 1 (bits w 29 26) r.1).arith 32 r)

/-! Accumulators (R286). -/

/-- An accumulator as a signed number, after every accumulator instruction issued so far (R279). -/
def Dsp.acc (x : Dsp) (a : Nat) : Int := signed 40 (x.latest (DspReg.A + a))

/-- An accumulator takes an exact result: it saturates or wraps outside 40 bits, and SV is set (R286). STA and STAP see
it from i + 3. -/
def Dsp.setAcc (x : Dsp) (a : Nat) (v : Int) : Dsp :=
  let beyond := decide (v < -549755813888) || decide (549755813887 < v)
  let r := if beyond ∧ (x.get DspReg.ST).testBit 11 then (if v < 0 then -549755813888 else 549755813887) else v
  (x.put 3 (DspReg.A + a) (BitVec.ofInt 40 r).toNat (2 ^ 40 - 1)).setSv beyond

/-- The signed product of two D registers (R286). -/
def Dsp.product (x : Dsp) (w : BitVec 36) : Int := signed 16 (x.get (bits w 27 24)) * signed 16 (x.get (bits w 23 20))

/-- MPY. -/
def execDspMpy (d k : Nat) (e : Ecc) (s : State) : Out :=
  s.dspPure d k 0x20 e (stray · (fld 29 20)) (fun x w => x.setAcc (bits w 29 28) (x.product w))

/-- MAC. -/
def execDspMac (d k : Nat) (e : Ecc) (s : State) : Out :=
  s.dspPure d k 0x21 e (stray · (fld 29 20)) (fun x w =>
    x.setAcc (bits w 29 28) (x.acc (bits w 29 28) + x.product w))

/-- MSU. -/
def execDspMsu (d k : Nat) (e : Ecc) (s : State) : Out :=
  s.dspPure d k 0x22 e (stray · (fld 29 20)) (fun x w =>
    x.setAcc (bits w 29 28) (x.acc (bits w 29 28) - x.product w))

/-- MACM: `m` and `n` are what the check bits of its two words say (R287). -/
def execDspMacm (d k : Nat) (e m n : Ecc) (s : State) : Out :=
  s.dspRow d k 0x23 e (fun t x w =>
    let i := bits w 27 25
    let j := bits w 24 22
    let (a, t1) := t.dspLoad d k (x.indirect i) m
    let (b, t2) := if x.indirect i / 4 = x.indirect j / 4 then
        (if m = .uncorrectable then 0 else half (t1.dw Obj.DSP_DATA (sel d k) (x.indirect j / 4)) (x.indirect j), t1)
      else t1.dspLoad d k (x.indirect j) n
    let y := x.setAcc (bits w 29 28) (x.acc (bits w 29 28) + signed 16 a * signed 16 b)
    let z := y.postMod i
    (stray w (fld 29 22), t2, if i = j then z else z.postMod j)) (fun t y => t.dspAfter d k y)

/-- CLRA. -/
def execDspClra (d k : Nat) (e : Ecc) (s : State) : Out :=
  s.dspPure d k 0x24 e (stray · (fld 29 28)) (fun x w => x.setAcc (bits w 29 28) 0)

/-- SHA: positive counts shift left. -/
def execDspSha (d k : Nat) (e : Ecc) (s : State) : Out :=
  s.dspPure d k 0x25 e (stray · (fld 29 28 + fld 5 0)) (fun x w =>
    let n := signed 6 (bits w 5 0)
    let v := x.acc (bits w 29 28)
    x.setAcc (bits w 29 28) (if 0 ≤ n then v * 2 ^ n.toNat else v / 2 ^ (-n).toNat))

/-- RND of ST (R284). -/
def Dsp.rnd (x : Dsp) : Nat := x.get DspReg.ST / 4096 % 4

/-- A quotient by 2^n, rounded as RND selects (R284). -/
def rounded (rnd : Nat) (v : Int) (n : Nat) : Int :=
  let d : Int := 2 ^ n
  let f := v / d
  let r := v - f * d
  match rnd with
  | 0 => f
  | 1 => if d ≤ 2 * r then f + 1 else f
  | _ => if d < 2 * r ∨ (d = 2 * r ∧ f % 2 = 1) then f + 1 else f

/-- A value saturated to n bits, and whether it was. -/
def saturate (n : Nat) (v : Int) : Int × Bool :=
  let m : Int := 2 ^ (n - 1)
  if v < -m then (-m, true) else if m - 1 < v then (m - 1, true) else (v, false)

/-- What STA and STAP store: the accumulator as i + 3 sees it (R279), shifted, rounded and saturated (R286). -/
def Dsp.stored (x : Dsp) (w : BitVec 36) (n : Nat) : Int × Bool :=
  saturate n (rounded x.rnd (signed 40 (x.get (DspReg.A + bits w 25 24))) (bits w 4 0))

/-- STA. -/
def execDspSta (d k : Nat) (e : Ecc) (s : State) : Out :=
  s.dspRow d k 0x26 e (fun t x w =>
    let r := x.stored w 16
    (stray w (fld 29 24 + fld 4 0) || x.rnd == 3, t,
      (x.put 1 (bits w 29 26) (BitVec.ofInt 16 r.1).toNat).setSv r.2))

/-- LDAC. -/
def execDspLdac (d k : Nat) (e : Ecc) (s : State) : Out :=
  s.dspPure d k 0x27 e (fun w => stray w (fld 29 24) || bit w 24) (fun x w =>
    x.setAcc (bits w 29 28) (signed 32 (x.pair (bits w 27 24))))

/-- ADDA. -/
def execDspAdda (d k : Nat) (e : Ecc) (s : State) : Out :=
  s.dspPure d k 0x28 e (stray · (fld 29 26)) (fun x w =>
    x.setAcc (bits w 29 28) (x.acc (bits w 29 28) + x.acc (bits w 27 26)))

/-- SUBA. -/
def execDspSuba (d k : Nat) (e : Ecc) (s : State) : Out :=
  s.dspPure d k 0x29 e (stray · (fld 29 26)) (fun x w =>
    x.setAcc (bits w 29 28) (x.acc (bits w 29 28) - x.acc (bits w 27 26)))

/-- STAP. -/
def execDspStap (d k : Nat) (e : Ecc) (s : State) : Out :=
  s.dspRow d k 0x2A e (fun t x w =>
    let r := x.stored w 32
    (stray w (fld 29 24 + fld 4 0) || bit w 26 || x.rnd == 3, t,
      (x.putPair 1 (bits w 29 26) (BitVec.ofInt 32 r.1).toNat).setSv r.2))

/-! Ports (R288–R291). -/

/-- A unit number from the immediate field, or from Da (R282). -/
def Dsp.unitOf (x : Dsp) (w : BitVec 36) (hi lo width : Nat) : Nat :=
  if bit w 25 then x.get (bits w 24 21) % 2 ^ width else bits w hi lo

/-- The mask of a unit field with its IDX. -/
def unitMask (hi lo : Nat) : Nat := fld 25 25 + fld hi lo

/-- A half of an IQ point, as RDW selects it (R288), and whether it saturated. -/
def rdwHalf (v sh : Nat) (sat : Bool) : Nat × Bool :=
  let q := signed 36 v / 2 ^ sh
  if sat ∧ (q < -32768 ∨ 32767 < q) then (if q < 0 then 0x8000 else 0x7FFF, true) else ((v >>> sh) % 65536, false)

/-- RDW. -/
def execDspRdw (d k : Nat) (e : Ecc) (s : State) : Out :=
  s.dspRow d k 0x30 e (fun t x w =>
    let p := t.rd Obj.DEMOD_RESULT (sel d (x.unitOf w 24 18 7))
    let sh := bits w 4 0
    let i := rdwHalf (bits p 71 36) sh (bit w 17)
    let q := rdwHalf (bits p 35 0) sh (bit w 17)
    (stray w (fld 29 26 + unitMask 24 18 + fld 17 17 + fld 4 0) || bit w 26 || decide (20 < sh), t,
      ((x.put 2 (bits w 29 26) i.1).put 2 (bits w 29 26 + 1) q.1).setSv (i.2 || q.2)))

/-- RDS. -/
def execDspRds (d k : Nat) (e : Ecc) (s : State) : Out :=
  s.dspRow d k 0x31 e (fun t x w =>
    let key := sel d (x.unitOf w 24 15 10)
    let v := t.slotSeen key
    (stray w (fld 29 26 + unitMask 24 15), t,
      (x.put 2 (bits w 29 26) (b2n v.valid * 32768 + v.gen.toNat * 256 + v.value.toNat)).put 3 DspReg.ST
        (b2n (t.unreachSeen key) * 1024) 1024))

/-- RDC. -/
def execDspRdc (d k : Nat) (e : Ecc) (s : State) : Out :=
  s.dspRow d k 0x32 e (fun t x w =>
    (stray w (fld 29 26 + unitMask 24 18), t,
      x.put 2 (bits w 29 26) (t.rdN Obj.READ_COUNT (sel d (x.unitOf w 24 18 7)) % 256)))

/-- RDM. -/
def execDspRdm (d k : Nat) (e : Ecc) (s : State) : Out :=
  s.dspRow d k 0x33 e (fun t x w =>
    let dd := bits w 29 26
    let bad := stray w (fld 29 26) || bit w 26
    match takeFirst (fun m : DspMail => decide (m.from_ ≤ t.cyc)) x.mbox with
    | some (m, rest) =>
      (bad, t, ((({ x with mbox := rest }).put 2 dd (m.data.toNat % 65536)).put 2 (dd + 1) (m.data.toNat / 65536)).put 3
        DspReg.ST (m.sender * 64) (15 * 64 + 1))
    | none => (bad, t, ((x.put 2 dd 0).put 2 (dd + 1) 0).put 3 DspReg.ST 1 (15 * 64 + 1)))

/-- POST (R291): it leaves the engine at stage 6; a slot outside 256–511 is discarded and sets POST_RANGE. -/
def execDspPost (d k : Nat) (e : Ecc) (s : State) : Out :=
  s.dspRow d k 0x34 e (fun t x w =>
    let n := x.unitOf w 24 15 10
    (stray w (fld 29 26 + unitMask 24 15), t,
      { x with outs := x.outs ++ [(t.dspX d k x, .post n (BitVec.ofNat 8 (x.get (bits w 29 26))))] }))

/-- SMSG (R291). -/
def execDspSmsg (d k : Nat) (e : Ecc) (s : State) : Out :=
  s.dspRow d k 0x35 e (fun t x w =>
    (stray w (fld 29 22), t,
      { x with outs := x.outs ++ [(t.dspX d k x, .smsg (bits w 25 22) (BitVec.ofNat 8 (x.get (bits w 29 26))))] }))

/-! Interrupts, waits and commands. -/

/-- Events that are due at a Bell consumer of its own clock (R361): an unclocked one is taken at an edge of the engine's
clock, at least 4 cycles after it was raised. -/
def State.dspEdge (s : State) (d k c : Nat) : Bool :=
  let x := s.dsp (sel d k)
  let q := s.dspQ d k
  (s.chan (sel d c)).events.all (fun e =>
    !(e.unclocked && e.isLocal) || (decide (e.raised + 4 ≤ s.cyc) && s.cyc % q == x.issueAt % q))

/-- Events that a busy input drops in this cycle (R295, R360, R362). -/
def State.dropsEvent (s : State) (d c : Nat) : Bool :=
  let x := s.chan (sel d c)
  let due := x.events.filter (fun e => e.isLocal && decide (e.due ≤ s.cyc))
  !due.isEmpty && !(due.any (·.unclocked) && x.kept == none)

/-- A task input is busy in this cycle: also one that stops being busy in it (R362). -/
def State.busyInput (s : State) (d c : Nat) (busy : Bool) : Bool := busy || decide (s.cyc < (s.chan (sel d c)).keptFrom)

/-- DSP_EVENT_INPUT (R295): an event sets IP[i]; one that finds IP[i] set is remembered or dropped, which
DSP_EV_OVERRUN reports. Inputs 8–15 are the direct lines of R357. -/
def execDspEventInput (d k i : Nat) (s : State) : Out :=
  if 16 ≤ i then .next s
  else
    let key := sel d k
    let c := if i < 8 then 160 + 8 * k + i else 512 + 16 * k + i
    let busy := decide (0 < look 0 (s.dsp key).ip i) || !s.domOn d (domDsp k)
    if s.domOn d (domDsp k) ∧ !s.dspEdge d k c then .next s
    else
      match s.deliver d c busy with
      | (some _, s1) =>
        let x := s1.dsp key
        .next (s1.setDsp key { x with ip := put 0 x.ip i (s.cyc + 1) })
      | (none, s1) => .next (if s.busyInput d c busy ∧ s.dropsEvent d c then s1.setBit Obj.DSP_EV_OVERRUN key i else s1)

/-- The vector of input i (R308). -/
def State.vector (s : State) (k i : Nat) : Nat :=
  bits (s.dw Obj.DSP_VECTORS k (i / 4)) (66 - 18 * (i % 4)) (54 - 18 * (i % 4))

/-- The engine turns to the handler of input i, whose interrupt was taken at the boundary `b` (R297). -/
def State.enterHandler (s : State) (d k i b : Nat) (ipc : Nat) : State :=
  let key := sel d k
  let x := s.dsp key
  let st := x.latest DspReg.ST
  let y := (((x.force DspReg.IPC ipc).force DspReg.IST st).force DspReg.ST ((st &&& 0x7FFF) ||| 0x4000)).commit (x.num + 3)
  s.setDsp key { y with
    taking := none, wait := none, num := x.num + 3, issueAt := b + 3 * s.dspQ d k, retiDue := false,
    flow := { y.flow with pc := s.vector key i, br := none, rep := none } }

/-- IP[i] clears as input i is taken (R297), and the input is no longer busy. -/
def State.ackInterrupt (s : State) (d k i : Nat) : State :=
  let key := sel d k
  let x := s.dsp key
  (s.setDsp key { x with ip := put 0 x.ip i 0 }).freeInput d (if i < 8 then 160 + 8 * k + i else 512 + 16 * k + i)

/-- An interrupt is taken at the boundary `b` (R297). -/
def State.takeInterrupt (s : State) (d k i b : Nat) (ipc : Nat) : State := (s.ackInterrupt d k i).enterHandler d k i b ipc

/-- The input whose interrupt is taken at the boundary of this cycle, and the number of the next instruction there, while
instructions before it are still short of stage 3 (R296). -/
def State.takenAhead (s : State) (d k : Nat) (x : Dsp) : Option (Nat × Nat) :=
  match s.inFlight d k with
  | some n =>
    let y := s.viewAhead (sel d k) x n
    let stops := (List.range (n + 1)).any (fun m =>
      (s.flowAhead (sel d k) x x.num x.flow m).any (fun f => x.pausesAt (s.dspQ d k) m f))
    if n ≠ 0 ∧ !stops ∧ y.gie ∧ (s.flowAhead (sel d k) x x.num x.flow n).any (·.eligible) then
      (y.interrupt s.cyc).map (fun i => (i, x.num + n))
    else none
  | none => none

/-- The first boundary of an engine's instruction clock after a cycle. -/
def State.dspBoundary (s : State) (d k c : Nat) : Nat :=
  let x := s.dsp (sel d k)
  let q := s.dspQ d k
  if c < x.issueAt then x.issueAt else x.issueAt + ((c - x.issueAt) / q + 1) * q

/-- DSP_INTERRUPT_TAKE (R296, R297): the highest pending enabled input is taken at an eligible boundary, or during a
WAIT, whose own address is then saved (R294). IP[i] clears at the boundary; the engine turns to the handler when the
instructions issued before it have executed. -/
def execDspInterruptTake (d k : Nat) (s : State) : Out :=
  let x := s.dsp (sel d k)
  if !x.run ∨ x.ending ∨ x.stalled ≠ none ∨ !s.domOn d (domDsp k) then .next s
  else
    match x.wait with
    | none =>
      match x.taking with
      | some (i, n) => .next (if n = x.num then s.enterHandler d k i x.issueAt x.flow.resumeAt else s)
      | none =>
        if x.gie ∧ x.flow.eligible ∧ x.issueAt ≤ s.cyc ∧ (x.interrupt x.issueAt).isSome then
          match x.interrupt x.issueAt with
          | some i => .next (s.takeInterrupt d k i x.issueAt x.flow.resumeAt)
          | none => .next s
        else
          match s.takenAhead d k x with
          | some (i, n) => .next ((s.setDsp (sel d k) { x with taking := some (i, n) }).ackInterrupt d k i)
          | none => .next s
    | some w =>
      if !x.gie then .next s
      else
      match x.interrupt s.cyc with
      | some i =>
        if w.cond = 0 then .next (s.takeInterrupt d k i (s.cyc + 1) (pcNext x.flow.pc))
        else
          let b := s.dspBoundary d k (look 0 x.ip i - 1)
          if b ≤ s.cyc then .next (s.takeInterrupt d k i b x.flow.pc) else .next s
      | none => .next s

/-- A WAIT's condition holds in this cycle (R294). -/
def State.waitHolds (s : State) (d : Nat) (x : Dsp) (w : DspWaiting) : Bool :=
  match w.cond with
  | 0 => (x.interrupt (s.cyc + 1)).isSome
  | 1 => x.hasMail s.cyc
  | 2 => (s.slotSeen (sel d w.src)).gen.toNat != w.val % 128
  | _ => s.rdN Obj.READ_COUNT (sel d (w.src % 128)) % 256 != w.val % 256

/-- DSP_WAIT_END (R294), of a pipeline that is not held (R301): the condition holds, the instruction clock restarts, and the next instruction issues in the next
fabric cycle; with WCOND 0 and GIE 1 the interrupt is taken instead. -/
def execDspWaitEnd (d k : Nat) (s : State) : Out :=
  let key := sel d k
  let x := s.dsp key
  match x.wait with
  | none => .next s
  | some w =>
    if !x.run ∨ x.stalled ≠ none ∨ !s.domOn d (domDsp k) ∨ s.cyc < w.from_ ∨ !s.waitHolds d x w then .next s
    else
      let go := s.setDsp key { x with wait := none, issueAt := s.cyc + 1, flow := x.flow.next }
      if w.cond = 0 ∧ x.gie then
        match x.interrupt (s.cyc + 1) with
        | some i => .next (s.takeInterrupt d k i (s.cyc + 1) (pcNext x.flow.pc))
        | none => .next go
      else if x.stepping then .next (go.dspHalt d k)
      else .next go

/-- An engine that takes no command (R305), or is not powered. -/
def State.dspDeaf (s : State) (d k : Nat) : Bool := decide (sel d k ∈ s.nv.dsps) || !s.domOn d (domDsp k)

/-- An engine starts to issue one cycle after the command's application (R302). -/
def Dsp.go (x : Dsp) (cyc : Nat) : Dsp := { x with run := true, wait := none, issueAt := cyc + 1, haltReq := none, stepping := false, ending := false }

/-- DSP_CMD_START (R302). -/
def execDspCmdStart (d k : Nat) (s : State) : Out :=
  let key := sel d k
  let x := s.dsp key
  if x.run ∨ s.dspDeaf d k then .next s
  else
    let p := s.port (d * 16 + k)
    let s1 := s.setPort (d * 16 + k) { p with posts := p.posts.filter (fun y => y.src != .dsp k) }
    let y := (x.drain.force DspReg.ST 0).go s.cyc
    let s2 := s1.setDsp key { y with
      flow := { pc := (s.rdN Obj.DSP_START_ADDR key) % 8192 }, ip := [], sp := 0, outs := [], cross := [],
      buffered := 0, stalled := none, retiDue := false, taking := none }
    .next (x.ip.foldl (fun t p => t.freeInput d (if p.1 < 8 then 160 + 8 * k + p.1 else 512 + 16 * k + p.1)) s2)

/-- DSP_CMD_HALT (R302): issue stops at the next eligible boundary; a WAIT is one. -/
def execDspCmdHalt (d k : Nat) (s : State) : Out :=
  let key := sel d k
  let x := s.dsp key
  if !x.run ∨ s.dspDeaf d k then .next s
  else if x.wait.isSome then .next (s.dspHalt d k)
  else .next (s.setDsp key { x with haltReq := some s.cyc })

/-- DSP_CMD_RESUME (R302). -/
def execDspCmdResume (d k : Nat) (s : State) : Out :=
  let x := s.dsp (sel d k)
  if x.run ∨ s.dspDeaf d k then .next s else .next (s.setDsp (sel d k) (x.go s.cyc))

/-- DSP_CMD_STEP (R302). -/
def execDspCmdStep (d k : Nat) (s : State) : Out :=
  let x := s.dsp (sel d k)
  if x.run ∨ s.dspDeaf d k then .next s
  else .next (s.setDsp (sel d k) { x.go s.cyc with stepping := true })

/-! What an engine does as cycles pass. -/

/-- The message of an SMSG enters a sequencer's mailbox of 4, or is lost (R150, R291). -/
def State.deliverSmsg (s : State) (d k q : Nat) (v : BitVec 8) : State :=
  let y := s.seq (sel d q)
  if y.mbox.length < 4 then s.setSeq (sel d q) { y with mbox := y.mbox ++ [v] }
  else (s.setBit Obj.DSP_STATUS (sel d k) 8).inc Obj.MBOX_LOST_COUNT (sel d k)

/-- The POST that leads an engine's outputs finds the post buffer full as its stage 6 begins: the pipeline is held (R301). -/
def Dsp.meetsFull (x : Dsp) (q cyc t : Nat) (o : DspOut) : Bool :=
  match o with
  | .post n _ => decide (256 ≤ n) && decide (n < 512) && decide (4 ≤ x.buffered) && decide (t < cyc + q)
  | _ => false

/-- Outputs whose instruction completes stage 6 leave the engine, in order; a POST that finds the post buffer full holds
the pipeline, and one outside slots 256–511 is discarded (R291, R299, R301). -/
def State.dspOuts (s : State) (d k : Nat) : List (Nat × DspOut) → State
  | [] => s
  | (t, o) :: rest =>
    let key := sel d k
    let x := s.dsp key
    let q := s.dspQ d k
    if x.meetsFull q s.cyc t o then s.setDsp key { x with outs := (t, o) :: rest, stalled := some (t + 1 - q) }
    else if s.cyc < t then s.setDsp key { x with outs := (t, o) :: rest }
    else
      match o with
      | .flags v => (s.setDsp key { x with flagPub := pushTrail 64 (t + 6) v x.flagPub, outs := rest }).dspOuts d k rest
      | .sig _ => (s.setDsp key { x with cross := x.cross ++ [(t + 5, o)], outs := rest }).dspOuts d k rest
      | .smsg _ _ => (s.setDsp key { x with cross := x.cross ++ [(t + 6, o)], outs := rest }).dspOuts d k rest
      | .post n v =>
        if 256 ≤ n ∧ n < 512 then
          ((s.setDsp key { x with buffered := x.buffered + 1, outs := rest }).offerPost d k (t + 5) n v (.dsp k)).dspOuts d k rest
        else ((s.setDsp key { x with outs := rest }).setBit Obj.DSP_STATUS key 7).dspOuts d k rest

/-- A held pipeline advances in the first instruction cycle that begins after the cycle in which an entry freed:
everything on its way is later by the whole instruction cycles lost (R301). -/
def State.dspUnstall (s : State) (d k : Nat) : State :=
  let key := sel d k
  let x := s.dsp key
  match x.stalled with
  | none => s
  | some b =>
    if 4 ≤ x.buffered then s
    else
      let q := s.dspQ d k
      let lost := ((x.freedAt - b) / q + 1) * q
      s.setDsp key { x with
        stalled := none, issueAt := x.issueAt + lost, doneAt := x.doneAt + lost,
        outs := x.outs.map (fun o => (o.1 + lost, o.2)) }

/-- What engine `k` does in this cycle beside issuing: it leaves a stall, its outputs leave, those that crossed act, and
a HALT command takes effect at an eligible boundary (R291, R301, R302). -/
def State.dspCycle (s : State) (d k : Nat) : State :=
  let key := sel d k
  let s1 := s.dspUnstall d k
  let s2 := if (s1.dsp key).stalled.isSome then s1 else s1.dspOuts d k (s1.dsp key).outs
  let x := s2.dsp key
  let due := x.cross.filter (fun p => decide (p.1 ≤ s.cyc))
  let s3 := if due.isEmpty then s2 else s2.setDsp key { x with cross := x.cross.filter (fun p => decide (s.cyc < p.1)) }
  let s4 := due.foldl (fun t p =>
    match p.2 with
    | .sig i => t.raise d (112 + 6 * k + i)
    | .smsg q v => t.deliverSmsg d k q v
    | _ => t) s3
  let y := s4.dsp key
  if y.stalled.isSome then s4
  else if y.ending then (if y.doneAt < s.cyc then s4.dspHalt d k else s4)
  else if y.run ∧ y.haltDue ∧ y.issueAt ≤ s.cyc then s4.dspStop d k else s4

/-- A message of a sequencer is lost (R161). -/
def State.msgLost (s : State) (d q : Nat) : State := (s.setBit Obj.SEQ_STATUS (sel d q) 16).inc Obj.MSG_LOST_COUNT (sel d q)

/-- Messages in the order in which they enter a mailbox: those of one cycle by sequencer number (R290). -/
def insMail (m : DspMail) : List DspMail → List DspMail
  | [] => [m]
  | x :: xs => if x.from_ = m.from_ ∧ m.sender < x.sender then m :: x :: xs else x :: insMail m xs

/-- A message enters an engine's mailbox of 4, to be read from two cycles later (R290), or is lost at its sender: the mailbox
is full of earlier messages and of those that enter before it in its own cycle, or the engine is retired (R305). -/
def State.dspMail (s : State) (d k q : Nat) (data : BitVec 32) : State :=
  let key := sel d k
  let x := s.dsp key
  let all := insMail ⟨s.cyc + 2, data, q⟩ x.mbox
  if key ∈ s.nv.dsps then s.msgLost d q
  else
    match all[4]? with
    | none => s.setDsp key { x with mbox := all }
    | some m => (s.setDsp key { x with mbox := all.take 4 }).msgLost d m.sender

/-- FLAG i of an engine as the sequencers' conditions see it (R149, R291, R305). -/
def State.dspFlag (s : State) (d k i : Nat) : Bool :=
  !(decide (sel d k ∈ s.nv.dsps)) && (seen 0 (s.dsp (sel d k)).flagPub s.cyc).getLsbD i

/-- The boundary of class 2 and 3 at which an engine applies a level (R273): an engine that is halted, in a WAIT, or in
the first fabric cycle of an instruction cycle at whose beginning an interrupt could be taken. A pipeline that is held is
at none (R301). -/
def State.dspAtBoundary (s : State) (d k : Nat) : Bool :=
  let x := s.dsp (sel d k)
  !x.run || x.wait.isSome ||
    (x.stalled == none && !x.ending &&
      (s.inFlight d k).any (fun n => (s.flowAhead (sel d k) x x.num x.flow n).all (·.eligible)))

/-- A cycle in which something of an engine was due at instruction cycles of `q`, now that they last `r` from this
fabric cycle on: the instruction cycles left are as many (R273). -/
def State.relevelled (s : State) (q r t : Nat) : Nat := s.cyc + (t - s.cyc + q - 1) / q * r

/-- Engine `k` has applied a level at this boundary, with instruction cycles of `q` fabric cycles before: its instruction
clock restarts (R361), and what is in its pipeline keeps the instruction cycles that it has left (R273). An output whose
stage 6 is the one fabric cycle that begins at the boundary completes it later too. -/
def State.dspRelevel (s : State) (d k q : Nat) : State :=
  let key := sel d k
  let x := s.dsp key
  let r := s.dspQ d k
  let shift := if q = 1 then r - 1 else 0
  let late := fun t due : Nat => if due = s.cyc + t then due + shift else due
  let p := s.port (d * 16 + k)
  let own := fun y : Post => y.src == .dsp k && decide (y.due = s.cyc + 5)
  if q = r then s
  else
    let s1 := if p.posts.any own then
        s.setPort (d * 16 + k) { p with posts := p.posts.map (fun y => if own y then { y with due := y.due + shift } else y) }
      else s
    s1.setDsp key { x with
      issueAt := if x.wait.isSome then s.cyc else if s.cyc < x.issueAt then s.relevelled q r x.issueAt
        else s.cyc - (s.cyc - x.issueAt) / q * r
      doneAt := if x.doneAt < s.cyc then x.doneAt else s.relevelled q r (x.doneAt + 1) - 1
      outs := x.outs.map (fun o => if o.1 < s.cyc then o else (s.relevelled q r (o.1 + 1) - 1, o.2))
      flagPub := x.flagPub.map (fun f => (late 6 f.1, f.2))
      cross := x.cross.map (fun c => (late (match c.2 with | .sig _ => 5 | _ => 6) c.1, c.2)) }

/-- DSP_STATUS as read (R307). -/
def State.dspStatus (s : State) (k : Nat) : Word :=
  let x := s.dsp k
  let d := selDie k
  let n := selUnit k
  s.rd Obj.DSP_STATUS k ||| word (s.dspLevel d n * 262144 + s.dspCap d n * 65536 + b2n (decide (k ∈ s.nv.dsps)) * 16 +
    b2n x.stalled.isSome * 8 + b2n ((x.latest DspReg.ST).testBit 14) * 4 + b2n x.wait.isSome * 2 + b2n x.run)

/-- IP as a number (R295). -/
def Dsp.ipBits (x : Dsp) : Nat := x.ip.foldl (fun a p => a + 2 ^ p.1) 0

/-- A word of DSP_REGS (R309). -/
def Dsp.regsWord (x : Dsp) (w : Nat) : Word :=
  let quad := fun b : Nat => x.latest b * 2 ^ 48 + x.latest (b + 1) * 2 ^ 32 + x.latest (b + 2) * 65536 + x.latest (b + 3)
  let cell := look 0 x.rs
  let cells := fun b : Nat => cell b * 2 ^ 39 + cell (b + 1) * 2 ^ 26 + cell (b + 2) * 2 ^ 13 + cell (b + 3)
  word (if w < 4 then quad (4 * w)
    else if w < 8 then x.latest (DspReg.A + (w - 4))
    else if w < 10 then quad (DspReg.X + 4 * (w - 8))
    else if w < 12 then quad (DspReg.N + 4 * (w - 10))
    else if w = 12 then x.latest DspReg.FLAGS * 2 ^ 64 + x.latest DspReg.ST * 2 ^ 48 + x.latest DspReg.IST * 2 ^ 32 +
      x.latest DspReg.IE * 65536 + x.ipBits
    else if w = 13 then x.flow.pc * 2 ^ 26 + x.latest DspReg.IPC % 8192 * 2 ^ 13 + x.flow.lc
    else if w = 14 then x.sp * 2 ^ 52 + cells 0
    else cells 4)

/-- A word of DSP_REGS written to a halted engine (R303, R309); a number of stack entries above 8 and reserved bits are
host errors. -/
def State.writeDspRegs (s : State) (k w : Nat) (v : Word) : Out :=
  let x := (s.dsp k).drain
  let d := selDie k
  let n := selUnit k
  let quad := fun (y : Dsp) (b : Nat) =>
    (((y.force b (bits v 63 48)).force (b + 1) (bits v 47 32)).force (b + 2) (bits v 31 16)).force (b + 3) (bits v 15 0)
  let cells := fun b : Nat => (List.range 4).foldl (fun t i => put 0 t (b + i) (bits v (51 - 13 * i) (39 - 13 * i))) x.rs
  let bad := (s.dsp k).run ||
    (if w < 4 ∨ (8 ≤ w ∧ w < 12) then bits v 71 64 != 0
     else if w < 8 then bits v 71 40 != 0
     else if w = 12 then bits v 61 60 == 3 || bit v 52
     else if w = 13 then bits v 71 39 != 0
     else if w = 14 then bits v 71 56 != 0 || decide (8 < bits v 55 52)
     else bits v 71 52 != 0)
  let y :=
    if w < 4 then quad x (4 * w)
    else if w < 8 then x.force (DspReg.A + (w - 4)) (bits v 39 0)
    else if w < 10 then quad x (DspReg.X + 4 * (w - 8))
    else if w < 12 then quad x (DspReg.N + 4 * (w - 10))
    else if w = 12 then
      { ((((x.force DspReg.FLAGS (bits v 71 64)).force DspReg.ST (bits v 63 48)).force DspReg.IST (bits v 47 32)).force
          DspReg.IE (bits v 31 16)) with
        ip := (List.range 16).foldl (fun t i => put 0 t i (if bit v i then max (look 0 x.ip i) 1 else 0)) x.ip,
        flagPub := pushTrail 64 (s.cyc + 6) (BitVec.ofNat 8 (bits v 71 64)) x.flagPub }
    else if w = 13 then { (x.force DspReg.IPC (bits v 25 13)) with flow := { pc := bits v 38 26, lc := bits v 12 0 } }
    else if w = 14 then { x with sp := bits v 55 52, rs := cells 0 }
    else { x with rs := cells 4 }
  let s1 := s.setDsp k y
  let cleared := x.ip.filter (fun p => w == 12 && !bit v p.1)
  unlessError bad (cleared.foldl (fun t p => t.freeInput d (if p.1 < 8 then 160 + 8 * n + p.1 else 512 + 16 * n + p.1)) s1)

end Sys2Proof.Machine
end

