-- ==== Sys2Proof/Machine/SeqCore.lean ====
section
/-!
DEFINITION. Sequencers: words and their timing, conditions, traps, starting and stopping (R130–R183, R263).
Cycles here are of device time; device time steps only while every sequencer is halted (R70).
-/

namespace Sys2Proof.Machine

/-! The fields of a microword (R131). -/

def MW.next (w : MW) : Nat := bits w 143 130
def MW.alt (w : MW) : Nat := bits w 129 116
def MW.br (w : MW) : Nat := bits w 115 113
def MW.cond (w : MW) : Nat := bits w 112 107
def MW.wait (w : MW) : Nat := bits w 106 105
def MW.time (w : MW) : Nat := bits w 104 81
def MW.lateChk (w : MW) : Bool := bit w 80
def MW.cntOp (w : MW) : Nat := bits w 79 76
def MW.cntSel (w : MW) : Nat := bits w 75 73
def MW.act (w : MW) : Nat := bits w 72 68

/-- OPERAND (R131). -/
def MW.op (w : MW) (hi lo : Nat) : Nat := bits w hi lo

/-- A sequencer that runs on a domain that is on. -/
def State.seqRuns (s : State) (d q : Nat) : Bool :=
  (s.seq (sel d q)).run == .running && s.domOn d (domSeq q)

/-- LOOKAHEAD within its limits (R133). -/
def State.lookahead (s : State) (k : Nat) : Nat := min 4096 (max 34 (s.rdN Obj.SEQ_LOOKAHEAD k))

/-- The cycle in which the current word executes at the earliest: max(R, T − LOOKAHEAD) (R133). -/
def State.execCycle (s : State) (k : Nat) : Nat := max (s.seq k).ready ((s.seq k).t.toNat - s.lookahead k)

/-- STALLED (R136): the stamped-action buffer of a running sequencer is full. -/
def State.seqStalled (s : State) (d q : Nat) : Bool := s.seqRuns d q && decide (64 ≤ (s.seq (sel d q)).buf.length)

/-- The current word is to execute in this cycle or an earlier one (R133, R136). -/
def State.wordDue (s : State) (d q : Nat) : Bool :=
  let k := sel d q
  s.seqRuns d q && (s.seq k).phase == .ready && decide (s.execCycle k ≤ s.now) && decide ((s.seq k).buf.length < 64)

/-- A microword as a fetch of the cycle before sees it (R130, R177). -/
def State.fetchMw (s : State) (k addr : Nat) : MW :=
  s.dwSeen Obj.CS_DATA k (2 * addr) 3 ++ s.dwSeen Obj.CS_DATA k (2 * addr + 1) 3

/-! Halting and traps (R165–R172). -/

/-- Counters that the host wrote within a word take their values between two words (R178). -/
def State.settle (s : State) (k : Nat) : State :=
  let x := s.seq k
  if x.cntWrites.isEmpty then s
  else x.cntWrites.foldl (fun t p => t.wrN (Obj.SEQ_COUNTER_0 + p.1) k p.2) (s.setSeq k { x with cntWrites := [] })

/-- A sequencer halts, by any means: its wait is abandoned, pending traps and IN_HANDLER clear, HALTED is raised (R165). -/
def State.haltSeq (s : State) (d q : Nat) : State :=
  let k := sel d q
  let s := s.settle k
  let x := s.seq k
  (s.setSeq k { x with run := .halted, phase := .ready, pend := 0, raised := 0, inHandler := false, skipBreak := false,
                       resumed := false, faultAt := [] }).raise d (7 * q + 5)

/-- The vector of a cause (R181). -/
def State.trapVector (s : State) (k c : Nat) : Nat :=
  bits (s.dw Obj.TRAP_VECTORS k (c / 4)) (67 - 18 * (c % 4)) (54 - 18 * (c % 4))

/-- A trap is taken now (R169, R170): the frame is saved, and the handler's first word executes 4 cycles later with
T = r + 38. -/
def State.takeTrap (s : State) (d q c : Nat) (resumable : Bool) : State :=
  let k := sel d q
  let s := s.settle k
  let x := s.seq k
  let waiting := x.phase == .acted
  let w := if waiting then x.mw else s.fetchMw k x.addr
  s.setSeq k { x with
    frame := { cause := c, resumable := resumable, waiting := waiting, addr := x.addr, wait := w.wait, cond := w.cond,
               time := w.time, latch := x.latch, sp := x.sp, t := x.t, faulted := waiting && x.waitFault },
    inHandler := true, takenAt := s.now, phase := .ready, addr := s.trapVector k c, t := BitVec.ofNat 64 (s.now + 38),
    ready := s.now + 4, skipBreak := false, resumed := false, waitFault := false }

/-- A cause is held while a handler runs, or is lost when it is already pending (R172). -/
def State.pendTrap (s : State) (k c : Nat) : State :=
  let x := s.seq k
  if x.pend.getLsbD c then (s.setBit Obj.SEQ_STATUS k 15).inc Obj.TRAPS_LOST k
  else s.setSeq k { x with pend := x.pend ||| oneBit 8 c }

/-- The word at SEQ_ADDR stands at the breakpoint, which is to be taken (R168, R171). -/
def State.breakHere (s : State) (k : Nat) : Bool :=
  let b := s.rd Obj.BREAK_ADDR k
  bit b 15 && bits b 13 0 == (s.seq k).addr && !(s.seq k).skipBreak && bit (s.rd Obj.TRAP_ENABLE k) 6

/-- A cause is raised (R168, R169, R172). Of two raised in one cycle the higher is taken first, BREAKPOINT of a word that
is due among them; while a word is half done, or its branch is not yet resolved, the cause waits for that. -/
def State.raiseCause (s : State) (d q c : Nat) : State :=
  let k := sel d q
  let x := s.seq k
  if !s.seqRuns d q || !bit (s.rd Obj.TRAP_ENABLE k) c then s
  else if x.inHandler then
    if x.takenAt = s.now ∧ x.frame.cause < c ∧ x.phase = .ready then
      let s1 := s.setSeq k { x with frame := { x.frame with cause := c }, addr := s.trapVector k c }
      s1.pendTrap k x.frame.cause
    else s.pendTrap k c
  else if x.phase = .counted ∨ x.phase = .sampled then s.setSeq k { x with raised := x.raised ||| oneBit 8 c }
  else if c < 6 ∧ s.wordDue d q ∧ s.breakHere k then (s.takeTrap d q 6 true).pendTrap k c
  else s.takeTrap d q c true

/-- The highest bit of a mask of causes. -/
def topCause (m : BitVec 8) : Option Nat := (List.range 8).reverse.find? (fun i => m.getLsbD i)

/-- Causes that waited for a half-done word are raised, highest first (R168). -/
def State.raiseHeld (s : State) (d q : Nat) : State :=
  let k := sel d q
  let m := (s.seq k).raised
  if m = 0 then s
  else
    (List.range 8).reverse.foldl (fun t c => if m.getLsbD c then t.raiseCause d q c else t)
      (s.setSeq k { s.seq k with raised := 0 })

/-! Conditions (R148–R151). -/

/-- A condition-map entry as a sample of now sees it (R151, R180). -/
def State.condEntry (s : State) (k i : Nat) : Nat :=
  let w := s.dwSeen Obj.COND_MAP k (i / 2) 2
  if i % 2 = 0 then bits w 63 32 else bits w 31 0

/-- SOURCE and INVERT of an entry (R148). -/
def entrySource (e : Nat) : Nat := e / 2 ^ 27 % 16
def entryInvert (e : Nat) : Bool := e.testBit 31

/-- Bits [hi:lo] of an entry. -/
def ebits (e hi lo : Nat) : Nat := e / 2 ^ lo % 2 ^ (hi + 1 - lo)

/-- What the chapter calls a host error in an entry (R149). -/
def entryBad (e : Nat) : Bool :=
  match entrySource e with
  | 0 => ebits e 26 1 != 0
  | 1 => ebits e 26 14 != 0 || (e.testBit 10 && ebits e 13 11 != 0)
  | 2 => ebits e 26 10 != 0
  | 3 => ebits e 26 2 != 0
  | 4 => ebits e 26 3 != 0
  | 5 => ebits e 26 6 != 0
  | 6 => ebits e 26 18 != 0
  | 7 => ebits e 26 1 != 0
  | 8 => ebits e 26 3 != 0 || decide (5 ≤ ebits e 2 0)
  | 9 => ebits e 26 2 != 0 || ebits e 1 0 == 3
  | 10 => ebits e 26 4 != 0 || decide (9 ≤ ebits e 3 0)
  | _ => true

/-- The units of an epoch class that a condition on die `d` covers: die and key (R52, R55). -/
def State.classUnits (s : State) (d cls : Nat) : List (Nat × Nat) :=
  let per := fun (n : Nat) (ds : List Nat) => ds.flatMap (fun e => (List.range n).map (fun u => (e, e * n + u)))
  match cls with
  | 0 => per 128 s.dieList
  | 1 => per 128 s.dieList
  | 2 => per 9 s.dieList
  | _ => per 30 [d]

/-- A retired unit of an epoch class (R51, R123, R305, R448): outputs and lanes in class 3, engines in 2 and 3. -/
def State.unitRetired (s : State) (cls k : Nat) : Bool :=
  if cls = 2 then decide (k % 9 < 8) && decide (sel (k / 9) (k % 9) ∈ s.nv.dsps)
  else if cls = 3 then
    let d := k / 30
    let u := k % 30
    if u < 16 then s.nv.outs.contains (sel d u)
    else if u < 20 then (s.lane (sel d (u - 16))).rx == .retired
    else if u < 28 then decide (sel d (u - 20) ∈ s.nv.dsps)
    else false
  else false

/-- Every non-retired unit of a class is at or beyond an epoch, as die `d` sees it (R52). -/
def State.classAt (s : State) (d cls : Nat) (e : Epoch) : Bool :=
  (s.classUnits d cls).all (fun p =>
    s.unitRetired cls p.2 ||
      epochAtLeast (seen 0 (s.appl (applKey cls p.2)).pub (s.cyc - (1 + 30 * hops s.member.dies p.1 d))) e)

/-- The source of a condition (R149), before INVERT. -/
def State.condSource (s : State) (d q i : Nat) : Bool :=
  let k := sel d q
  let x := s.seq k
  let e := s.condEntry k i
  match entrySource e with
  | 0 => e.testBit 0
  | 1 =>
    let v := s.slotSeen (sel d (ebits e 9 0))
    if e.testBit 10 then v.valid else v.value.getLsbD (ebits e 13 11)
  | 2 => (s.slotSeen (sel d (ebits e 9 0))).gen.toNat != seen 0 (look [] x.fresh i) s.cyc
  | 3 => x.evc.getLsbD (ebits e 1 0)
  | 4 => s.rdN (Obj.SEQ_COUNTER_0 + ebits e 2 0) k == 0
  | 5 => s.dspFlag d (ebits e 5 3) (ebits e 2 0)
  | 6 => s.classAt d (ebits e 17 16) (BitVec.ofNat 16 (ebits e 15 0))
  | 7 => if e.testBit 0 then x.qfree else x.qfull
  | 8 =>
    match ebits e 2 0 with
    | 3 => (List.range 4).any (fun l => (s.lane (sel d l)).rx == .up)
    | 4 => s.timeState == 3 || s.timeState == 5
    | l => (s.member != .pw2 || l == 0) && s.linkUp d l
  | 9 =>
    match ebits e 1 0 with
    | 0 => x.timedOut
    | 1 => bit (s.rd Obj.SEQ_STATUS k) 11
    | _ => x.inHandler
  | 10 =>
    let n := ebits e 3 0
    if n = 8 then !x.mbox.isEmpty else (x.mbox.headD 0).getLsbD n
  | _ => false

/-- The value of a condition (R148). -/
def State.condValue (s : State) (d q i : Nat) : Bool := s.condSource d q i != entryInvert (s.condEntry (sel d q) i)

/-- The conditions of the table-index map: index bit and condition number (R143, R265). -/
def State.mapEntries (s : State) (k : Nat) : List (Nat × Nat) :=
  let m := (s.rdSeen Obj.TABLE_MAP k 2)
  (List.range 8).filterMap (fun i => if bit m (8 * i + 7) then some (i, bits m (8 * i + 5) (8 * i)) else none)

/-- The conditions that a word's sample reads: COND, and for BR TABLE those of the map (R138). -/
def State.sampled (s : State) (k : Nat) (w : MW) : List Nat :=
  if w.br = 3 then w.cond :: (s.mapEntries k).map (·.2) else [w.cond]

/-- A generation count captured for an entry, seen by samples from cycle `c` on (R150, R151). -/
def Seq.capture (x : Seq) (i c cyc gen : Nat) : Seq :=
  let old := look [] x.fresh i
  { x with fresh := put [] x.fresh i (old.filter (fun p => decide (c < p.1)) ++ [(c, gen)] ++
      (old.filter (fun p => decide (p.1 ≤ c) && decide (cyc < c))).take 3) }

/-- A freshness entry read as 1 captures its slot's generation count (R150). -/
def State.recapture (s : State) (d q i : Nat) : State :=
  let k := sel d q
  let e := s.condEntry k i
  if entrySource e = 2 then s.setSeq k ((s.seq k).capture i s.cyc s.cyc (s.slotSeen (sel d (ebits e 9 0))).gen.toNat) else s

/-- A task event or mailbox message read as 1 is consumed (R150): `head` says that the mailbox's head has been removed for
this sample. -/
def State.consume (s : State) (d q e : Nat) (head : Bool) : Bool × State :=
  let k := sel d q
  let x := s.seq k
  match entrySource e with
  | 3 =>
    let n := ebits e 1 0
    (head, (s.setSeq k { x with evc := x.evc &&& ~~~(oneBit 4 n) }).freeInput d (10 * q + 2 + n))
  | 10 =>
    if ebits e 3 0 = 8 ∧ !head then (true, s.setSeq k { x with mbox := x.mbox.tail }) else (head, s)
  | _ => (head, s)

/-- What the latest sample read as 1 is consumed in the cycle after it (R141, R150, R362). -/
def State.consumeDue (s : State) (d q : Nat) : State :=
  let k := sel d q
  match (s.seq k).eaten with
  | some (c, es) =>
    if s.cyc < c then s
    else (es.foldl (fun (p : Bool × State) e => p.2.consume d q e.2 p.1) (false, s.setSeq k { s.seq k with eaten := none })).2
  | none => s

/-- A sample in this cycle (R138): COND and the table index are taken, and what was read as 1 is consumed in the next
(R141, R150). COND of a word that times out reads false (R137). -/
def State.sample (s : State) (d q : Nat) (w : MW) (timedOut : Bool) : State :=
  let k := sel d q
  let read := (s.sampled k w).filter (s.condSource d q)
  let cond := !timedOut && s.condValue d q w.cond
  let index := (s.mapEntries k).foldl (fun n p => if s.condValue d q p.2 then n + 2 ^ p.1 else n) 0
  let s1 := read.foldl (fun t i => t.recapture d q i) s
  s1.setSeq k { s1.seq k with
    cond := cond, index := index, sampleCyc := s.now, phase := .sampled,
    eaten := some (s.cyc + 1, read.map (fun i => (i, s.condEntry k i))) }

/-- A condition that a sample reads is a host error (R149), or its table-index map has a reserved bit or names a condition that
is not configured: one whose entry holds its default 0 (R265, log 61). -/
def State.sampleBad (s : State) (k : Nat) (w : MW) : Bool :=
  (s.sampled k w).any (fun i => entryBad (s.condEntry k i)) ||
    (w.br == 3 && ((List.range 8).any (fun i => bit (s.rd Obj.TABLE_MAP k) (8 * i + 6)) ||
      (s.mapEntries k).any (fun p => s.condEntry k p.2 == 0)))

/-! Words. -/

/-- A control store's words: an uncorrectable fetch is counted and logged, and traps or halts (R168, R172, R175). -/
def State.csUncorr (s : State) (d q : Nat) : State :=
  let k := sel d q
  let x := s.seq k
  let s1 := ((s.inc Obj.CS_UNCORR_COUNT k).wrN Obj.CS_UNCORR_ADDR k x.addr).log d 0x02 0 k x.addr
  if bit (s.rd Obj.TRAP_ENABLE k) 7 && !x.inHandler then s1.takeTrap d q 7 false
  else (s1.setBit Obj.SEQ_STATUS k 19).haltSeq d q

/-- A single-bit correction at a microword address; the third within 24 h moves the word to a spare (R173, R176). -/
def State.csCorrect (s : State) (d q addr : Nat) : State :=
  let k := sel d q
  let y := s.store k
  let s1 := s.inc Obj.CS_CORRECTED k
  let fixes := (addr, s.cyc) :: y.fixes.filter (fun f => decide (s.cyc < f.2 + 108000000000000))
  if (fixes.filter (fun f => f.1 == addr)).length < 3 then s1.setStore k { y with fixes := fixes }
  else
    let rest := fixes.filter (fun f => f.1 != addr)
    let n := y.spares.length
    if n < 64 then
      ((s1.setStore k { y with fixes := rest, spares := y.spares ++ [addr] }).wrN Obj.CS_SPARES_USED k (n + 1)).log d 0x01 2 k
        (addr + n * 16384)
    else (s1.setStore k { y with fixes := rest }).log d 0x01 1 k (addr + 2 ^ 20)

/-- The corrections of a fetch: one for each native word whose single bit was corrected (R173). -/
def State.csFetched (s : State) (d q addr : Nat) (e : MwEcc) : State :=
  let s1 := if e.hi = .corrected then s.csCorrect d q addr else s
  if e.lo = .corrected then s1.csCorrect d q addr else s1

/-- An uncorrectable native word in a fetch (R175). -/
def eccLost (e : MwEcc) : Bool := e.hi == .uncorrectable || e.lo == .uncorrectable

/-- Reserved codes of a microword (host errors of the chapter). -/
def mwBad (w : MW) : Bool := decide (0x0F ≤ w.act) || decide (6 ≤ w.cntOp)

/-- The word at SEQ_ADDR begins, in its execution cycle (R133): the breakpoint is checked, the word is fetched, and `f`
goes on with it. `e` is what the check bits of its native words said (R173, R175). -/
def State.beginWord (s : State) (d q : Nat) (e : MwEcc) (f : State → Seq → Out) : Out :=
  let k := sel d q
  let x := s.seq k
  let stop := s.breakHere k
  if stop && !x.inHandler then .next (s.takeTrap d q 6 true)
  else
    let s0 := if stop then s.raiseCause d q 6 else s
    let y := s0.store k
    let s1 := s0.csFetched d q x.addr e
    if eccLost e ∨ 2 * x.addr ∈ y.poison ∨ 2 * x.addr + 1 ∈ y.poison then .next (s1.csUncorr d q)
    else
      let w := s.fetchMw k x.addr
      if mwBad w then hostError
      else f s1 { s1.seq k with mw := w, exec := s.now, last := x.addr, skipBreak := false, waitFault := false }

/-- A counter operation of code `n` on the word that is due (R146, R147). -/
def State.cntRow (s : State) (d q n : Nat) (e : MwEcc) (f : State → Nat → Nat → State) : Out :=
  let k := sel d q
  if !s.wordDue d q then .next s
  else
    s.beginWord d q e (fun t x =>
      if x.mw.cntOp ≠ n then .next s
      else .next (f (t.setSeq k { x with phase := .counted }) k x.mw.cntSel))

/-- The lead of a word (R134, R162). -/
def State.lead (s : State) (d : Nat) (w : MW) : Nat :=
  if w.act = 1 ∨ w.act = 2 ∨ w.act = 3 then 34
  else if w.act = 0x0B then
    let die := w.op 67 65
    34 + 30 * (if s.member.dies ≤ die then 1 else hops s.member.dies d die)
  else 0

/-- A word is late (R134). -/
def State.isLate (s : State) (d : Nat) (x : Seq) : Bool := decide (x.t.toNat < x.exec + s.lead d x.mw)

/-- What a late word reports (R134, R171). -/
def State.reportLate (s : State) (d q : Nat) (resumed : Bool) : State :=
  let k := sel d q
  let x := s.seq k
  if !s.isLate d x then s
  else if x.mw.lateChk then
    (((s.setBit Obj.SEQ_STATUS k 11).inc Obj.LATE_WORDS k).raise d (7 * q + 6)).raiseCause d q 4
  else if resumed then s.setBit Obj.SEQ_STATUS k 11
  else s

/-- s0 (R137). -/
def Seq.s0 (x : Seq) : Nat := max x.exec (x.t.toNat - 38)

/-- D (R137). -/
def Seq.deadline (x : Seq) : Nat := x.t.toNat + x.mw.time

/-- A word in a condition wait whose sample has not been taken (R137). -/
def State.inWait (s : State) (d q : Nat) : Bool :=
  let x := s.seq (sel d q)
  s.seqRuns d q && x.phase == .acted && decide (2 ≤ x.mw.wait) && x.mw.br != 7 && decide (x.s0 ≤ s.now)

/-- A word waits on a mirror marked unreachable (R263): a condition its sample reads is of class SLOT_BIT or SLOT_FRESH on
it. -/
def State.waitsOnLost (s : State) (d q : Nat) : Bool :=
  let k := sel d q
  (s.sampled k (s.seq k).mw).any (fun i =>
    let e := s.condEntry k i
    (entrySource e == 1 || entrySource e == 2) && decide (512 ≤ ebits e 9 0) && (s.slot (sel d (ebits e 9 0))).unreach)

/-- REMOTE_FAULT for a word that waits on a lost mirror, once per wait (R263): in the cycle of the mark, or at s0. -/
def State.lostWait (s : State) (d q : Nat) : State :=
  if s.inWait d q ∧ (s.seq (sel d q)).waitFault = false ∧ s.waitsOnLost d q then
    (s.setSeq (sel d q) { s.seq (sel d q) with waitFault := true }).raiseCause d q 5
  else s

/-- REMOTE_FAULT for messages that were dropped two cycles ago, and for a word that waits on a lost mirror (R25, R168,
R263). -/
def State.seqFaults (s : State) (d q : Nat) : State :=
  let k := sel d q
  let x := s.seq k
  let s1 := if x.faultAt.any (fun c => decide (c ≤ s.cyc)) then
      (s.setSeq k { x with faultAt := x.faultAt.filter (fun c => decide (s.cyc < c)) }).raiseCause d q 5
    else s
  s1.lostWait d q

/-- An action row (R146): the word that is due, or that has done its counter operation, performs action `n`. `f` is the
action; `bad` says that its operand is a host error; `is` tells forms of one code apart. -/
def State.actRow (s : State) (d q n : Nat) (e : MwEcc) (is bad : MW → Bool) (f : State → Seq → State) : Out :=
  let k := sel d q
  let go := fun (t : State) (x : Seq) =>
    if x.mw.act ≠ n ∨ !is x.mw then .next s
    else
      let t1 := f (t.setSeq k { x with phase := .counted, resumed := false }) x
      let t2 := t1.setSeq k { t1.seq k with phase := .acted }
      unlessError (bad x.mw) (((t2.lostWait d q).reportLate d q x.resumed).raiseHeld d q)
  if s.seqRuns d q && (s.seq k).phase == .counted then go s (s.seq k)
  else if s.wordDue d q then
    s.beginWord d q e (fun t x => if x.mw.cntOp ≠ 0 then .next s else go t x)
  else .next s

/-- The device time at which a stamped action of the word takes effect: T, or E + 1 when the word is late (R135). -/
def Seq.actTime (x : Seq) : Nat := if x.t.toNat < x.exec then x.exec + 1 else x.t.toNat

/-- An action put in the stamped-action buffer: by the cycle of its effect, then by its stamp, then in order of execution
(R135, R136; log 56). -/
def insAct (a : Stamped) : List Stamped → List Stamped
  | [] => [a]
  | p :: ps => if a.due < p.due ∨ (a.due = p.due ∧ a.stamp < p.stamp) then a :: p :: ps else p :: insAct a ps

/-- A stamped action of the word that executes (R135, R136). -/
def State.stamp (s : State) (k : Nat) (x : Seq) (a : StampAct) : State :=
  let y := s.seq k
  s.setSeq k { y with buf := insAct ⟨x.actTime, x.t.toNat, a⟩ y.buf }

/-! Waits and branches (R137, R138, R141, R142). -/

/-- The sample cycle of a conditional branch without a condition wait (R138). -/
def Seq.sampleAt (x : Seq) : Nat := max x.exec (x.t.toNat + (if x.mw.wait = 1 then x.mw.time else 0) - 38)

/-- T of the successor of a word without a condition wait (R137). -/
def Seq.plainT (x : Seq) : Time := if x.mw.wait = 1 then x.t + BitVec.ofNat 64 x.mw.time else x.t

/-- The successor is chosen: its address, its T and the cycle in which it is ready (R141, R142). -/
def State.goOn (s : State) (d q addr : Nat) (t : Time) (ready : Nat) : State :=
  let k := sel d q
  let s := s.settle k
  (s.setSeq k { s.seq k with phase := .ready, addr := addr, t := t, ready := ready }).raiseHeld d q

/-- A branch row (R142) of code `n`: `f` gives the successor's address. A word without a condition wait that samples does
so here (R138); one with a condition wait has been sampled when its wait ended. -/
def State.brRow (s : State) (d q n : Nat) (f : State → Seq → Nat × State) : Out :=
  let k := sel d q
  let x := s.seq k
  let w := x.mw
  if !s.seqRuns d q || w.br != n then .next s
  else if 2 ≤ w.wait then
    if x.phase = .sampled then
      let r := f s x
      .next (r.2.goOn d q r.1 x.succT (x.sampleCyc + 4))
    else .next s
  else if x.phase ≠ .acted ∨ s.now < x.exec then .next s
  else if n = 1 ∨ n = 2 ∨ n = 3 then
    if s.now < x.sampleAt then .next s
    else if s.sampleBad k w then hostError
    else
      let s1 := s.sample d q w false
      let r := f s1 (s1.seq k)
      .next (r.2.goOn d q r.1 x.plainT ((s1.seq k).sampleCyc + 4))
  else
    let r := f s x
    .next (r.2.goOn d q r.1 x.plainT (x.exec + 1))

/-! Starting (R165, R166). -/

/-- The freshness captures and the cleared task events of START (R150). -/
def State.captures (s : State) (d q : Nat) : State :=
  let k := sel d q
  let s1 := (List.range 64).foldl (fun t i => t.recapture d q i) s
  let evc := (s.seq k).evc
  (List.range 4).foldl (fun t n => if evc.getLsbD n then t.freeInput d (10 * q + 2 + n) else t)
    (s1.setSeq k { s1.seq k with evc := 0, eaten := none })

/-- A halted or armed sequencer starts at SEQ_START_ADDR with a T (R165). The cycle in which its first word is ready is
not stated (log 1). -/
def State.startSeq (s : State) (d q : Nat) (t : Time) : State :=
  let k := sel d q
  let (n, s1) := s.take
  (s1.setSeq k { s1.seq k with
    run := .running, phase := .ready, addr := s.rdN Obj.SEQ_START_ADDR k % 16384, t := t, ready := s.now + 1 + n, sp := 0,
    frame := {}, inHandler := false, pend := 0, raised := 0, timedOut := false, qfull := false, qfree := false,
    refusedBy := none, skipBreak := false, resumed := false, waitFault := false }).captures d q

/-- T of a START command (R165). -/
def State.startTime (s : State) (k : Nat) : Time :=
  let t := s.rdN Obj.SEQ_START_TIME k
  if t = 0 then s.clock.now + BitVec.ofNat 64 (s.rdN Obj.SEQ_START_OFFSET k) else BitVec.ofNat 64 t

/-- The HALT command (R165). An armed sequencer that returns to halted raises no HALTED (log 57). -/
def State.haltCommand (s : State) (d q : Nat) : State :=
  let k := sel d q
  match (s.seq k).run with
  | .running => s.haltSeq d q
  | .armed => s.setSeq k { s.seq k with run := .halted }
  | .halted => s

/-- The ABORT command (R165): the buffer is emptied and the sequencer's commands leave the queues of its die. -/
def State.abortSeq (s : State) (d q : Nat) : State :=
  let k := sel d q
  let s1 := s.haltCommand d q
  let s2 := s1.setSeq k { s1.seq k with buf := [] }
  (List.range 128).foldl (fun t g =>
    let x := t.gen (sel d g)
    if x.queue.any (fun c => c.die == d && c.seq == q) then
      (t.setGen (sel d g) { x with queue := x.queue.filter (fun c => !(c.die == d && c.seq == q)) }).payOwed d g
    else t) s2

/-- An orderly shutdown reaches a sequencer (R167): it goes to its stop vector, or halts. -/
def State.stopVector (s : State) (d q : Nat) : State :=
  let k := sel d q
  let s := s.settle k
  let v := s.rd Obj.SEQ_STOP_VECTOR k
  if !s.seqRuns d q then s
  else if bit v 15 then
    (s.setSeq k { s.seq k with
      phase := .ready, addr := bits v 13 0, t := BitVec.ofNat 64 (s.now + 64), ready := s.now + 4, sp := 0, frame := {}, pend := 0,
      raised := 0, inHandler := false, skipBreak := false, resumed := false, waitFault := false }).wrN Obj.TRAP_ENABLE k 0
  else s.haltSeq d q

/-! What the objects read. -/

/-- SEQ_STATUS as read (R179). -/
def State.seqStatus (s : State) (k : Nat) : Word :=
  let x := s.seq k
  let d := selDie k
  let q := selUnit k
  s.rd Obj.SEQ_STATUS k ||| word (b2n x.timedOut * 1024 + b2n x.qfree * 512 + b2n x.qfull * 256 + b2n (s.seqStalled d q) * 16 +
    b2n x.inHandler * 8 + b2n (x.run == .running && x.phase == .acted) * 4 + b2n (x.run == .running) * 2 + b2n (x.run == .armed))

/-- SEQ_ADDR as read (R178). -/
def Seq.addrRead (x : Seq) : Nat := if x.run = .running then x.addr else x.last

/-- A word of TRAP_FRAME (R182). -/
def Frame.word (f : Frame) (w : Nat) : Word :=
  if w = 0 then
    Sys2Proof.Machine.word (f.cause * 2 ^ 65 + b2n f.resumable * 2 ^ 64 + b2n f.waiting * 2 ^ 63 + f.addr * 2 ^ 49 + f.wait * 2 ^ 47 +
      f.cond * 2 ^ 41 + f.time * 2 ^ 17 + f.latch * 2 ^ 14 + f.sp * 2 ^ 10)
  else f.t.setWidth 72

end Sys2Proof.Machine
end

