-- ==== Sys2Proof/Machine/SeqRows.lean ====
section
/-!
DEFINITION. The commands of the sequencers (R130–R183): actions, counter operations, branches, waits, starting and
stopping, task inputs and the scrubber.
-/

namespace Sys2Proof.Machine

/-- Every form of an action. -/
def anyForm : MW → Bool := fun _ => true

/-! Counter operations (R147). -/

/-- A counter or reload register, of 24 bits (R145, R178). -/
def State.counter (s : State) (k n : Nat) : Nat := s.rdN (Obj.SEQ_COUNTER_0 + n) k % 16777216

/-- A counter written. -/
def State.setCounter (s : State) (k n v : Nat) : State := s.wrN (Obj.SEQ_COUNTER_0 + n) k (v % 16777216)

/-- CNTOP SEL. -/
def execCntopSel (d q : Nat) (e : MwEcc) (s : State) : Out :=
  s.cntRow d q 1 e (fun t k n => t.setSeq k { t.seq k with latch := n })

/-- CNTOP DEC: a counter at 0 stays 0. -/
def execCntopDec (d q : Nat) (e : MwEcc) (s : State) : Out :=
  s.cntRow d q 2 e (fun t k n => t.setCounter k n (t.counter k n - 1))

/-- CNTOP INC. -/
def execCntopInc (d q : Nat) (e : MwEcc) (s : State) : Out :=
  s.cntRow d q 3 e (fun t k n => t.setCounter k n (t.counter k n + 1))

/-- CNTOP CLR. -/
def execCntopClr (d q : Nat) (e : MwEcc) (s : State) : Out := s.cntRow d q 4 e (fun t k n => t.setCounter k n 0)

/-- CNTOP RELOAD. -/
def execCntopReload (d q : Nat) (e : MwEcc) (s : State) : Out :=
  s.cntRow d q 5 e (fun t k n => t.setCounter k n (t.rdN (Obj.CNT_RELOAD_0 + n) k))

/-! Actions (R152–R164). -/

/-- NOP (R135, R152): its operand is reserved. -/
def execSeqNop (d q : Nat) (e : MwEcc) (s : State) : Out :=
  s.actRow d q 0x00 e anyForm (fun w => w.op 67 0 != 0) (fun t _ => t)

/-- A command for a generator enters its queue on the sequencer's die in the word's execution cycle (R29, R135). -/
def State.command (s : State) (d q g : Nat) (x : Seq) (op : GenOp) : State :=
  ({ s with issued := s.issued + 1 }).enqueue d g { op := op, stamp := x.t, die := d, seq := q, ord := s.issued }

/-- LENGTH of a PLAY, where 0 means 65,536 (R100, R153). -/
def playLength (n : Nat) : Nat := if n = 0 then 65536 else n

/-- PLAY (R153). -/
def execPlay (d q : Nat) (e : MwEcc) (s : State) : Out :=
  s.actRow d q 0x01 e anyForm (fun w => w.op 2 0 != 0) (fun t x =>
    let w := x.mw
    t.command d q (w.op 67 61) x
      (.play (BitVec.ofNat 20 (w.op 60 41)) (playLength (w.op 40 25)) (BitVec.ofNat 16 (w.op 24 9)) (BitVec.ofNat 4 (w.op 8 5))
        (bit w 4) (bit w 3)))

/-- FREQ (R154). -/
def execFreq (d q : Nat) (e : MwEcc) (s : State) : Out :=
  s.actRow d q 0x02 e anyForm (fun w => w.op 12 0 != 0) (fun t x =>
    t.command d q (x.mw.op 67 61) x (.freq (BitVec.ofNat 48 (x.mw.op 60 13))))

/-- PHASE (R154). -/
def execPhase (d q : Nat) (e : MwEcc) (s : State) : Out :=
  s.actRow d q 0x03 e anyForm (fun w => w.op 27 0 != 0) (fun t x =>
    t.command d q (x.mw.op 67 61) x (.phase (BitVec.ofNat 32 (x.mw.op 60 29)) (bit x.mw 28)))

/-- MARK (R155). -/
def execMark (d q : Nat) (e : MwEcc) (s : State) : Out :=
  s.actRow d q 0x04 e anyForm (fun w => w.op 33 0 != 0) (fun t x =>
    t.stamp (sel d q) x (.mark (BitVec.ofNat 32 (x.mw.op 67 36)) (bit x.mw 35) (bit x.mw 34)))

/-- EVENT (R156). -/
def execEvent (d q : Nat) (e : MwEcc) (s : State) : Out :=
  s.actRow d q 0x05 e anyForm (fun w => w.op 65 0 != 0) (fun t x => t.stamp (sel d q) x (.event (x.mw.op 67 66)))

/-- POST (R157). -/
def execSeqPost (d q : Nat) (e : MwEcc) (s : State) : Out :=
  s.actRow d q 0x06 e anyForm (fun w => w.op 49 0 != 0) (fun t x =>
    t.stamp (sel d q) x (.post (x.mw.op 67 58) (BitVec.ofNat 8 (x.mw.op 57 50))))

/-- READ (R135, R158): the window opens at T, or one cycle after a late word. -/
def execRead (d q : Nat) (e : MwEcc) (s : State) : Out :=
  s.actRow d q 0x07 e anyForm (fun w => w.op 42 0 != 0) (fun t x =>
    let k := sel d (x.mw.op 67 61)
    let y := t.demod k
    t.setDemod k { y with reads := y.reads ++ [⟨x.actTime, q, playLength (x.mw.op 60 45), bit x.mw 44, bit x.mw 43⟩] })

/-- What an ACQ operand may not hold (R159). -/
def acqBad (w : MW) : Bool :=
  w.op 41 0 != 0 || w.op 65 64 == 3 ||
    (if w.op 65 64 = 1 then decide (w.op 52 42 < w.op 63 53)
     else w.op 52 42 != 0 || w.op 63 53 / (if w.op 65 64 = 0 then 8 else 16) != 0)

/-- An ACQ word of an operation (R159). -/
def State.acqRow (s : State) (d q op : Nat) (e : MwEcc) : Out :=
  s.actRow d q 0x08 e (fun w => w.op 67 66 == op || w.op 67 66 == 3) (fun w => acqBad w || w.op 67 66 == 3) (fun t x =>
    t.stamp (sel d q) x (.acq (x.mw.op 67 66) (x.mw.op 65 64) (x.mw.op 63 53) (x.mw.op 52 42)))

/-- ACQ ARM. -/
def execAcqArm (d q : Nat) (e : MwEcc) (s : State) : Out := s.acqRow d q 0 e

/-- ACQ FORCE. -/
def execAcqForce (d q : Nat) (e : MwEcc) (s : State) : Out := s.acqRow d q 1 e

/-- ACQ STOP. -/
def execAcqStop (d q : Nat) (e : MwEcc) (s : State) : Out := s.acqRow d q 2 e

/-- A BIAS word of an operation (R160). -/
def State.biasRow (s : State) (d q op : Nat) (e : MwEcc) : Out :=
  s.actRow d q 0x09 e (fun w => w.op 41 40 == op) (fun w => w.op 39 0 != 0) (fun t x =>
    t.stamp (sel d q) x (.bias (x.mw.op 67 62) (BitVec.ofNat 20 (x.mw.op 61 42)) op))

/-- BIAS ENQUEUE. -/
def execBiasActEnqueue (d q : Nat) (e : MwEcc) (s : State) : Out := s.biasRow d q 0 e

/-- BIAS START. -/
def execBiasActStart (d q : Nat) (e : MwEcc) (s : State) : Out := s.biasRow d q 1 e

/-- BIAS STOP. -/
def execBiasActStop (d q : Nat) (e : MwEcc) (s : State) : Out := s.biasRow d q 2 e

/-- BIAS FLUSH. -/
def execBiasActFlush (d q : Nat) (e : MwEcc) (s : State) : Out := s.biasRow d q 3 e

/-- MSG (R161). -/
def execMsg (d q : Nat) (e : MwEcc) (s : State) : Out :=
  s.actRow d q 0x0A e anyForm (fun w => w.op 32 0 != 0) (fun t x =>
    t.stamp (sel d q) x (.msg (x.mw.op 67 65) (BitVec.ofNat 32 (x.mw.op 64 33))))

/-- A command for a generator of another die (R109, R162): it crosses the Gangway; on a route that cannot carry it, or to
a die the member lacks, it is dropped and raises REMOTE_FAULT two cycles later. -/
def State.remote (s : State) (d q die g : Nat) (x : Seq) (op : GenOp) : State :=
  if die = d then s.command d q g x op
  else
    let s0 := { s with issued := s.issued + 1 }
    if s.member.dies ≤ die then (s0.inc Obj.DECISION_DROPPED (sel d 0)).issuerFault d (some q)
    else s0.send d die q (some q) (.remote g { op := op, stamp := x.t, die := d, seq := q, ord := s.issued })

/-- A REMOTE word of a KIND (R162). -/
def State.remoteRow (s : State) (d q kind : Nat) (e : MwEcc) (bad : MW → Bool) (f : MW → GenOp) : Out :=
  s.actRow d q 0x0B e (fun w => w.op 64 63 == kind || w.op 64 63 == 3) (fun w => bad w || w.op 64 63 == 3)
    (fun t x => t.remote d q (x.mw.op 67 65) (x.mw.op 62 56) x (f x.mw))

/-- REMOTE PLAY (R162). -/
def execRemotePlay (d q : Nat) (e : MwEcc) (s : State) : Out :=
  s.remoteRow d q 0 e (fun _ => false) (fun w =>
    .play (BitVec.ofNat 20 (4 * w.op 55 38)) (playLength (w.op 37 22)) (BitVec.ofNat 16 (w.op 21 6)) (BitVec.ofNat 4 (w.op 5 2))
      (bit w 1) (bit w 0))

/-- REMOTE FREQ (R162). -/
def execRemoteFreq (d q : Nat) (e : MwEcc) (s : State) : Out :=
  s.remoteRow d q 1 e (fun w => w.op 7 0 != 0) (fun w => .freq (BitVec.ofNat 48 (w.op 55 8)))

/-- REMOTE PHASE (R162). -/
def execRemotePhase (d q : Nat) (e : MwEcc) (s : State) : Out :=
  s.remoteRow d q 2 e (fun w => w.op 22 0 != 0) (fun w => .phase (BitVec.ofNat 32 (w.op 55 24)) (bit w 23))

/-- CNTLD (R163). -/
def execCntld (d q : Nat) (e : MwEcc) (s : State) : Out :=
  s.actRow d q 0x0C e anyForm (fun w => w.op 39 0 != 0) (fun t x =>
    let n := x.mw.op 67 65
    let v := x.mw.op 64 41
    let t1 := t.setCounter (sel d q) n v
    if bit x.mw 40 then t1.wrN (Obj.CNT_RELOAD_0 + n) (sel d q) v else t1)

/-- What an epoch request may not hold (R54, R120, R212, R535). -/
def epochBad (m : Member) (r : EpochReq) : Bool :=
  (r.mask.toNat >>> m.dies != 0) ||
    (match r.cls with
     | 0 => bits r.setting 31 20 != 0
     | 1 => bits r.setting 31 1 != 0
     | 2 => bits r.setting 31 2 != 0
     | _ => false)

/-- The request of an EPOCH operand (R164). -/
def MW.epochReq (w : MW) : EpochReq :=
  ⟨w.op 67 66, BitVec.ofNat 16 (w.op 65 50), BitVec.ofNat 8 (w.op 49 42), BitVec.ofNat 32 (w.op 31 0)⟩

/-- EPOCH (R164). -/
def execEpoch (d q : Nat) (e : MwEcc) (s : State) : Out :=
  s.actRow d q 0x0D e anyForm (fun w => w.op 41 32 != 0 || epochBad s.member w.epochReq) (fun t x =>
    t.stamp (sel d q) x (.epoch x.mw.epochReq))

/-- The interrupted word resumes (R171): waiting again from the next cycle, or executed in full. What the frame does not
hold of a waiting word, its BR, NEXT and ALT, is read again from the control store (log 57). -/
def State.resumeFrame (s : State) (k : Nat) : State :=
  let x := s.seq k
  let f := x.frame
  let y := { x with latch := f.latch, sp := f.sp, t := f.t, inHandler := false, addr := f.addr, waitFault := f.faulted }
  if f.waiting then
    let w := s.fetchMw k f.addr
    s.setSeq k { y with
      phase := .acted, exec := s.now + 1,
      mw := (w &&& ~~~(0xFFFFFFFF#144 <<< 81)) ||| (BitVec.ofNat 144 (f.time + f.wait * 2 ^ 24 + f.cond * 2 ^ 26) <<< 81) }
  else s.setSeq k { y with phase := .ready, ready := s.now + 1, resumed := true, skipBreak := f.cause == 6 }

/-- TRET (R171, R172): a pending cause is taken in the same cycle, before the resumed word executes. -/
def State.tret (s : State) (d q : Nat) : State :=
  let k := sel d q
  let x := s.seq k
  if !x.inHandler then (s.setBit Obj.SEQ_STATUS k 18).setSeq k { x with phase := .acted }
  else if !x.frame.resumable then (s.setBit Obj.SEQ_STATUS k 19).haltSeq d q
  else
    let s1 := s.resumeFrame k
    let y := s1.seq k
    match topCause y.pend with
    | some c => (s1.setSeq k { y with pend := y.pend &&& ~~~(oneBit 8 c) }).takeTrap d q c true
    | none => s1

/-- TRET (R171). -/
def execTret (d q : Nat) (e : MwEcc) (s : State) : Out :=
  let k := sel d q
  let go := fun (t : State) (x : Seq) =>
    if x.mw.act ≠ 0x0E then .next s
    else
      let t1 := (t.setSeq k { x with phase := .counted, resumed := false }).reportLate d q x.resumed
      unlessError (x.mw.op 67 0 != 0) ((t1.setSeq k { t1.seq k with raised := 0 }).tret d q |> fun u =>
        (List.range 8).reverse.foldl (fun v c => if (t1.seq k).raised.getLsbD c then v.raiseCause d q c else v) u)
  if s.seqRuns d q && (s.seq k).phase == .counted then go s (s.seq k)
  else if s.wordDue d q then
    s.beginWord d q e (fun t x => if x.mw.cntOp ≠ 0 then .next s else go t x)
  else .next s

/-! Branches (R142–R144). -/

/-- BR NEXT. -/
def execBrNext (d q : Nat) (s : State) : Out := s.brRow d q 0 (fun t x => (x.mw.next, t))

/-- BR CONDALT. -/
def execBrCondalt (d q : Nat) (s : State) : Out :=
  s.brRow d q 1 (fun t x => (if x.cond then x.mw.alt else x.mw.next, t))

/-- BR CONDNEXT. -/
def execBrCondnext (d q : Nat) (s : State) : Out :=
  s.brRow d q 2 (fun t x => (if x.cond then x.mw.next else x.mw.alt, t))

/-- An entry of the decision table as the sample's table read sees it (R143, R264). -/
def State.tableEntry (s : State) (k i age : Nat) : Nat :=
  let w := s.dwSeen Obj.DECISION_TABLE k (i / 4) (age + 2)
  bits w (67 - 18 * (i % 4)) (54 - 18 * (i % 4))

/-- BR TABLE. -/
def execBrTable (d q : Nat) (s : State) : Out :=
  s.brRow d q 3 (fun t x => (t.tableEntry (sel d q) x.index (t.now - x.sampleCyc), t))

/-- The eight cells of the return stack. -/
def Seq.cells8 (x : Seq) : List Nat := (x.cells ++ List.replicate 8 0).take 8

/-- BR CALL (R144). -/
def execBrCall (d q : Nat) (s : State) : Out :=
  s.brRow d q 4 (fun t x =>
    let k := sel d q
    if 8 ≤ x.sp then
      (x.mw.alt, (t.setBit Obj.SEQ_STATUS k 13).setSeq k { x with cells := x.cells8.drop 1 ++ [x.mw.next] })
    else (x.mw.alt, t.setSeq k { x with cells := x.cells8.set x.sp x.mw.next, sp := x.sp + 1 }))

/-- BR RETURN (R144). -/
def execBrReturn (d q : Nat) (s : State) : Out :=
  s.brRow d q 5 (fun t x =>
    let k := sel d q
    if x.sp = 0 then (x.mw.next, t.setBit Obj.SEQ_STATUS k 14)
    else (x.cells8.getD (x.sp - 1) 0, t.setSeq k { x with sp := x.sp - 1 }))

/-- BR LOOP (R142). -/
def execBrLoop (d q : Nat) (s : State) : Out :=
  s.brRow d q 6 (fun t x =>
    let k := sel d q
    let v := t.counter k x.latch
    if v = 0 then (x.mw.next, t) else (x.mw.alt, t.setCounter k x.latch (v - 1)))

/-- BR HALT (R142): the word's WAIT is ignored. -/
def execBrHalt (d q : Nat) (s : State) : Out :=
  let x := s.seq (sel d q)
  if s.seqRuns d q && x.phase == .acted && x.mw.br == 7 && decide (x.exec ≤ s.now) then .next (s.haltSeq d q) else .next s

/-! Condition waits (R137). -/

/-- A wait ends in this cycle with T for the successor (R137, R138). -/
def State.endWait (s : State) (d q : Nat) (timedOut : Bool) (t : Nat) : Out :=
  let k := sel d q
  let x := s.seq k
  let s1 := s.sample d q x.mw timedOut
  let y := s1.seq k
  unlessError (s.sampleBad k x.mw)
    (s1.setSeq k { y with succT := BitVec.ofNat 64 t, timedOut := if x.mw.wait = 3 then timedOut else y.timedOut })

/-- SEQ_CONDITION_MET (R137, R139): from s0 on, COND is true. A WAIT 11 word that is past D − 38 at s0 is met with T = D. -/
def execSeqConditionMet (d q : Nat) (s : State) : Out :=
  let x := s.seq (sel d q)
  let met := max x.t.toNat (s.now + 38)
  if !s.inWait d q || !s.condValue d q x.mw.cond then .next s
  else if x.mw.wait = 2 then s.endWait d q false (met + x.mw.time)
  else if s.now ≤ x.deadline - 38 then s.endWait d q false met
  else if s.now = x.s0 then s.endWait d q false x.deadline
  else .next s

/-- SEQ_WAIT_TIMEOUT (R137): a WAIT 11 word has reached D − 38, or its single late sample, without its condition. -/
def execSeqWaitTimeout (d q : Nat) (s : State) : Out :=
  let x := s.seq (sel d q)
  let last := max x.s0 (x.deadline - 38)
  if s.inWait d q && x.mw.wait == 3 && (decide (last < s.now) || (decide (last = s.now) && !s.condValue d q x.mw.cond)) then
    s.endWait d q true x.deadline
  else .next s

/-! Stamped actions (R136). -/

/-- A stamped action takes effect (R135, R155–R164): a mark record carries the time tag of its stamp. -/
def State.perform (s : State) (d q : Nat) (time : Nat) (a : StampAct) : State :=
  let k := sel d q
  match a with
  | .mark tag record signal =>
    let s1 := if record then s.markRecord d q tag time else s
    if signal then s1.raise d (7 * q + 4) else s1
  | .event p => s.raise d (7 * q + p)
  | .post n v => if 256 ≤ n ∧ n < 512 then s.offerPost d (q / 2) s.cyc n v (.seq q) else s.setBit Obj.SEQ_STATUS k 17
  | .acq op kind first last => s.acqAct d op kind first last
  | .bias o code op => s.biasAct d q o code op
  | .msg engine data => s.dspMail d engine q data
  | .epoch r => s.issueEpoch d (some q) r

/-- STAMPED_ACTION_DELIVER (R136): the action at the head of the buffer whose cycle has come is delivered. -/
def execStampedActionDeliver (d q : Nat) (s : State) : Out :=
  let k := sel d q
  let x := s.seq k
  match x.buf with
  | a :: rest =>
    if a.due ≤ s.now ∧ s.domOn d (domSeq q) then .next ((s.setSeq k { x with buf := rest }).perform d q a.stamp a.act)
    else .next s
  | [] => .next s

/-! Commands and task inputs (R165, R166). -/

/-- SEQ_COMMAND START. -/
def execSeqStart (d q : Nat) (s : State) : Out :=
  let k := sel d q
  if (s.seq k).run = .running ∨ !s.domOn d (domSeq q) then .next s
  else unlessError (decide (2 ^ 14 ≤ s.rdN Obj.SEQ_START_ADDR k)) (s.startSeq d q (s.startTime k))

/-- SEQ_COMMAND HALT. -/
def execSeqHalt (d q : Nat) (s : State) : Out := .next (s.haltCommand d q)

/-- SEQ_COMMAND ABORT. -/
def execSeqAbort (d q : Nat) (s : State) : Out := .next (s.abortSeq d q)

/-- SEQ_COMMAND ARM. -/
def execSeqArm (d q : Nat) (s : State) : Out :=
  let k := sel d q
  if (s.seq k).run = .halted ∧ s.domOn d (domSeq q) then .next (s.setSeq k { s.seq k with run := .armed }) else .next s

/-- SEQ_COMMAND DISARM. -/
def execSeqDisarm (d q : Nat) (s : State) : Out :=
  let k := sel d q
  if (s.seq k).run = .armed then .next (s.setSeq k { s.seq k with run := .halted }) else .next s

/-- A sequencer's task inputs are busy while its domain is asleep (R355). -/
def State.seqAsleep (s : State) (d q : Nat) : Bool := !s.domOn d (domSeq q)

/-- START task input (R166): an armed sequencer starts with T = arrival cycle + SEQ_START_OFFSET. -/
def execSeqStartTask (d q : Nat) (s : State) : Out :=
  match s.deliver d (10 * q) (s.seqAsleep d q) with
  | (some _, s1) =>
    if (s1.seq (sel d q)).run = .armed then
      .next (s1.startSeq d q (s1.clock.now + BitVec.ofNat 64 (s1.rdN Obj.SEQ_START_OFFSET (sel d q))))
    else .next s1
  | (none, s1) => .next s1

/-- STOP task input (R166). -/
def execSeqStopTask (d q : Nat) (s : State) : Out :=
  match s.deliver d (10 * q + 1) (s.seqAsleep d q) with
  | (some _, s1) => .next (s1.haltCommand d q)
  | (none, s1) => .next s1

/-- EVC0–EVC3 (R150, R166): one event is held. -/
def execSeqEvcTask (d q n : Nat) (s : State) : Out :=
  if 4 ≤ n then .next s
  else
    let k := sel d q
    match s.deliver d (10 * q + 2 + n) ((s.seq k).evc.getLsbD n || s.seqAsleep d q) with
    | (some _, s1) => .next (s1.setSeq k { s1.seq k with evc := (s1.seq k).evc ||| oneBit 4 n })
    | (none, s1) => .next s1

/-- EVT0–EVT3 (R166, R168): trap cause 0–3 is raised. -/
def execSeqEvtTask (d q n : Nat) (s : State) : Out :=
  if 4 ≤ n then .next s
  else
    match s.deliver d (10 * q + 6 + n) (s.seqAsleep d q) with
    | (some _, s1) => .next (s1.raiseCause d q n)
    | (none, s1) => .next s1

/-! The scrubber (R174). -/

/-- CS_SCRUB (R174): every 512 cycles one native word of a control store is read. -/
def execCsScrub (d q : Nat) (e : Ecc) (s : State) : Out :=
  let k := sel d q
  let y := s.store k
  if s.cyc < y.due ∨ !s.domOn d (domSeq q) then .next s
  else
    let w := y.next
    let s1 := s.setStore k { y with next := (w + 1) % 32768, due := if s.cyc < y.due + 512 then y.due + 512 else s.cyc + 512 }
    match e with
    | .clean => .next s1
    | .corrected => .next (s1.csCorrect d q (w / 2))
    | .uncorrectable =>
      let z := s1.store k
      .next (s1.setStore k { z with poison := if w ∈ z.poison then z.poison else w :: z.poison })

end Sys2Proof.Machine
end

