-- ==== Sys2Proof/Machine/Epochs.lean ====
section
/-!
DEFINITION. Epoch requests, their application, the rail of a die, and REMOTE commands on arrival (R42–R54, R109, R535,
R536).
-/

namespace Sys2Proof.Machine

/-! The rail (R520, R534, R536), in units of 1/25 mV: it moves by one unit per cycle. -/

/-- Rail voltage of a level (R534). -/
def levelRail (pl : Nat) : Nat := if pl = 0 then 21250 else if pl = 1 then 18000 else if pl = 2 then 16250 else 15000

/-- The rail of a die now (R536). -/
def State.railNow (s : State) (d : Nat) : Nat :=
  let x := s.die d
  let t := s.cyc - x.railAt
  if x.railFrom ≤ x.railTo then min (x.railFrom + t) x.railTo else max (x.railFrom - t) x.railTo

/-- The level of the management core (R535). -/
def State.mgmtLevel (s : State) (d : Nat) : Nat :=
  max ((s.appl (applKey 2 (d * 9 + 8))).setting.toNat % 4) (bandCap ((s.appl (applKey 3 (d * 30 + 28))).setting.toNat % 8))

/-- The level in force of unit `u` of a die: 0–7 an engine, 8 the management core. -/
def State.unitLevel (s : State) (d u : Nat) : Nat := if u < 8 then s.dspLevel d u else s.mgmtLevel d

/-- The SETTING that a request selects on a die (R48). -/
def EpochReq.selects (r : EpochReq) (d : Nat) : Bool := r.mask.getLsbD d

/-- The level that a unit is about to apply (R536). -/
def State.nextLevel (s : State) (d u : Nat) : Nat :=
  let k2 := d * 9 + u
  let k3 := d * 30 + 20 + u
  let l := match s.pendingEpoch d 2 k2 with
    | some r => if r.selects d then r.setting.toNat % 4 else (s.appl (applKey 2 k2)).setting.toNat % 4
    | none => (s.appl (applKey 2 k2)).setting.toNat % 4
  let b := match s.pendingEpoch d 3 k3 with
    | some r => r.setting.toNat % 8
    | none => (s.appl (applKey 3 k3)).setting.toNat % 8
  max l (bandCap b)

/-- The voltage that the rail is to carry: that of the fastest level any unit applies or is about to apply (R536). -/
def State.railTarget (s : State) (d : Nat) : Nat :=
  (List.range 9).foldl (fun v u =>
    if u < 8 ∧ sel d u ∈ s.nv.dsps then v
    else max v (max (levelRail (s.unitLevel d u)) (levelRail (s.nextLevel d u)))) 15000

/-- The rail of a die is sent to its target (R536). -/
def State.moveRail (s : State) (d : Nat) : State :=
  let t := s.railTarget d
  let x := s.die d
  if x.railTo = t then s else s.setDie d { x with railFrom := s.railNow d, railAt := s.cyc, railTo := t }

/-! Requests. -/

/-- The request that a word of EPOCH_REQUEST spells (R54). -/
def epochReqOf (v : Word) : EpochReq :=
  ⟨bits v 69 68, BitVec.ofNat 16 (bits v 67 52), BitVec.ofNat 8 (bits v 51 44), BitVec.ofNat 32 (bits v 31 0)⟩

/-- EPOCH_REQUEST (R45, R46, R54): a host write issues a request from die 0. -/
def execEpochRequest (v : Word) (s : State) : Out :=
  let r := epochReqOf v
  unlessError (bits v 71 70 != 0 || bits v 43 32 != 0 || epochBad s.member r) (s.issueEpoch 0 none r)

/-- EPOCH_REQUEST_ARRIVE (R46, R47): a request that has reached another die is checked against its record. -/
def execEpochRequestArrive (d : Nat) (s : State) : Out :=
  match s.arrived d MsgBody.isEpoch with
  | some (m, s1) =>
    match m.body with
    | .epoch r => .next (s1.receiveEpoch d r).2
    | _ => .next s1
  | none => .next s

/-- The die of an entry of an applied-epoch vector (R55). -/
def entryDie (cls entry : Nat) : Nat := entry / (if cls < 2 then 128 else if cls = 2 then 9 else 30)

/-- The unit of an entry on its die (R55). -/
def entryUnit (cls entry : Nat) : Nat := entry % (if cls < 2 then 128 else if cls = 2 then 9 else 30)

/-- A unit of an epoch class is at its boundary (R42, R43). -/
def State.atBoundary (s : State) (cls d u : Nat) : Bool :=
  if (s.die d).s3 then decide (cls ≠ 3 ∨ u ≠ 29)
  else match cls with
    | 0 => !s.domOn d (domOut (u / 8)) || !s.playing d u
    | 1 => s.demodIdle d u
    | 2 => if u < 8 then !s.domOn d (domDsp u) || s.dspAtBoundary d u else true
    | _ =>
      if u < 16 then !s.domOn d (domOut u) || s.outIdle d u
      else if u < 20 then s.cyc % 256 == 0
      else if u < 28 then !s.domOn d (domDsp (u - 20)) || s.dspAtBoundary d (u - 20)
      else true

/-- The level of an engine or management core after it applies a request. -/
def State.levelAfter (s : State) (cls d u : Nat) (r : EpochReq) : Nat :=
  if cls = 2 then
    max (if r.selects d then r.setting.toNat % 4 else (s.appl (applKey 2 (d * 9 + u))).setting.toNat % 4)
      (bandCap ((s.appl (applKey 3 (d * 30 + 20 + u))).setting.toNat % 8))
  else max ((s.appl (applKey 2 (d * 9 + u))).setting.toNat % 4) (bandCap (r.setting.toNat % 8))

/-- A faster level waits until the rail has reached its voltage (R536). -/
def State.railAllows (s : State) (cls d u : Nat) (r : EpochReq) : Bool :=
  let v := if cls = 3 then u - 20 else u
  if cls < 2 ∨ (cls = 3 ∧ (u < 20 ∨ 28 < u)) then true
  else
    let l := s.levelAfter cls d v r
    decide (s.unitLevel d v ≤ l) || decide (levelRail l ≤ s.railNow d)

/-- THERMAL_CYCLES (R561): the applied band has reached B2 or above for the first time since it was B0. -/
def State.countCycle (s : State) (d band : Nat) : State :=
  let x := s.die d
  if band = 0 then s.setDie d { x with cycled := false }
  else if 2 ≤ band ∧ !x.cycled then (s.setDie d { x with cycled := true }).inc Obj.THERMAL_CYCLES (sel d 0)
  else s

/-- What a unit changes when it applies a request's SETTING (R121, R213, R428): the others hold it with the epoch. -/
def State.applySetting (s : State) (cls d u : Nat) (r : EpochReq) : State :=
  match cls with
  | 0 =>
    let k := sel d u
    if s.rdN Obj.GEN_BANK_FOLLOW k % 2 = 1 then s.setGen k { s.gen k with bank := r.setting.setWidth 20 } else s
  | 1 =>
    let k := sel d u
    if bit (s.rd Obj.DEMOD_CONTROL k) 1 then s.setDemod k { s.demod k with kset := r.setting.toNat % 2 } else s
  | 3 =>
    if 16 ≤ u ∧ u < 20 then
      let k := sel d (u - 16)
      s.setLane k { s.lane k with ctle := s.preset k (r.setting.toNat % 8) }
    else if u = 28 then s.countCycle d (r.setting.toNat % 8)
    else s
  | _ => s

/-- EPOCH_APPLY (R48, R49, R51, R536): a unit at its boundary applies the furthest request it has received, and
publishes it. The unit is named by its entry in the class's vector. The management core's application of a band is the
die's (R353). -/
def execEpochApply (cls entry : Nat) (s : State) : Out :=
  let d := entryDie cls entry
  let u := entryUnit cls entry
  if 4 ≤ cls ∨ s.member.dies ≤ d ∨ s.unitRetired cls entry then .next s
  else
    match s.pendingEpoch d cls entry with
    | none => .next s
    | some r =>
      if !s.atBoundary cls d u ∨ !s.railAllows cls d u r then .next s
      else
        let selected := r.selects d
        let s1 := if selected then s.applySetting cls d u r else s
        let s2 := s1.publish cls entry r selected
        let s3 := if cls = 2 ∧ u < 8 then s2.dspRelevel d u (s.dspQ d u)
          else if cls = 3 ∧ 20 ≤ u ∧ u < 28 then s2.dspRelevel d (u - 20) (s.dspQ d (u - 20)) else s2
        .next (if cls = 3 ∧ u = 28 then s3.raise d 383 else s3)

/-- The applied epoch furthest behind among the non-retired units of a class (R53): the requested epoch when none
remains. -/
def State.lowestApplied (s : State) (d cls : Nat) : Epoch :=
  let es := ((s.classUnits d cls).filter (fun p => !s.unitRetired cls p.2)).map (fun p => s.appliedEpoch cls p.2)
  match es with
  | [] => (s.epochRec ((if cls = 3 then d else 0) * 4 + cls)).last
  | e :: rest => rest.foldl (fun a b => if epochAtLeast b a then a else b) e

/-- An entry of an applied-epoch vector (R55). -/
def State.vectorEntry (s : State) (cls k : Nat) : Nat :=
  b2n (s.unitRetired cls k) * 2 ^ 31 + (s.appliedEpoch cls k).toNat

/-- A word of an applied-epoch vector: `base` is the first entry of the object's instance (R55). -/
def State.vectorWord (s : State) (cls base w : Nat) : Word :=
  word (s.vectorEntry cls (base + 2 * w) * 2 ^ 32 + s.vectorEntry cls (base + 2 * w + 1))

/-! REMOTE commands (R32, R109). -/

/-- REMOTE_COMMAND_ARRIVE (R109): a remote command that has reached its die enters its generator's queue or is refused;
one that a step of device time found in flight is discarded (R70). -/
def execRemoteCommandArrive (d : Nat) (s : State) : Out :=
  match s.arrived d MsgBody.isRemote with
  | some (m, s1) =>
    match m.body with
    | .remote g c => .next (if m.doomed then s1 else s1.enqueue d g c)
    | _ => .next s1
  | none => .next s

/-- REMOTE_REFUSAL_RETURN (R32): a refusal, or a later free-entry notice, reaches the sequencer. -/
def execRemoteRefusalReturn (d q : Nat) (s : State) : Out :=
  match s.arrived d (MsgBody.isFor q) with
  | some (m, s1) =>
    match m.body with
    | .refusal _ die g => .next (s1.seqRefused d q die g)
    | .freed _ die g =>
      let k := sel d q
      .next (if (s1.seq k).refusedBy = some (die, g) then s1.setSeq k { s1.seq k with qfree := true } else s1)
    | _ => .next s1
  | none => .next s

end Sys2Proof.Machine
end

