-- ==== Sys2Proof/Machine/Ferry.lean ====
section
/-!
DEFINITION. Ferry ports, their lanes, the link layer and crossings (R424–R461).
-/

namespace Sys2Proof.Machine

/-! Bits in order of sending, and checks (R430, R434). -/

/-- The low `n` bits of a number, most significant first. -/
def msb (v : Nat) : Nat → List Bool
  | 0 => []
  | n + 1 => v.testBit n :: msb v n

/-- A number from bits, most significant first. -/
def ofBits (l : List Bool) : Nat := l.foldl (fun a b => 2 * a + b2n b) 0

/-- A CRC of width `w` with polynomial `poly`, one bit at a time, most significant bit first. -/
def crc (w poly : Nat) (init : Nat) (l : List Bool) : Nat :=
  l.foldl (fun r b => if r.testBit (w - 1) != b then ((2 * r) % 2 ^ w) ^^^ poly else (2 * r) % 2 ^ w) init

/-- The CRC-16 of flits and ordered sets (R430, R432). -/
def crc16 (l : List Bool) : Nat := crc 16 0x1021 0xFFFF l

/-- The CRC6 of a reverse-channel word (R434). -/
def crc6 (l : List Bool) : Nat := crc 6 3 0 l

/-! Flits (R259, R260, R430). -/

/-- A decision message as 32 bits (R260). -/
def decBits32 (m : DecMsg) : Nat :=
  2 ^ 30 + m.die * 2 ^ 27 + m.mirror * 2 ^ 19 + m.value.toNat * 2 ^ 11 + b2n m.valid * 1024 + m.gen.toNat * 8 + m.stag

/-- The 144-bit payload of a flit (R259, R430). -/
def flitPayload : FlitBody → Nat
  | .decision dest src ms =>
    let at_ := fun i : Nat => match ms[i]? with
      | some m => decBits32 m
      | none => 0
    dest * 2 ^ 136 + src * 2 ^ 128 + at_ 0 * 2 ^ 96 + at_ 1 * 2 ^ 64 + at_ 2 * 2 ^ 32 + at_ 3
  | .bulk dest src data => dest * 2 ^ 136 + src * 2 ^ 128 + data.toNat

/-- KIND of a flit (R430). -/
def flitKind : FlitBody → Nat
  | .decision .. => 1
  | .bulk .. => 2

/-- A flit slot: payload and CRC over KIND, sequence number and payload (R430). -/
def flitSlot (kind seq payload : Nat) : BitVec 160 :=
  BitVec.ofNat 160 (payload * 65536 + crc16 (msb kind 2 ++ msb seq 8 ++ msb payload 144))

/-! Lanes and stripes (R433, R436, R440). -/

/-- The Ferry port's domain (R526). -/
def domFerry : Nat := 78

/-- A mask of the lanes with a property. -/
def laneMask (p : Nat → Bool) : BitVec 4 := BitVec.ofNat 4 ((List.range 4).foldl (fun a l => if p l then a + 2 ^ l else a) 0)

/-- RX_GOOD that a port reports: its receive directions that are UP, but for those told to sleep (R433, R440). -/
def State.rxGood (s : State) (d : Nat) : BitVec 4 :=
  laneMask (fun l => (s.lane (sel d l)).rx == .up && !(s.lane (sel d l)).sleepRx)

/-- RX_SLEEP that a port reports: receive directions asleep, told to sleep, or retired (R433, R440, R448). -/
def State.rxSleep (s : State) (d : Nat) : BitVec 4 :=
  laneMask (fun l => let x := s.lane (sel d l); x.rx == .sleep || x.rx == .retired || x.sleepRx)

/-- A transmit direction that sends frames: awake, past FERRYWAKE, not retired (R435, R440, R448). -/
def State.txSends (s : State) (d l : Nat) : Bool :=
  let x := s.lane (sel d l)
  !x.txSleep && x.waking == none && x.rx != .retired

/-- The lanes of the widest power-of-two set, the lowest-numbered ones (R436). -/
def bestStripe (m : BitVec 4) : BitVec 4 :=
  let ls := (List.range 4).filter (fun l => bit m l)
  let n := if 4 ≤ ls.length then 4 else if 2 ≤ ls.length then 2 else ls.length
  laneMask (fun l => (ls.take n).contains l)

/-- The lanes on which a port may place flits: those that a HELLO of its partner reports good and it sends on (R436, R440,
R446). -/
def State.txGood (s : State) (d : Nat) : BitVec 4 := (s.fport d).helloGood &&& laneMask (s.txSends d)

/-- The lowest lane of a stripe. -/
def firstLane (m : BitVec 4) : Nat := ((List.range 4).find? (fun l => bit m l)).getD 4

/-- Decision messages of the flits that wait at a port. -/
def FPort.waitingMsgs (x : FPort) : Nat := x.waiting.foldl (fun n w => n + flitMsgs w.body) 0

/-- A link goes down (R440, R446, R450): messages that wait at it are dropped and counted (R256). -/
def State.linkDown (s : State) (d : Nat) : State :=
  let x := s.fport d
  if !x.up then s
  else
    ({ s.setFport d { x with up := false, waiting := [], bulk := [], turns := [] } with linkChanged := true }).count
      Obj.DECISION_DROPPED (sel d 0) x.waitingMsgs

/-- LINK_DELAY's limit: 40 cycles, in steps (R437). -/
def maxDelay : Nat := 40960

/-- A link comes up when every condition of R437 is met, or TOO_LONG or DUPLICATE_ID is set. -/
def State.tryLink (s : State) (d : Nat) : State :=
  let x := s.fport d
  match x.partner with
  | none => s
  | some (dev, _, _) =>
    if x.up ∨ x.stripe = 0 ∨ x.theirStripe = 0 ∨ x.trips.isEmpty then s
    else if maxDelay < s.rdN Obj.LINK_DELAY (sel d 0) then s.setBit Obj.PORT_STATUS (sel d 0) 11
    else if dev = s.ownDevice then s.setBit Obj.PORT_STATUS (sel d 0) 10
    else { s.setFport d { x with up := true } with linkChanged := true }

/-- A stripe takes a new set of lanes; the reverse channel begins a new word (R434, R436, R446). -/
def State.setStripe (s : State) (d : Nat) (m : BitVec 4) : State :=
  let x := s.fport d
  if x.stripe = m then s
  else
    let s1 := s.setFport d { x with stripe := m, rcLeft := 0 }
    if m = 0 then s1.linkDown d else s1

/-- The stripe narrows when it has lost a lane (R446). -/
def State.narrow (s : State) (d : Nat) : State :=
  let x := s.fport d
  let good := s.txGood d
  if x.stripe &&& ~~~good = 0 then s else s.setStripe d (bestStripe good)

/-- STRIPE_WIDEN (R446): at an ordered-set boundary, a stripe that can grow does. -/
def execStripeWiden (d : Nat) (s : State) : Out :=
  let m := bestStripe (s.txGood d)
  if s.cyc % 256 = 0 ∧ s.domOn d domFerry ∧ width (s.fport d).stripe < width m then .next ((s.setStripe d m).tryLink d) else .next s

/-! What a lane sends (R425–R434). -/

/-- CALL or HELLO (R433). -/
def State.laneSet (s : State) (d l : Nat) : Nat :=
  let m := match s.member with
    | .pw2 => 0
    | .pw4 => 1
    | .pw8 => 2
  s.ownDevice * 2 ^ 112 + m * 2 ^ 110 + d * 2 ^ 107 + l * 2 ^ 105 + (s.rxGood d).toNat * 2 ^ 101 + (s.fport d).stripe.toNat * 2 ^ 97 +
    (s.rxSleep d).toNat * 2 ^ 93

/-- An ordered set with its TYPE and CRC (R432). -/
def orderedSet (type body : Nat) : BitVec 128 :=
  let v := type * 2 ^ 104 + body / 65536
  BitVec.ofNat 128 (v * 65536 + crc16 (msb v 112))

/-- MARKER or PROBE (R433): master, hop count, the boundary's device time, and the latest round trip. -/
def State.markerBody (s : State) (master hops_ : Nat) (trip : Option Nat) : Nat :=
  master * 2 ^ 112 + hops_ * 2 ^ 104 + s.now * 2 ^ 40 + (trip.getD 0xFFFFFF) % 2 ^ 24 * 65536

/-- The ordered set that a lane begins at a boundary (R432): CALL where the partner does not report the lane, the ECHO, the
MARKER or the PROBE that is due on the lowest lane of the stripe, or HELLO. -/
def State.beginSet (s : State) (d l : Nat) : BitVec 128 × State :=
  let x := s.fport d
  let y := s.link d
  if !bit x.good l then (orderedSet 1 (s.laneSet d l), s)
  else if firstLane x.stripe = l then
    match y.echoDue with
    | some (sent, at_) =>
      (orderedSet 4 ((sent / 1024) % 2 ^ 32 * 2 ^ 88 + ((s.cyc - at_) * 1024) % 2 ^ 24 * 2 ^ 64), s.setLink d { y with echoDue := none })
    | none =>
      if y.markerDue then
        let m := y.sent.getD {}
        (orderedSet 3 (s.markerBody m.master m.hops y.trip), s.setLink d { y with markerDue := false })
      else if y.probeDue then (orderedSet 5 (s.markerBody 0xFF 0xFF y.trip), s.setLink d { y with probeDue := false })
      else (orderedSet 2 (s.laneSet d l), s)
  else (orderedSet 2 (s.laneSet d l), s)

/-- The reverse-channel word that is due: LANES, then NAK, then ACK (R434). -/
def State.rcNext (s : State) (d : Nat) : BitVec 16 × State :=
  let x := s.fport d
  let mk := fun (t arg : Nat) => let v := t * 256 + arg; BitVec.ofNat 16 (v * 64 + crc6 (msb v 10))
  if x.rcLanes then (mk 3 (s.rxGood d).toNat, s.setFport d { x with rcLanes := false })
  else if x.rcNak then (mk 2 x.expect.toNat, s.setFport d { x with rcNak := false })
  else if x.rcAck then (mk 1 (x.expect - 1).toNat, s.setFport d { x with rcAck := false })
  else (mk 0 0, s)

/-- The reverse-channel nibble of a lane's frame (R434). -/
def State.rcNibble (s : State) (d l : Nat) : BitVec 4 × State :=
  let x := s.fport d
  if !bit x.stripe l then (0, s)
  else if x.rcLeft = 0 then
    let (w, s1) := s.rcNext d
    (w.extractLsb' 12 4, s1.setFport d { s1.fport d with rcWord := w, rcLeft := 3 })
  else (x.rcWord.extractLsb' (4 * (x.rcLeft - 1)) 4, s.setFport d { x with rcLeft := x.rcLeft - 1 })

/-- The next numbered flit of a port: a replayed flit, a decision flit whose turn has come, a bulk flit (R441, R442). -/
def State.nextFlit (s : State) (d : Nat) : Option Flit × State :=
  let x := s.fport d
  match x.replay with
  | f :: rest =>
    (some f, (s.setFport d { x with
      replay := rest, retry := x.retry.map (fun h => if h.flit.seq = f.seq then { h with sentAt := s.cyc } else h) }).inc
      Obj.FLITS_RETRIED (sel d 0))
  | [] =>
    if !x.up ∨ 255 ≤ x.retry.length then (none, s)
    else
      let send := fun (b : FlitBody) (y : FPort) =>
        let f : Flit := ⟨x.nextSeq, b⟩
        (some f, s.setFport d { y with nextSeq := x.nextSeq + 1, retry := x.retry ++ [⟨f, s.cyc⟩] })
      match takeFirst (fun w : WaitFlit => decide (w.turn ≤ s.cyc + 3)) x.waiting with
      | some (w, rest) => send w.body { x with waiting := rest }
      | none =>
        match x.bulk with
        | b :: rest => send b { x with bulk := rest }
        | [] => (none, s)

/-- The number that a port's next numbered flit will carry (R431). -/
def FPort.upcoming (x : FPort) : Nat :=
  match x.replay with
  | f :: _ => f.seq.toNat
  | [] => x.nextSeq.toNat

/-- The content of one flit slot: kind, sequence number, payload. -/
def State.slotContent (s : State) (d l : Nat) : Nat × Nat × Nat × State :=
  let x := s.fport d
  if !bit x.good l then (3, x.upcoming, 0, s)
  else if !bit x.stripe l then (0, x.upcoming, 0, s)
  else
    match s.nextFlit d with
    | (some f, s1) => (flitKind f.body, f.seq.toNat, flitPayload f.body, s1)
    | (none, s1) => (0, (s1.fport d).nextSeq.toNat, 0, s1)

/-- The self-synchronous scrambler 1 + x^39 + x^58 (R430). -/
def scramble (r : BitVec 58) : List Bool → List Bool × BitVec 58
  | [] => ([], r)
  | b :: bs =>
    let o := b != (bit r 38 != bit r 57)
    let (l, e) := scramble ((r <<< 1) ||| BitVec.ofNat 58 (b2n o)) bs
    (o :: l, e)

/-- The Gray-mapped symbol values of pairs of bits (R425): −3, −1, +1, +3 as 0–3. -/
def grayPairs : List Bool → List Nat
  | a :: b :: rest => (if a then (if b then 2 else 3) else (if b then 1 else 0)) :: grayPairs rest
  | _ => []

/-- The precoder y[n] = (x[n] − y[n − 1]) mod 4 (R426). -/
def precode (y : Nat) : List Nat → List Nat
  | [] => []
  | x :: xs => let z := (x + 4 - y) % 4; z :: precode z xs

/-- The 170 symbols of FERRYWAKE from symbol number `n` on (R440). -/
def wakeSymbols (n : Nat) : List Nat := (List.range 170).map (fun i => if (n + i) % 64 < 32 then 3 else 0)

/-- FRAME_SEND (R425, R426, R429–R434): at a frame's start, a lane that sends builds its frame; the lanes of the stripe
take their flits in lane order, slot A before slot B. -/
def execFrameSend (d l : Nat) (s : State) : Out :=
  let k := sel d l
  let x := s.lane k
  let done : Nat → Bool := fun m => match (s.lane (sel d m)).frame with
    | some f => f.cycle == s.cyc
    | none => false
  if 4 ≤ l ∨ s.cyc % 4 ≠ 0 ∨ !s.domOn d domFerry ∨ x.txSleep ∨ x.rx = .retired ∨ done l then .next s
  else
    match x.waking with
    | some c => .next (s.setLane k { x with symbols := wakeSymbols ((s.cyc - c) / 4 * 170) })
    | none =>
      if bit (s.fport d).stripe l && (List.range l).any (fun m => bit (s.fport d).stripe m && !done m) then .next s
      else
        let (os, s1) := if s.cyc % 256 = 0 then s.beginSet d l else (x.oset, s)
        let (ka, na, pa, s2) := s1.slotContent d l
        let (kb, nb, pb, s3) := s2.slotContent d l
        let (rc, s4) := s3.rcNibble d l
        let numbered := fun k : Nat => k == 1 || k == 2
        let seq := if numbered ka then na else if numbered kb then nb else na
        let fa := flitSlot ka (if numbered ka then na else seq) pa
        let fb := flitSlot kb (if numbered kb then nb else seq) pb
        let i := s.cyc % 256 / 4
        let osb : BitVec 2 := os.extractLsb' (126 - 2 * i) 2
        let head := msb 1 2 ++ msb ka 2 ++ msb kb 2 ++ msb seq 8 ++ msb osb.toNat 2 ++ msb rc.toNat 4
        let (body, r) := scramble x.scrambler (msb fa.toNat 160 ++ msb fb.toNat 160)
        let raw := grayPairs (head ++ body)
        let syms := if bit x.config 29 then precode x.symbol raw else raw
        .next (s4.setLane k { s4.lane k with
          frame := some ⟨s.cyc, BitVec.ofNat 2 ka, BitVec.ofNat 2 kb, BitVec.ofNat 8 seq, osb, rc, fa, fb⟩,
          oset := os, scrambler := r, symbol := syms.getLast?.getD 0, symbols := syms })

/-! What a port receives. -/

/-- A decision message has reached this device at the port of die `d` (R260): it crosses the Gangway to its mirror. -/
def State.arriveMsg (s : State) (d src : Nat) (m : DecMsg) : State :=
  if s.member.dies ≤ m.die then s.inc Obj.DECISION_DROPPED (sel d 0)
  else s.launch s.cyc d m.die (768 + m.mirror) none
    (.update ⟨s.cyc, some src, 0, 0, m.die, 768 + m.mirror, m.stag, ⟨m.value, m.valid, m.gen⟩⟩)

/-- A flit for another device is forwarded from die `d` along the die's route (R260, R451–R453). A bulk flit takes no place
among decision messages (R23) and no modelled time (log 17). -/
def State.forwardFlit (s : State) (d dev : Nat) (b : FlitBody) : State :=
  let r := s.fRoute (d * 256 + dev)
  match b with
  | .decision .. =>
    if r.valid then
      let (c, s1) := s.departs d dev (flitMsgs b)
      s1.launch c d r.egress 0 none (.flit b)
    else s.count Obj.DECISION_DROPPED (sel d 0) (flitMsgs b)
  | .bulk .. =>
    if r.valid && (Sys2Proof.Machine.route s.member.dies d r.egress).all (fun h => s.linkUp h.1 h.2) then
      { s with flight := s.flight ++ [{ due := s.cyc, src := d, dst := r.egress, body := .flit b }] }
    else s

/-- A flit accepted in sequence is delivered or forwarded (R260, R443, R451). Of bulk flits for this device, the rows of
the messages they carry are the effect (log 23). -/
def State.acceptFlit (s : State) (d : Nat) (b : FlitBody) : State :=
  match b with
  | .decision dest src ms => if dest = s.ownDevice then ms.foldl (fun t m => t.arriveMsg d src m) s else s.forwardFlit d dest b
  | .bulk dest _ _ => if dest = s.ownDevice then s else s.forwardFlit d dest b

/-- A receive direction without a lane that is UP is down, and its link with it (R446). -/
def State.rxDown (s : State) (d : Nat) : State :=
  if (List.range 4).any (fun l => (s.lane (sel d l)).rx == .up) then s
  else (s.setFport d { s.fport d with theirStripe := 0 }).linkDown d

/-- A lane's receive direction loses lock (R445, R448): the eighth loss within 10 minutes retires the lane. -/
def State.loseLane (s : State) (d l : Nat) : State :=
  let k := sel d l
  let x := s.lane k
  let losses := s.cyc :: x.losses.filter (fun c => decide (s.cyc < c + 750000000000))
  let s1 := (((s.setLane k { x with rx := .search, losses := losses, precode := false }).inc Obj.LANE_LOSSES k).setBit
    Obj.LANE_STATUS k 14).raiseAcross d 387
  let s2 := (s1.setFport d { s1.fport d with rcLanes := true }).rxDown d
  if 8 ≤ losses.length then
    ((s2.setLane k { s2.lane k with rx := .retired, txSleep := true, waking := none, sleepRx := false }).narrow d).log d 0x09 3 k l
  else s2

/-- The receiver asks for the flit it expects (R443, R444): the sixteenth request for one flit sends every lane back to
SEARCH. -/
def State.sendNak (s : State) (d : Nat) : State :=
  let x := s.fport d
  let s1 := s.setFport d { x with discarding := true, rcNak := true, naks := x.naks + 1 }
  if 16 ≤ x.naks + 1 then
    let lanes := (List.range 4).filter (fun l => let y := s.lane (sel d l); y.rx == .up || y.rx == .locked)
    lanes.foldl (fun t l => t.loseLane d l)
      ((s1.setFport d { s1.fport d with naks := 0 }).setBit Obj.PORT_STATUS (sel d 0) 9)
  else s1

/-- FLIT_RECEIVE (R443, R444): a numbered flit that passes its CRC and has the expected number is accepted; any other is
discarded. A NAK goes out at the first discard of a flit out of sequence and at every flit that fails its CRC. -/
def execFlitReceive (d : Nat) (f : Flit) (ok : Bool) (s : State) : Out :=
  let x := s.fport d
  if !s.domOn d domFerry then .next s
  else if !ok then .next ((s.inc Obj.CRC_ERRORS (sel d 0)).sendNak d)
  else if f.seq ≠ x.expect then .next (if x.discarding then s else s.sendNak d)
  else
    .next ((s.setFport d { x with expect := x.expect + 1, discarding := false, naks := 0, rcNak := false, rcAck := true }).acceptFlit
      d f.body)

/-- What a CALL or a HELLO says of the partner's lanes (R433, R436, R440, R446): the stripe narrows, and transmit directions
sleep and wake with the partner's receivers. One that sends FERRYWAKE goes on until its end (log 67). -/
def State.heardSet (s : State) (d : Nat) (hello : Bool) (b : LaneSet) : State :=
  let x := s.fport d
  let s1 := s.setFport d { x with
    good := b.rxGood, helloGood := if hello then b.rxGood else x.helloGood &&& b.rxGood, theirStripe := b.txStripe, asleep := b.rxSleep }
  let s2 := (List.range 4).foldl (fun t l =>
    let y := t.lane (sel d l)
    if bit b.rxSleep l then (if y.waking.isSome then t else t.setLane (sel d l) { y with txSleep := true })
    else if bit x.asleep l && y.txSleep && y.rx != .retired then
      t.setLane (sel d l) { y with txSleep := false, waking := some t.cyc }
    else t) s1
  let s3 := s2.narrow d
  if b.txStripe = 0 then s3.linkDown d else s3

/-- CALL_ORDERED_SET (R433, R435): a CALL of a partner's lane is received. -/
def execCallOrderedSet (d _l : Nat) (b : LaneSet) (s : State) : Out :=
  if s.domOn d domFerry then .next (s.heardSet d false b) else .next s

/-- HELLO_RECEIVE (R436, R437): a HELLO gives the partner's identity as well. -/
def execHelloReceive (d _l : Nat) (b : LaneSet) (s : State) : Out :=
  if !s.domOn d domFerry then .next s
  else
    let s1 := s.heardSet d true b
    let s2 := s1.setFport d { s1.fport d with partner := some (b.device, b.member, b.port) }
    let s3 := s2.setLink d { s2.link d with partner := some b.device }
    .next (s3.tryLink d)

/-- PROBE_SEND (R432): once every 65,536 cycles, half-way between marker times. -/
def execProbeSend (d : Nat) (s : State) : Out :=
  let x := s.fport d
  let period := match x.probeAt with
    | none => true
    | some c => decide (c + 65536 ≤ s.cyc)
  let half := match s.tattoo.sentAt with
    | none => true
    | some c => (s.cyc - c) % 65536 == 32768
  if period && half && x.stripe != 0 && s.domOn d domFerry then
    .next ((s.setFport d { x with probeAt := some s.cyc }).setLink d { s.link d with probeDue := true })
  else .next s

/-- PROBE_RECEIVE (R432, R433): a PROBE is echoed; `sent` is its SEND_CYCLE in steps. -/
def execProbeReceive (d sent : Nat) (s : State) : Out :=
  if s.domOn d domFerry then .next (s.setLink d { s.link d with echoDue := some (sent, s.cyc) }) else .next s

/-- ECHO_RECEIVE (R73, R90, R433, R437): a round trip has been measured, in steps; LINK_DELAY is half the average. -/
def execEchoReceive (d trip : Nat) (s : State) : Out :=
  if !s.domOn d domFerry then .next s
  else
    let x := s.fport d
    let trips := (trip :: x.trips).take 256
    let old := s.hopTime d
    let delay := (mean (trips.foldl (fun (a : Int) (t : Nat) => a + (t : Int)) 0) (2 * trips.length)).toNat
    let s1 := (s.setFport d { x with trips := trips }).wrN Obj.LINK_DELAY (sel d 0) delay
    let s2 := s1.setLink d { s1.link d with trip := some trip }
    let s3 := if x.up && s2.hopTime d != old then { s2 with linkChanged := true } else s2
    .next (s3.tryLink d)

/-- ACK_RECEIVE (R441, R443): held flits up to the one named are freed. -/
def execAckReceive (d n : Nat) (s : State) : Out :=
  let x := s.fport d
  let covers := x.retry.any (fun h => h.flit.seq.toNat == n % 256)
  let rest := (x.retry.dropWhile (fun h => h.flit.seq.toNat != n % 256)).drop 1
  .next (if covers then s.setFport d { x with retry := rest, replay := x.replay.filter (fun f => rest.any (fun h => h.flit.seq == f.seq)) }
         else s)

/-- A replay from a held flit on (R443). -/
def FPort.replayFrom (x : FPort) (p : HeldFlit → Bool) : FPort :=
  { x with replay := (x.retry.dropWhile (fun h => !p h)).map (·.flit) }

/-- NAK_RECEIVE (R443): the named flit and every later one held are resent before new flits. -/
def execNakReceive (d n : Nat) (s : State) : Out :=
  let x := s.fport d
  .next (if x.retry.any (fun h => h.flit.seq.toNat == n % 256) then
      s.setFport d (x.replayFrom (fun h => h.flit.seq.toNat == n % 256))
    else s)

/-- RI (R444). -/
def State.retryInterval (s : State) (d : Nat) : Nat := 2 * s.hopTime d + 24 + 48 / max 1 (width (s.fport d).stripe)

/-- ACK_TIMEOUT (R444): a held flit that no ACK has covered within RI + 16 cycles is replayed. -/
def execAckTimeout (d : Nat) (s : State) : Out :=
  let x := s.fport d
  let old := fun h : HeldFlit => decide (h.sentAt + s.retryInterval d + 16 < s.cyc)
  if x.replay.isEmpty && x.retry.any old then .next ((s.setFport d (x.replayFrom old)).inc Obj.ACK_TIMEOUTS (sel d 0)) else .next s

/-- LANES_RECEIVE (R434, R446): the partner's RX_GOOD. -/
def execLanesReceive (d : Nat) (mask : BitVec 4) (s : State) : Out :=
  let x := s.fport d
  .next ((s.setFport d { x with good := mask, helloGood := x.helloGood &&& mask }).narrow d)

/-! Lanes (R435, R438–R440, R445–R448). -/

/-- A lane's receiver becomes UP (R435, R447). -/
def State.laneUp (s : State) (d l : Nat) : State :=
  let k := sel d l
  (s.setLane k { s.lane k with rx := .up, known := true, eyeAt := s.cyc }).raiseAcross d 387

/-- LANE_LOCK (R431, R435): a receiver in SEARCH locks. At first power-up qualification is waived; a lane that is skewed
beyond 8 cycles is never qualified. -/
def execLaneLock (d l : Nat) (precode skewed : Bool) (s : State) : Out :=
  let k := sel d l
  let x := s.lane k
  if x.rx ≠ .search ∨ !s.domOn d domFerry ∨ 4 ≤ l ∨ s.scanning then .next s
  else
    let s1 := s.setLane k { x with rx := .locked, precode := precode, cleanFrom := s.cyc, skewed := skewed }
    .next (if skewed then s1.setBit Obj.LANE_STATUS k 13 else if x.known then s1 else s1.laneUp d l)

/-- LANE_LOCK_LOSS (R443, R445): a locked receive direction loses lock; flits lost on it are asked for again. -/
def execLaneLockLoss (d l : Nat) (s : State) : Out :=
  let x := s.lane (sel d l)
  if (x.rx = .up ∨ x.rx = .locked) ∧ s.domOn d domFerry ∧ l < 4 then
    let s1 := s.loseLane d l
    .next (if bit (s.fport d).theirStripe l && !(s1.fport d).discarding then s1.sendNak d else s1)
  else .next s

/-- QUALIFICATION_PASS (R447). -/
def execQualificationPass (d l : Nat) (s : State) : Out :=
  let x := s.lane (sel d l)
  if x.rx = .locked ∧ !x.skewed ∧ x.cleanFrom + 1250000 ≤ s.cyc ∧ s.domOn d domFerry then .next (s.laneUp d l) else .next s

/-- A transmit direction goes to electrical idle and leaves the stripe (R440). -/
def State.txToSleep (s : State) (d l : Nat) : State :=
  let k := sel d l
  (s.setLane k { s.lane k with txSleep := true, waking := none }).narrow d

/-- SLEEP_TX (R440). -/
def execSleepTx (d l : Nat) (s : State) : Out := .next (if l < 4 then s.txToSleep d l else s)

/-- SLEEP_RX (R440): the lane leaves RX_GOOD and is marked in RX_SLEEP. -/
def execSleepRx (d l : Nat) (s : State) : Out :=
  let k := sel d l
  let x := s.lane k
  if 4 ≤ l ∨ x.rx = .sleep ∨ x.rx = .retired then .next s
  else .next ((s.setLane k { x with sleepRx := true }).setFport d { s.fport d with rcLanes := true })

/-- Receivers that were told to sleep do so at the ordered-set boundary after the partner's stripe has left them (R440). -/
def State.laneSleeps (s : State) : State :=
  if s.cyc % 256 ≠ 0 then s
  else
    s.lanes.foldl (fun t p =>
      if p.2.sleepRx && !bit (t.fport (selDie p.1)).theirStripe (selUnit p.1) then
        t.setLane p.1 { t.lane p.1 with rx := .sleep, sleepRx := false, known := true }
      else t) s

/-- A transmit direction wakes and sends FERRYWAKE (R440). -/
def State.txWake (s : State) (d l : Nat) : State :=
  let k := sel d l
  let x := s.lane k
  if x.txSleep ∧ x.rx ≠ .retired then s.setLane k { x with txSleep := false, waking := some s.cyc } else s

/-- WAKE_TX (R440). -/
def execWakeTx (d l : Nat) (s : State) : Out := .next (if l < 4 ∧ s.domOn d domFerry then s.txWake d l else s)

/-- FERRYWAKE_END (R440): after 1,250 cycles the transmitter goes over to FERRYCALL. -/
def execFerrywakeEnd (d l : Nat) (s : State) : Out :=
  let k := sel d l
  match (s.lane k).waking with
  | some c => if c + 1250 ≤ s.cyc then .next (s.setLane k { s.lane k with waking := none }) else .next s
  | none => .next s

/-- EYE_PUBLISH (R438): every 100 ms an UP receiver publishes its eye figures. -/
def execEyePublish (d l : Nat) (height width : BitVec 16) (s : State) : Out :=
  let k := sel d l
  let x := s.lane k
  if x.rx = .up ∧ x.eyeAt + 125000000 ≤ s.cyc then
    .next ((s.setLane k { x with eyeAt := s.cyc }).wrN Obj.EYE_FIGURES k (height.toNat * 65536 + width.toNat % 256))
  else .next s

/-- What the chapter calls a host error in LANE_CONFIG. -/
def laneConfigBad (w : Word) : Bool := bits w 71 30 != 0 || decide (12 < bits w 28 25) || decide (24 < bits w 24 20)

/-- LANE_CONFIG_APPLY (R428, R439): at an ordered-set boundary the written taps, precoder and presets take effect. -/
def execLaneConfigApply (d l : Nat) (s : State) : Out :=
  let k := sel d l
  let w := s.rd Obj.LANE_CONFIG k
  if s.cyc % 256 ≠ 0 ∨ 4 ≤ l ∨ !s.domOn d domFerry then .next s
  else
    let b := (s.appl (applKey 3 (d * 30 + 16 + l))).setting.toNat % 8
    unlessError (laneConfigBad w)
      (s.setLane k { s.lane k with config := w.setWidth 32, ctle := bits w (4 * b + 3) (4 * b) })

/-! Crossings (R449–R456). -/

/-- The port through which a link-state record goes to a device: the egress of a die's route to it, or the port of a link
that joins it and is up (R450, R451). -/
def State.floodPort (s : State) (dev : Nat) : Option Nat :=
  match s.dieList.find? (fun d => (s.fRoute (d * 256 + dev)).valid) with
  | some d => some (s.fRoute (d * 256 + dev)).egress
  | none => s.dieList.find? (fun d => s.portUp d && (match (s.fport d).partner with
    | some (e, _, _) => e == dev
    | none => false))

/-- LINK_STATE_FLOOD (R450): the device's record goes to the whole crossing when a link has changed, and once every second.
The wire form of a Fredom message is not stated: one flit, whose 128 bits are a free value, stands for the record (log 1). -/
def execLinkStateFlood (s : State) : Out :=
  if s.linkChanged ∨ s.floodAt + 1250000000 ≤ s.cyc then
    let send := fun (t : State) (dev : Nat) =>
      match t.floodPort dev with
      | some d =>
        let (v, u) := t.take
        u.enterFlit d (.bulk dev t.ownDevice (BitVec.ofNat 128 v))
      | none => t
    let devs := (List.range 256).filter (· != s.ownDevice)
    .next { devs.foldl send s with linkChanged := false, floodAt := s.cyc }
  else .next s

/-- LINK_STATE_RECORD_RECEIVE (R248, R450): another device's record replaces the one known, and refuses the subscriptions
that wait on a die its member lacks. -/
def execLinkStateRecordReceive (r : LinkStateRec) (s : State) : Out :=
  if r.device = s.ownDevice then .next s
  else
    .next { s with
      devices := s.devices.filter (fun x => x.device != r.device) ++ [r],
      subs := s.subs.map (fun p =>
        if 768 ≤ selUnit p.1 ∧ p.2.st = .pending ∧ s.subDevice p.1 = r.device ∧ r.member.dies ≤ s.subDie p.1 then
          (p.1, { p.2 with st := .refusedSource })
        else p) }

/-- The route of a die to a device renewed (R451–R453): on a change, the first message on the new route waits so that it
cannot overtake the last one on the old. -/
def State.renewRoute (s : State) (d dev : Nat) : State :=
  let key := d * 256 + dev
  let old := s.fRoute key
  let n := s.member.dies
  match s.computeRoute d dev with
  | none => if old.valid then s.setFRoute key { old with valid := false } else s
  | some (egress, hs, cost) =>
    if old.valid ∧ old.egress = egress ∧ old.hops = hs ∧ old.cost = cost then s
    else
      let hOld := old.cost + 30 * hops n d old.egress
      let hNew := cost + 30 * hops n d egress
      let wait := if 0 < old.hops ∧ hNew ≤ hOld then max old.notBefore (old.lastAt + (hOld - hNew + 1)) else old.notBefore
      s.setFRoute key { valid := true, egress := egress, hops := hs, cost := cost, lastAt := old.lastAt, notBefore := wait }

/-- A device that some die of this one has a route to. -/
def State.reachable (s : State) (dev : Nat) : Bool :=
  dev == s.ownDevice || s.dieList.any (fun d => (s.fRoute (d * 256 + dev)).valid)

/-- Every hop of a route is still in the records (R256, R451). -/
def State.routeStands (s : State) (p : List Hop) : Bool :=
  p.all (fun h => s.records.any (fun r => r.device == h.dev &&
    r.links.any (fun l => l.port == h.port && l.partner == h.partner && l.partnerPort == h.partnerPort)))

/-- A subscription to another device after a route update (R256, R257): unreachable, pending again, or on a new route.
One that has never been active waits (R248, R250); one whose route broke and is offered again on another is reinstated
(R452). -/
def State.renewSub (s : State) (k : Nat) : State :=
  let x := s.sub k
  let d := selDie k
  let n := selUnit k
  if n < 768 ∨ x.st = .off then s
  else if !s.reachable (s.subDevice k) then s.markMirror d n
  else
    match x.st with
    | .unreachable =>
      if (s.subRoute d n).isSome then s.setSub k { x with st := .pending, awaited := false } else s
    | .active =>
      match s.subRoute d n with
      | some (h, p) =>
        if x.route = some p then (if x.latency = h then s else s.setSub k { x with latency := h })
        else if s.routeStands (x.route.getD []) then
          (s.setSub k { x with latency := h, route := some p }).setBit Obj.SUB_STATUS k 4
        else s.setSub k { x with st := .pending, awaited := false }
      | none => s
    | _ => s

/-- ROUTE_UPDATE (R451–R454): every route is computed again from the records; devices that can no longer be reached mark
mirrors and start safe ramps, and re-offered ones bring their subscriptions back. -/
def execRouteUpdate (s : State) : Out :=
  let devs := ((s.devices.map (fun x : LinkStateRec => x.device)) ++ s.routes.map (fun p : Nat × _ => p.1 % 256)).eraseDups
  let before := devs.filter s.reachable
  let s1 := devs.foldl (fun t dev => t.dieList.foldl (fun u d => u.renewRoute d dev) t) s
  let s2 := (s1.subs.map Prod.fst).foldl State.renewSub s1
  let s3 := (s2.seqs.map Prod.fst).foldl (fun t k => t.lostWait (selDie k) (selUnit k)) s2
  .next ((before.filter (fun dev => !s3.reachable dev)).foldl State.safeWatch s3)

/-! What the objects read. -/

/-- A word of CROSSING_REACHABLE (R457). -/
def State.reachableWord (s : State) (w : Nat) : Word :=
  word ((List.range 64).foldl (fun a i => if s.reachable (64 * w + i) then a + 2 ^ i else a) 0)

/-- CROSSING_SIZE (R457). -/
def State.crossingSize (s : State) : Nat := ((List.range 256).filter s.reachable).length

/-- An entry of ROUTE_TABLE (R460). -/
def State.routeEntry (s : State) (d dev : Nat) : Nat :=
  if dev = s.ownDevice then 2 ^ 35
  else
    let r := s.fRoute (d * 256 + dev)
    if r.valid then 2 ^ 35 + r.egress * 2 ^ 32 + r.hops * 2 ^ 24 + r.cost else 0

/-- PORT_STATUS as read (R459). -/
def State.portStatus (s : State) (d : Nat) : Word :=
  let x := s.fport d
  let (dev, port) := match x.partner with
    | some (a, _, p) => (a, p)
    | none => (0, 0)
  s.rd Obj.PORT_STATUS (sel d 0) ||| word (dev * 2 ^ 24 + port * 2 ^ 21 + width x.stripe * 65536 + width x.theirStripe * 8192 +
    b2n x.up * 4096)

/-- LANE_STATUS as read (R458). -/
def State.laneStatus (s : State) (k : Nat) : Word :=
  let x := s.lane k
  let p := s.fport (selDie k)
  let l := selUnit k
  let rx := match x.rx with
    | .sleep => 0 | .search => 1 | .locked => 2 | .up => 3 | .retired => 4
  let tx := if x.txSleep then 0 else if bit p.stripe l then 3 else if bit p.good l then 2 else 1
  s.rd Obj.LANE_STATUS k ||| word (x.ctle * 65536 + b2n x.precode * 4096 + rx * 256 + tx * 16)

/-- EYE_FIGURES as read (R438): 0 while the lane is not UP. -/
def State.eyeFigures (s : State) (k : Nat) : Word := if (s.lane k).rx = .up then s.rd Obj.EYE_FIGURES k else 0

end Sys2Proof.Machine
end

