-- ==== Sys2Proof/Machine/Thermometry.lean ====
section
/-!
DEFINITION. Sensor channels of the cryostat thermometry front end (R400–R423). A 24-bit result of a modulator counts
1.25 V / (G × 2^23) (log 22).
-/

namespace Sys2Proof.Machine

/-! The fields of SNS_CONFIG (R421). -/

def snsEvent (c : BitVec 64) : Bool := bit c 41
def snsRest (c : BitVec 64) : Nat := bits c 40 33
def snsBurst (c : BitVec 64) : Nat := bits c 32 25
/-- h in cycles (R404). -/
def snsHalf (c : BitVec 64) : Nat := (bits c 24 19 + 1) * 1250000
/-- SETTLE in cycles (R405). -/
def snsSettle (c : BitVec 64) : Nat := bits c 18 11 * 78125
def snsExc (c : BitVec 64) : Nat := bits c 10 7
def snsCheck (c : BitVec 64) : Nat := bits c 6 3
def snsRef (c : BitVec 64) : Nat := bits c 2 1
def snsAuto (c : BitVec 64) : Bool := bit c 0

/-- What the chapter calls a host error in the configuration that a channel applies. -/
def snsBad (c : BitVec 64) (gain : Nat) : Bool :=
  bits c 63 42 != 0 || decide (14 ≤ snsExc c) || snsRef c == 3 || snsBurst c == 0 || decide (9 ≤ snsCheck c) || decide (8 < gain) ||
    (!snsEvent c && decide (snsHalf c < snsSettle c + 156250))

/-- A channel on a domain that is on. -/
def State.snsOn (s : State) (d c : Nat) : Bool := decide (c < 4) && s.domOn d (domSensor c)

/-- A broken wire is found (R414): the producer is raised once for each spell. -/
def State.wireBreak (s : State) (d c : Nat) (x : Sns) : State × Sns :=
  let s1 := s.setBit Obj.SNS_STATUS (sel d c) 7
  (if x.wireBroken then s1 else s1.raise d (322 + 3 * c + 2), { x with wireBroken := true })

/-- A conversion's window ends (R405, R408, R410, R412): it is void when it was shorter than 125 µs. -/
def State.convEnd (s : State) (d c : Nat) (x : Sns) (m : ConvMeas) : State × Sns :=
  let k := sel d c
  let y : Sns := { x with closed := true }
  if x.closed then (s, x)
  else if s.cyc < x.edgeAt + snsSettle x.config + 156250 then
    ((s.setBit Obj.SNS_STATUS k 8).inc Obj.SNS_VOID_CONV k, { y with voided := true, lastOver := false })
  else
    let s1 := if m.beyond then ((s.setBit Obj.SNS_STATUS k 6).inc Obj.SNS_CONV_OVERRANGE k).raise d (322 + 3 * c + 1) else s
    let (s2, z) := if m.saturated then s1.wireBreak d c y else (s1, y)
    (s2, { z with
      lastOver := m.beyond, beyond := z.beyond || m.beyond, broken := z.broken || m.saturated,
      convs := if m.beyond ∨ m.saturated then z.convs
               else z.convs ++ [⟨x.half % 2 == 0, m.sense.toInt, m.ref.toInt, x.gain⟩] })

/-- A check window ends (R413, R414): beyond ±1.0 V the sensor is broken, within it is intact. -/
def State.checkEnd (s : State) (d c : Nat) (x : Sns) (m : ConvMeas) : State × Sns :=
  let k := sel d c
  let y : Sns := { x with closed := true, checking := false }
  if x.closed then (s, { x with checking := false })
  else if s.cyc < x.edgeAt + snsSettle x.config + 156250 then
    ((s.setBit Obj.SNS_STATUS k 8).inc Obj.SNS_VOID_CONV k, y)
  else if 4 * 2 ^ 23 < 5 * m.sense.toInt.natAbs then s.wireBreak d c y
  else (s, { y with wireBroken := false })

/-- A sum of results in volts, in units of 2^−31 × 1.25 × 10^15 fV (R408). -/
def convSum (f : Conv → Int) (xs : List Conv) : Int := xs.foldl (fun a x => a + f x * 2 ^ (8 - x.gain)) 0

/-- The mean over P less the mean over Q as numerator and denominator, in fV (R408). -/
def convDiff (f : Conv → Int) (xs : List Conv) : Int × Int :=
  let p := xs.filter (·.pos)
  let q := xs.filter (fun x => !x.pos)
  ((convSum f p * q.length - convSum f q * p.length) * 1250000000000000, (p.length : Int) * q.length * 2147483648)

/-- A quotient rounded half up (R409). -/
def halfUp (n d : Int) : Int := (2 * n + d) / (2 * d)

/-- The applied trim of the reference resistor: its field, and the power of two of its unit (R420). -/
def refTrim (x : Sns) : Nat × Nat :=
  match snsRef x.config with
  | 0 => (bits x.trim 71 48, 8)
  | 1 => (bits x.trim 47 24, 4)
  | _ => (bits x.trim 23 0, 0)

/-- EXC_I (R408, R409): where the quotient has no value or does not fit, none is stated (log 1). -/
def excI (x : Sns) : BitVec 64 :=
  let (n, d) := convDiff (·.ref) x.convs
  let (t, e) := refTrim x
  let num := n * 1000 * 2 ^ e
  let v := halfUp num (2 * d * t)
  if t = 0 ∨ v < -9223372036854775808 ∨ 9223372036854775807 < v then Config.excUnstated num t else BitVec.ofInt 64 v

/-- The result of a burst (R408, R422): without a valid conversion of each polarity its two values are not stated
(log 1). -/
def State.burstWords (s : State) (x : Sns) : List Word × State :=
  let np := (x.convs.filter (·.pos)).length
  let nn := (x.convs.filter (fun c => !c.pos)).length
  let valid := decide (0 < np) && decide (0 < nn)
  let mixed := match x.convs with
    | [] => false
    | c :: cs => cs.any (fun e => e.gain != c.gain)
  let (a, s1) := s.take
  let (b, s2) := s1.take
  let (n, d) := convDiff (·.sense) x.convs
  let v : BitVec 64 := if valid then BitVec.ofInt 64 (halfUp n (2 * d)) else BitVec.ofNat 64 a
  let i : BitVec 64 := if valid then excI x else BitVec.ofNat 64 b
  let head : BitVec 24 := BitVec.ofNat 24 (b2n valid * 2 ^ 23 + b2n x.beyond * 2 ^ 22 + b2n x.broken * 2 ^ 21 + b2n x.voided * 2 ^ 20 +
    b2n mixed * 2 ^ 19 + np * 256 + nn)
  let all : BitVec 216 := head ++ v ++ i ++ x.burstTime
  ([all.extractLsb' 144 72, all.extractLsb' 72 72, all.extractLsb' 0 72], if valid then s else s2)

/-- The rest after a burst carries a check window (R413). -/
def Sns.checks (x : Sns) : Bool :=
  let c := snsCheck x.config
  decide (1 ≤ c) && decide (1 ≤ snsRest x.config) && x.bursts % 2 ^ (c - 1) == 0

/-- A stopped channel (R416). -/
def Sns.stop (x : Sns) : Sns :=
  { x with run := false, once := false, stopping := false, exciting := false, resting := false, checking := false, half := 0,
           opened := false, closed := false }

/-- The first edge of a burst (R403, R406): written values apply. -/
def State.burstBegin (s : State) (k : Nat) (x : Sns) : Sns :=
  { x with config := (s.rd Obj.SNS_CONFIG k).setWidth 64, written := false, trim := s.dw Obj.SNS_REF_TRIM k 0, exciting := true, resting := false,
           half := 0, convs := [], beyond := false, broken := false, voided := false, burstTime := s.clock.now, bursts := x.bursts + 1 }

/-- The gain at an edge (R406, R411), and whether AUTO has reduced it. -/
def State.edgeGain (s : State) (k : Nat) (x : Sns) : Nat × Bool :=
  let written := s.rdN Obj.SNS_GAIN k
  if x.lastOver ∧ snsAuto x.config ∧ x.gain - 1 < written then (x.gain - 1, true) else (written, false)

/-- A burst has ended (R408, R414): its result waits 2,500 cycles. -/
def State.burstEnd (s : State) (x : Sns) : Sns × State :=
  let (ws, s1) := s.burstWords x
  let clear := (snsCheck x.config == 0 || snsRest x.config == 0) && !x.broken
  ({ x with results := x.results ++ [(s.cyc + 2500, ws)], exciting := false, wireBroken := x.wireBroken && !clear }, s1)

/-- What follows the half-period that an edge ends (R403, R413, R416). -/
def State.nextHalf (s : State) (k : Nat) (x : Sns) : Sns × State :=
  if x.exciting then
    if x.half + 1 < 2 * snsBurst x.config then ({ x with half := x.half + 1 }, s)
    else
      let (y, s1) := s.burstEnd x
      if x.stopping then (y.stop, s1)
      else if snsRest x.config = 0 then (if x.once then (y.stop, s1) else (s1.burstBegin k y, s1))
      else if x.once ∧ !y.checks then (y.stop, s1)
      else ({ y with resting := true, half := 0, checking := y.checks }, s1)
  else if x.resting then
    if x.once then (x.stop, s)
    else if x.half + 1 < 2 * snsRest x.config then ({ x with half := x.half + 1 }, s)
    else (s.burstBegin k x, s)
  else (s.burstBegin k x, s)

/-- An edge of a running channel (R403–R406, R411): the half-period's conversion or check window ends, gain and
configuration apply, and the next half-period begins. `at_` is the cycle of the edge. -/
def State.snsEdge (s : State) (d c at_ : Nat) (m : ConvMeas) : Out :=
  let k := sel d c
  let x := s.sns k
  let (s1, y) := if x.exciting then s.convEnd d c x m else if x.checking then s.checkEnd d c x m else (s, x)
  let (g, cut) := s1.edgeGain k y
  let (z, s2) := s1.nextHalf k { y with checking := false }
  let s3 := if cut then s2.wrN Obj.SNS_GAIN k g else s2
  unlessError (z.run && snsBad z.config g)
    (s3.setSns k { z with gain := g, gainWritten := false, lastOver := false, edgeAt := at_, opened := false, closed := false })

/-- SENSOR_EDGE (R404): an edge of a TIMER channel falls h after the previous one. -/
def execSensorEdge (d c : Nat) (m : ConvMeas) (s : State) : Out :=
  let x := s.sns (sel d c)
  if s.snsOn d c && x.run && !snsEvent x.config && decide (x.edgeAt + snsHalf x.config ≤ s.cyc) then
    s.snsEdge d c (x.edgeAt + snsHalf x.config) m
  else .next s

/-- SNS_EDGE_TASK (R404): an event is one edge for every running channel with EDGE_SRC EVENT. The task input is busy
while every channel of the die is asleep (R355, log 66). -/
def execSnsEdgeTask (d : Nat) (ms : List ConvMeas) (s : State) : Out :=
  match s.deliver d 253 ((List.range 4).all (fun c => !s.domOn d (domSensor c))) with
  | (none, s1) => .next s1
  | (some _, s1) =>
    (List.range 4).foldl (fun o c => o.andThen (fun t =>
      let x := t.sns (sel d c)
      if t.snsOn d c && x.run && snsEvent x.config then t.snsEdge d c t.cyc (ms.getD c {}) else .next t)) (.next s1)

/-- CONVERSION_WINDOW_OPEN (R405). -/
def execConversionWindowOpen (d c : Nat) (s : State) : Out :=
  let x := s.sns (sel d c)
  if s.snsOn d c && x.run && (x.exciting || x.checking) && !x.opened && decide (x.edgeAt + snsSettle x.config ≤ s.cyc) then
    .next (s.setSns (sel d c) { x with opened := true })
  else .next s

/-- CONVERSION_WINDOW_CLOSE (R405): 64 ms after it opened, without an edge. -/
def execConversionWindowClose (d c : Nat) (m : ConvMeas) (s : State) : Out :=
  let x := s.sns (sel d c)
  if s.snsOn d c && x.run && x.opened && !x.closed && decide (x.edgeAt + snsSettle x.config + 80000000 ≤ s.cyc) then
    let (s1, y) := if x.checking then s.checkEnd d c x m else s.convEnd d c x m
    .next (s1.setSns (sel d c) y)
  else .next s

/-- BURST_RESULT (R408): the result is published, DONE is raised. -/
def execBurstResult (d c : Nat) (s : State) : Out :=
  let k := sel d c
  let x := s.sns k
  match x.results with
  | (due, ws) :: rest =>
    if s.cyc < due ∨ !s.snsOn d c then .next s
    else
      let s1 := (List.range 3).foldl (fun t i => t.setDw Obj.SNS_RESULT k i (ws.getD i 0)) (s.setSns k { x with results := rest })
      .next ((s1.inc Obj.SNS_BURSTS k).raise d (322 + 3 * c))
  | [] => .next s

/-- START and ONESHOT on a stopped channel (R416). -/
def State.snsStart (s : State) (d c : Nat) (once : Bool) : Out :=
  let k := sel d c
  let x := s.sns k
  if x.run ∨ !s.snsOn d c ∨ s.verifying d 3 c then .next s
  else
    let config : BitVec 64 := (s.rd Obj.SNS_CONFIG k).setWidth 64
    let y : Sns := { x.stop with run := true, once := once, config := config, written := false, trim := s.dw Obj.SNS_REF_TRIM k 0, bursts := 0 }
    let s1 := s.setSns k { y with lastOver := false }
    if snsEvent config then unlessError (snsBad config (s.rdN Obj.SNS_GAIN k)) s1 else s1.snsEdge d c s.cyc {}

/-- SNS_START (R416). -/
def execSnsStart (d c : Nat) (s : State) : Out := s.snsStart d c false

/-- SNS_ONESHOT (R416). -/
def execSnsOneshot (d c : Nat) (s : State) : Out := s.snsStart d c true

/-- SNS_STOP (R416). -/
def execSnsStop (d c : Nat) (s : State) : Out :=
  let x := s.sns (sel d c)
  if !x.run then .next s
  else if x.exciting then .next (s.setSns (sel d c) { x with stopping := true })
  else .next (s.setSns (sel d c) x.stop)

/-- A channel stops at once (R416, R417). -/
def State.snsAbort (s : State) (k : Nat) : State := s.setSns k (s.sns k).stop

/-- SNS_ABORT (R416). -/
def execSnsAbort (d c : Nat) (s : State) : Out := .next (s.snsAbort (sel d c))

/-- SNS_STATUS as read (R422). -/
def State.snsStatus (s : State) (k : Nat) : Word :=
  let x := s.sns k
  let gain := if x.checking then 0 else x.gain
  s.rd Obj.SNS_STATUS k ||| word (gain * 1024 + b2n (x.gainWritten || (x.run && x.written)) * 512 + b2n x.wireBroken * 32 + b2n x.checking * 16 +
    b2n x.resting * 8 + b2n x.exciting * 4 + b2n x.run * 2 + b2n (s.domKept (selDie k) (domSensor (selUnit k))))

end Sys2Proof.Machine
end

