-- ==== Sys2Proof/Machine/Notify.lean ====
section
/-!
DEFINITION. Notifications (R370, R490), the HOST_NOTIFY consumer, and the delivery of remembered events (R362).
-/

namespace Sys2Proof.Machine

/-- A notification item queued for a session (R490): a queue holds 256 items; an item that finds no room is lost and
counted; the next item after a loss is preceded by a LOST item. -/
def State.queueItem (s : State) (ses : Nat) (it : Item) : State :=
  let x := s.session ses
  let lostItem : Item := ⟨5, 0, it.tag, word x.lost, s.cyc⟩
  let new := if x.lost = 0 then [it] else [lostItem, it]
  if x.items.length + new.length ≤ 256 then
    s.setSession ses { x with items := x.items ++ new, lost := 0 }
  else (s.setSession ses { x with lost := x.lost + 1 }).inc Obj.NOTIFY_LOST ses

/-- An item for every session that subscribes to its kind (R487, R490). -/
def State.notify (s : State) (kind d : Nat) (data : Word) : State :=
  s.sessions.foldl (fun t p =>
    if p.2.live && bit p.2.notify kind then t.queueItem p.1 ⟨kind, d, timeTag s.now 0, data, s.cyc⟩ else t) s

/-- The thermal notification of a die (R490): band, warning, shutdown. -/
def State.notifyThermal (s : State) (d : Nat) (shutdown : Bool) : State :=
  let x := s.die d
  s.notify 2 d (word (x.band + b2n x.warning * 8 + b2n shutdown * 16))

/-- HOST_NOTIFY_TASK (R355, R370): an event becomes an item for the owner of channel 255, and the task input is busy until
it has been handed to the egress; without an owner the event is discarded and counted. -/
def execHostNotifyTask (d : Nat) (s : State) : Out :=
  let k := sel d 255
  match s.deliver d 255 (s.die d).notifyBusy with
  | (some e, s1) =>
    match (s1.chan k).owner with
    | some o =>
      let s2 := s1.queueItem o ⟨0, d, timeTag s.now 0, word (e.cands.toNat % 16), s.cyc⟩
      .next (if (s2.session o).lost = 0 then s2.setDie d { s2.die d with notifyBusy := true } else s2)
    | none => .next ((s1.wr Obj.CHAN_EVENTS k (s.rd Obj.CHAN_EVENTS k)).inc Obj.CHAN_DROPPED k)
  | (none, s1) => .next s1

/-- What a task input does with an event that is due there (R355): the meaning of the consumer's own row. -/
def taskOf (d c : Nat) (s : State) : Out :=
  if c < 160 then
    let q := c / 10
    match c % 10 with
    | 0 => execSeqStartTask d q s
    | 1 => execSeqStopTask d q s
    | 2 => execSeqEvcTask d q 0 s
    | 3 => execSeqEvcTask d q 1 s
    | 4 => execSeqEvcTask d q 2 s
    | 5 => execSeqEvcTask d q 3 s
    | j => execSeqEvtTask d q (j - 6) s
  else if c < 224 then execDspEventInput d ((c - 160) / 8) ((c - 160) % 8) s
  else if c < 240 then execMajForceTask d (c - 224) s
  else if c = 240 then execRawStartTask d s
  else if c < 253 then
    let g := (c - 241) / 3
    match (c - 241) % 3 with
    | 0 => execBiasStartTask d g s
    | 1 => execBiasStopTask d g s
    | _ => execBiasFlushTask d g s
  else if c = 253 then execSnsEdgeTask d [] s
  else if c = 254 then execAlertTask d s
  else if c = 255 then execHostNotifyTask d s
  else execDspEventInput d ((c - 512) / 16) (c % 16) s

/-- REMEMBERED_EVENT_DELIVER (R362): an event remembered at a task input takes effect in the first cycle in which the
input is not busy, as an event that arrives there does. -/
def execRememberedEventDeliver (d c : Nat) (s : State) : Out :=
  if (s.chan (sel d c)).kept = none then .next s else taskOf d c s

end Sys2Proof.Machine
end

