-- ==== Sys2Proof/Machine/Power.lean ====
section
/-!
DEFINITION. Power domains, sleep and wake, and what a domain keeps and loses (R526–R533, R393, R418, R233).
-/

namespace Sys2Proof.Machine

/-! What a domain holds. -/

/-- Entries of a table whose key has a property are dropped; a dropped entry reads the default. -/
def dropKeys {α : Type} (p : Nat → Bool) (t : Tab α) : Tab α := t.filter (fun q => !p q.1)

/-- Instances of objects dropped, so that they read their defaults. -/
def dropObjs {α : Type} (p : Nat → Nat → Bool) (t : Tab (Tab α)) : Tab (Tab α) :=
  (t.map (fun q => (q.1, dropKeys (p q.1) q.2))).filter (fun q => !q.2.isEmpty)

/-- Objects kept in the nonvolatile store (R469, R557, R558): network configuration, secret, lifetime counters, fault log,
spares used, retirement figures. -/
def nvObject (id : Nat) : Bool :=
  let index := id / 256
  index == 0x1200 || index == 0x1210 || index == 0x2300 || index == 0x2301 || id == Obj.FAULT_LOG || id == Obj.FAULT_LOG_TOTAL ||
    id == Obj.COMMISSIONED || id == Obj.COMMISSION_SECRET || id == Obj.CS_SPARES_USED || id == Obj.SPUR_AT_RETIRE

/-- Memories, which no domain retains (R528). -/
def isMemory (id : Nat) : Bool :=
  id == Obj.ENV_DATA || id == Obj.CS_DATA || id == Obj.WEIGHT_DATA || id == Obj.DSP_PROGRAM || id == Obj.DSP_DATA ||
    id == Obj.DSP_REGS

/-- A retention register (R528). -/
def retained (r : ObjRow) : Bool := (r.acc == .rw || r.acc == .rwb) && !isMemory r.id

/-- The domain of unit `u` of an object's scope (R507, R526). Domains 82 and 83 stand for the two of an Ethernet port. -/
def objDomain (r : ObjRow) (u : Nat) : Nat :=
  match r.scope with
  | 1 =>
    let index := r.id / 256
    if index = 0x3200 then domEnv
    else if index = 0x3720 then domWeights
    else if index = 0x3D20 then 32
    else if index = 0x3D30 then 33
    else if index = 0x2200 then 4
    else if index < 0x3000 then 2
    else 3
  | 2 => 83
  | 3 => domFerry
  | 4 => domFerry
  | 6 => domOut u
  | 7 => domOut (u / 8)
  | 8 => domIn u
  | 9 => if r.id = Obj.WEIGHT_DATA then domWeights else domIn (u / 16)
  | 10 => domSeq u
  | 11 => 3
  | 12 => 3
  | 13 => domDsp u
  | 14 => domIn (u / 256)
  | 15 => 32
  | 16 => 3
  | 17 => domBias u
  | 18 => domSensor u
  | _ => 2

/-- An instance that a domain loses: all but what the store keeps and, with `keep`, the retention registers (R528). -/
def lost (d n : Nat) (keep : Bool) (id k : Nat) : Bool :=
  match Obj.find id with
  | some r => r.scope != 0 && r.scope != 5 && selDie k == d && objDomain r (selUnit k) == n && !nvObject id && !(keep && retained r)
  | none => false

/-- The units of a domain lose what they hold beside their objects. With `keep` they keep what R233, R362, R393, R528 and
R533 say survives a power-gated domain; without it the unit is as after a reset that clears its state. -/
def State.clearUnits (s : State) (d n : Nat) (keep : Bool) : State :=
  if n = 3 then
    let s1 : State := { s with
      slots := dropKeys (fun k => selDie k == d) s.slots,
      ports := dropKeys (fun k => k / 16 == d) s.ports,
      fires := s.fires.filter (fun f => f.die != d),
      marks := s.marks.filter (fun m => m.2.1 != d),
      forwards := s.forwards.filter (fun f => f.srcDie != d || (keep && f.dev != none)) }
    if keep then
      { s1 with
        chans := s1.chans.map (fun p => if selDie p.1 = d then (p.1, { p.2 with events := [] }) else p),
        subs := s1.subs.map (fun p =>
          if selDie p.1 = d ∧ (p.2.st = .active ∨ p.2.st = .unreachable ∨ p.2.st = .pending) then (p.1, { p.2 with st := .pending, awaited := false }) else p) }
    else
      { s1 with chans := dropKeys (fun k => selDie k == d) s1.chans, subs := dropKeys (fun k => selDie k == d) s1.subs }
  else if n = 4 then
    let x := s.die d
    s.setDie d { x with
      sensors := if keep then x.sensors.map (fun y : Sensor => { broken := y.broken }) else [], band := 0, warning := false,
      beyond := false }
  else if 6 ≤ n ∧ n < 22 then
    let o := n - 6
    let s1 : State := { s with outs := dropKeys (fun k => k == sel d o) s.outs }
    (gensOf o).foldl (fun t g =>
      let x := t.gen (sel d g)
      t.setGen (sel d g) (if keep then { freq := x.freq, pofs := x.pofs, bank := x.bank } else {})) s1
  else if 23 ≤ n ∧ n < 31 then
    let i := n - 23
    let k := sel d i
    let x := s.rfIn k
    let rot := if keep then { x.rot with begun := false, done := 0, figuresAt := s.cyc } else ({} : Rotation)
    let s1 : State := { s with
      demods := (s.demods.map (fun p =>
        if selDie p.1 = d ∧ selUnit p.1 / 16 = i then (p.1, if keep then { kset := p.2.kset } else {}) else p)).filter
          (fun p => p.2 != {}),
      tones := dropKeys (fun t => selDie t == d && selUnit t / 256 == i) s.tones }
    s1.setRfIn k (if keep then { mode := x.mode, range := x.range, rot := rot, wire := { waiting := x.wire.waiting, ended := x.wire.ended } }
      else {})
  else if n = 32 then
    { s with majs := dropKeys (fun k => selDie k == d) s.majs, acqs := put {} s.acqs d { raw := (s.acq d).raw } }
  else if n = 33 then s.setAcq d { s.acq d with raw := {} }
  else if 34 ≤ n ∧ n < 50 then
    let k := sel d (n - 34)
    { s with seqs := put {} s.seqs k {}, stores := put {} s.stores k { spares := (s.store k).spares } }
  else if 50 ≤ n ∧ n < 58 then s.setDsp (sel d (n - 50)) {}
  else if 58 ≤ n ∧ n < 74 then
    let own := fun k => selDie k == d && selUnit k / 4 == n - 58
    { s with biases := dropKeys own s.biases, biasTurns := dropKeys own s.biasTurns }
  else if 74 ≤ n ∧ n < 78 then s.setSns (sel d (n - 74)) {}
  else if n = domFerry then
    let s1 := s.linkDown d
    { s1 with
      lanes := (s1.lanes.map (fun p => if selDie p.1 = d then (p.1, if keep then { known := p.2.known, rx := if p.2.rx = .retired then .retired else .sleep } else {}) else p)).filter
        (fun p => p.2 != {}),
      fports := put {} s1.fports d {},
      links := put {} s1.links d {} }
  else s

/-- A domain loses its contents (R528): objects, memories and units. -/
def State.clearDom (s : State) (d n : Nat) (keep : Bool) : State :=
  let s1 := s.clearUnits d n keep
  { s1 with regs := dropObjs (lost d n keep) s1.regs, doms := dropObjs (lost d n keep) s1.doms }

/-- State of a domain set. -/
def State.setPower (s : State) (d n : Nat) (st : PState) : State := s.setDom (d * 128 + n) { s.dom (d * 128 + n) with st := st }

/-- The domains of a die (R526). -/
def allDomains : List Nat := List.range 82

/-- A die's Ferry port is powered: its receivers search and its transmitters send FERRYCALL (R435), under the presets of
the band that each lane has applied (R43, R428). A retired lane stays as it is (R448). -/
def State.portOn (s : State) (d : Nat) : State :=
  (List.range 4).foldl (fun t l =>
    let x := t.lane (sel d l)
    if x.rx = .retired then t
    else t.setLane (sel d l) { x with rx := .search, txSleep := false, ctle := t.bandPreset d l }) s

/-- The transmit directions of a die that has woken send FERRYWAKE first (R440). -/
def State.portWakes (s : State) (d : Nat) : State :=
  (List.range 4).foldl (fun t l =>
    let x := t.lane (sel d l)
    if x.txSleep then t else t.setLane (sel d l) { x with waking := some t.cyc }) s

/-- Task inputs of a domain's unit stop being busy when its wake completes (R362). -/
def State.freeInputs (s : State) (d n : Nat) : State :=
  if 34 ≤ n ∧ n < 50 then (List.range 10).foldl (fun t j => t.freeInput d (10 * (n - 34) + j)) s
  else if 50 ≤ n ∧ n < 58 then
    let k := n - 50
    (List.range 8).foldl (fun t j => (t.freeInput d (160 + 8 * k + j)).freeInput d (512 + 16 * k + 8 + j)) s
  else if 58 ≤ n ∧ n < 74 then
    let g := (n - 58) / 4
    if (List.range 4).all (fun i => 4 * g + i + 58 == n || !s.domOn d (58 + 4 * g + i)) then
      (List.range 3).foldl (fun t j => t.freeInput d (241 + 3 * g + j)) s
    else s
  else if 74 ≤ n ∧ n < 78 then
    if (List.range 4).all (fun i => 74 + i == n || !s.domOn d (74 + i)) then s.freeInput d 253 else s
  else s

/-- What a unit drives and applies as its domain comes up (R393, R528, R537). -/
def State.unitsUp (s : State) (d n : Nat) : State :=
  if n = 4 then s.setDie d { s.die d with hkEnd := s.cyc + 1280000 }
  else if 6 ≤ n ∧ n < 22 then
    let k := sel d (n - 6)
    s.setOut k { s.out k with
      mode := s.rdN Obj.OUT_MODE k, current := s.rdN Obj.FS_CURRENT k, headroom := s.rdN Obj.HEADROOM k,
      firLong := s.rdN Obj.FIR_LONG k != 0, written := false, dly := s.dlyTarget d (n - 6) }
  else if 23 ≤ n ∧ n < 31 then
    let k := sel d (n - 23)
    s.setRfIn k { s.rfIn k with mode := s.rdN Obj.INPUT_MODE k, range := s.rdN Obj.INPUT_RANGE k, written := none }
  else if 58 ≤ n ∧ n < 74 then (List.range 4).foldl (fun t i => t.biasPowerOn (sel d (4 * (n - 58) + i))) s
  else if n = domFerry then s.portOn d
  else s

/-- A domain that comes up from S1, from S2 or from power-off (R528, R533). -/
def State.bringUp (s : State) (d n : Nat) : State :=
  let s1 := match s.domSt d n with
    | .s0 => s
    | .s1 =>
      if 23 ≤ n ∧ n < 31 then
        let k := sel d (n - 23)
        s.setRfIn k { s.rfIn k with rot := { (s.rfIn k).rot with begun := false } }
      else s
    | _ => (s.clearDom d n true).unitsUp d n
  (s1.setPower d n .s0).freeInputs d n

/-! Sleep (R528–R532). -/

/-- The domain of a unit that TARGET and SELECTOR name (R603). -/
def targetDomain (target u : Nat) : Nat :=
  match target with
  | 1 => domEnv
  | 2 => domWeights
  | 3 => domOut u
  | 4 => domIn u
  | 5 => domSeq u
  | 6 => domDsp u
  | 7 => domBias u
  | _ => domSensor u

/-- Units of a TARGET on a die (R603). -/
def targetCount (target : Nat) : Nat :=
  match target with
  | 0 => 1
  | 1 => 1
  | 2 => 1
  | 3 => 16
  | 4 => 8
  | 5 => 16
  | 6 => 8
  | 7 => 64
  | 8 => 4
  | _ => 0

/-- A SLEEP_REQUEST that the chapter calls a host error: a TARGET that does not fit its STATE, or a SELECTOR that names no
unit (R552, R603). -/
def State.sleepBad (s : State) (want target k : Nat) : Bool :=
  (target != 0 && decide (3 ≤ want)) || (target == 0 && (want == 1 || want == 2)) || decide (9 ≤ target) ||
    (want != 4 && (decide (s.member.dies ≤ selDie k) || decide (targetCount target ≤ selUnit k)))

/-- The TARGET and selector of a unit of a domain that does not accept S1 (want 1), S2 or S3 now (R393, R418, R529). -/
def State.refuser (s : State) (want d n : Nat) : Option (Nat × Nat) :=
  let silent := fun g : Nat => !(s.gen (sel d g)).playing s.cyc && !(s.gen (sel d g)).holding s.cyc
  if !s.domKept d n then none
  else if 6 ≤ n ∧ n < 22 then
    if (gensOf (n - 6)).all (fun g => silent g && (s.gen (sel d g)).queue.isEmpty) then none else some (3, sel d (n - 6))
  else if n = domEnv then if (List.range 128).all silent then none else some (1, sel d 0)
  else if 23 ≤ n ∧ n < 31 then
    if s.windowOpen d (n - 23) || s.wireRuns (sel d (n - 23)) then some (4, sel d (n - 23)) else none
  else if n = domWeights then if (List.range 8).any (s.windowOpen d) then some (2, sel d 0) else none
  else if 34 ≤ n ∧ n < 50 then if (s.seq (sel d (n - 34))).run = .halted then none else some (5, sel d (n - 34))
  else if 50 ≤ n ∧ n < 58 then if (s.dsp (sel d (n - 50))).run then some (6, sel d (n - 50)) else none
  else if 58 ≤ n ∧ n < 74 then
    match (List.range 4).find? (fun i => decide (2 ≤ want) && !s.biasMaySleep (sel d (4 * (n - 58) + i))) with
    | some i => some (7, sel d (4 * (n - 58) + i))
    | none => none
  else if 74 ≤ n ∧ n < 78 then if (s.sns (sel d (n - 74))).run then some (8, sel d (n - 74)) else none
  else none

/-- The earlier of two units in order of TARGET and then of selector (R532). -/
def firstUnit (a b : Nat × Nat) : Nat × Nat := if decide ([b.1, b.2] < [a.1, a.2]) then b else a

/-- SLEEP_RESULT published (R550). -/
def State.sleepResult (s : State) (result target unit : Nat) : State :=
  { s with sleep := { s.sleep with result := result, target := target, unit := unit } }

/-- The domains of a die or of the device that a request names (R528, R530). -/
def State.sleepDomains (s : State) (want target k : Nat) : List (Nat × Nat) :=
  if want = 4 then
    s.dieList.flatMap (fun d => (allDomains.filter (fun n => if d = 0 then decide (4 ≤ n) else n != 0)).map (fun n => (d, n)))
  else if want = 3 then (allDomains.filter (· != 0)).map (fun n => (selDie k, n))
  else [(selDie k, targetDomain target (selUnit k))]

/-- The device has shut down, and no wake cause brings it back (R545). -/
def State.isShut (s : State) : Bool := s.shut.st == .shutdown || s.shut.st == .ready

/-- A SLEEP_REQUEST for S1, S2, S3 or STANDBY (R530–R532, R550): entry begins, unless a request is pending, the device has
shut down, or S3 is asked of die 0. -/
def State.sleepRequest (s : State) (want : Nat) (v : Word) : Out :=
  let target := bits v 67 64
  let k := bits v 63 48
  if s.sleepBad want target k then hostError
  else if s.sleep.result = 1 ∨ s.isShut then .next s
  else if want = 3 ∧ selDie k = 0 then .next (s.sleepResult 3 0 0)
  else
    let unit := if want = 4 then 0 else k
    let e : SleepEntry := ⟨want, target, unit, s.sleepDomains want target k, 1, s.cyc, false,
      if bit v 68 then some (BitVec.ofNat 48 (bits v 47 0)) else none⟩
    let s1 := s.sleepResult 1 target unit
    .next { s1 with sleep := { s1.sleep with entry := some e } }

/-- SLEEP_S1 (R528, R531). -/
def execSleepS1 (v : Word) (s : State) : Out := s.sleepRequest 1 v

/-- SLEEP_S2 (R528, R531). -/
def execSleepS2 (v : Word) (s : State) : Out := s.sleepRequest 2 v

/-- SLEEP_S3 (R530). -/
def execSleepS3 (v : Word) (s : State) : Out := s.sleepRequest 3 v

/-- SLEEP_STANDBY (R530). -/
def execSleepStandby (v : Word) (s : State) : Out := s.sleepRequest 4 v

/-- A domain is clock-gated or power-gated (R528, R529): an input's tones stop, its windows are
abandoned, and a running wire check is cancelled (R203, R235, R318). -/
def State.gate (s : State) (d n : Nat) (dst : PState) : State :=
  let st := s.domSt d n
  if st = .off ∨ st = dst then s
  else
    let s1 := if 23 ≤ n ∧ n < 31 then (s.stopTones d (n - 23)).abandonWindows d (n - 23) else s
    let s2 := if dst = .s1 ∨ st = .s2 then s1 else s1.clearDom d n true
    let s3 := if 23 ≤ n ∧ n < 31 ∧ s.wireRuns (sel d (n - 23)) then s2.wireVerdict (sel d (n - 23)) 5 else s2
    if st = .s2 ∧ dst = .s1 then s else s3.setPower d n dst

/-- Every Gangway link of a die stops carrying traffic (R25, R530, R582). -/
def State.linksDown (s : State) (d : Nat) : State :=
  (List.range (linkCount s.member.dies)).foldl (fun t l => t.stopLink d l) s

/-- The Gangway links of a die are retrained: those that have not failed, to dies that are up, carry traffic (R533, R574). -/
def State.linksUp (s : State) (d : Nat) : State :=
  let n := s.member.dies
  (List.range (linkCount n)).foldl (fun t l =>
    let a := d * 4 + l
    let e := farDie n d l
    let b := e * 4 + farLink n l
    let ok := !(t.glink a).failed && !(t.glink b).failed && (t.die e).trained && !(t.die e).s3
    if ok then (t.setGlink a { t.glink a with up := true }).setGlink b { t.glink b with up := true } else t) s

/-- Subscriptions within the device whose route is offered again become PENDING (R257). -/
def State.renewLocal (s : State) : State :=
  { s with subs := s.subs.map (fun p =>
      if p.2.st = .unreachable ∧ selUnit p.1 < 768 ∧ (s.subRoute (selDie p.1) (selUnit p.1)).isSome then
        (p.1, { p.2 with st := .pending, awaited := false })
      else p) }

/-- A die enters S3 (R530). -/
def State.toS3 (s : State) (d : Nat) : State :=
  let s1 := s.linksDown d
  let s2 := (allDomains.filter (· != 0)).foldl (fun t n => (t.gate d n .s2).setPower d n .off) s1
  (s2.setDie d { s2.die d with s3 := true }).setEth d {}

/-- An entry that has passed its last point (R531). -/
def State.asleep (s : State) (e : SleepEntry) : State :=
  let s0 := s.sleepResult 2 e.target e.selector
  let s1 : State := { s0 with sleep := { s0.sleep with entry := none } }
  match e.want with
  | 1 => e.domains.foldl (fun t p => t.gate p.1 p.2 .s1) s1
  | 2 => e.domains.foldl (fun t p => t.gate p.1 p.2 .s2) s1
  | 3 => s1.toS3 (selDie e.selector)
  | _ =>
    let stood := s1.dieList.filter (fun d => d != 0 && !(s1.die d).s3)
    let s2 := stood.foldl State.toS3 (s1.linksDown 0)
    let s3 := (allDomains.filter (4 ≤ ·)).foldl (fun t n => (t.gate 0 n .s2).setPower 0 n .off) s2
    { s3 with sleep := { s3.sleep with standby := true, stood := stood } }

/-- The timed wakes without that of an abandoned entry, if it has been accepted (R531, R550). -/
def SleepEntry.untimed (e : SleepEntry) (ts : List TimedWake) : List TimedWake :=
  match e.timed with
  | some t => if e.point = 1 then ts else (ts.reverse.eraseP (fun w => w.at48 == t && w.target == e.target && w.selector == e.selector)).reverse
  | none => ts

/-- SLEEP_ENTRY_POINT (R531, R532): the entry in progress passes its next abort point. Acceptance is checked at A1; a wake
cause that has arrived ends the entry, ABANDONED; the last point completes it, DONE. -/
def execSleepEntryPoint (s : State) : Out :=
  match s.sleep.entry with
  | none => .next s
  | some e =>
    if s.cyc < e.due then .next s
    else if e.woken then
      let s1 := s.sleepResult 4 e.target e.selector
      .next { s1 with sleep := { s1.sleep with entry := none, timers := e.untimed s1.sleep.timers } }
    else
      match e.point with
      | 1 =>
        match e.domains.filterMap (fun p => s.refuser e.want p.1 p.2) with
        | r :: rs =>
          let u := rs.foldl firstUnit r
          let s1 := s.sleepResult 3 u.1 u.2
          .next { s1 with sleep := { s1.sleep with entry := none } }
        | [] =>
          let timers := match e.timed with
            | some t => s.sleep.timers ++ [⟨t, s.clock.now, e.target, e.selector⟩]
            | none => s.sleep.timers
          .next { s with sleep := { s.sleep with entry := some { e with point := 2, due := s.cyc + 64 }, timers := timers } }
      | 2 => .next { s with sleep := { s.sleep with entry := some { e with point := 3, due := s.cyc + 16 } } }
      | 3 =>
        if e.want = 1 then .next (s.asleep e)
        else .next { s with sleep := { s.sleep with entry := some { e with point := 4, due := s.cyc + 1250 } } }
      | _ => .next (s.asleep e)

/-! Wake (R533). -/

/-- The wake time of a domain (R533). -/
def wakeTime (st : PState) (n : Nat) : Nat :=
  if st = .s1 then 64
  else if 6 ≤ n ∧ n < 22 then 250000
  else if (23 ≤ n ∧ n < 31) ∨ (58 ≤ n ∧ n < 74) then 125000
  else if 74 ≤ n ∧ n < 78 then 1250000
  else 12500

/-- A wake begins, to be published with a RESULT when it completes (0 publishes nothing). What wakes already goes on, and
completes DONE where a request has asked for it. -/
def State.beginWake (s : State) (target k time result : Nat) : State :=
  let isIt := fun w : WakeJob => w.target == target && w.selector == k
  if s.sleep.wakes.any isIt then
    { s with sleep := { s.sleep with wakes := s.sleep.wakes.map (fun w =>
        if isIt w then { w with result := if result = 0 ∨ w.result = 2 then w.result else result } else w) } }
  else { s with sleep := { s.sleep with wakes := s.sleep.wakes ++ [⟨target, k, s.cyc + time, result⟩] } }

/-- A die wakes from S3 (R533). -/
def State.wakeDie (s : State) (d result : Nat) : State :=
  if (s.die d).s3 then s.beginWake 0 (sel d 0) 12500000 result else s

/-- Device Standby ends: every die that it put in S3 wakes, and the domains of die 0 come up (R533). -/
def State.endStandby (s : State) (result : Nat) : State :=
  if s.sleep.standby ∧ !s.isShut then
    let s1 := s.beginWake 0 0 12500000 result
    s.sleep.stood.foldl (fun t d => t.wakeDie d 0) s1
  else s

/-- The entry in progress, if it is one that `p` picks, is to end at its next abort point (R531). -/
def State.wakeEntry (s : State) (p : SleepEntry → Bool) : State :=
  { s with sleep := { s.sleep with entry := s.sleep.entry.map (fun e : SleepEntry => if p e then { e with woken := true } else e) } }

/-- A wake cause for what a TARGET and selector name (R531, R533): an entry in progress is to end, or what sleeps wakes. -/
def State.wakeCause (s : State) (target k result : Nat) : State :=
  let ends := match s.sleep.entry with
    | some e => e.target == target && e.selector == k
    | none => false
  if ends then s.wakeEntry (fun _ => true)
  else if s.isShut then s
  else if target = 0 then
    if selDie k = 0 then s.endStandby result else s.wakeDie (selDie k) result
  else
    let d := selDie k
    let n := targetDomain target (selUnit k)
    if s.domOn d n ∨ (s.die d).s3 then s else s.beginWake target k (wakeTime (s.domSt d n) n) result

/-- SLEEP_S0 (R533): the named unit or die wakes; one already in S0 completes DONE at once. Die 0, named in Device Standby,
comes up from it alone (log 39). -/
def execSleepS0 (v : Word) (s : State) : Out :=
  let target := bits v 67 64
  let k := bits v 63 48
  let d := selDie k
  if s.sleepBad 0 target k then hostError
  else if s.sleep.result = 1 ∨ s.isShut then .next s
  else if target = 0 then
    if (s.die d).s3 then .next ((s.sleepResult 1 0 k).wakeDie d 2)
    else if d = 0 ∧ s.sleep.standby then .next ((s.sleepResult 1 0 k).beginWake 0 0 12500000 2)
    else .next (s.sleepResult 2 0 k)
  else
    let n := targetDomain target (selUnit k)
    if (s.die d).s3 then .next (s.sleepResult 3 target k)
    else if s.domOn d n then .next (s.sleepResult 2 target k)
    else .next ((s.sleepResult 1 target k).beginWake target k (wakeTime (s.domSt d n) n) 2)

/-- The memory-timing unit of a die that wakes from S3 comes up under the latest band epoch requested (R43). -/
def State.bandRefresh (s : State) (d : Nat) : State :=
  match s.pendingEpoch d 3 (d * 30 + 29) with
  | some r => s.publish 3 (d * 30 + 29) r (r.mask.getLsbD d)
  | none => s

/-- The entries that a die has kept through S3 for mirrors of other devices send a resync (R251, R271). -/
def State.resyncOut (s : State) (d : Nat) : State :=
  (s.forwards.filter (fun f => f.srcDie == d && f.dev != none)).foldl State.forwardView s

/-- A die comes back from S3 (R43, R257, R262, R533): its units come up as from S2, its links are retrained. -/
def State.dieUp (s : State) (d : Nat) : State :=
  let s1 := s.setDie d { s.die d with s3 := false }
  let s2 := (allDomains.filter (· != 0)).foldl (fun t n => t.bringUp d n) s1
  ((((s2.portWakes d).linksUp d).renewLocal).bandRefresh d).resyncOut d

/-- WAKE_COMPLETE (R528, R533, R362): a wake whose time has passed completes; the unit is in S0 under its latest applied
epochs, and its task inputs stop being busy. -/
def execWakeComplete (target selector : Nat) (s : State) : Out :=
  let isIt := fun w : WakeJob => w.target == target && w.selector == selector && decide (w.due ≤ s.cyc)
  match takeFirst isIt s.sleep.wakes with
  | none => .next s
  | some (w, rest) =>
    let s1 : State := { s with sleep := { s.sleep with wakes := rest } }
    let s2 :=
      if target = 0 then
        if selDie selector = 0 then
          let s3 := ((allDomains.filter (4 ≤ ·)).foldl (fun t n => t.bringUp 0 n) s1).portWakes 0
          ({ s3 with sleep := { s3.sleep with standby := false, stood := [] } }.linksUp 0).renewLocal
        else s1.dieUp (selDie selector)
      else s1.bringUp (selDie selector) (targetDomain target (selUnit selector))
    .next (if w.result = 0 ∨ (w.result = 5 ∧ s.sleep.result = 1) then s2 else s2.sleepResult w.result target selector)

/-- The first device time after acceptance at which a timed wake is due (R550). -/
def TimedWake.time (t : TimedWake) : Nat :=
  let from1 := t.from_.toNat + 1
  from1 + (t.at48.toNat + 2 ^ 48 - from1 % 2 ^ 48) % 2 ^ 48

/-- TIMED_WAKE (R70, R533, R550): the unit or die of a request whose WAKE_AT has come, or has been skipped by a step of
device time, wakes. One that is awake already keeps running. -/
def execTimedWake (s : State) : Out :=
  match takeFirst (fun t : TimedWake => decide (t.time ≤ s.now)) s.sleep.timers with
  | none => .next s
  | some (t, rest) => .next ({ s with sleep := { s.sleep with timers := rest } }.wakeCause t.target t.selector 5)

/-- ETHERNET_ACTIVITY_WAKE (R531, R533): receive activity on a port ends Device Standby, or its entry. -/
def execEthernetActivityWake (port : Nat) (s : State) : Out :=
  if 2 ≤ port then .next s else .next ((s.wakeEntry (fun e => e.want == 4)).endStandby 0)

/-- Landing WAKE (R493, R531, R533): the dies in the mask wake, or end their entry into S3; Standby ends when every die in S3
is named. -/
def State.wakeMask (s0 : State) (mask : Nat) : State :=
  let s := s0.wakeEntry (fun e => e.want == 3 && mask.testBit (selDie e.selector))
  let asleep := s.dieList.filter (fun d => (s.die d).s3)
  let s1 := if s.sleep.standby ∧ asleep.all (fun d => mask.testBit d) then s.endStandby 0 else s
  if s.isShut then s else asleep.foldl (fun t d => if mask.testBit d then t.wakeDie d 0 else t) s1

/-- FERRY_WAKE_SIGNAL (R440, R531, R533): signal or FERRYWAKE at a sleeping receiver wakes the lane, and, when FERRY_WAKE
is 1, its die from S3 or from its entry into S3. -/
def execFerryWakeSignal (d l : Nat) (s : State) : Out :=
  let k := sel d l
  let wakes := s.rdN Obj.FERRY_WAKE (sel d 0) % 2 == 1
  if (s.die d).s3 then .next (if wakes && !s.isShut then s.wakeDie d 0 else s)
  else if l < 4 ∧ s.domOn d domFerry ∧ (s.lane k).rx = .sleep then
    .next ((s.setLane k { s.lane k with rx := .search, sleepRx := false }).wakeEntry
      (fun e => wakes && e.domains.contains (d, 1)))
  else .next s

/-! What the objects read (R549, R550). -/

/-- SLEEP_RESULT. -/
def State.sleepResultWord (s : State) : Word := word (s.sleep.result * 2 ^ 29 + s.sleep.target * 65536 + s.sleep.unit)

/-- A domain's code in SLEEP_MAP. -/
def PState.code : PState → Nat
  | .s0 => 0
  | .s1 => 1
  | .s2 => 2
  | .off => 3

/-- SLEEP_MAP: word `w` holds domains 36w to 36w + 35. -/
def State.sleepMap (s : State) (d w : Nat) : Word :=
  word ((List.range 36).foldl (fun a j => a * 4 + (if 36 * w + j < 82 then (s.domSt d (36 * w + j)).code else 0)) 0)

end Sys2Proof.Machine
end

