-- ==== Sys2Proof/Machine/Sessions.lean ====
section
/-!
DEFINITION. Sessions: what a session holds elsewhere, and its closing (R348, R371, R481).
-/

namespace Sys2Proof.Machine

/-- A record is freed when it has been handed to every session whose subscription covered it (R348). -/
def Rec.freed (r : Rec) (now : Nat) : Bool := r.covered && r.owed.isEmpty && r.complete now

/-- A session is owed no record of a die any more; records that waited for it only are freed (R348, R481). -/
def State.forgetRecords (s : State) (ses d : Nat) : State :=
  let x := s.acq d
  let recs := (x.recs.map (fun r => { r with owed := r.owed.filter (· != ses) })).filter (fun r => !r.freed s.cyc)
  (s.setAcq d { x with recs := recs }).acqResume d

/-- HOST_NOTIFY's task inputs are free again once their items have left a notification queue (R362, R370, R481). -/
def State.freeNotify (s : State) (items : List Item) : State :=
  items.foldl (fun t i => if i.kind = 0 then (t.setDie i.die { t.die i.die with notifyBusy := false }).freeInput i.die 255 else t) s

/-- A session closes (R481): its subscriptions end, records that wait only for it are freed, its Bell channels lose their
owner, its notification queue is emptied. -/
def State.closeSession (s : State) (ses : Nat) : State :=
  if !(s.session ses).live then s
  else
    let s1 : State := { s with
      recSubs := put [] s.recSubs ses [],
      chans := (s.chans.map (fun p => if p.2.owner = some ses then (p.1, { p.2 with owner := none }) else p)).filter
        (fun p => p.2 != {}) }
    let s2 := s1.dieList.foldl (fun t d => t.forgetRecords ses d) s1
    let s3 := (s2.setSession ses {}).freeNotify (s.session ses).items
    { s3 with regs := dropObjs (fun id k => k == ses && (id == Obj.SESSION_WEIGHT || id == Obj.NOTIFY_LOST || id == Obj.STREAM_FRAMES)) s3.regs }

/-- Every session that a port or the device holds closes (R481, R580, R581). -/
def State.closeSessions (s : State) (p : Session → Bool) : State :=
  (s.sessions.filter (fun q => q.2.live && p q.2)).foldl (fun t q => t.closeSession q.1) s

/-- Sessions that are open (R475). -/
def State.openSessions (s : State) : Nat := (s.sessions.filter (fun q => q.2.live)).length

/-- SESSION_TIMEOUT (R481): a session idle for SESSION_TIMEOUT seconds is closed. -/
def execSessionTimeout (ses : Nat) (s : State) : Out :=
  let x := s.session ses
  if x.live ∧ x.lastAt + s.rdN Obj.SESSION_TIMEOUT 0 * 1250000000 ≤ s.cyc then .next (s.closeSession ses) else .next s

/-- SESSION_CLOSE (R481): an administrative session's write of 1 closes the named session. -/
def execSessionClose (ses : Nat) (s : State) : Out := .next (s.closeSession ses)

end Sys2Proof.Machine
end

