-- ==== Sys2Proof/Machine/Faults.lean ====
section
/-!
DEFINITION. The fault log, lifetime counters, factory trims, retirement and verify (R553–R571).
-/

namespace Sys2Proof.Machine

/-! The fault log (R562–R564). -/

/-- The order in which entries are written: as they were found, and those of one cycle by die, CLASS and UNIT (R562). -/
def LogEntry.before (a b : LogEntry) : Bool := decide ([a.at_, a.die, a.cls, a.unit] < [b.at_, b.die, b.cls, b.unit])

/-- An entry with its SEQ, as a number of 144 bits (R564). -/
def LogEntry.value (e : LogEntry) (seq : Nat) : Nat :=
  seq % 2 ^ 32 * 2 ^ 112 + e.cls * 2 ^ 104 + e.action * 2 ^ 100 + e.die * 2 ^ 97 + e.unit * 2 ^ 80 + e.detail.toNat * 2 ^ 48 +
    e.powerOn.toNat * 2 ^ 16 + e.cycles.toNat

/-- An entry written to the store (R562): entry SEQ lies at position SEQ mod 4,096; subscribers are notified. -/
def State.storeEntry (s : State) (e : LogEntry) : State :=
  let seq := s.rdN Obj.FAULT_LOG_TOTAL 0
  let p := seq % 4096
  let v := e.value seq
  let s1 := (s.setDw Obj.FAULT_LOG 0 (2 * p) (word (v / 2 ^ 72))).setDw Obj.FAULT_LOG 0 (2 * p + 1) (word v)
  (s1.inc Obj.FAULT_LOG_TOTAL 0).notify 1 e.die (word p)

/-- The first of the entries that wait (R562). -/
def State.nextEntry (s : State) : Option LogEntry :=
  (s.dieList.flatMap (fun d => (s.die d).logs)).foldl
    (fun a e => match a with
      | none => some e
      | some b => if e.before b then some e else some b) none

/-- Fredom writes the first waiting entry; a queue that has room again records what it lost (R563). -/
def State.writeEntry (s : State) : State :=
  match s.nextEntry with
  | none => s
  | some e =>
    let x := s.die e.die
    let s1 := s.setDie e.die { x with logs := x.logs.erase e }
    let s2 := s1.storeEntry e
    if x.logsLost = 0 then s2
    else (s2.setDie e.die { s2.die e.die with logsLost := 0 }).log e.die 0x11 0 0 x.logsLost

/-- FAULT_LOG_WRITE (R563): Fredom writes a waiting entry. -/
def execFaultLogWrite (s : State) : Out := .next (if (s.die 0).booted then s.writeEntry else s)

/-- Every waiting entry written, as before a power-off (R545). -/
def State.flushLog (s : State) : Nat → State
  | 0 => s
  | n + 1 => (s.writeEntry).flushLog n

/-- Entries that wait on all dies, with the records of losses. -/
def State.waitingEntries (s : State) : Nat := s.dieList.foldl (fun n d => n + (s.die d).logs.length + 1) 0

/-! Lifetime counters (R561). -/

/-- Lifetime objects (R561). -/
def lifeObject (id : Nat) : Bool := id / 256 == 0x2300 || id / 256 == 0x2301

/-- The counters written to the store. Those of a die whose management core restarts are skipped (R580). -/
def State.lifetimeWrite (s : State) : State :=
  let skip := fun k : Nat => !(s.die (selDie k)).booted && !(s.die (selDie k)).s3
  let new : Tab (Tab Word) := (s.regs.filter (fun p => lifeObject p.1)).map (fun p =>
    (p.1, ((look [] s.nv.lifetime p.1).filter (fun q => skip q.1)).foldl (fun t q => put 0 t q.1 q.2)
      (p.2.filter (fun q => !skip q.1))))
  { s with nv := { s.nv with lifetime := new, lifeAt := s.cyc } }

/-- LIFETIME_WRITE (R561): every 60 s of powered time Fredom writes the lifetime counters. -/
def execLifetimeWrite (s : State) : Out :=
  if (s.die 0).booted ∧ s.nv.lifeAt + 75000000000 ≤ s.cyc then .next s.lifetimeWrite else .next s

/-! Trims (R565–R567). -/

/-- Objects that hold volatile trim registers as DOMAIN words (R565, R567). -/
def trimObjects : List Nat := [Obj.OUT_TRIM, Obj.IN_TRIM, Obj.BIAS_TRIM, Obj.DIE_TRIM, Obj.SNS_REF_TRIM]

/-- CTLE_MAP of every lane that differs from its factory trim: the trims that LANE_CONFIG holds (R458, R565). -/
def State.ctleTrims (s : State) : Tab Word :=
  (look [] s.regs Obj.LANE_CONFIG).map (fun p => (p.1, p.2 &&& 0xFFFFF))

/-- A trim command's busy time: SAVE takes up to 200 ms (R566). -/
def State.trimBusy (s : State) : Bool := s.nv.busy.isSome

/-- The volatile trims of a scope replaced by the saved or the factory set (R565, R566). -/
def State.reloadTrims (s : State) (saved : Bool) (inScope : Nat → Bool) : State :=
  let from_ := fun id : Nat => if saved then look [] s.nv.saved id else []
  let merged := fun id : Nat =>
    ((from_ id).filter (fun q => inScope q.1)).foldl (fun t q => put [] t q.1 q.2)
      ((look [] s.doms id).filter (fun q => !inScope q.1))
  let s1 : State := { s with doms := trimObjects.foldl (fun t id => put [] t id (merged id)) s.doms }
  let lanes := (List.range s.member.dies).flatMap (fun d => (List.range 4).map (fun l => sel d l))
  lanes.foldl (fun t k =>
    if inScope k then
      let w := t.rd Obj.LANE_CONFIG k
      let c : Word := if saved then look (objDefault Obj.LANE_CONFIG k &&& 0xFFFFF) (look [] s.nv.savedRegs Obj.LANE_CONFIG) k
        else objDefault Obj.LANE_CONFIG k &&& 0xFFFFF
      t.wr Obj.LANE_CONFIG k ((w &&& ~~~(0xFFFFF : Word)) ||| c)
    else t) s1

/-- Loaded slice corrections enter their slices as written ones do, and loaded reference trims wait for the burst boundaries of
running channels (R222, R406, R566). -/
def State.trimsLoaded (s : State) (saved : Bool) : State :=
  let units := fun n : Nat => s.dieList.flatMap (fun d => (List.range n).map (fun u => sel d u))
  let s0 := (units 8).foldl State.keepCorrections s
  let s1 := ((units 16).foldl State.holdTrim s0).reloadTrims saved (fun _ => true)
  let s2 := (units 8).foldl (fun t k => (List.range 17).foldl (fun u w => u.trimWritten k w) t) s1
  { s2 with channels := s2.channels.map (fun p => (p.1, { p.2 with written := p.2.written || p.2.run })) }

/-- TRIM_SAVE (R566): the copy of every volatile trim register to the saved set starts; until its validity word is written
the saved set is invalid. -/
def execTrimSave (s : State) : Out :=
  if s.trimBusy then .next s
  else .next { s with nv := { s.nv with busy := some s.cyc, savedValid := [] } }

/-- TRIM_SAVE_COMPLETE (R566): within 200 ms the set is copied, its validity word is written and BUSY clears. -/
def execTrimSaveComplete (s : State) : Out :=
  if s.trimBusy then
    .next { s with nv := { s.nv with
      busy := none, savedValid := s.dieList, saved := s.doms.filter (fun p => trimObjects.contains p.1),
      savedRegs := [(Obj.LANE_CONFIG, s.ctleTrims)] } }
  else .next s

/-- TRIM_LOAD_SAVED (R566). -/
def execTrimLoadSaved (s : State) : Out :=
  .next (if s.trimBusy ∨ s.nv.savedValid.isEmpty then s else s.trimsLoaded true)

/-- TRIM_LOAD_FACTORY (R566). -/
def execTrimLoadFactory (s : State) : Out := .next (if s.trimBusy then s else s.trimsLoaded false)

/-- The trims that power-up loads on a die (R565): the saved set when it is valid and TRIM_BOOT is 1, else the factory
set. -/
def State.bootTrims (s : State) (d : Nat) : State :=
  s.reloadTrims (s.nv.savedValid.contains d && s.rdN Obj.TRIM_BOOT 0 % 2 == 1) (fun k => selDie k == d)

/-- TRIM_STATUS as read (R571). -/
def State.trimStatus (s : State) (d : Nat) : Word :=
  s.rd Obj.TRIM_STATUS (sel d 0) ||| word (b2n (s.nv.savedValid.contains d) * 2 + b2n s.trimBusy)

/-! Retired units (R557). -/

/-- RESTORE_UNIT (R557): a retired RF output or DSP engine returns to service from its next power-up; its history is
cleared and an entry records it. Any other write is ignored. -/
def execRestoreUnit (selector : Nat) (s : State) : Out :=
  let d := selDie selector
  let mark := fun (t : State) (cls : Nat) (name : Nat) =>
    ({ t with nv := { t.nv with restore := t.nv.restore ++ [(name, selector)] } } : State).log d cls 4 selector 0
  let s1 := if selector ∈ s.nv.outs then
      mark { s with nv := { s.nv with fails := put 0 s.nv.fails selector 0 } } 0x0A 6
    else s
  let s2 := if selector ∈ s.nv.dsps then
      mark (s1.setDsp selector { s1.dsp selector with errs := [] }) 0x06 13
    else s1
  .next s2

/-! Verify (R568, R569, R571). -/

/-- A unit accepts a verify (R568, R395, R419); one whose domain is not on does not. -/
def State.verifyOk (s : State) (kind d u : Nat) : Bool :=
  let k := sel d u
  match kind with
  | 0 => decide (u < 16) && s.domOn d (domOut u) &&
      (gensOf u).all (fun g => !(s.gen (sel d g)).playing s.cyc && !(s.gen (sel d g)).holding s.cyc)
  | 1 => decide (u < 8) && s.domOn d (domIn u) && !s.windowOpen d u && !s.wireRuns k
  | 2 => decide (u < 64) && s.domOn d (domBias u) && !(s.bias k).run && (s.bias k).ramp == none
  | _ => decide (u < 4) && s.domOn d (domSensor u) && !(s.sns k).run

/-- The interruption of a verify, in cycles (R568). -/
def verifyTime (kind : Nat) : Nat :=
  match kind with
  | 0 => 15000000
  | 1 => 25000000
  | 2 => 6250000
  | _ => 2500000000

/-- Units of a kind on a die (R4, R568). -/
def verifyUnits (kind : Nat) : Nat :=
  match kind with
  | 0 => 16
  | 1 => 8
  | 2 => 64
  | _ => 4

/-- VERIFY_REQUEST (R568, R571): starts a verify on one unit, or is refused. One that names a die that runs a verify leaves
that verify's VERIFY_RESULT as it is. -/
def execVerifyRequest (v : Word) (s : State) : Out :=
  let kind := bits v 65 64
  let d := selDie (bits v 63 48)
  let u := selUnit (bits v 63 48)
  if bits v 71 66 != 0 || bits v 47 0 != 0 || decide (s.member.dies ≤ d) || decide (verifyUnits kind ≤ u) then hostError
  else if (s.die d).verify.st = 1 then .next s
  else if s.verifyOk kind d u then
    let s1 := s.setDie d { s.die d with verify := { st := 1, kind := kind, unit := u, due := s.cyc + verifyTime kind } }
    .next (match kind with
      | 0 => s1.setOut (sel d u) { s1.out (sel d u) with verify := true }
      | 1 => s1.stopTones d u
      | _ => s1)
  else .next (s.setDie d { s.die d with verify := { st := 3, kind := kind, unit := u } })

/-- A verify of an RF output beyond −30.0 dBc (R569): the second in a row retires the output. -/
def State.outVerified (s : State) (d u : Nat) (figure : BitVec 16) : State :=
  let k := sel d u
  let s1 := s.setOut k { s.out k with verify := false }
  if -300 < figure.toInt then
    let n := look 0 s.nv.fails k + 1
    let s2 : State := { s1 with nv := { s1.nv with fails := put 0 s1.nv.fails k n } }
    if 2 ≤ n ∧ ¬ k ∈ s.nv.outs then
      ({ s2 with nv := { s2.nv with outs := s2.nv.outs ++ [k] } } : State).log d 0x0A 3 k figure.toNat
    else s2
  else { s1 with nv := { s1.nv with fails := put 0 s1.nv.fails k 0 } }

/-- VERIFY_COMPLETE (R568, R569): the interruption ends and the figure is published. -/
def execVerifyComplete (d : Nat) (figure offset : BitVec 16) (s : State) : Out :=
  let v := (s.die d).verify
  if v.st ≠ 1 ∨ s.cyc < v.due then .next s
  else
    let s1 := s.setDie d { s.die d with verify := { v with st := 2, figure := figure } }
    let k := sel d v.unit
    .next (match v.kind with
      | 0 => s1.outVerified d v.unit figure
      | 1 => (s1.wr Obj.SPUR_IMAGE k (figure.setWidth 72)).wr Obj.SPUR_OFFSET k (offset.setWidth 72)
      | _ => s1)

/-- VERIFY_RESULT as read (R571). -/
def State.verifyResult (s : State) (d : Nat) : Word :=
  let v := (s.die d).verify
  word (v.st * 2 ^ 29 + v.kind * 2 ^ 27 + v.unit * 65536 + v.figure.toNat)

end Sys2Proof.Machine
end

