-- ==== Sys2Proof/Machine/Shutdown.lean ====
section
/-!
DEFINITION. The housekeeping round, temperature, and shutdown (R521, R523, R536–R548).
-/

namespace Sys2Proof.Machine

/-! The housekeeping round (R537–R541). -/

/-- A two's-complement reading of 32 bits. -/
def readingBits (i : Int) : Nat := (BitVec.ofInt 32 i).toNat

/-- A sensor after a round with a reading, held as the sum of its two in the round, in 0.005 °C (R538, R541): broken outside −60 to +180 °C, or when 4,096 readings have been
equal; rounds in a row whose slope over 64 rounds is at or above RISE_LIMIT. -/
def Sensor.round (y : Sensor) (limit : Nat) (r : Int) : Sensor :=
  let same := if y.hist.head? = some r then y.same + 1 else 0
  let broken := y.broken || decide (r < -12000) || decide (36000 < r) || decide (4095 ≤ same)
  let steep := match y.hist[63]? with
    | some old => decide ((limit : Int) * 65536 ≤ (r - old) * 50000)
    | none => false
  { hist := (r :: y.hist).take 64, same := same, broken := broken, hot := if steep && !broken then y.hot + 1 else 0 }

/-- The temperature at which a band is entered, in 0.005 °C (R539). -/
def bandEntry (b : Nat) : Int :=
  match b with
  | 0 => -100000
  | 1 => 8000
  | 2 => 12000
  | 3 => 16000
  | _ => 19000

/-- The band of a temperature, with 3 K between entering and leaving (R539): up to the highest band entered, or down while
the temperature is below the band's figure less 3 K. -/
def nextBand (t : Int) (b : Nat) : Nat :=
  let top := ((List.range 5).filter (fun i => decide (bandEntry i ≤ t))).length - 1
  if b < top then top
  else ((List.range (b + 1)).reverse.find? (fun i => i == 0 || decide (bandEntry i - 600 ≤ t))).getD 0

/-- A threshold entered at a figure and left 3 K below it, in 0.005 °C (R539). -/
def threshold (figure t : Int) (was : Bool) : Bool := if was then decide (figure - 600 ≤ t) else decide (figure ≤ t)

/-- A band change issues the die's class-3 request (R540). -/
def State.requestBand (s : State) (d band : Nat) : State :=
  let e := s.epochRec (d * 4 + 3)
  (s.receiveEpoch d ⟨3, e.last + 1, oneBit 8 d, BitVec.ofNat 32 band⟩).2

/-- HK_ROUND_END (R521, R537–R541, R543): the round's 64 readings are published; sensors, DIE_TEMP, band, warning, slopes
and waiting regulator clocks are updated. -/
def execHkRoundEnd (d : Nat) (readings : List Int) (s : State) : Out :=
  let x := s.die d
  if !s.domOn d 4 ∨ s.cyc < x.hkEnd then .next s
  else
    let slot := fun n : Nat => if n < 58 then readings.getD n 0 else 0
    let s1 := (List.range 32).foldl (fun t w =>
      t.setDw Obj.HK_READINGS (sel d 0) w (word (readingBits (slot (2 * w)) * 2 ^ 32 + readingBits (slot (2 * w + 1))))) s
    let limit := s.rdN Obj.RISE_LIMIT 0
    let sensors := (List.range 6).map (fun n => (x.sensors.getD n {}).round limit (slot n + slot (52 + n)))
    let newly := (List.range 6).filter (fun n => (sensors.getD n {}).broken && !(x.sensors.getD n {}).broken)
    let temps := sensors.map (fun y : Sensor => if y.broken then (30000 : Int) else y.hist.headD 0)
    let t := temps.foldl max (-100000)
    let warm := sensors.any (fun y : Sensor => !y.broken && decide (17000 ≤ y.hist.headD 0))
    let band := nextBand t x.band
    let warning := threshold 20000 t x.warning
    let beyond := threshold 22000 t x.beyond
    let s2 := (s1.wr Obj.DIE_TEMP (sel d 0) ((BitVec.ofInt 16 (mean t 2)).setWidth 72)).setDie d { s1.die d with
      hkEnd := x.hkEnd + 1280000, warmAt := if warm then some s.cyc else x.warmAt, sensors := sensors, band := band, warning := warning, beyond := beyond,
      regDie := s.rdN Obj.REG_CLOCK_DIE (sel d 0), regSc := s.rdN Obj.REG_CLOCK_SC 0 }
    let s3 := newly.foldl (fun u n => (u.setBit Obj.THERMAL_STATUS (sel d 0) 6).log d 0x0D 0 (sel d 0) n) s2
    let s4 := if band != x.band then (s3.requestBand d band).notifyThermal d false else s3
    let s5 := if warning && !x.warning then ((s4.setBit Obj.THERMAL_STATUS (sel d 0) 4).raiseAcross d 382).notifyThermal d false else s4
    let s6 := if sensors.any (fun y : Sensor => decide (2 ≤ y.hot)) then
        (s5.setBit Obj.THERMAL_STATUS (sel d 0) 7).stopCause 2 d 62500000 .shutdown
      else s5
    .next (if beyond && !x.beyond then s6.stopCause 1 d 62500000 .shutdown else s6)

/-- RAIL_SETTLED (R536): the rail has reached its target, and units at a boundary apply the level that waited for it. -/
def execRailSettled (d : Nat) (s : State) : Out :=
  if s.railNow d ≠ (s.die d).railTo then .next s
  else
    (List.range 9).foldl (fun o u =>
      (o.andThen (execEpochApply 2 (d * 9 + u))).andThen (execEpochApply 3 (d * 30 + 20 + u))) (.next s)

/-! Power-off. -/

/-- Every domain of a die but the always-on domain goes off (R530, R545, R547). -/
def State.dieOff (s : State) (d : Nat) : State := (s.toS3 d).setDie d { (s.toS3 d).die d with s3 := true }

/-- Sleep requests and wakes in progress are abandoned (R544). -/
def State.abandonSleep (s : State) : State :=
  let busy := s.sleep.entry.isSome || s.sleep.wakes.any (fun w => w.result != 0)
  { s with sleep := { s.sleep with
      entry := none, wakes := [], timers := [], result := if busy then 4 else s.sleep.result } }

/-- The domains of every die go off, as after a brown-out or an immediate shutdown (R530). -/
def State.allOff (s : State) : State := (s.dieList.foldl State.dieOff s.abandonSleep).closeSessions (fun _ => true)

/-- The device goes to the Device Standby that ends a shutdown (R530, R545). -/
def State.shutStandby (s : State) : State :=
  let s1 := (s.abandonSleep.dieList.filter (· != 0)).foldl State.toS3 s.abandonSleep
  let s2 := (allDomains.filter (4 ≤ ·)).foldl (fun t n => (t.gate 0 n .s2).setPower 0 n .off) (s1.linksDown 0)
  { s2 with sleep := { s2.sleep with standby := true, stood := s2.dieList.filter (· != 0) } }

/-- An immediate shutdown (R546, R547): no stop vector, no ramp, no lifetime write; the always-on domain of die 0 holds the
cause. A shutdown window in progress keeps its first CAUSE. A device that has shut down loses its Standby to a brown-out, and
powers up after it (log 31). -/
def State.immediate (s : State) (cause d : Nat) : State :=
  if s.shut.st = .shutdown ∨ s.shut.st = .ready then
    if cause ≠ 7 then s
    else
      let s1 := s.allOff
      { s1 with shut := { s.shut with st := .shutdown, brown := true, held := some (s.shut.held.getD (7, d)), stop := none, waiting := [] } }
  else
    let first := s.shut.st = .window
    let s1 := s.allOff
    { s1 with shut := { st := .shutdown, cause := if first then s.shut.cause else cause, die := if first then s.shut.die else d,
                        held := some (cause, d), brown := cause == 7 || s.shut.brown } }

/-- TEMP_COMPARATOR_TRIP (R542): a sensor at 120 °C for 10 µs; the comparator of a sensor marked broken is ignored. -/
def execTempComparatorTrip (d sensor : Nat) (s : State) : Out :=
  if 6 ≤ sensor ∨ s.member.dies ≤ d ∨ ((s.die d).sensors.getD sensor {}).broken then .next s
  else .next ((s.setDie d { s.die d with warmAt := some s.cyc }).immediate 6 d)

/-- BROWNOUT_IMMEDIATE (R523): VIN has stayed below 38.0 V for 1,250 cycles. -/
def execBrownoutImmediate (d : Nat) (s : State) : Out := .next (s.immediate 7 d)

/-- BROWNOUT_ORDERLY (R523): VIN has stayed below 40.0 V for 1,250 cycles. -/
def execBrownoutOrderly (d : Nat) (s : State) : Out := .next (s.stopCause 3 d 1250000 .shutdown)

/-! The stop window (R544, R578). -/

/-- A generator at the shutdown signal (R544): one that holds stops, one that plays contributes 0 after its pulse. -/
def Gen.stop (x : Gen) (c : Nat) : Gen :=
  if x.holding c then { x with pulse := none } else { x with pulse := x.pulse.map (fun p => { p with hold := false }) }

/-- What the units of a die do at the shutdown signal (R544). -/
def State.stopDie (s : State) (d : Nat) : State :=
  let s1 := (List.range 16).foldl (fun t q => t.stopVector d q) s
  let s2 := (List.range 128).foldl (fun t g =>
    t.setGen (sel d g) ((t.gen (sel d g)).stop t.cyc)) s1
  let s3 := (List.range 64).foldl (fun t o => if t.domOn d (domBias o) then t.biasSafe (sel d o) else t) s2
  (List.range 4).foldl (fun t c => if t.snsOn d c then t.snsAbort (sel d c) else t) s3

/-- The dies that a stop window stops (R577). -/
def State.stopDies (s : State) (kind : StopKind) : List Nat :=
  match kind with
  | .resetDie d => [d]
  | _ => s.dieList

/-- STATE of SHUTDOWN_STATUS with its first cause, the producers and the notification, at the signal of a shutdown (R544). -/
def State.announceStop (s : State) (c : StopCause) : State :=
  match c.kind with
  | .shutdown =>
    let s1 : State := { s with shut := { s.shut with st := .window, cause := c.cause, die := c.die } }
    (s1.dieList.foldl (fun t d => t.raise d 384) s1).notifyThermal c.die true
  | _ => s

/-- A cause's signal takes effect: the window begins, or a running window's end moves to the earlier one (R544, R546,
R578). A shutdown found while one die resets concerns every die (log 31). -/
def State.signal (s : State) (c : StopCause) : State :=
  match s.shut.stop with
  | none =>
    let s1 : State := { s with shut := { s.shut with stop := some (c.signal + c.window, c.kind), brown := c.cause == 3 } }
    ((s1.stopDies c.kind).foldl State.stopDie (s1.announceStop c)).wakeEntry (fun _ => true)
  | some (e, kind) =>
    let until_ := min e (c.signal + c.window)
    match kind, c.kind with
    | .resetDie d, .shutdown =>
      let s1 : State := { s with shut := { s.shut with stop := some (until_, .shutdown), brown := c.cause == 3 } }
      ((s1.dieList.filter (· != d)).foldl State.stopDie (s1.announceStop c)).wakeEntry (fun _ => true)
    | _, _ => { s with shut := { s.shut with stop := some (until_, kind), brown := s.shut.brown || c.cause == 3 } }

/-- The waiting cause whose signal is due: of those of one cycle and CAUSE the lowest die's (R551). -/
def State.dueCause (s : State) : Option StopCause :=
  match s.shut.waiting.find? (fun c => decide (c.signal ≤ s.cyc)) with
  | none => none
  | some c =>
    some { c with die := s.shut.waiting.foldl (fun d x => if x.signal = c.signal ∧ x.cause = c.cause then min d x.die else d) c.die }

/-- SHUTDOWN_SIGNAL (R544): 64 cycles after a cause the signal takes effect. -/
def execShutdownSignal (s : State) : Out :=
  match s.dueCause with
  | none => .next s
  | some c =>
    let rest := s.shut.waiting.filter (fun x => !(x.signal == c.signal && x.cause == c.cause && x.kind == c.kind))
    .next ({ s with shut := { s.shut with waiting := rest } }.signal c)

/-- Bias outputs whose ramp has not ended leave an entry with the code they reached (R392). -/
def State.logRamps (s : State) (dies : List Nat) : State :=
  dies.foldl (fun t d => (List.range 64).foldl (fun u o =>
    let k := sel d o
    if u.domOn d (domBias o) ∧ (u.bias k).ramp.isSome then u.log d 0x0F 0 k (u.biasCode k) else u) t) s

/-- SHUTDOWN_WINDOW_END (R392, R545): unfinished ramps are recorded, lifetime counters and the cause are written, and the
domains power off. -/
def execShutdownWindowEnd (s : State) : Out :=
  match s.shut.stop with
  | some (e, .shutdown) =>
    if s.cyc < e then .next s
    else
      let s1 := (s.logRamps s.dieList).inc Obj.SHUTDOWNS 0
      let s2 := s1.log s.shut.die 0x0E 0 0 s.shut.cause
      let s3 := (s2.flushLog s2.waitingEntries).lifetimeWrite
      let s4 := if s.shut.brown then s3.allOff else s3.shutStandby
      .next { s4 with shut := { s4.shut with st := .shutdown, stop := none, waiting := [] } }
  | _ => .next s

/-- SHUTDOWN_COMMAND 1 (R543, R546): an orderly shutdown; ignored during a window. It is found on die 0 (R551). -/
def execShutdownCommand (s : State) : Out :=
  if s.shut.stop.isSome ∨ s.shut.waiting.any (fun c => c.kind == .shutdown) then .next s
  else .next (s.stopCause 5 0 62500000 .shutdown)

/-- The device leaves shutdown: every die wakes as from S3 (R548). The entry held from an immediate shutdown is written
(R547). -/
def State.resume (s : State) : State :=
  let s1 : State := { s with shut := {}, sleep := { s.sleep with standby := true, stood := s.dieList.filter (· != 0) } }
  let s2 := match s.shut.held with
    | some (c, d) => (s1.inc Obj.SHUTDOWNS 0).log d 0x0E 0 0 c
    | none => s1
  if (s2.die 0).s3 then s2.dieList.foldl (fun t d => t.wakeDie d 0) s2 else s2.endStandby 0

/-- SHUTDOWN_COMMAND 2 (R548): accepted in STATE READY, and after SHUTDOWN_COMMAND at once; ignored otherwise. -/
def execShutdownResume (s : State) : Out :=
  if s.shut.st = .ready ∨ (s.shut.st = .shutdown ∧ s.shut.cause = 5 ∧ s.shut.held = none) then .next s.resume else .next s

/-- SHUTDOWN_READY (R548): after a temperature, rate or comparator cause, no working sensor has been seen at 85 °C or more
for 10 s; after a comparator trip die 0 is first brought to Standby. AUTO_RESUME leaves shutdown at once. -/
def execShutdownReady (s : State) : Out :=
  let cooled := s.dieList.all (fun d => match (s.die d).warmAt with
    | some c => decide (c + 12500000000 ≤ s.cyc)
    | none => true)
  let trip : Bool := match s.shut.held with
    | some (c, _) => c == 6
    | none => false
  let thermal := s.shut.cause == 1 || s.shut.cause == 2 || trip
  if s.shut.st = .shutdown ∧ thermal ∧ cooled ∧ !s.shut.brown then
    let s1 := if (s.die 0).s3 then
        let s2 := s.setDie 0 { s.die 0 with s3 := false }
        let s3 := [1, 2, 3].foldl (fun t n => t.bringUp 0 n) s2
        ({ s3 with sleep := { s3.sleep with standby := true, stood := s3.dieList.filter (· != 0) } } : State)
      else s
    let s4 : State := { s1 with shut := { s1.shut with st := .ready } }
    .next (if s4.rdN Obj.AUTO_RESUME 0 % 2 = 1 then s4.resume else s4)
  else .next s

/-! What the objects read (R549, R551). -/

/-- THERMAL_STATUS. -/
def State.thermalStatus (s : State) (d : Nat) : Word :=
  let x := s.die d
  let broken := (List.range 6).foldl (fun a n => if (x.sensors.getD n {}).broken then a + 2 ^ (8 + n) else a) 0
  s.rd Obj.THERMAL_STATUS (sel d 0) ||| word (broken + b2n x.warning * 32 + (s.appl (applKey 3 (d * 30 + 28))).setting.toNat % 8)

/-- SHUTDOWN_STATUS. -/
def State.shutdownStatus (s : State) : Word :=
  let st := match s.shut.st with
    | .running => 0
    | .window => 1
    | .shutdown => 2
    | .ready => 3
  word (st * 2 ^ 28 + s.shut.cause * 2 ^ 24 + s.shut.die * 65536)

end Sys2Proof.Machine
end

