-- ==== Sys2Proof/Machine/Reset.lean ====
section
/-!
DEFINITION. Power-up and the five scopes of reset (R572–R582).
-/

namespace Sys2Proof.Machine

/-! The read of the nonvolatile store (R557, R559, R572). -/

/-- Regions of a die's store by byte offset (R558): factory trims, saved trims, retirement records, lifetime counters. -/
def storeRegion (off : Nat) : Nat := if off < 16384 then 0 else if off < 32768 then 1 else if off < 34816 then 2 else if off < 35072 then 3 else 4

/-- A record with no good copy is lost (R559). -/
def State.recordLost (s : State) (d off : Nat) : State :=
  let s1 := s.log d 0x10 0 0 off
  let mine := fun k : Nat => selDie k == d
  match storeRegion off with
  | 0 => ({ s1 with dies := put {} s1.dies d { s1.die d with trimLost := true } } : State).setBit Obj.TRIM_STATUS (sel d 0) 2
  | 1 => ({ s1 with nv := { s1.nv with savedValid := s1.nv.savedValid.filter (· != d) } } : State).setBit Obj.TRIM_STATUS (sel d 0) 2
  | 2 => ({ s1 with
      nv := { s1.nv with outs := s1.nv.outs.filter (fun k => !mine k), dsps := s1.nv.dsps.filter (fun k => !mine k),
                         slices := dropKeys mine s1.nv.slices, sliceFails := dropKeys mine s1.nv.sliceFails },
      stores := dropKeys mine s1.stores, glinks := dropKeys (fun k => k / 4 == d) s1.glinks } : State).setBit Obj.TRIM_STATUS (sel d 0) 2
  | 3 => { s1 with regs := dropObjs (fun id k => id / 256 == 0x2301 && mine k) s1.regs }
  | _ => s1

/-- Retirements of slices applied: the retired slice is out of service, the others where they were (R231). -/
def State.slicesRetired (s : State) (p : Nat → Bool) : State :=
  s.nv.slices.foldl (fun t q =>
    if p q.1 ∧ 0 < q.2.1 then t.setRfIn q.1 { t.rfIn q.1 with rot := { out := q.2.1 - 1, pos := q.2.2, figuresAt := t.cyc } } else t) s

/-- The device as a power-up or a device-wide reset finds it: everything but the nonvolatile store, the model's own counts,
the pins and the queue is at its reset value (R505, R581). -/
def State.cleared (s : State) : State :=
  let r := State.reset
  let kept := dropObjs (fun id _ => !nvObject id || lifeObject id) s.regs
  { r with
    pending := s.pending, free := s.free, member := s.member, sent := s.sent, jtag := s.jtag,
    regs := s.nv.lifetime.foldl (fun t q => put [] t q.1 q.2) kept,
    doms := dropObjs (fun id _ => !nvObject id) s.doms,
    clock := { r.clock with cyc := s.clock.cyc, lived := s.clock.lived, refclk := s.clock.refclk, refBack := s.clock.refBack, aonOnRef := s.clock.refclk },
    stores := (s.stores.map (fun p => (p.1, ({ spares := p.2.spares } : StoreProt)))).filter (fun p => p.2 != {}),
    glinks := (s.glinks.map (fun p => (p.1, ({ spared := p.2.spared } : GLink)))).filter (fun p => p.2 != {}),
    shut := { held := s.shut.held },
    nv := { s.nv with busy := none, lifeAt := s.clock.cyc } }

/-- A device-wide start with its CAUSE (R572, R577, R583): the always-on domains are up and every die's store has been
read. -/
def State.start (s : State) (cause : Nat) (store : StoreRead) : State :=
  let s1 := s.cleared
  let s2 := s1.dieList.foldl (fun t d =>
    ((t.setDie d { t.die d with stored := true }).setPower d 0 .s0).setPower d 2 .s0) s1
  let s3 := store.rewritten.foldl (fun t d => t.inc Obj.NV_CORRECTED (sel d 0)) s2
  let s4 := store.lost.foldl (fun t p => t.recordLost p.1 p.2) s3
  let s5 := (s4.slicesRetired (fun _ => true)).wrN Obj.RESET_CAUSE 0 cause
  { s5 with landing := { s5.landing with vinAt := s5.cyc } }

/-- Units whose restoring was recorded return to service (R557). -/
def State.restored (s : State) : State :=
  let back := fun (n k : Nat) => s.nv.restore.contains (n, k)
  { s with nv := { s.nv with
      outs := s.nv.outs.filter (fun k => !back 6 k), dsps := s.nv.dsps.filter (fun k => !back 13 k), restore := [] } }

/-- VIN_VALID (R525, R572, R576): a device without power, or one that a brown-out has shut down, powers up; the straps are
sampled, the stores read, and POWER_CYCLES is incremented. -/
def execVinValid (straps : BitVec 8) (store : StoreRead) (s : State) : Out :=
  if s.domSt 0 0 = .off ∨ (s.shut.st = .shutdown ∧ s.shut.brown) then
    let cause := if s.domSt 0 0 = .off then 0 else 3
    .next (((s.restored.start cause store).wrN Obj.CROSSING_DEVICE 0 straps.toNat).inc Obj.POWER_CYCLES 0)
  else .next s

/-- FREDOM_BOOT_END (R572, R573, R580): a management core runs; on die 0 an entry held from an immediate shutdown is
written. -/
def execFredomBootEnd (d : Nat) (s : State) : Out :=
  let x := s.die d
  if s.member.dies ≤ d ∨ !x.stored ∨ x.booted then .next s
  else
    let s1 := s.setDie d { x with booted := true }
    .next (match s1.shut.held with
      | some (c, e) =>
        if d = 0 ∧ s1.shut.st = .running then
          ({ s1 with shut := { s1.shut with held := none } }.inc Obj.SHUTDOWNS 0).log e 0x0E 0 0 c
        else s1
      | none => s1)

/-- Nominal trims of a die whose factory set is lost (R559). -/
def State.nominalTrims (s : State) (d : Nat) : State :=
  let words : List (Nat × Nat × Nat) :=
    (List.range 16).map (fun u => (Obj.OUT_TRIM, sel d u, 6)) ++ (List.range 8).map (fun u => (Obj.IN_TRIM, sel d u, 17)) ++
    (List.range 64).map (fun u => (Obj.BIAS_TRIM, sel d u, 1)) ++ (List.range 4).map (fun u => (Obj.SNS_REF_TRIM, sel d u, 1)) ++
    [(Obj.DIE_TRIM, sel d 0, 64)]
  let s1 := words.foldl (fun t p => (List.range p.2.2).foldl (fun u w => u.setDw p.1 p.2.1 w (Config.nominalTrim p.1 p.2.1 w)) t) s
  (List.range 4).foldl (fun t l =>
    let k := sel d l
    t.wr Obj.LANE_CONFIG k ((t.rd Obj.LANE_CONFIG k &&& ~~~(0xFFFFF : Word)) ||| (Config.nominalTrim Obj.LANE_CONFIG k 0 &&& 0xFFFFF))) s1

/-- Domains that are on when power-up ends (R572, R575). -/
def startDomains (n : Nat) : List Nat :=
  [3, 4, 5, domEnv, domWeights, 32, 33] ++ (List.range 16).map domSeq ++ (List.range 8).map domDsp ++ [domFerry] ++
    (List.range (linkCount n)).map (79 + ·)

/-- GANGWAY_TRAINING_END (R63, R77, R555, R565, R572, R574): a die's links are trained; wire groups that failed are replaced
by spares at once, and a link that cannot be trained is left unusable; trims are loaded and the fabric and housekeeping
domains come on. Device time starts at 0 on every die when the last die's training ends; a die that resets resumes it. -/
def execGangwayTrainingEnd (d : Nat) (dly : Int) (groups : List (Nat × Nat)) (badLinks : List Nat) (s : State) : Out :=
  let x := s.die d
  let n := s.member.dies
  if n ≤ d ∨ x.plls = 0 ∨ x.trained then .next s
  else
    let s1 := s.setDie d { x with trained := true, dly := dly, s3 := false }
    let s2 := groups.foldl (fun t p =>
      let k := d * 4 + p.1
      let y := t.glink k
      if p.1 < linkCount n ∧ y.spared.length < 4 ∧ ¬ p.2 ∈ y.spared then
        (t.setGlink k { y with spared := y.spared ++ [p.2] }).log d 0x0B 2 0 (p.1 + 4 * p.2 + 256 * y.spared.length)
      else t) s1
    let s3 := badLinks.foldl (fun t l =>
      if l < linkCount n then (t.setGlink (d * 4 + l) { t.glink (d * 4 + l) with failed := true }).log d 0x0C 0 0 l else t) s2
    let s4 := (startDomains n).foldl (fun t m => t.bringUp d m) s3
    let s5 := if s4.nv.savedValid.contains d && s4.rdN Obj.TRIM_BOOT 0 % 2 == 1 then s4.bootTrims d
      else if x.trimLost then s4.nominalTrims d else s4.bootTrims d
    let s6 := (s5.linksUp d).renewLocal
    .next (if s6.clock.counting ∨ !s6.dieList.all (fun e => (s6.die e).trained) then s6
      else { s6 with clock := { s6.clock with counting := true, now := 0, phase := 0 } })

/-! Resets of the device and of a die (R577, R578, R581). -/

/-- CAUSE of a device-wide reset: that of a loss of REFCLK where the device has shut down for it (R84, R583). -/
def State.resetCause (s : State) (cause : Nat) : Nat := if s.shut.st != .running && s.shut.cause == 4 then 4 else cause

/-- RESET_N_ASSERT (R577): RESET_N low for 1 µs; every domain but the always-on domains goes off, with no stop window and no
lifetime write. -/
def execResetNAssert (s : State) : Out :=
  let s1 := s.allOff
  .next { s1 with
    landing := { s1.landing with resetLow := true }, clock := { s1.clock with counting := false },
    shut := { s1.shut with stop := none, waiting := [] } }

/-- A device that has shut down for a loss of REFCLK leaves shutdown only after REFCLK has been present for 10 ms (R84). -/
def State.refclkHolds (s : State) : Bool :=
  s.shut.st == .running || s.shut.cause != 4 || (s.clock.refclk && (match s.clock.refBack with
    | some c => decide (c + 12500000 ≤ s.cyc)
    | none => true))

/-- RESET_N_RELEASE (R84, R576, R577): the straps are sampled again and power-up restarts from the read of the store. -/
def execResetNRelease (straps : BitVec 8) (store : StoreRead) (s : State) : Out :=
  if s.landing.resetLow ∧ !(s.shut.st == .shutdown && s.shut.brown) ∧ s.refclkHolds then
    .next ((s.start (128 + s.resetCause 1) store).wrN Obj.CROSSING_DEVICE 0 straps.toNat)
  else .next { s with landing := { s.landing with resetLow := false } }

/-- A device reset: as at the release of RESET_N, but for the straps, which keep their sample (R577). -/
def State.resetDevice (s : State) : State :=
  (s.start (s.resetCause 2) {}).wr Obj.CROSSING_DEVICE 0 (s.rd Obj.CROSSING_DEVICE 0)

/-- A die resets (R577, R581, R582): its domains go off, what they hold is cleared, its links and routes are down; it runs
again from the boot of Fredom. -/
def State.resetDie (s : State) (d : Nat) : State :=
  let s1 := (s.linksDown d).linkDown d
  let s2 := (allDomains.filter (· != 0)).foldl (fun t n => (t.clearDom d n false).setPower d n .off) s1
  let s3 := if d = 1 then s2.closeSessions (fun x => x.port == 1) else s2
  let s4 : State := { s3 with
    epochs := dropKeys (fun k => k / 4 == d) s3.epochs,
    applied := dropKeys (fun k => entryDie (k / 65536) (k % 65536) == d) s3.applied,
    flight := s3.flight.filter (fun m => m.dst != d),
    later := s3.later.filter (fun p => p.2.1 != d) }
  let s5 := ((s4.setDie d { stored := true, logs := (s4.die d).logs }).setEth d {}).setPower d 2 .s0
  (s5.slicesRetired (fun k => selDie k == d)).wr Obj.RESET_CAUSE 0 ((s5.rd Obj.RESET_CAUSE 0 &&& 0x80) ||| word (d * 16 + 5))

/-- RESET_STOP_WINDOW_END (R578): the stop window of a reset ends; unfinished ramps are recorded (R392). A device reset
writes the lifetime counters first. -/
def execResetStopWindowEnd (s : State) : Out :=
  match s.shut.stop with
  | some (e, .resetDevice) =>
    if s.cyc < e then .next s
    else
      let s1 := s.logRamps s.dieList
      .next ((s1.flushLog s1.waitingEntries).lifetimeWrite).resetDevice
  | some (e, .resetDie d) =>
    if s.cyc < e then .next s
    else
      let s1 := (s.logRamps [d]).resetDie d
      .next { s1 with shut := { s1.shut with stop := none, brown := false } }
  | _ => .next s

/-- WATCHDOG_EXPIRY (R580): a management core restarts; nothing else is touched. On die 0 every session closes, on die 1
those of port B. -/
def execWatchdogExpiry (d : Nat) (s : State) : Out :=
  let x := s.die d
  if s.member.dies ≤ d ∨ !x.booted then .next s
  else
    let s1 := (s.setDie d { x with booted := false }).inc Obj.WATCHDOG_RESETS (sel d 0)
    let s2 := s1.wr Obj.RESET_CAUSE 0 ((s1.rd Obj.RESET_CAUSE 0 &&& 0x80) ||| word (d * 16 + 6))
    .next (if d = 0 then s2.closeSessions (fun _ => true)
      else if d = 1 then s2.closeSessions (fun y => y.port == 1) else s2)

/-! Unit resets (R579). -/

/-- A tone generator is stopped (R579): pulse or hold ended, queue emptied, commands not yet in effect removed. -/
def State.stopGen (s : State) (k : Nat) : State :=
  (s.setGen k { s.gen k with pulse := none, queue := [], pipe := [] }).payOwed (selDie k) (selUnit k)

/-- A demodulator is stopped (R579): open and earlier windows leave no IQ point and no post. -/
def State.stopDemod (s : State) (k : Nat) : State := s.setDemod k { s.demod k with windows := [], results := [] }

/-- A unit stops (R579), and what it holds beside its objects takes its value after a reset. -/
def State.stopUnit (s : State) (scope k : Nat) : State :=
  let d := selDie k
  let u := selUnit k
  match scope with
  | 4 =>
    let x := s.lane k
    if x.rx = .retired then s.setLane k { x with losses := [] }
    else
      let s1 := s.setLane k { x with rx := .search, precode := false, sleepRx := false, losses := [] }
      let s2 := s1.setFport d { s1.fport d with rcLanes := true }
      if x.rx = .up then (s2.raiseAcross d 387).rxDown d else s2
  | 6 =>
    let s1 := (gensOf u).foldl (fun t g => t.stopGen (sel d g)) s
    s1.setOut k { s1.out k with written := true }
  | 7 => (s.stopGen k).setGen k { acc := (s.gen k).acc, owed := [] }
  | 8 =>
    let s1 := match execWireCancel d u s with
      | .next t => t
      | _ => s
    let s2 := (List.range 16).foldl (fun t j => t.stopDemod (sel d (16 * u + j))) ((s1.abandonWindows d u).stopTones d u)
    (s2.setRfIn k { s2.rfIn k with mode := 0, rot := {}, written := some s2.cyc }).slicesRetired (· == k)
  | 9 => s.setDemod k { reads := (s.demod k).reads }
  | 10 => (s.abortSeq d u).setSeq k {}
  | 13 => (s.dspHalt d u).setDsp k {}
  | 14 => (s.stopTone k).setTone k { life := (s.tone k).life + 1, written := true }
  | 15 => s.setMaj k {}
  | 16 => ({ s with fires := s.fires.filter (fun f => !(f.die == d && f.chan == u)) } : State).setChan k
      { s.chan k with kept := none, owner := none }
  | 17 => (if s.domOn d (domBias u) then s.biasSafe k else s).biasWritten k true
  | 18 =>
    let s1 := s.snsAbort k
    s1.setSns k { s1.sns k with written := true, gainWritten := true }
  | _ => s

/-- An object of a unit that a unit reset clears (R579): RW and RWB objects of attribute O, status and counters; not the
memories, spares, retirement figures and the active predistortion. -/
def unitClears (scope k id j : Nat) : Bool :=
  match Obj.find id with
  | some r =>
    r.scope == scope && j == k && (!isMemory id || id == Obj.DSP_REGS) && !nvObject id && !r.secure &&
      !(decide (Obj.IIR_ACTIVE_0 ≤ id) && decide (id ≤ Obj.IIR_ACTIVE_3)) && id != Obj.FIR_ACTIVE
  | none => false

/-- The units of epoch classes 0–2 that a reset unit is, as class and entry (R579). -/
def epochUnit (scope d u : Nat) : Option (Nat × Nat) :=
  match scope with
  | 7 => some (0, d * 128 + u)
  | 9 => some (1, d * 128 + u)
  | 13 => some (2, d * 9 + u)
  | _ => none

/-- Received and unapplied requests of a unit are dropped, and its applied epoch reads 0 (R579). -/
def State.resetEpoch (s : State) (d cls k : Nat) : State :=
  let newest_ : Option Epoch := match (s.epochRec (d * 4 + cls)).reqs with
    | (_, r) :: _ => some r.epoch
    | [] => none
  s.setAppl (applKey cls k) { pub := pushTrail 128 s.cyc 0 (s.appl (applKey cls k)).pub, dropped := newest_, setting := 0 }

/-- The domain of a unit of a scope. -/
def unitDomain (scope u : Nat) : Nat := objDomain ⟨0, .u8, .ro, false, scope, 0⟩ u

/-- A unit reset (R579). A unit whose domain is off is not touched; a reset of a die-level object or a slot is a host
error. -/
def State.resetUnit (s : State) (scope k : Nat) : Out :=
  let d := selDie k
  let u := selUnit k
  if !(scope == 4 || (decide (6 ≤ scope) && decide (scope ≤ 18) && scope != 11 && scope != 12)) then hostError
  else if !s.domKept d (unitDomain scope u) then .next s
  else
    let s1 := s.stopUnit scope k
    let s2 : State := { s1 with
      regs := dropObjs (unitClears scope k) s1.regs, doms := dropObjs (unitClears scope k) s1.doms,
      stores := if scope = 10 then put {} s1.stores k { s1.store k with fixes := [] } else s1.stores }
    .next (match epochUnit scope d u with
      | some (cls, e) => s2.resetEpoch d cls e
      | none => s2)

end Sys2Proof.Machine
end

