-- ==== Sys2Proof/Machine/Jtag.lean ====
section
/-!
DEFINITION. The test access port (R600, R601) and the ALERT_N land (R594).
-/

namespace Sys2Proof.Machine

/-- The port works from 1 ms after VIN becomes valid (R600). -/
def State.tapWorks (s : State) : Bool := s.domSt 0 0 != .off && decide (s.landing.vinAt + 1250000 ≤ s.cyc)

/-- The lands leave their functions (R601): every Ferry lane that has lock loses it, and the Ethernet links go down. -/
def State.landsLeave (s : State) : State :=
  let s1 := (s.lanes.filter (fun p => p.2.rx == .up || p.2.rx == .locked)).foldl (fun t p => t.loseLane (selDie p.1) (selUnit p.1)) s
  { s1 with eths := s1.eths.map (fun p => (p.1, { p.2 with up := false, trained := false, anDone := false })) }

/-- An instruction enters the instruction register (R600, R601). Boundary scan touches neither device time nor sequencers
nor the nonvolatile store. -/
def State.tap (s : State) (ir : BitVec 8) : State :=
  if !s.tapWorks then s
  else
    let s1 : State := { s with jtag := { s.jtag with ir := ir } }
    if s1.scanning && !s.scanning then s1.landsLeave else s1

/-- JTAG_EXTEST (R600, R601). -/
def execJtagExtest (s : State) : Out := .next (s.tap 0x00)

/-- JTAG_SAMPLE_PRELOAD (R600): the boundary cells take what is shifted in; the lands keep their functions. -/
def execJtagSamplePreload (cells : List Bool) (s : State) : Out :=
  let s1 := s.tap 0x01
  .next (if s.tapWorks then { s1 with jtag := { s1.jtag with cells := cells } } else s1)

/-- JTAG_IDCODE (R600, R601). -/
def execJtagIdcode (s : State) : Out := .next (s.tap 0x02)

/-- JTAG_HIGHZ (R600, R601). -/
def execJtagHighz (s : State) : Out := .next (s.tap 0x03)

/-- JTAG_CLAMP (R600, R601). -/
def execJtagClamp (s : State) : Out := .next (s.tap 0x04)

/-- JTAG_EXTEST_PULSE (R600, R601). -/
def execJtagExtestPulse (s : State) : Out := .next (s.tap 0x05)

/-- JTAG_EXTEST_TRAIN (R600, R601). -/
def execJtagExtestTrain (s : State) : Out := .next (s.tap 0x06)

/-- JTAG_BYPASS (R600). -/
def execJtagBypass (s : State) : Out := .next (s.tap 0xFF)

/-- JTAG_RESERVED (R600, R601): a reserved code acts as a write to the vendor test area, a host error (R517). A code that is
not reserved is another row's, and this row does nothing with it. -/
def execJtagReserved (ir : BitVec 8) (s : State) : Out :=
  if s.tapWorks && decide (7 ≤ ir.toNat) && decide (ir.toNat ≤ 254) then hostError else .next s

/-- IDCODE (R601): STEPPING's letter from A = 0, part number, manufacturer and 1. -/
def State.idcode (s : State) : BitVec 32 :=
  let part := match s.member with
    | .pw8 => 0xD208
    | .pw4 => 0xD204
    | .pw2 => 0xD202
  BitVec.ofNat 32 ((bits (s.rd Obj.STEPPING 0) 15 8 - 65) % 16 * 2 ^ 28 + part * 2 ^ 12 + Config.jedec.toNat * 2 + 1)

/-- The data register that the instruction selects, as its length in bits (1149.1): bypass, identity, or the boundary
cells. -/
def State.tapLength (s : State) : Nat :=
  if s.jtag.ir = 2 then 32 else if s.jtag.ir = 0 ∨ s.jtag.ir = 1 ∨ s.jtag.ir = 5 ∨ s.jtag.ir = 6 then s.jtag.cells.length else 1

/-- A cause that drives ALERT_N low holds (R369, R594). -/
def State.alertLow (s : State) : Bool :=
  s.dieList.any (fun d => bit (s.rd Obj.ALERT_EVENT (sel d 0)) 0 || (s.die d).warning) || s.shut.st != .running ||
    s.landing.resetLow || !s.landing.reached

/-- What a boundary cell drives on its land while the lands are scanned: nothing under HIGHZ, and under a cell that holds
nothing (R600, R601). -/
def State.cellDrives (s : State) (n : Nat) : Option Bool := if s.jtag.ir = 3 then none else s.jtag.cells[n]?

/-- The level that the device drives on ALERT_N, an open drain: none while it is released (R592, R594, R601). -/
def State.alertLand (s : State) : Option Bool :=
  if s.scanning then s.cellDrives Config.alertCell else if s.alertLow then some false else none

/-- The level that the device drives on SYNC_OUT (R83, R601): high for one REFCLK period from a pulse. -/
def State.syncOutLand (s : State) : Option Bool :=
  if s.scanning then s.cellDrives Config.syncOutCell else some (decide (s.cyc < s.clock.syncOutUntil))

end Sys2Proof.Machine
end

