-- ==== Sys2Proof/Machine/Network.lean ====
section
/-!
DEFINITION. Ethernet ports and the network layer (R462–R469, R477). Port p is on die p (R2).
-/

namespace Sys2Proof.Machine

/-- A datagram or frame sent: the model's own record. -/
def State.send1 (s : State) (x : Sent) : State := { s with sent := s.sent ++ [x] }

/-- PHY_MODE of a port (R462). -/
def State.phyMode (s : State) (p : Nat) : Nat := s.rdN Obj.PHY_MODE (sel p 0)

/-- A port's domains are on (R462, R498, R526, R530). -/
def State.portPowered (s : State) (p : Nat) : Bool :=
  decide (p < 2) && (s.die p).plls != 0 && !(s.die p).s3 && s.phyMode p != 3

/-- The link of a port is up. -/
def State.ethUp (s : State) (p : Nat) : Bool := (s.eth p).up

/-! Addresses (R466, R467). -/

/-- MODE of IPV4_CONFIG (R499). -/
def State.ipv4Mode (s : State) (p : Nat) : Nat := bits (s.rd Obj.IPV4_CONFIG (sel p 0)) 71 70

/-- An IPv4 address as ::ffff:a.b.c.d (R496). -/
def mapped (a : BitVec 32) : BitVec 128 := (0xFFFF : BitVec 96) ++ a

/-- Bits of IPV6_CONFIG over its four words (R500). -/
def State.ipv6Field (s : State) (p hi lo : Nat) : Nat :=
  s.dwJoin Obj.IPV6_CONFIG (sel p 0) 0 4 / 2 ^ lo % 2 ^ (hi + 1 - lo)

/-- The link-local address with the modified EUI-64 identifier of the port's MAC address (R467). -/
def State.linkLocal (s : State) (p : Nat) : BitVec 128 :=
  let mac := s.rdN Obj.ETH_MAC (sel p 0) % 2 ^ 48
  let hi := (mac / 2 ^ 24) ^^^ 0x020000
  BitVec.ofNat 128 (0xFE80 * 2 ^ 112 + hi * 2 ^ 40 + 0xFFFE * 2 ^ 24 + mac % 2 ^ 24)

/-- The IPv6 addresses of a port (R467). -/
def State.ipv6Addrs (s : State) (p : Nat) : List (BitVec 128) :=
  match s.ipv6Field p 287 286 with
  | 0 => []
  | 1 => [s.linkLocal p]
  | _ => [s.linkLocal p, BitVec.ofNat 128 (s.ipv6Field p 255 128)]

/-- The addresses that a port answers for. -/
def State.addrs (s : State) (p : Nat) : List (BitVec 128) :=
  (match (s.eth p).ipv4 with
   | some a => [mapped a.addr]
   | none => []) ++ s.ipv6Addrs p

/-- The address from which a port answers a peer (R466, R467, R469): none where the port has no address of the peer's kind. A
peer on a link-local address is answered from the port's own (log 23). -/
def State.source (s : State) (p : Nat) (a : Peer) : Option (BitVec 128) :=
  if a.addr.extractLsb' 32 96 = 0xFFFF then (s.eth p).ipv4.map (fun x => mapped x.addr)
  else if a.addr.extractLsb' 118 10 = 0x3FA then (s.ipv6Addrs p).head?
  else (s.ipv6Addrs p).getLast?

/-- The solicited-node group of an address (R467). -/
def solicited (a : BitVec 128) : BitVec 128 := (0xFF0200000000000000000001FF : BitVec 104) ++ a.extractLsb' 0 24

/-- MLDv2 reports for the solicited-node groups of a port (R467). -/
def State.mld (s : State) (p : Nat) : State :=
  if s.ethUp p ∧ (s.ipv6Addrs p).isEmpty = false then s.send1 (.mldReport p ((s.ipv6Addrs p).map solicited).eraseDups) else s

/-- The first port becomes reachable (R573): LAST_BOOT records the milliseconds since VIN valid. -/
def State.reach (s : State) : State :=
  if s.landing.reached then s
  else
    let ms := (s.cyc - s.landing.vinAt) / 1250000
    let v := if ms < 65536 then ms else (Config.pastLimit Obj.LAST_BOOT 0).toNat % 65536
    ({ s with landing := { s.landing with reached := true } } : State).wrN Obj.LAST_BOOT 0 v

/-- A port that is up and has an address is reachable. -/
def State.reachIf (s : State) (p : Nat) : State := if s.ethUp p && !(s.addrs p).isEmpty then s.reach else s

/-- An IPv4 address is applied, announced by one gratuitous ARP on a link that is up (R468). -/
def State.applyIpv4 (s : State) (p : Nat) (a : Ipv4) : State :=
  let s1 := s.setEth p { s.eth p with ipv4 := some a }
  (if s.ethUp p then s1.send1 (.arpAnnounce p a.addr) else s1).reachIf p

/-- The DHCP client starts with DISCOVER (R466). -/
def State.discover (s : State) (p : Nat) : State :=
  let s1 := s.setEth p { s.eth p with dhcp := .selecting, lease := none, ipv4 := none }
  if s.ethUp p then s1.send1 (.dhcp p .discover 0) else s1

/-- What IPV4_CONFIG selects takes effect (R466, R469). -/
def State.configIpv4 (s : State) (p : Nat) : State :=
  let w := s.rd Obj.IPV4_CONFIG (sel p 0)
  match s.ipv4Mode p with
  | 0 => s.setEth p { s.eth p with ipv4 := none, dhcp := .init, lease := none }
  | 1 =>
    let a : Ipv4 := ⟨1, BitVec.ofNat 32 (bits w 69 38), bits w 37 32, BitVec.ofNat 32 (bits w 31 0)⟩
    (s.setEth p { s.eth p with dhcp := .init, lease := none }).applyIpv4 p a
  | _ => s.discover p

/-- Membership of 224.0.1.129 is reported while PTP runs on the port (R468). -/
def State.igmp (s : State) (p : Nat) : State :=
  if s.rdN Obj.PTP_ENABLE 0 % 2 = 1 ∧ s.rdN Obj.PTP_PORT 0 = p ∧ s.ethUp p then s.send1 (.igmpReport p) else s

/-- ETH_LINK_UP (R462, R463, R466): negotiation and training are complete; the port takes its addresses. -/
def execEthLinkUp (port : Nat) (s : State) : Out :=
  if !s.portPowered port ∨ s.ethUp port ∨ s.scanning then .next s
  else
    let cabled := decide (s.phyMode port < 2)
    let s1 := s.setEth port { s.eth port with up := true, trained := cabled, anDone := cabled }
    .next ((((s1.configIpv4 port).reachIf port).igmp port).mld port)

/-- A port's link goes down (R469, R489). Sessions stay. -/
def State.linkLost (s : State) (p : Nat) : State := s.setEth p { s.eth p with up := false, trained := false, anDone := false }

/-- ETH_LINK_DOWN. -/
def execEthLinkDown (port : Nat) (s : State) : Out := .next (if port < 2 then s.linkLost port else s)

/-- A frame discarded and counted (R465). -/
def State.discard (s : State) (p : Nat) : State := s.inc Obj.ETH_RX_DISCARDED (sel p 0)

/-- ETH_FRAME_RECEIVE (R463–R465, R468): FEC is counted; a frame that the port does not accept is discarded and counted. -/
def execEthFrameReceive (port : Nat) (f : EthFrame) (s : State) : Out :=
  let k := sel port 0
  if !s.ethUp port then .next s
  else
    let s1 := (s.count Obj.FEC_CORRECTED k f.corrected).count Obj.FEC_UNCORRECTED k f.uncorrected
    let vlan := s.rdN Obj.VLAN k
    let tagged := if vlan = 0 then f.vid == none || f.vid == some 0 else f.vid == some (BitVec.ofNat 12 vlan)
    if 0 < f.uncorrected then .next ((s1.setBit Obj.ETH_STATUS k 10).discard port)
    else if f.len < 64 ∨ 9216 < f.len ∨ !tagged then .next (s1.discard port)
    else
      match f.body with
      | .served => .next s1
      | .otherIcmp => .next s1
      | .macControl => .next ((s1.setBit Obj.ETH_STATUS k 11).discard port)
      | .badChecksum true => .next (s1.inc Obj.REQUESTS_DISCARDED 0)
      | .badChecksum false => .next (s1.discard port)
      | .otherPort => .next (s1.discard port)
      | .fragment => .next (s1.discard port)
      | .otherEthertype => .next (s1.discard port)

/-! DHCP (R466; RFC 2131). -/

/-- DHCP_MESSAGE_RECEIVE. -/
def execDhcpMessageReceive (port : Nat) (m : DhcpMsg) (s : State) : Out :=
  let x := s.eth port
  let asking := x.dhcp == .requesting || x.dhcp == .renewing || x.dhcp == .rebinding
  if !x.up ∨ s.ipv4Mode port ≠ 2 then .next s
  else
    match m with
    | .offer addr server =>
      if x.dhcp = .selecting then .next ((s.setEth port { x with dhcp := .requesting, server := server }).send1 (.dhcp port .request addr))
      else .next s
    | .ack addr pfx gateway server lease =>
      if asking then
        let a : Ipv4 := ⟨2, addr, pfx, gateway⟩
        let s1 := s.setEth port { x with dhcp := .bound, server := server, lease := some (s.cyc, lease) }
        .next (if x.ipv4 = some a then s1 else s1.applyIpv4 port a)
      else .next s
    | .nak => .next (if asking then s.discover port else s)

/-- The eighths of a port's lease that have passed, and its lease in seconds. -/
def State.leasePart (s : State) (p : Nat) (eighths : Nat) : Bool :=
  match (s.eth p).lease with
  | some (c, t) => decide (t * eighths * 1250000000 ≤ (s.cyc - c) * 8)
  | none => false

/-- DHCP_RENEW: at 50 % of the lease. -/
def execDhcpRenew (port : Nat) (s : State) : Out :=
  let x := s.eth port
  if x.up ∧ x.dhcp = .bound ∧ s.leasePart port 4 then .next ((s.setEth port { x with dhcp := .renewing }).send1 (.dhcp port .renew x.server))
  else .next s

/-- DHCP_REBIND: at 87.5 % of the lease. -/
def execDhcpRebind (port : Nat) (s : State) : Out :=
  let x := s.eth port
  if x.up ∧ (x.dhcp = .bound ∨ x.dhcp = .renewing) ∧ s.leasePart port 7 then
    .next ((s.setEth port { x with dhcp := .rebinding }).send1 (.dhcp port .rebind 0))
  else .next s

/-- DHCP_EXPIRY: the address is removed, DHCP_LOST is set, and the client starts again. -/
def execDhcpExpiry (port : Nat) (s : State) : Out :=
  if s.leasePart port 8 then .next ((s.setBit Obj.ETH_STATUS (sel port 0) 9).discover port) else .next s

/-! ARP, echo and neighbour discovery (R467, R468). -/

/-- ARP_REQUEST_RECEIVE: a request for the port's address is answered. -/
def execArpRequestReceive (port : Nat) (m : ArpMsg) (s : State) : Out :=
  match (s.eth port).ipv4 with
  | some a => .next (if s.ethUp port ∧ m.target = a.addr then s.send1 (.arpReply port m.sender) else s)
  | none => .next s

/-- ARP_REPLY_RECEIVE: resolves a neighbour, of which a port keeps up to 256; a reply that claims the port's own address sets
ADDRESS_CONFLICT. -/
def execArpReplyReceive (port : Nat) (m : ArpMsg) (s : State) : Out :=
  let x := s.eth port
  let own := match x.ipv4 with
    | some a => a.addr == m.sender
    | none => false
  if !x.up then .next s
  else if own then .next (s.setBit Obj.ETH_STATUS (sel port 0) 8)
  else
    let rest := x.neighbours.filter (fun n => n.1 != m.sender)
    if 256 ≤ rest.length then .next s else .next (s.setEth port { x with neighbours := (m.sender, m.mac, s.cyc) :: rest })

/-- ARP_AGE_OUT: neighbours age out after 300 s. -/
def execArpAgeOut (port : Nat) (s : State) : Out :=
  let x := s.eth port
  .next (s.setEth port { x with neighbours := x.neighbours.filter (fun n => decide (s.cyc < n.2.2 + 375000000000)) })

/-- ICMP_ECHO_REQUEST: answered up to the MTU. -/
def execIcmpEchoRequest (port : Nat) (m : EchoMsg) (s : State) : Out :=
  let known := if m.v6 then (s.ipv6Addrs port).contains m.dst else
    match (s.eth port).ipv4 with
    | some a => mapped a.addr == m.dst
    | none => false
  .next (if s.ethUp port ∧ known = true ∧ m.len ≤ s.rdN Obj.MTU (sel port 0) then s.send1 (.echoReply port m) else s)

/-- NEIGHBOUR_SOLICITATION: one for the port's address is answered by an advertisement. -/
def execNeighbourSolicitation (port : Nat) (m : NsMsg) (s : State) : Out :=
  .next (if s.ethUp port ∧ (s.ipv6Addrs port).contains m.target then s.send1 (.advert port m) else s)

/-! Configuration (R469, R477, R497–R501). -/

/-- A value that the chapter calls a host error. -/
def netBad (obj : Nat) (ws : List Word) : Bool :=
  let w := ws.headD 0
  if obj = Obj.PHY_MODE then decide (4 ≤ w.toNat)
  else if obj = Obj.MTU then w != 1500 && w != 9000
  else if obj = Obj.VLAN then decide (4094 < w.toNat)
  else if obj = Obj.IPV4_CONFIG then bits w 71 70 == 3 || decide (32 < bits w 37 32)
  else if obj = Obj.IPV6_CONFIG then bits w 71 70 == 3 || decide (128 < bits w 69 62) || bits w 61 40 != 0
  else true

/-- NETWORK_CONFIG_WRITE (R469): the value takes effect and is saved at once; a change of PHY_MODE or VLAN takes the link
down. No session closes. -/
def execNetworkConfigWrite (port obj : Nat) (ws : List Word) (s : State) : Out :=
  let k := sel port 0
  if 2 ≤ port ∨ netBad obj ws then hostError
  else if obj = Obj.IPV6_CONFIG then .next (((s.writeWords obj k 4 0 ws).reachIf port).mld port)
  else
    let w := ws.headD 0
    let s1 := s.wr obj k w
    if obj = Obj.PHY_MODE ∨ obj = Obj.VLAN then .next (if s.rd obj k = w then s1 else s1.linkLost port)
    else if obj = Obj.IPV4_CONFIG then .next (s1.configIpv4 port)
    else .next s1

/-- COMMISSION_SECRET (R477): the secret is stored in the nonvolatile store and COMMISSIONED is set. -/
def execCommissionSecret (ws : List Word) (s : State) : Out :=
  let v := ws ++ List.replicate (4 - ws.length) 0
  if bits (v.headD 0) 71 40 != 0 then hostError
  else .next (({ s with nv := { s.nv with secret := v.take 4 } } : State).wrN Obj.COMMISSIONED 0 1)

/-! What the objects read (R498–R500). -/

/-- ETH_STATUS. -/
def State.ethStatus (s : State) (p : Nat) : Word :=
  let x := s.eth p
  s.rd Obj.ETH_STATUS (sel p 0) ||| word (b2n x.trained * 8 + b2n x.anDone * 4 + b2n x.up * 2 + b2n (s.portPowered p))

/-- IPV4_APPLIED. -/
def State.ipv4Applied (s : State) (p : Nat) : Word :=
  match (s.eth p).ipv4 with
  | some a => word (a.mode * 2 ^ 70 + a.addr.toNat * 2 ^ 38 + a.pfx % 64 * 2 ^ 32 + a.gateway.toNat)
  | none => 0

/-- DHCP_LEASE_LEFT. -/
def State.leaseLeft (s : State) (p : Nat) : Nat :=
  match (s.eth p).lease with
  | some (c, t) => t - (s.cyc - c) / 1250000000
  | none => 0

/-- IPV6_APPLIED: word `w` of four. -/
def State.ipv6Applied (s : State) (p w : Nat) : Word :=
  let mode := s.ipv6Field p 287 286
  let v :=
    if mode = 0 then 0
    else if mode = 1 then 2 ^ 286 + 64 * 2 ^ 278 + (s.linkLocal p).toNat * 2 ^ 128
    else s.dwJoin Obj.IPV6_CONFIG (sel p 0) 0 4
  word (v / 2 ^ (72 * (3 - w)))

end Sys2Proof.Machine
end

