-- ==== Sys2Proof/Machine/Dictionary.lean ====
section
/-!
DEFINITION. The object dictionary as the host meets it: definitions and instances (R502–R508), types and their encoding
(R509–R511), the directory (R513, R514, R517), and what each object reads.
-/

namespace Sys2Proof.Machine

/-! Types (R509, R514). -/

/-- Type codes (R509). -/
def typeCode (t : ObjType) : Nat :=
  match t with
  | .bool => 1
  | .u8 => 2
  | .u16 => 3
  | .u32 => 4
  | .u64 => 5
  | .i16 => 6
  | .i32 => 7
  | .i64 => 8
  | .q15 => 9
  | .q31 => 10
  | .w72 => 11
  | .str => 12
  | .domain => 13

/-- The types in the order of their codes. -/
def typeList : List ObjType :=
  [.bool, .u8, .u16, .u32, .u64, .i16, .i32, .i64, .q15, .q31, .w72, .str, .domain]

/-- Width of a type (R514). -/
def typeBits (t : ObjType) : Nat :=
  match t with
  | .bool => 1
  | .u8 => 8
  | .u16 => 16
  | .u32 => 32
  | .u64 => 64
  | .i16 => 16
  | .i32 => 32
  | .i64 => 64
  | .q15 => 16
  | .q31 => 32
  | .w72 => 72
  | .str => 72
  | .domain => 0

/-- A type whose padding copies its highest bit (R509). -/
def typeSigned (t : ObjType) : Bool := t == .i16 || t == .i32 || t == .i64 || t == .q15 || t == .q31

/-- A string of the manual as a STRING (R509). -/
def strWord (cs : List Nat) : Word := word ((cs ++ List.replicate (9 - cs.length) 0).foldl (fun a c => a * 256 + c) 0)

/-- TYPE_NAME of a type, in ASCII (R514). -/
def typeName (t : ObjType) : Word :=
  strWord (match t with
    | .bool => [0x42, 0x4F, 0x4F, 0x4C]
    | .u8 => [0x55, 0x38]
    | .u16 => [0x55, 0x31, 0x36]
    | .u32 => [0x55, 0x33, 0x32]
    | .u64 => [0x55, 0x36, 0x34]
    | .i16 => [0x49, 0x31, 0x36]
    | .i32 => [0x49, 0x33, 0x32]
    | .i64 => [0x49, 0x36, 0x34]
    | .q15 => [0x51, 0x31, 0x2E, 0x31, 0x35]
    | .q31 => [0x51, 0x31, 0x2E, 0x33, 0x31]
    | .w72 => [0x57, 0x37, 0x32]
    | .str => [0x53, 0x54, 0x52, 0x49, 0x4E, 0x47]
    | .domain => [0x44, 0x4F, 0x4D, 0x41, 0x49, 0x4E])

/-- The bits of VALUE that the device uses on a WRITE (R509). -/
def writeBits (t : ObjType) (v : Word) : Word := word (v.toNat % 2 ^ typeBits t)

/-- VALUE of a reply (R509): the type's bits with their padding. -/
def readBits (t : ObjType) (v : Word) : Word :=
  let n := v.toNat % 2 ^ typeBits t
  if typeSigned t then wordOfInt (signed (typeBits t) n) else word n

/-! Definitions (R502–R504, R513, R514, R517). -/

/-- SIZE of a DOMAIN object on this member (R55, R510). -/
def State.objSize (s : State) (r : ObjRow) : Nat :=
  let n := s.member.dies
  if r.ty ≠ .domain then 0
  else if r.id = Obj.APPLIED_VECTOR_WAVEFORM ∨ r.id = Obj.APPLIED_VECTOR_KERNEL then 64 * n
  else if r.id = Obj.APPLIED_VECTOR_PERF then 9 * n / 2
  else if r.id = Obj.APPLIED_VECTOR_BAND then 15
  else if r.id = Obj.DICT_DIRECTORY then 2688
  else if r.id = Obj.BIAS_ENQUEUE then Config.biasEnqueueSize
  else r.size

/-- Access codes of a directory entry (R513). -/
def accessCode (a : Access) : Nat :=
  match a with
  | .ro => 0
  | .rw => 1
  | .wo => 2
  | .rwb => 3

/-- A directory entry (R513). -/
def State.entryWord (s : State) (r : ObjRow) : Word :=
  word (r.id * 2 ^ 48 + typeCode r.ty * 2 ^ 40 + accessCode r.acc * 2 ^ 38 + b2n r.secure * 2 ^ 37 + r.scope * 2 ^ 32 + s.objSize r)

/-- A definition from its directory entry (R513, R517); none for a reserved type. -/
def rowOfEntry (w : Word) : Option ObjRow :=
  match typeList[bits w 47 40 - 1]? with
  | some t =>
    if bits w 47 40 = 0 then none
    else
      let a : Access := match bits w 39 38 with
        | 0 => .ro
        | 1 => .rw
        | 2 => .wo
        | _ => .rwb
      some ⟨bits w 71 48, t, a, bit w 37, bits w 36 32, bits w 31 0⟩
  | none => none

/-- A definition that R503, R514 or R517 states: NUM_SUB of an index, a type descriptor, a vendor test object. -/
def madeRow (id : Nat) : Option ObjRow :=
  let index := id / 256
  let sub := id % 256
  if 1 ≤ index ∧ index ≤ 13 then
    match sub with
    | 0 => some ⟨id, .u8, .ro, false, 0, 0⟩
    | 1 => some ⟨id, .u16, .ro, false, 0, 0⟩
    | 2 => some ⟨id, .str, .ro, false, 0, 0⟩
    | _ => none
  else if 0x5000 ≤ index ∧ index ≤ 0x5FFF then
    if sub = 0 then if Config.vendorDirectory.any (fun w => bits w 71 56 == index) then some ⟨id, .u8, .ro, false, 0, 0⟩ else none
    else ((Config.vendorDirectory.find? (fun w => bits w 71 48 == id)).bind rowOfEntry).map (fun r => { r with secure := true })
  else if sub = 0 ∧ Obj.rows.any (fun r => r.id / 256 == index) then some ⟨id, .u8, .ro, false, 0, 0⟩
  else none

/-- The definition of an index and subindex, if there is one (R503, R504). -/
def defOf (id : Nat) : Option ObjRow :=
  match Obj.find id with
  | some r => some r
  | none => madeRow id

/-- A vendor test object (R517). -/
def isVendor (id : Nat) : Bool := decide (0x500000 ≤ id) && decide (id < 0x600000)

/-- NUM_SUB of an index (R503). -/
def numSub (index : Nat) : Nat :=
  if index < 0x100 then 2
  else if 0x5000 ≤ index ∧ index < 0x6000 then
    (Config.vendorDirectory.filter (fun w => bits w 71 56 == index)).foldl (fun a w => max a (bits w 55 48)) 0
  else (Obj.rows.filter (fun r => r.id / 256 == index)).foldl (fun a r => max a (r.id % 256)) 0

/-- The rows with NUM_SUB put before the first subindex of each index (R513). -/
def withNumSub : List ObjRow → List ObjRow
  | [] => []
  | r :: rs => if r.id % 256 = 1 then ⟨r.id - 1, .u8, .ro, false, 0, 0⟩ :: r :: withNumSub rs else r :: withNumSub rs

/-- Every definition outside the vendor test area, in ascending order. -/
def knownRows : List ObjRow :=
  ((List.range 13).flatMap (fun i => (List.range 3).filterMap (fun j => madeRow ((i + 1) * 256 + j)))) ++ withNumSub Obj.rows

/-- DICT_DIRECTORY: word `w` (R513). The vendor test area follows every other index in use. -/
def State.directoryWord (s : State) (w : Nat) : Word :=
  match knownRows[w]? with
  | some r => s.entryWord r
  | none => Config.vendorDirectory.getD (w - knownRows.length) 0

/-! Instances (R507, R508). -/

/-- Units of a scope on a die: the first and their number (R507). -/
def scopeUnits (scope : Nat) : Nat × Nat :=
  match scope with
  | 4 => (0, 4)
  | 5 => (0, 64)
  | 6 => (0, 16)
  | 7 => (0, 128)
  | 8 => (0, 8)
  | 9 => (0, 128)
  | 10 => (0, 16)
  | 11 => (0, 1024)
  | 12 => (512, 512)
  | 13 => (0, 8)
  | 14 => (0, 2048)
  | 15 => (0, 16)
  | 16 => (0, 256)
  | 17 => (0, 64)
  | 18 => (0, 4)
  | 0 => (0, 1)
  | 1 => (0, 1)
  | 2 => (0, 1)
  | 3 => (0, 1)
  | _ => (0, 0)

/-- A selector names an instance of a definition, on a die that is not in S3 and whose management core runs (R507, R508,
R580). -/
def State.instanceOf (s : State) (r : ObjRow) (k : Nat) : Bool :=
  let d := selDie k
  let u := selUnit k
  let (a, n) := scopeUnits r.scope
  decide (d < s.member.dies) && decide (a ≤ u) && decide (u < a + n) &&
    (if r.scope = 0 ∨ r.scope = 5 then d == 0 else !(s.die d).s3 && (s.die d).booted && (r.scope != 2 || decide (d < 2)))

/-- The definition that an object address names, if its instance is present. -/
def State.object (s : State) (id k : Nat) : Option ObjRow :=
  match defOf id with
  | some r => if s.instanceOf r k then some r else none
  | none => none

/-! What the objects that are not DOMAIN objects read. -/

/-- Objects of the device, its identity and its time base. -/
def State.readTime (s : State) (id k : Nat) : Option Word :=
  let d := selDie k
  if id = Obj.VENDOR then some (strWord [0x4B, 0x4F, 0x49, 0x4C, 0x41, 0x42, 0x45, 0x58])
  else if id = Obj.PRODUCT then some (strWord [0x50, 0x57, 0x30 + s.member.dies])
  else if id = Obj.DIES then some (word s.member.dies)
  else if id = Obj.DICT_VERSION then some 1
  else if id = Obj.DICT_ENTRIES then some 2688
  else if id = Obj.REQUESTED_EPOCH_WAVEFORM then some (word (s.epochRec 0).last.toNat)
  else if id = Obj.REQUESTED_EPOCH_KERNEL then some (word (s.epochRec 1).last.toNat)
  else if id = Obj.REQUESTED_EPOCH_PERF then some (word (s.epochRec 2).last.toNat)
  else if id = Obj.REQUESTED_EPOCH_BAND then some (word (s.epochRec (d * 4 + 3)).last.toNat)
  else if id = Obj.LOWEST_APPLIED_WAVEFORM then some (word (s.lowestApplied 0 0).toNat)
  else if id = Obj.LOWEST_APPLIED_KERNEL then some (word (s.lowestApplied 0 1).toNat)
  else if id = Obj.LOWEST_APPLIED_PERF then some (word (s.lowestApplied 0 2).toNat)
  else if id = Obj.LOWEST_APPLIED_BAND then some (word (s.lowestApplied d 3).toNat)
  else if id = Obj.DEVICE_TIME then some (word s.now)
  else if id = Obj.TIME_STATE then some (word s.timeState)
  else if id = Obj.TIME_STATUS then some s.timeStatus
  else if id = Obj.PLL_LOCK then some ((s.die d).plls.setWidth 72)
  else if id = Obj.TATTOO_MASTER then some (word (s.tattooView 0))
  else if id = Obj.TATTOO_HOPS then some (word (s.tattooView 1))
  else if id = Obj.TATTOO_PORT then some (word (s.tattooView 2))
  else if id = Obj.OUTPUT_DELAY then some (word (s.out k).dly)
  else if id = Obj.CAL_STATE then some (word (match s.cal.st with
    | .unset => 0
    | .host => 1
    | .acquiring => 2
    | .locked => 3
    | .holdover => 4))
  else none

/-- Objects of the outputs, generators, sequencers, inputs and demodulators. -/
def State.readUnits (s : State) (id k : Nat) : Option Word :=
  if id = Obj.OUT_STATUS then some (s.outStatus k)
  else if id = Obj.GEN_FREQ then some ((s.gen k).freq.setWidth 72)
  else if id = Obj.GEN_PHASE_OFFSET then some ((s.gen k).pofs.setWidth 72)
  else if id = Obj.GEN_BANK_BASE then some ((s.gen k).bank.setWidth 72)
  else if id = Obj.GEN_STATUS then some (s.genStatus k)
  else if id = Obj.SEQ_STATUS then some (s.seqStatus k)
  else if id = Obj.SEQ_ADDR then some (word (s.seq k).addrRead)
  else if id = Obj.SEQ_TIMELINE then some ((s.seq k).t.setWidth 72)
  else if id = Obj.TRAP_PENDING then some ((s.seq k).pend.setWidth 72)
  else if id = Obj.INPUT_STATUS then some (s.inputStatus k)
  else if id = Obj.DEMOD_STATUS then some (s.demodStatus k)
  else if id = Obj.CAL_STATUS then some (s.calStatus k)
  else if id = Obj.WIRE_RESULT then some (s.wireResult k)
  else if id = Obj.SLOT_STATE then some (word (s.slotState k))
  else if id = Obj.FORWARD_USED then some (word (s.forwardUsed (selDie k)))
  else if id = Obj.SUB_STATUS then some (s.subStatus k)
  else if id = Obj.SUB_LATENCY then some (word (s.subLatency k))
  else if id = Obj.DSP_STATUS then some (s.dspStatus k)
  else none

/-- Objects of the array read-out, Bell channels, bias outputs and sensor channels. -/
def State.readArray (s : State) (id k : Nat) : Option Word :=
  let d := selDie k
  if id = Obj.TONE_STATUS then some (s.toneStatus k)
  else if id = Obj.TRIG_STATUS then some (word (s.trigStatus k))
  else if id = Obj.MAJ_LAMBDA then some (word (s.maj k).lambda)
  else if id = Obj.ACQ_FILL then some (word (s.acq d).fill)
  else if id = Obj.ACQ_HIGH_WATER then some (word (s.acq d).high)
  else if id = Obj.ACQ_STATUS then some (s.rd Obj.ACQ_STATUS k ||| word (b2n (s.acq d).dropping * 2))
  else if id = Obj.RAW_STATUS then some (word (s.rawStatus d))
  else if id = Obj.CHAN_STATUS then some (s.chanStatus k)
  else if id = Obj.CHAN_OWNER then some (word ((s.chan k).owner.getD 255))
  else if id = Obj.TIMED_FIRES_PENDING then some (word (s.firesOf d).length)
  else if id = Obj.BIAS_STATUS then some (s.biasStatus k)
  else if id = Obj.BIAS_CODE then some (word (s.biasCode k))
  else if id = Obj.SNS_STATUS then some (s.snsStatus k)
  else none

/-- Objects of the Ferry, Ethernet, sessions, power, faults and trims. -/
def State.readSystem (s : State) (id k : Nat) : Option Word :=
  let d := selDie k
  if id = Obj.CROSSING_SIZE then some (word s.crossingSize)
  else if id = Obj.PORT_STATUS then some (s.portStatus d)
  else if id = Obj.LANE_STATUS then some (s.laneStatus k)
  else if id = Obj.EYE_FIGURES then some (s.eyeFigures k)
  else if id = Obj.SESSIONS_OPEN then some (word s.openSessions)
  else if id = Obj.STREAM_FRAMES then some ((s.session (selUnit k)).frames.setWidth 72)
  else if id = Obj.ETH_STATUS then some (s.ethStatus d)
  else if id = Obj.IPV4_APPLIED then some (s.ipv4Applied d)
  else if id = Obj.DHCP_LEASE_LEFT then some (word (s.leaseLeft d))
  else if id = Obj.SLEEP_RESULT then some s.sleepResultWord
  else if id = Obj.MGMT_PL then some (word (s.mgmtLevel d))
  else if id = Obj.THERMAL_STATUS then some (s.thermalStatus d)
  else if id = Obj.SHUTDOWN_STATUS then some s.shutdownStatus
  else if id = Obj.TRIM_STATUS then some (s.trimStatus d)
  else if id = Obj.VERIFY_RESULT then some (s.verifyResult d)
  else none

/-- The value of an object that is not a DOMAIN object (R14, R15, R512): 0 of its type for a WO object; what its unit shows
for a live one; else the value it holds. -/
def State.readObj (s : State) (r : ObjRow) (k : Nat) : Word :=
  let id := r.id
  if r.acc = .wo then 0
  else
    let v : Option Word :=
      if id < 0x10000 then
        let t := typeList.getD (id / 256 - 1) .bool
        some (if id % 256 = 1 then word (typeBits t) else if id % 256 = 2 then typeName t else 2)
      else if id % 256 = 0 then some (word (numSub (id / 256)))
      else (s.readTime id k).orElse (fun _ => (s.readUnits id k).orElse (fun _ => (s.readArray id k).orElse (fun _ => s.readSystem id k)))
    readBits r.ty (v.getD (s.rd id k))

/-- The value that a READ returns, and the state after it: a vendor test object's content is not stated (R517, log 1). -/
def State.readValue (s : State) (r : ObjRow) (k : Nat) : Word × State :=
  if isVendor r.id ∧ r.id % 256 ≠ 0 ∧ r.acc ≠ .wo then
    let (n, s1) := s.take
    (readBits r.ty (word n), s1)
  else (s.readObj r k, s)

/-! What the DOMAIN objects read (R510). -/

/-- SESSION_INFO (R496): word `w` of three. -/
def State.sessionInfo (s : State) (ses w : Nat) : Word :=
  let x := s.session ses
  let v := if x.live then
      2 ^ 215 + b2n x.admin * 2 ^ 214 + x.port % 2 * 2 ^ 213 + x.peer.udp.toNat * 2 ^ 192 + x.peer.addr.toNat * 2 ^ 64 +
        x.smax.toNat * 2 ^ 32 + min 65535 ((s.cyc - x.lastAt) / 1250000000) * 2 ^ 16
    else 0
  word (v / 2 ^ (72 * (2 - w)))

/-- Word `w` of a DOMAIN object. -/
def State.readWord (s : State) (r : ObjRow) (k w : Nat) : Word :=
  let d := selDie k
  let id := r.id
  if r.acc = .wo then 0
  else if id = Obj.APPLIED_VECTOR_WAVEFORM then s.vectorWord 0 0 w
  else if id = Obj.APPLIED_VECTOR_KERNEL then s.vectorWord 1 0 w
  else if id = Obj.APPLIED_VECTOR_PERF then s.vectorWord 2 0 w
  else if id = Obj.APPLIED_VECTOR_BAND then s.vectorWord 3 (d * 30) w
  else if id = Obj.CALENDAR then s.calendarWord w
  else if id = Obj.ANCHOR then s.anchorWord w
  else if id = Obj.TRAP_FRAME then (s.seq k).frame.word w
  else if id = Obj.SLOT_SNAPSHOT then s.snapshotWord d w
  else if id = Obj.DSP_REGS then (s.dsp k).regsWord w
  else if id = Obj.WIRING then wiringWord w
  else if id = Obj.CROSSING_REACHABLE then s.reachableWord w
  else if id = Obj.ROUTE_TABLE then word (s.routeEntry d (2 * w) * 2 ^ 36 + s.routeEntry d (2 * w + 1))
  else if id = Obj.SESSION_INFO then s.sessionInfo (selUnit k) w
  else if id = Obj.IPV6_APPLIED then s.ipv6Applied d w
  else if id = Obj.DICT_DIRECTORY then s.directoryWord w
  else if id = Obj.SLEEP_MAP then s.sleepMap d w
  else s.dw id k w

/-- A word of an engine's memory that the host reads, as its check bits have it (R304): a corrected one is counted, an
uncorrectable data word reads as 0 and is reported. What an uncorrectable program word reads as is not stated (log 1). -/
def State.dspHostRead (s : State) (id k w : Nat) (e : Ecc) : Word × State :=
  match e with
  | .clean => (s.dw id k w, s)
  | .corrected => (s.dw id k w, s.inc Obj.DSP_MEM_CORRECTED k)
  | .uncorrectable =>
    if id = Obj.DSP_DATA then (0, (s.dspUncorr (selDie k) (selUnit k) 1 w).dspRetired (selDie k) (selUnit k))
    else
      let (x, t) := s.take
      (word x, t)

/-- A word of a block (R486). The content of a vendor test object is not stated (log 1). -/
def State.blockWord (s : State) (r : ObjRow) (k w : Nat) (e : Ecc) : Word × State :=
  if isVendor r.id ∧ r.acc ≠ .wo then
    let (x, t) := s.take
    (word x, t)
  else if r.id = Obj.DSP_PROGRAM ∨ r.id = Obj.DSP_DATA then s.dspHostRead r.id k w e
  else (s.readWord r k w, s)

/-- Words of a block at positions `p` to `p + n − 1` (R486); `checks` holds what the check bits said of the words that were
not clean, by position. -/
def State.readWords (s : State) (r : ObjRow) (k off : Nat) (checks : List (Nat × Ecc)) (p : Nat) : Nat → List Word × State
  | 0 => ([], s)
  | n + 1 =>
    let e := ((checks.find? (fun c => c.1 == p)).map Prod.snd).getD .clean
    let (v, s1) := s.blockWord r k ((off + p) % s.objSize r) e
    let (vs, s2) := s1.readWords r k off checks (p + 1) n
    (v :: vs, s2)

end Sys2Proof.Machine
end

