-- ==== Sys2Proof/Machine/Steps.lean ====
section
/-!
DEFINITION. Steps of device time: what a step skips over, and the commands that step (R69, R70, R75, R80, R82).
-/

namespace Sys2Proof.Machine

/-- An action scheduled for a device time (R70). -/
inductive Scheduled where
  | fire (f : TimedFire)
  | pulse
  | wake (t : TimedWake)
  deriving DecidableEq, Repr

/-- A scheduled action in its place in order of time. -/
def insScheduled (t : Nat) (a : Scheduled) : List (Nat × Scheduled) → List (Nat × Scheduled)
  | [] => [(t, a)]
  | p :: ps => if t < p.1 then (t, a) :: p :: ps else p :: insScheduled t a ps

/-- The actions scheduled for a device time that a step from `before` to `after` skips over, in order of time (R70). -/
def State.skipped (s : State) (before after : Nat) : List (Nat × Scheduled) :=
  let pulse := match s.clock.syncOutNext with
    | some t => if s.rdN Obj.SYNC_OUT_ENABLE 0 = 1 then [(t.toNat, Scheduled.pulse)] else []
    | none => []
  let all := s.fires.map (fun f => (f.time.toNat, Scheduled.fire f)) ++ pulse ++
    s.sleep.timers.map (fun t => (t.time, Scheduled.wake t))
  (all.filter (fun p => decide (before < p.1) && decide (p.1 < after))).foldl (fun l p => insScheduled p.1 p.2 l) []

/-- A scheduled action that a step has skipped over takes place at once (R70). A train of SYNC_OUT pulses goes on at its
first time from the new count on. -/
def State.performSkipped (s : State) : Scheduled → State
  | .fire f => ({ s with fires := s.fires.erase f } : State).fireNow f.die f.chan
  | .pulse =>
    let p := s.rdN Obj.SYNC_OUT_PERIOD 0
    let t := (s.clock.syncOutNext.getD 0).toNat
    { s with clock := { s.clock with
      syncOutUntil := s.cyc + 5,
      syncOutNext := if p = 0 then none else some (BitVec.ofNat 64 (t + (s.now - t + p - 1) / p * p)) } }
  | .wake t => ({ s with sleep := { s.sleep with timers := s.sleep.timers.erase t } } : State).wakeCause t.target t.selector 5

/-- A step of device time (R70): what it changes at once, and what it skips over, in order of scheduled time. Actions that
a backward step moves into the future wait. -/
def State.stepTime (s : State) (t : Time) (kind : StepKind) : State :=
  (s.skipped s.now t.toNat).foldl (fun u p => u.performSkipped p.2) (s.setTime t kind)

/-- TIME_SET (R69, R70): accepted when TIME_SOURCE is LOCAL or the device is the Tattoo master, and no sequencer runs;
otherwise discarded with STEP_REFUSED. -/
def execTimeSet (v : Time) (s : State) : Out :=
  if (s.rdN Obj.TIME_SOURCE 0 == 0 || s.isMaster) && !s.anyRunning then .next (s.stepTime v .host)
  else .next (s.setBit Obj.TIME_STATUS 0 5)

/-- A new alignment (R70, R75): held with ALIGN_PENDING while a sequencer runs, else a step and a DLY. -/
def State.align (s : State) (offset : Int) : State :=
  if s.anyRunning then { s with tattoo := { s.tattoo with pending := true, align := .aligning, lost := false } }
  else
    let (n, dly) := alignStep offset
    let s1 := s.stepTime (BitVec.ofInt 64 ((s.now : Int) + n)) .tattoo
    { s1 with tattoo := { s1.tattoo with pending := false, align := .aligned, once := true, lost := false, dly := dly } }

/-- What a follower does with a completed average of the link it follows (R75, R76, R80). In holdover it keeps its time,
unverified (R84). -/
def State.track (s : State) (o : Int) : State :=
  let t := s.tattoo
  if s.clock.holdover then s
  else if !t.once then s.align o
  else if t.lost then
    if -1023 ≤ o ∧ o ≤ 1024 then
      { s with tattoo := { t with align := .aligned, lost := false, pending := false, dly := (1024 - o).toNat } }
    else (s.setBit Obj.TIME_STATUS 0 2).align o
  else if t.align = .aligning then s.align o
  else
    let want := 1024 - o
    if want < 0 ∨ 2047 < want then s.align o
    else
      let cur : Int := t.dly
      { s with tattoo := { t with dly := (if cur < want then cur + 1 else if want < cur then cur - 1 else cur).toNat,
                                  align := .aligned } }

/-- MARKER_AVERAGE (R73, R75, R76, R80): an average over 256 markers of a port completes; LINK_DELAY and LINK_OFFSET are
published, and the follower acts on the average of the link it follows. -/
def execMarkerAverage (d : Nat) (s : State) : Out :=
  let x := s.link d
  if x.count < 256 then .next s
  else
    let f := mean (x.sumTrip : Int) 512
    let o := mean x.sumOff2 512
    let s1 := (s.setLink d { x with count := 0, sumTrip := 0, sumOff2 := 0 }).wrN Obj.LINK_DELAY (sel d 0) f.toNat
    let s2 := s1.wr Obj.LINK_OFFSET (sel d 0) (wordOfInt o)
    if s2.isFollower && (s2.tattoo.follow.map (·.2.2)) == some d then .next (s2.track o) else .next s2

/-- SYNC_LOAD_APPLY (R82, R70): SYNC_LOAD is loaded into device time and SYNC_ARM clears; a load that finds a sequencer
running is discarded and sets STEP_REFUSED. -/
def execSyncLoadApply (s : State) : Out :=
  match s.clock.syncLoadAt with
  | some c =>
    if c ≤ s.cyc then
      let s1 := { s with clock := { s.clock with syncLoadAt := none } }
      if s1.anyRunning then .next (s1.setBit Obj.TIME_STATUS 0 5)
      else .next ((s1.stepTime ((s1.rd Obj.SYNC_LOAD 0).setWidth 64) .synced).wrN Obj.SYNC_ARM 0 0)
    else .next s
  | none => .next s

end Sys2Proof.Machine
end

