-- ==== Sys2Proof/Machine/Writes.lean ====
section
/-!
DEFINITION. What a host write to each object does (R14, R15, R18, R484, R512): a write to an object with a row of its own
acts as that row; every other RW or RWB object holds the value written, which its unit reads at once, at its boundary, or
the stated number of cycles later.
-/

namespace Sys2Proof.Machine

/-! Clearing of sticky bits (R125). -/

/-- The status-clear objects: each with the status object it clears, that object's sticky bits and all its bits that
are not reserved (R91, R125, R127, R179,
R217, R219, R241, R270, R306, R307, R349, R351, R375, R397, R422, R458, R459, R498, R551). -/
def clearObjects : List (Nat × Nat × Nat × Nat) := [
  (Obj.TIME_STATUS_CLEAR, Obj.TIME_STATUS, 0x6F, 0x7F),
  (Obj.OUT_STATUS_CLEAR, Obj.OUT_STATUS, 0x1C, 0xFF),
  (Obj.GEN_STATUS_CLEAR, Obj.GEN_STATUS, 0x1C, 0x3F1F),
  (Obj.SEQ_STATUS_CLEAR, Obj.SEQ_STATUS, 0xFF800, 0xFFF1F),
  (Obj.INPUT_STATUS_CLEAR, Obj.INPUT_STATUS, 0x8, 0xFF),
  (Obj.DEMOD_STATUS_CLEAR, Obj.DEMOD_STATUS, 0x1F8, 0x1FF),
  (Obj.CAL_STATUS_CLEAR, Obj.CAL_STATUS, 0x60000, 0xFF3F1F),
  (Obj.SUB_STATUS_CLEAR, Obj.SUB_STATUS, 0x10, 0xF7),
  (Obj.DSP_STATUS_CLEAR, Obj.DSP_STATUS, 0x3E0, 0xF03FF),
  (Obj.DSP_EV_OVERRUN_CLEAR, Obj.DSP_EV_OVERRUN, 0xFFFF, 0xFFFF),
  (Obj.TONE_STATUS_CLEAR, Obj.TONE_STATUS, 0x8, 0xF),
  (Obj.ACQ_STATUS_CLEAR, Obj.ACQ_STATUS, 0x1, 0x3),
  (Obj.CHAN_STATUS_CLEAR, Obj.CHAN_STATUS, 0x6, 0x1F),
  (Obj.BIAS_STATUS_CLEAR, Obj.BIAS_STATUS, 0x380, 0x7FE007FF),
  (Obj.SNS_STATUS_CLEAR, Obj.SNS_STATUS, 0x1C0, 0x3FFF),
  (Obj.PORT_STATUS_CLEAR, Obj.PORT_STATUS, 0xE00, 0xFFE7FE00),
  (Obj.LANE_STATUS_CLEAR, Obj.LANE_STATUS, 0x6000, 0xF7730),
  (Obj.ETH_STATUS_CLEAR, Obj.ETH_STATUS, 0xF00, 0xF0F),
  (Obj.THERMAL_STATUS_CLEAR, Obj.THERMAL_STATUS, 0xD0, 0x3FF7)]

/-- STATUS_CLEAR (R9, R125): the sticky bits written as 1 clear; 1 written to the bit of another field has no effect, and to
a reserved bit is a host error. -/
def execStatusClear (obj k : Nat) (v : Word) (s : State) : Out :=
  match clearObjects.find? (fun c => c.1 == obj) with
  | some c => unlessError (v &&& ~~~(word c.2.2.2) != 0) (s.clearBits c.2.1 k (v &&& word c.2.2.1))
  | none => .next s

/-- VENDOR_TEST_WRITE (R517): a write that passes every check is a host error. -/
def execVendorTestWrite (_obj _sel : Nat) (_v : Word) (_s : State) : Out := hostError

/-! Values that the chapters call host errors. -/

/-- A reserved, or otherwise unfit, value of an object of the time base, outputs, generators and sequencers (R68, R79, R90,
R178, host errors of the chapters). -/
def badUnitValue (id k : Nat) (v : Word) : Bool :=
  let n := v.toNat
  if id = Obj.TIME_SOURCE ∨ id = Obj.TATTOO_ROLE then decide (3 ≤ n)
  else if id = Obj.OUTPUT_SKEW then decide (signed 16 n < -64) || decide (63 < signed 16 n)
  else if id = Obj.PTP_PORT then decide (1 < n)
  else if id = Obj.PTP_DOMAIN then decide (127 < n)
  else if id = Obj.OUT_MODE then decide (4 ≤ n)
  else if id = Obj.FS_CURRENT then decide (15 < n)
  else if id = Obj.HEADROOM then decide (3 < n)
  else if id = Obj.FIR_LONG then n == 1 && selUnit k % 2 == 1
  else if id = Obj.SEQ_START_ADDR then bits v 15 14 != 0
  else if id = Obj.SEQ_STOP_VECTOR ∨ id = Obj.BREAK_ADDR then bit v 14
  else if Obj.SEQ_COUNTER_0 ≤ id ∧ id ≤ Obj.CNT_RELOAD_7 then bits v 31 24 != 0
  else if id = Obj.INPUT_MODE then decide (2 ≤ n)
  else if id = Obj.INPUT_RANGE then decide (4 ≤ n)
  else if id = Obj.DEMOD_FREQ then bits v 63 48 != 0
  else if id = Obj.DEMOD_CONTROL then bits v 31 2 != 0
  else if id = Obj.CAL_CONTROL then bits v 31 1 != 0
  else if id = Obj.WIRE_CONFIG then bits v 31 24 != 0
  else if id = Obj.TABLE_MAP then (List.range 8).any (fun i => bit v (8 * i + 6))
  else if id = Obj.DSP_START_ADDR then bits v 15 13 != 0
  else false

/-- The same for the other objects (R332, R349, R351, R396, R397, R420, R421, R458, R495, R549). -/
def badSystemValue (s : State) (id k : Nat) (v : Word) : Bool :=
  let n := v.toNat
  if id = Obj.TONE_CONFIG then toneBad (v.setWidth 64)
  else if id = Obj.TONE_DEADBAND then bits v 63 36 != 0
  else if id = Obj.RAW_CONFIG then bits v 26 17 != 0
  else if id = Obj.BIAS_CONFIG then biasConfigBad v
  else if id = Obj.BIAS_DIVIDER then biasDividerBad n
  else if id = Obj.SAFE_CODE ∨ id = Obj.SAFE_SLEW then bits v 31 20 != 0
  else if id = Obj.SAFE_WATCH then bits v 14 8 != 0
  else if id = Obj.SNS_CONFIG then snsBad (v.setWidth 64) (s.rdN Obj.SNS_GAIN k)
  else if id = Obj.SNS_GAIN then decide (8 < n)
  else if id = Obj.LANE_CONFIG then laneConfigBad v
  else if id = Obj.SESSION_TIMEOUT then n == 0 || decide (3600 < n)
  else if id = Obj.SESSION_WEIGHT then n == 0 || decide (64 < n)
  else if id = Obj.REG_CLOCK_SC ∨ id = Obj.REG_CLOCK_DIE then decide (3 < n)
  else if id = Obj.RISE_LIMIT then decide (n < 5) || decide (500 < n)
  else false

/-- An object whose unit sees a write 2 cycles late (R143, R354, R387). -/
def seenLate (id : Nat) : Bool :=
  (decide (Obj.TICK_PERIOD_0 ≤ id) && decide (id ≤ Obj.TICK_START_3)) || id == Obj.BIAS_TICK_ORIGIN || id == Obj.TABLE_MAP

/-! Effects beside the value held. -/

/-- TIME_SOURCE or TATTOO_ROLE written (R68, R72, R80): device time does not step; Tattoo that begins to run, or takes
another role, begins anew. -/
def State.writeRole (s : State) (id : Nat) (v : Word) : State :=
  let s1 := s.wr id 0 v
  if s1.tattooRuns == s.tattooRuns && s1.isMaster == s.isMaster && s1.isFollower == s.isFollower then s1
  else
    { s1 with
      tattoo := { began := if s1.isFollower then some s.cyc else none },
      links := s1.links.map (fun p : Nat × LinkAvg =>
        (p.1, { p.2 with count := 0, sumTrip := 0, sumOff2 := 0, heard := [], avgOf := none, sent := none })) }

/-- SYNC_OUT objects written (R83): SYNC_OUT_TIME, or an ENABLE that was 0, schedules the pulse at SYNC_OUT_TIME. -/
def State.writeSyncOut (s : State) (id : Nat) (v : Word) : State :=
  let s1 := s.wr id 0 v
  if id = Obj.SYNC_OUT_TIME ∨ (id = Obj.SYNC_OUT_ENABLE ∧ s.rdN id 0 = 0 ∧ v ≠ 0) then
    { s1 with clock := { s1.clock with syncOutNext := some ((s1.rd Obj.SYNC_OUT_TIME 0).setWidth 64) } }
  else s1

/-- PTP objects written (R87, R468): PTP that is enabled begins anew, and membership of its group is reported. -/
def State.writePtp (s : State) (id : Nat) (v : Word) : State :=
  let s1 := s.wr id 0 v
  let s2 : State := if id = Obj.PTP_ENABLE ∧ s.rdN id 0 = 0 ∧ v ≠ 0 then { s1 with ptp := { lockedOnce := s1.ptp.lockedOnce } } else s1
  if id = Obj.PTP_ENABLE ∨ id = Obj.PTP_PORT then s2.igmp (s2.rdN Obj.PTP_PORT 0) else s2

/-! Writes that are commands. STATUS values of R472 stand beside the outcome: 0 OK, 3 SECURITY, 6 FULL. -/

/-- SLEEP_REQUEST by STATE (R550). -/
def State.sleepWrite (s : State) (v : Word) : Out :=
  match bits v 71 69 with
  | 0 => execSleepS0 v s
  | 1 => execSleepS1 v s
  | 2 => execSleepS2 v s
  | 3 => execSleepS3 v s
  | 4 => execSleepStandby v s
  | _ => hostError

/-- Writes to the time base, the generators and the outputs. -/
def State.writeTime (s : State) (id k : Nat) (v : Word) : Option Out :=
  let d := selDie k
  let u := selUnit k
  if id = Obj.EPOCH_REQUEST then some (execEpochRequest v s)
  else if id = Obj.TIME_SET then some (execTimeSet (v.setWidth 64) s)
  else if id = Obj.PD_COMMIT then some (execPdCommit d u (bit v 0) s)
  else if id = Obj.GEN_FREQ then some (execGenFreqWrite d u (v.setWidth 64) s)
  else if id = Obj.GEN_PHASE_OFFSET then some (execGenPhaseOffsetWrite d u (v.setWidth 32) s)
  else none

/-- SEQ_COMMAND (R165). -/
def State.writeSeqCommand (s : State) (d q n : Nat) : Out :=
  match n with
  | 1 => execSeqStart d q s
  | 2 => execSeqHalt d q s
  | 3 => execSeqAbort d q s
  | 4 => execSeqArm d q s
  | 5 => execSeqDisarm d q s
  | _ => .next s

/-- DSP_COMMAND (R302). -/
def State.writeDspCommand (s : State) (d e n : Nat) : Out :=
  match n with
  | 1 => execDspCmdStart d e s
  | 2 => execDspCmdHalt d e s
  | 3 => execDspCmdResume d e s
  | 4 => execDspCmdStep d e s
  | _ => .next s

/-- BIAS_COMMAND (R396). -/
def State.writeBiasCommand (s : State) (d o n : Nat) : Out :=
  match n with
  | 1 => execBiasStart d o s
  | 2 => execBiasStop d o s
  | 3 => execBiasFlush d o s
  | 4 => execBiasSafe d o s
  | _ => .next s

/-- SNS_COMMAND (R416). -/
def State.writeSnsCommand (s : State) (d c n : Nat) : Out :=
  match n with
  | 1 => execSnsStart d c s
  | 2 => execSnsStop d c s
  | 3 => execSnsOneshot d c s
  | 4 => execSnsAbort d c s
  | _ => .next s

/-- LANE_COMMAND (R457). -/
def State.writeLaneCommand (s : State) (d l n : Nat) : Out :=
  match n with
  | 1 => execSleepTx d l s
  | 2 => execSleepRx d l s
  | 3 => execWakeTx d l s
  | _ => .next s

/-- TRIG_COMMAND (R350). -/
def State.writeTrigCommand (s : State) (d t n : Nat) : Out :=
  match n with
  | 1 => execTrigArm d t s
  | 2 => execTrigDisarm d t s
  | 3 => execTrigForce d t s
  | _ => .next s

/-- TRIM_COMMAND (R566). -/
def State.writeTrimCommand (s : State) (n : Nat) : Out :=
  match n with
  | 1 => execTrimSave s
  | 2 => execTrimLoadSaved s
  | 3 => execTrimLoadFactory s
  | _ => .next s

/-- Writes to the command objects and to the units with rows of their own. -/
def State.writeUnits (s : State) (id k : Nat) (v : Word) : Option Out :=
  let d := selDie k
  let u := selUnit k
  let n := v.toNat
  if id = Obj.SEQ_COMMAND then some (s.writeSeqCommand d u n)
  else if id = Obj.DSP_COMMAND then some (s.writeDspCommand d u n)
  else if id = Obj.BIAS_COMMAND then some (s.writeBiasCommand d u n)
  else if id = Obj.SNS_COMMAND then some (s.writeSnsCommand d u n)
  else if id = Obj.LANE_COMMAND then some (s.writeLaneCommand d u n)
  else if id = Obj.TRIG_COMMAND then some (s.writeTrigCommand d u n)
  else if id = Obj.TRIM_COMMAND then some (s.writeTrimCommand n)
  else if id = Obj.ACQ_COMMAND then some (if n = 1 then execAcqFlush d s else .next s)
  else if id = Obj.WIRE_COMMAND then some (if n = 1 then execWireStart d u s else if n = 2 then execWireCancel d u s else .next s)
  else if id = Obj.SHUTDOWN_COMMAND then some (if n = 1 then execShutdownCommand s else if n = 2 then execShutdownResume s else .next s)
  else if id = Obj.SLICE_RESTORE then some (execSliceRestore d u n s)
  else if id = Obj.SLOT_CLEAR then some (if n = 1 then execSlotClear d u s else .next s)
  else if id = Obj.SUB_CONFIG then some (execSubConfig d u v s)
  else if id = Obj.MAJ_CONFIG then some (execMajConfigWrite d u (.config (v.setWidth 64)) s)
  else if id = Obj.ALERT_CLEAR then some (if bit v 0 then execAlertClear d s else .next s)
  else if id = Obj.SLEEP_REQUEST then some (s.sleepWrite v)
  else if id = Obj.RESTORE_UNIT then some (execRestoreUnit n s)
  else if id = Obj.VERIFY_REQUEST then some (execVerifyRequest v s)
  else if id = Obj.SESSION_CLOSE then some (if n = 1 then execSessionClose u s else .next s)
  else if id = Obj.PHY_MODE ∨ id = Obj.MTU ∨ id = Obj.VLAN ∨ id = Obj.IPV4_CONFIG then some (execNetworkConfigWrite d id [v] s)
  else if clearObjects.any (fun c => c.1 == id) then some (execStatusClear id k v s)
  else none

/-- CHAN_FIRE by a session (R364, R365, R375, R492). -/
def State.fireChannel (s : State) (ses k : Nat) (v : Word) : Nat × Out :=
  let d := selDie k
  let c := selUnit k
  if !s.mayFire k ses then (3, .next s)
  else if bits v 71 65 != 0 then (0, hostError)
  else if !bit v 64 then (0, execChanFireImmediate d c ses s)
  else
    let time : Time := BitVec.ofNat 64 (bits v 63 0)
    (if s.now ≤ time.toNat ∧ 64 ≤ (s.firesOf d).length then 6 else 0, execChanFireTimed d c ses time s)

/-- Writes whose right depends on the session (R365, R371, R372, R495). -/
def State.writeGuarded (s : State) (ses id k : Nat) (v : Word) : Option (Nat × Out) :=
  let d := selDie k
  let u := selUnit k
  if id = Obj.CHAN_CONFIG then
    some (if s.mayConfigure k ses (bit v 22) then (0, execChanConfig d u ses (v.setWidth 32) s) else (3, .next s))
  else if id = Obj.CHAN_FIRE then some (s.fireChannel ses k v)
  else if id = Obj.CHAN_FIRE_CANCEL then
    some (if s.mayConfigure k ses false then (0, if bit v 0 then execChanFireCancel d u ses s else .next s) else (3, .next s))
  else if id = Obj.CHAN_RELEASE then
    some (if s.mayConfigure k ses false then (0, if bit v 0 then execChanRelease d u ses s else .next s) else (3, .next s))
  else if id = Obj.SESSION_WEIGHT ∧ u ≠ ses ∧ !s.isAdmin ses then some (3, .next s)
  else none

/-- AUTO_RESUME written (R548): 1 in STATE READY leaves shutdown. -/
def State.writeAutoResume (s : State) (v : Word) : State :=
  let s1 := s.wr Obj.AUTO_RESUME 0 v
  if s1.shut.st = .ready ∧ v ≠ 0 then s1.resume else s1

/-- A value held (R14, R15), with what R68, R83, R87, R178, R192 and R548 state beside it. -/
def State.hold (s : State) (id k : Nat) (v : Word) : State :=
  if id = Obj.TIME_SOURCE ∨ id = Obj.TATTOO_ROLE then s.writeRole id v
  else if id = Obj.SYNC_OUT_TIME ∨ id = Obj.SYNC_OUT_ENABLE then s.writeSyncOut id v
  else if id / 256 = 0x1230 then s.writePtp id v
  else if id = Obj.AUTO_RESUME then s.writeAutoResume v
  else if id = Obj.DEMOD_FREQ then s.demodFreq k v
  else if id = Obj.OUT_MODE ∨ id = Obj.FS_CURRENT ∨ id = Obj.HEADROOM ∨ id = Obj.FIR_LONG then
    (s.wr id k v).setOut k { s.out k with written := true }
  else if id = Obj.INPUT_MODE ∨ id = Obj.INPUT_RANGE then (s.wr id k v).setRfIn k { s.rfIn k with written := some s.cyc }
  else if id = Obj.SNS_CONFIG then (s.wr id k v).setSns k { s.sns k with written := true }
  else if id = Obj.SNS_GAIN then (s.wr id k v).setSns k { s.sns k with gainWritten := true }
  else if id = Obj.BIAS_CONFIG then (s.wr id k v).biasWritten k true
  else if id = Obj.BIAS_DIVIDER then (s.wr id k v).biasWritten k false
  else if id = Obj.TONE_CONFIG then (s.wr id k v).setTone k { s.tone k with written := true }
  else if Obj.SEQ_COUNTER_0 ≤ id ∧ id ≤ Obj.SEQ_COUNTER_7 ∧ (s.seq k).run = .running ∧ (s.seq k).phase ≠ .ready then
    s.setSeq k { s.seq k with cntWrites := (s.seq k).cntWrites ++ [(id - Obj.SEQ_COUNTER_0, v.toNat)] }
  else if seenLate id then s.wrNoted id k v
  else s.wr id k v

/-- A WRITE that has passed every check of R473: its STATUS and its outcome. -/
def State.writeObj (s : State) (ses : Nat) (r : ObjRow) (k : Nat) (v : Word) : Nat × Out :=
  let id := r.id
  if isVendor id then (0, execVendorTestWrite id k v s)
  else
    match s.writeGuarded ses id k v with
    | some x => x
    | none =>
      match (s.writeTime id k v).orElse (fun _ => s.writeUnits id k v) with
      | some o => (0, o)
      | none => (0, unlessError (badUnitValue id k v || badSystemValue s id k v) (s.hold id k v))

/-! Blocks (R484, R486). -/

/-- Two fields of 18 bits have reserved bits above their addresses: entries of DECISION_TABLE and TRAP_VECTORS (14 bits)
and DSP_VECTORS (13 bits). -/
def fieldsBad (v : Word) (w : Nat) : Bool := (List.range 4).any (fun i => bits v (18 * i + 17) (18 * i + w) != 0)

/-- A word of a condition map written (R150, R151, R180): a SLOT_FRESH entry captures its slot's generation count, which
samples see together with the entry. -/
def State.writeCond (s : State) (k w : Nat) (v : Word) : Out :=
  let es := [(2 * w, bits v 63 32), (2 * w + 1, bits v 31 0)]
  let x := s.seq k
  let y := es.foldl (fun (t : Seq) (e : Nat × Nat) =>
    if entrySource e.2 = 2 then
      t.capture e.1 (s.cyc + 2) s.cyc (s.slotSeen (sel (selDie k) (ebits e.2 9 0))).gen.toNat
    else t) x
  unlessError (bits v 71 64 != 0 || es.any (fun e => entryBad e.2))
    ((s.setDwNoted Obj.COND_MAP k w v).setSeq k y)

/-- A slice correction outside its range, or with reserved bits (R222, R567). -/
def inTrimBad (v : Word) : Bool :=
  let (o, g, k) := trimOf v
  decide (1024 < o.natAbs) || decide (1966 < g.natAbs) || decide (128 < k.natAbs) || bits v 32 0 != 0

/-- A word of a DOMAIN object written by the host. -/
def State.writeWord (s : State) (r : ObjRow) (k w : Nat) (v : Word) : Out :=
  let d := selDie k
  let u := selUnit k
  let id := r.id
  let plain := s.setDw id k w v
  if isVendor id then hostError
  else if id = Obj.BIAS_ENQUEUE then execBiasEnqueue d u v s
  else if id = Obj.DSP_REGS then s.writeDspRegs k w v
  else if id = Obj.MAJ_GROUP then execMajConfigWrite d u (.group w [v]) s
  else if id = Obj.COND_MAP then s.writeCond k w v
  else if id = Obj.DECISION_TABLE then unlessError (fieldsBad v 14) (s.setDwNoted id k w v)
  else if id = Obj.DSP_PROGRAM then .next (s.setDwNoted id k w v)
  else if id = Obj.TRAP_VECTORS then unlessError (fieldsBad v 14) plain
  else if id = Obj.DSP_VECTORS then unlessError (fieldsBad v 13) plain
  else if id = Obj.DSP_DATA then unlessError (bits v 71 64 != 0) plain
  else if Obj.IIR_SHADOW_0 ≤ id ∧ id ≤ Obj.IIR_SHADOW_3 then 
    unlessError (if w = 0 then bits v 71 25 != 0 else iirBad v) plain
  else if id = Obj.DEMOD_SET_0 ∨ id = Obj.DEMOD_SET_1 then
    unlessError (w == 0 && (bits v 24 0 != 0 || decide (2 ≤ bits v 47 46))) plain
  else if id = Obj.TRIG_CONFIG then
    unlessError (if w < 2 then condBad v else decide (256 < bits v 71 63) || bits v 32 0 != 0) plain
  else if id = Obj.OUT_TRIM then unlessError (decide (w < 5) && bits v 71 64 != 0) ((s.holdTrim k).setDw id k w v)
  else if id = Obj.IN_TRIM then unlessError (inTrimBad v) (((s.keepCorrections k).setDw id k w v).trimWritten k w)
  else if id = Obj.BIAS_TRIM then unlessError (bits v 71 56 != 0 || bits v 23 0 != 0) plain
  else if id = Obj.SNS_REF_TRIM then .next (plain.setSns k { plain.sns k with written := true })
  else if id = Obj.DIE_TRIM then
    unlessError (v != s.dw id k w && v != Config.factory id k w && v != look 0 (look [] (look [] s.nv.saved id) k) w) plain
  else .next plain

/-- The words of a frame written in order, from position `p` of the block (R484, R486). -/
def State.writeFrame (s : State) (r : ObjRow) (k off p : Nat) : List Word → Out
  | [] => .next s
  | v :: vs => (s.writeWord r k ((off + p) % s.objSize r) v).andThen (fun t => t.writeFrame r k off (p + 1) vs)

/-- Microwords committed from one frame (R177): both native words of each in it; an odd start or count is a host error. -/
def State.writeMicrowords (s : State) (k off p : Nat) : List Word → Out
  | [] => .next s
  | [_] => hostError
  | a :: b :: vs =>
    let w := (off + p) % 32768
    if w % 2 = 1 then hostError
    else
      let s1 := (s.setDwNoted Obj.CS_DATA k w a).setDwNoted Obj.CS_DATA k (w + 1) b
      let z := s1.store k
      let s2 := s1.setStore k { z with poison := z.poison.filter (fun n => n != w && n != w + 1) }
      s2.writeMicrowords k off (p + 2) vs

/-- Words put over a list of words, from position `off`. -/
def overlay (old : List Word) (size off : Nat) : List Word → List Word
  | [] => old
  | v :: vs => overlay (old.set (off % size) v) size (off + 1) vs

/-- The words of a WRITEBLOCK frame written (R484): words at positions COUNT and beyond are discarded. CAL_SET, the
commissioning secret and IPV6_CONFIG act on the words of the frame together. -/
def State.writeBlock (s : State) (r : ObjRow) (k off count part : Nat) (ws : List Word) : Out :=
  let n := if count = 0 then 65536 else count
  let kept := ws.take (n - part)
  let id := r.id
  if kept.isEmpty then .next s
  else if id = Obj.CS_DATA then if n % 2 = 1 then hostError else s.writeMicrowords k off part kept
  else if id = Obj.CAL_SET then
    let w := overlay [s.dw id 0 0, s.dw id 0 1] 2 (off + part) kept
    execCalSet (w.getD 0 0) (w.getD 1 0) (s.writeWords id 0 2 0 w)
  else if id = Obj.COMMISSION_SECRET then
    execCommissionSecret (overlay ((List.range 4).map (fun i => s.nv.secret.getD i 0)) 4 (off + part) kept) s
  else if id = Obj.MAJ_GROUP then execMajConfigWrite (selDie k) (selUnit k) (.group (off + part) kept) s
  else if id = Obj.IPV6_CONFIG then
    execNetworkConfigWrite (selDie k) id (overlay ((List.range 4).map (s.dw id k)) 4 (off + part) kept) s
  else s.writeFrame r k off part kept

end Sys2Proof.Machine
end

