-- ==== Sys2Proof/Machine/Landing.lean ====
section
/-!
DEFINITION. The Landing engine (R470–R487, R492–R494): frames, the request queue, sessions, the sequence window, object
access, and the messages that the host sends. Each request row executes the request at the head of the queue when that
request is of the row's kind.
-/

namespace Sys2Proof.Machine

/-! Frames (R470–R472). -/

/-- STATUS values (R472). -/
def stOk : Nat := 0
def stNoObject : Nat := 1
def stAccess : Nat := 2
def stSecurity : Nat := 3
def stNoSession : Nat := 4
def stStale : Nat := 5
def stFull : Nat := 6
def stChallenge : Nat := 7
def stAuthFailed : Nat := 8
def stBadFrame : Nat := 9

/-- The Landing header (R470). -/
structure Head where
  version : Nat
  op : Nat
  reply : Bool
  last : Bool
  admin : Bool
  reserved : Nat
  ses : Nat
  tag : BitVec 32
  seq : BitVec 32
  status : Nat
  len : Nat
  deriving DecidableEq, Repr

/-- The header of a frame, from its first 16 bytes. -/
def readHead (bs : List Byte) : Head :=
  let n := ofBytes (bs.take 16)
  { version := n / 2 ^ 120, op := n / 2 ^ 112 % 256, reply := n.testBit 111, last := n.testBit 110, admin := n.testBit 109,
    reserved := n / 2 ^ 104 % 32, ses := n / 2 ^ 96 % 256, tag := BitVec.ofNat 32 (n / 2 ^ 64),
    seq := BitVec.ofNat 32 (n / 2 ^ 32), status := n / 2 ^ 16 % 65536, len := n % 65536 }

/-- The header as bytes. -/
def Head.bytes (h : Head) : List Byte :=
  toBytes (h.version * 2 ^ 120 + h.op * 2 ^ 112 + b2n h.reply * 2 ^ 111 + b2n h.last * 2 ^ 110 + b2n h.admin * 2 ^ 109 +
    h.reserved * 2 ^ 104 + h.ses * 2 ^ 96 + h.tag.toNat * 2 ^ 64 + h.seq.toNat * 2 ^ 32 + h.status * 2 ^ 16 + h.len) 16

/-- Words of a frame, 9 bytes each (R7). -/
def readWordsOf (bs : List Byte) : Nat → List Word
  | 0 => []
  | n + 1 => word (ofBytes (bs.take 9)) :: readWordsOf (bs.drop 9) n

/-- A native word as bytes (R7). -/
def wordBytes (v : Word) : List Byte := toBytes v.toNat 9

/-- A request taken from the queue: its peer, its header, its payload, whether its port's link is up, the address from
which it is answered, as the request found it (R469), and what check bits say of the words that it reads. -/
structure Req where
  port : Nat
  peer : Peer
  h : Head
  body : List Byte
  up : Bool
  src : Option (BitVec 128)
  checks : List (Nat × Ecc)
  deriving DecidableEq, Repr

/-- A queued datagram as a request. -/
def State.reqOf (s : State) (q : Request) : Req :=
  ⟨q.port, q.peer, readHead q.data.bytes, q.data.bytes.drop 16, s.ethUp q.port, s.source q.port q.peer, q.data.checks⟩

/-- A field of the payload: `n` bytes from byte `a`. -/
def Req.field (q : Req) (a n : Nat) : Nat := ofBytes ((q.body.drop a).take n)

/-- A frame of the device for a request (R470): the request's header with REPLY, LAST, STATUS and LENGTH. -/
def Req.frame (q : Req) (status : Nat) (last : Bool) (body : List Byte) : List Byte :=
  ({ q.h with version := 1, reply := true, last := last, reserved := 0, status := status, len := body.length } : Head).bytes ++ body

/-- A frame sent to a request's peer; a port without a link, or without an address of the peer's kind, sends nothing (R466,
R469). -/
def State.answer (s : State) (q : Req) (frame : List Byte) : State :=
  match q.src with
  | some a => if q.up then s.send1 (.landing q.port a q.peer frame) else s
  | none => s

/-- A request that is not executed is answered with a STATUS alone (R473). -/
def State.refuse (s : State) (q : Req) (status : Nat) : Out := .next (s.answer q (q.frame status false []))

/-! Which row a request is of, and frame structure (R471, R473). -/

/-- BLOCK_WORDS of a port (R483). -/
def State.blockWords (s : State) (p : Nat) : Nat := if s.rdN Obj.MTU (sel p 0) = 9000 then 990 else 158

/-- The kinds of request, a row of the operations each. -/
inductive ReqKind where
  | open_ | openChallenge | openResponse | close | keepalive | read | write | readBlock | writeBlock | subscribe | fire | wake
  | resetUnit | resetDie | resetDevice
  deriving DecidableEq, Repr

/-- The kind of a request whose frame structure is right; none for BAD_FRAME (R471, R473). -/
def State.kindOf (s : State) (q : Req) : Option ReqKind :=
  let n := q.body.length
  if q.h.version ≠ 1 ∨ q.h.len ≠ n then none
  else
    match q.h.op with
    | 1 =>
      if q.h.admin then (if n = 8 then some .openChallenge else if n = 72 then some .openResponse else none)
      else if n = 8 then some .open_ else none
    | 2 => if n = 0 then some .close else none
    | 3 => if n = 0 then some .keepalive else none
    | 4 => if n = 5 then some .read else none
    | 5 => if n = 14 then some .write else none
    | 6 => if n = 13 then some .readBlock else none
    | 7 => if 13 ≤ n ∧ (n - 13) % 9 = 0 ∧ (n - 13) / 9 ≤ s.blockWords q.port then some .writeBlock else none
    | 8 => if n = 8 then some .subscribe else none
    | 10 => if n = 11 then some .fire else none
    | 11 => if n = 1 then some .wake else none
    | 12 =>
      if n = 6 then some (match q.field 0 1 with
        | 1 => .resetDie
        | 2 => .resetDevice
        | _ => .resetUnit)
      else none
    | _ => none

/-- A header that breaks R470 beyond what R473 checks: a host error when the request executes. -/
def Req.bad (q : Req) : Bool :=
  q.h.reserved != 0 || q.h.reply || q.h.status != 0 || (q.h.admin && q.h.op != 1) ||
    ((q.h.op == 1 || q.h.op == 11) && (q.h.ses != 255 || q.h.tag != 0))

/-- An outcome of a request that executes: a host error if its header breaks a rule (R18). -/
def Req.good (q : Req) (o : Out) : Out := if q.bad then hostError else o

/-- Die 0's management core serves requests (R474, R577, R580). -/
def State.serves (s : State) : Bool := (s.die 0).booted && !(s.die 0).s3 && !s.landing.resetLow

/-- The requests at the head of the queue whose frame structure is wrong are answered BAD_FRAME (R473). -/
def State.answerBad (s : State) : Nat → State
  | 0 => s
  | n + 1 =>
    match s.landing.queue with
    | [] => s
    | x :: rest =>
      let q := s.reqOf x
      if (s.kindOf q).isSome then s
      else
        (({ s with landing := { s.landing with queue := rest } } : State).answer q (q.frame stBadFrame false [])).answerBad n

/-- A row executes the request at the head of the queue, if that request is of the row's kind (R474). -/
def State.serve (s : State) (kind : ReqKind) (act : Req → State → Out) : Out :=
  if !s.serves then .next s
  else
    let s1 := s.answerBad s.landing.queue.length
    match s1.landing.queue with
    | [] => .next s1
    | x :: rest =>
      if s1.kindOf (s1.reqOf x) = some kind then
        act (s1.reqOf x) { s1 with landing := { s1.landing with queue := rest } }
      else .next s1

/-- LANDING_REQUEST_ARRIVE (R466, R473, R474): a datagram to an address of the port joins the queue of 256; one that is shorter than 16 bytes, or finds the
queue full, is discarded and counted. -/
def execLandingRequestArrive (port : Nat) (peer : Peer) (data : Datagram) (s : State) : Out :=
  if !s.ethUp port || (s.source port peer).isNone then .next s
  else if data.bytes.length < 16 ∨ 256 ≤ s.landing.queue.length then .next (s.inc Obj.REQUESTS_DISCARDED 0)
  else .next { s with landing := { s.landing with queue := s.landing.queue ++ [⟨port, peer, data⟩] } }

/-! The session check and the sequence window (R473, R475, R479, R480). -/

/-- Requests whose replies are not held (R480). -/
def readKind (op : Nat) : Bool := op == 3 || op == 4 || op == 6

/-- SEQ is beyond S_MAX in serial order modulo 2^32 (R479). -/
def seqBeyond (a b : BitVec 32) : Bool := a != b && decide ((a - b).toNat < 2 ^ 31)

/-- A request of a session has executed: its place in the window is marked, with its held reply if it has one (R479, R480).
A session that its own request closed has no window any more. -/
def State.mark (s : State) (q : Req) (held : Option (List Byte)) : State :=
  let x := s.session q.h.ses
  if !x.live || x.tag != q.h.tag then s
  else
    let top := if seqBeyond q.h.seq x.smax then q.h.seq else x.smax
    let kept := x.done.filter (fun p : BitVec 32 × Option (List Byte) => p.1 != q.h.seq && decide ((top - p.1).toNat < 32))
    s.setSession q.h.ses { x with smax := top, done := (q.h.seq, held) :: kept }

/-- A request that must pass the session check and the sequence check (R473, R475, R479–R481). -/
def State.inSession (s : State) (q : Req) (act : State → Out) : Out :=
  let x := s.session q.h.ses
  if !(decide (q.h.ses < 64) && x.live && x.tag == q.h.tag && x.port == q.port && x.peer == q.peer) then s.refuse q stNoSession
  else
    let s1 := s.setSession q.h.ses { x with lastAt := s.cyc }
    if seqBeyond q.h.seq x.smax || (readKind q.h.op && decide ((x.smax - q.h.seq).toNat < 32)) then act s1
    else if (x.smax - q.h.seq).toNat < 32 then
      match x.done.find? (fun p => p.1 == q.h.seq) with
      | some (_, some frame) => .next (s1.answer q frame)
      | some (_, none) => .next s1
      | none => act s1
    else s1.refuse q stStale

/-- An executed request is answered, and its reply is held (R479). -/
def State.finish (s : State) (q : Req) (status : Nat) (body : List Byte) : State :=
  let frame := q.frame status false body
  (s.answer q frame).mark q (some frame)

/-- An executed read is answered; its reply is not held (R480). -/
def State.finishRead (s : State) (q : Req) (body : List Byte) : State := (s.answer q (q.frame stOk false body)).mark q none

/-! Objects (R482). -/

/-- The object identity and the selector of an OBJADDR at byte `a` of the payload (R482). -/
def Req.objId (q : Req) (a : Nat) : Nat := q.field a 3
def Req.objSel (q : Req) (a : Nat) : Nat := q.field (a + 3) 2

/-- The checks of R473 on the object that a request names: existence, access, security. -/
def State.checkObj (s : State) (q : Req) (a : Nat) (access : ObjRow → Bool) (act : ObjRow → Out) : Out :=
  match s.object (q.objId a) (q.objSel a) with
  | none => s.refuse q stNoObject
  | some r =>
    if !access r then s.refuse q stAccess
    else if r.secure && !s.isAdmin q.h.ses then s.refuse q stSecurity
    else act r

/-- LANDING_READ (R482). -/
def execLandingRead (s : State) : Out :=
  s.serve .read (fun q t => t.inSession q (fun u => u.checkObj q 0 (fun r => r.ty != .domain) (fun r =>
    let (v, u1) := u.readValue r (q.objSel 0)
    q.good (.next (u1.finishRead q (q.body ++ wordBytes v))))))

/-- LANDING_WRITE (R482). -/
def execLandingWrite (s : State) : Out :=
  s.serve .write (fun q t => t.inSession q (fun u => u.checkObj q 0 (fun r => r.ty != .domain && r.acc != .ro) (fun r =>
    let v := writeBits r.ty (word (q.field 5 9))
    match u.writeObj q.h.ses r (q.objSel 0) v with
    | (3, _) => u.refuse q stSecurity
    | (status, o) => q.good (o.andThen (fun w => .next (w.finish q status (if status = 0 then q.body.take 5 else [])))))))

/-- Frames of a block read, in order of PART from frame `i` on (R485). -/
def State.readFrames (s : State) (q : Req) (r : ObjRow) (count size i : Nat) : Nat → State
  | 0 => s
  | n + 1 =>
    let p := i * size
    let (ws, s1) := s.readWords r (q.objSel 0) (q.field 5 4) q.checks p (min size (count - p))
    (s1.answer q (q.frame stOk (n == 0) (q.body.take 11 ++ toBytes p 2 ++ ws.flatMap wordBytes))).readFrames q r count size (i + 1) n

/-- COUNT of a block header: 0 means 65,536 (R483). -/
def Req.count (q : Req) : Nat := if q.field 9 2 = 0 then 65536 else q.field 9 2

/-- READBLOCK (R483, R485, R486). The whole request executes as one command, so an object captured whole is one capture. -/
def execReadblock (s : State) : Out :=
  s.serve .readBlock (fun q t => t.inSession q (fun u => u.checkObj q 0 (fun r => r.ty == .domain) (fun r =>
    let size := u.blockWords q.port
    unlessError (q.bad || q.field 11 2 != 0) ((u.readFrames q r q.count size 0 ((q.count + size - 1) / size)).mark q none))))

/-- WRITEBLOCK (R483, R484, R486). -/
def execWriteblock (s : State) : Out :=
  s.serve .writeBlock (fun q t => t.inSession q (fun u => u.checkObj q 0 (fun r => r.ty == .domain && r.acc != .ro) (fun r =>
    let ws := readWordsOf (q.body.drop 13) ((q.body.length - 13) / 9)
    q.good ((u.writeBlock r (q.objSel 0) (q.field 5 4) (q.field 9 2) (q.field 11 2) ws).andThen (fun w =>
      .next (w.finish q stOk (q.body.take 13)))))))

/-! Sessions (R475–R478, R481). -/

/-- The lowest free session number (R475). -/
def State.freeSession (s : State) : Option Nat := (List.range 64).find? (fun n => !(s.session n).live)

/-- An OPEN sent again by a peer that holds the session it opened (R475). -/
def State.retried (s : State) (q : Req) : Option (List Byte) :=
  (s.sessions.find? (fun p => p.2.live && p.2.port == q.port && p.2.peer == q.peer && p.2.openSeq == q.h.seq)).map (·.2.opened)

/-- WEIGHT and the reserved bytes of an OPEN (R475). -/
def Req.openBad (q : Req) : Bool := q.field 0 1 == 0 || decide (64 < q.field 0 1) || q.field 1 7 != 0

/-- A session opens (R475): the TAG is not stated beyond not being 0 (log 1). -/
def State.openSession (s : State) (q : Req) : Out :=
  match s.freeSession with
  | none => s.refuse q stFull
  | some n =>
    if q.openBad then hostError
    else
      let (v, s1) := s.take
      let tag := BitVec.ofNat 32 (1 + v % (2 ^ 32 - 1))
      let frame := ({ q with h := { q.h with ses := n, tag := tag } } : Req).frame stOk false
        (toBytes (s.blockWords q.port) 2 ++ List.replicate 6 0)
      let x : Session := { live := true, admin := q.h.admin, port := q.port, peer := q.peer, tag := tag, openSeq := q.h.seq,
                           opened := frame, smax := q.h.seq, done := [(q.h.seq, some frame)], lastAt := s.cyc }
      .next (((s1.setSession n x).wrN Obj.SESSION_WEIGHT n (q.field 0 1)).answer q frame)

/-- An OPEN that is not a retry acts (R475). -/
def State.opening (s : State) (q : Req) (act : State → Out) : Out :=
  match s.retried q with
  | some frame => .next (s.answer q frame)
  | none => q.good (act s)

/-- OPEN with ADMIN 0 (R475). -/
def execOpenSession (s : State) : Out := s.serve .open_ (fun q t => t.opening q (fun u => u.openSession q))

/-- Administrative OPENs of an address are locked out (R478). -/
def State.locked (s : State) (a : BitVec 128) : Bool := s.landing.lockouts.any (fun p => p.1 == a && decide (s.cyc < p.2))

/-- AUTH_FAILED (R478): counted; the eighth failure of an address within 60 s locks it out for 60 s. -/
def State.authFailed (s : State) (q : Req) : Out :=
  let s1 := s.inc Obj.AUTH_FAILURES 0
  let a := q.peer.addr
  let s2 : State :=
    if s.locked a then s1
    else
      let recent := (a, s.cyc) :: s.landing.failures.filter (fun p => decide (s.cyc < p.2 + 75000000000))
      if 8 ≤ (recent.filter (fun p => p.1 == a)).length then
        { s1 with landing := { s1.landing with
          failures := recent.filter (fun p => p.1 != a), lockouts := (a, s.cyc + 75000000000) :: s.landing.lockouts } }
      else { s1 with landing := { s1.landing with failures := recent } }
  s2.refuse q stAuthFailed

/-- An administrative OPEN: AUTH_FAILED while its address is locked out, whatever it carries (R478). -/
def State.openingAdmin (s : State) (q : Req) (act : State → Out) : Out :=
  if s.locked q.peer.addr then s.authFailed q else s.opening q act

/-- OPEN with ADMIN 1, first step (R476, R477): opens at once while COMMISSIONED is 0, else a challenge is issued, whose value
is not stated (log 1). -/
def execOpenAdminChallenge (s : State) : Out :=
  s.serve .openChallenge (fun q t => t.openingAdmin q (fun u =>
    if u.rdN Obj.COMMISSIONED 0 % 2 = 0 then u.openSession q
    else if q.openBad then hostError
    else
      let (v, u1) := u.take
      let c := BitVec.ofNat 128 v
      let u2 : State := { u1 with landing := { u1.landing with challenges := u1.landing.challenges ++ [⟨c, u.cyc⟩] } }
      .next (u2.answer q (q.frame stChallenge false (toBytes c.toNat 16)))))

/-- The commissioning secret as 32 bytes (R476, R495). -/
def State.secretBytes (s : State) : List Byte :=
  toBytes ((((List.range 4).map (fun i => s.nv.secret.getD i 0)).foldl (fun a v => a * 2 ^ 72 + v.toNat) 0) % 2 ^ 256) 32

/-- OPEN with ADMIN 1, second step (R476): a challenge is good once and for 1 s. -/
def execOpenAdminResponse (s : State) : Out :=
  s.serve .openResponse (fun q t => t.openingAdmin q (fun u =>
    let c := BitVec.ofNat 128 (q.field 8 16)
    let known := u.landing.challenges.any (fun x => x.value == c && decide (u.cyc < x.at_ + 1250000000))
    let u1 : State := { u with landing := { u.landing with challenges := u.landing.challenges.filter (fun x => x.value != c) } }
    if u.rdN Obj.COMMISSIONED 0 % 2 = 1 ∧ known = true ∧ hmac u.secretBytes ((q.body.drop 8).take 32) = (q.body.drop 40).take 32 then
      u1.openSession q
    else u1.authFailed q))

/-- CHALLENGE_EXPIRY (R476): challenges expire 1 s after they were issued. -/
def execChallengeExpiry (s : State) : Out :=
  .next { s with landing := { s.landing with
    challenges := s.landing.challenges.filter (fun x => decide (s.cyc < x.at_ + 1250000000)) } }

/-- AUTH_LOCKOUT_END (R478): 60 s after it began, a lockout of an address ends. -/
def execAuthLockoutEnd (addr : BitVec 128) (s : State) : Out :=
  .next { s with landing := { s.landing with
    lockouts := s.landing.lockouts.filter (fun p => !(p.1 == addr && decide (p.2 ≤ s.cyc))) } }

/-- CLOSE (R481): the session closes after its reply. -/
def execClose (s : State) : Out :=
  s.serve .close (fun q t => t.inSession q (fun u => q.good (.next ((u.answer q (q.frame stOk false [])).closeSession q.h.ses))))

/-- KEEPALIVE (R471, R480). -/
def execKeepalive (s : State) : Out :=
  s.serve .keepalive (fun q t => t.inSession q (fun u => q.good (.next (u.finishRead q (toBytes u.now 8)))))

/-! SUBSCRIBE, FIRE, WAKE and RESET (R487, R492–R494). -/

/-- A record subscription set or ended; records that it has covered are still handed to the session (R348, R487). -/
def State.subscribeRecords (s : State) (ses d : Nat) (mask : BitVec 16) : State :=
  let others := (look [] s.recSubs ses).filter (fun x => x.die != d)
  { s with recSubs := put [] s.recSubs ses (if mask = 0 then others else others ++ [⟨d, mask⟩]) }

/-- SUBSCRIBE (R487). -/
def execSubscribe (s : State) : Out :=
  s.serve .subscribe (fun q t => t.inSession q (fun u =>
    let n := q.field 0 8
    let kind := n / 2 ^ 56
    let d := n / 2 ^ 53 % 8
    let mask := BitVec.ofNat 16 n
    let x := u.session q.h.ses
    if q.bad ∨ n / 65536 % 2 ^ 37 ≠ 0 ∨ 2 ≤ kind ∨ (kind = 0 ∧ u.member.dies ≤ d) ∨ (kind = 1 ∧ (d ≠ 0 ∨ mask &&& 0xFFC1 ≠ 0)) then hostError
    else if kind = 0 then .next ((u.subscribeRecords q.h.ses d mask).finish q stOk [])
    else .next ((u.setSession q.h.ses { x with notify := mask }).finish q stOk [])))

/-- FIRE (R492): a write to CHAN_FIRE. -/
def execFire (s : State) : Out :=
  s.serve .fire (fun q t => t.inSession q (fun u =>
    let k := q.field 0 2
    match u.object Obj.CHAN_FIRE k with
    | none => u.refuse q stNoObject
    | some _ =>
      match u.fireChannel q.h.ses k (word (q.field 2 9)) with
      | (3, _) => u.refuse q stSecurity
      | (status, o) => q.good (o.andThen (fun w => .next (w.finish q status [])))))

/-- WAKE (R493): answered OK at once, from any source and without a session. -/
def execWake (s : State) : Out :=
  s.serve .wake (fun q t => q.good (.next ((t.answer q (q.frame stOk false [])).wakeMask (q.field 0 1))))

/-- RESET (R494) of a scope: the object that it names exists, and the session has the right. -/
def State.resetting (s : State) (kind : ReqKind) (right : Req → State → ObjRow → Bool) (act : Req → State → ObjRow → Out) : Out :=
  s.serve kind (fun q t => t.inSession q (fun u =>
    match u.object (q.objId 1) (q.objSel 1) with
    | none => u.refuse q stNoObject
    | some r => if right q u r then q.good (act q (u.finish q stOk []) r) else u.refuse q stSecurity))

/-- RESET with SCOPE 0 (R494, R579): a Bell channel only by a session that may configure it. -/
def execResetUnit (s : State) : Out :=
  s.resetting .resetUnit (fun q u r => r.scope != 16 || u.mayConfigure (q.objSel 1) q.h.ses false) (fun q u r =>
    if q.field 0 1 ≠ 0 then hostError else u.resetUnit r.scope (q.objSel 1))

/-- A device reset requested (R577, R578). In a shutdown that the loss of REFCLK caused it acts only once REFCLK has been
present for 10 ms (R84). -/
def State.askDeviceReset (s : State) : State :=
  let waits := s.isShut && s.shut.cause == 4 && (match s.clock.refBack with
    | some c => decide (s.cyc < c + 12500000)
    | none => true)
  if waits then s else s.stopCause 0 0 6250000 .resetDevice

/-- RESET with SCOPE 1 (R494, R577): of die 0 it acts as a device reset. -/
def execResetDie (s : State) : Out :=
  s.resetting .resetDie (fun q u _ => u.isAdmin q.h.ses) (fun q u _ =>
    let d := selDie (q.objSel 1)
    .next (if d = 0 then u.askDeviceReset else u.stopCause 0 d 6250000 (.resetDie d)))

/-- RESET with SCOPE 2 (R494, R577). -/
def execResetDevice (s : State) : Out :=
  s.resetting .resetDevice (fun q u _ => u.isAdmin q.h.ses) (fun _ u _ => .next u.askDeviceReset)

end Sys2Proof.Machine
end

