-- ==== Sys2Proof/Machine/Streams.lean ====
section
/-!
DEFINITION. Streams of records and notifications (R41, R348, R488–R491), and the sharing of a port's egress.
-/

namespace Sys2Proof.Machine

/-! Records that are ready to go (R348, R489). -/

/-- The records of a buffer, in order, that are owed to a session and may leave: complete, with every earlier reservation of
the die complete (R346, R348). -/
def readyRecs (ses now : Nat) : List Rec → List Nat
  | [] => []
  | r :: rs =>
    if !r.complete now then []
    else if r.owed.contains ses then r.id :: readyRecs ses now rs
    else readyRecs ses now rs

/-- The stream of a session brought up to date: records newly ready are stamped with this cycle, and records that the buffer
no longer holds for it are forgotten. -/
def State.feedStream (s : State) (ses d : Nat) : State :=
  let x := s.session ses
  let y := look {} x.streams d
  let ids := readyRecs ses s.cyc (s.acq d).recs
  let ready := ids.map (fun i => (i, ((y.ready.find? (fun p => p.1 == i)).map Prod.snd).getD s.cyc))
  let z : Stream := if ids.head? = some y.recId then { y with ready := ready } else { y with ready := ready, recId := ids.headD 0, placed := 0 }
  s.setSession ses { x with streams := put {} x.streams d z }

/-- Every stream brought up to date: once a cycle, and before a frame is formed. -/
def State.feedStreams (s : State) : State :=
  (s.acqs.map Prod.fst).foldl (fun t d =>
    ((t.sessions.filter (fun p => p.2.live)).map Prod.fst).foldl (fun u ses => u.feedStream ses d) t) s

/-! Frames (R488, R489). -/

/-- Words that a frame of a port carries (R488). -/
def State.frameWords (s : State) (p : Nat) : Nat := if s.rdN Obj.MTU (sel p 0) = 9000 then 992 else 158

/-- A record of a die's buffer by its number. -/
def State.recOf (s : State) (d id : Nat) : Option Rec := (s.acq d).recs.find? (fun r => r.id == id)

/-- Words of a session's stream from a die that wait. -/
def State.waitingWords (s : State) (ses d : Nat) : Nat :=
  let y := look {} (s.session ses).streams d
  y.ready.foldl (fun n p => n + ((s.recOf d p.1).map (·.len)).getD 0) 0 - y.placed

/-- A frame that is due: since when its first word has been ready, and its words. -/
structure DueFrame where
  since : Nat
  /-- The die of the records; none for notifications. -/
  die : Option Nat
  words : Nat
  deriving DecidableEq, Repr

/-- A frame of records is due when it is full or 12,500 cycles after its first word became ready (R489). -/
def State.recordsDue (s : State) (ses d : Nat) : Option DueFrame :=
  let cap := s.frameWords (s.session ses).port
  let n := s.waitingWords ses d
  match (look {} (s.session ses).streams d).ready with
  | [] => none
  | (_, c) :: _ => if cap ≤ n ∨ c + 12500 ≤ s.cyc then some ⟨c, some d, min cap n⟩ else none

/-- A frame of notifications is due likewise; an item is three words (R489, R490). -/
def State.itemsDue (s : State) (ses : Nat) : Option DueFrame :=
  let x := s.session ses
  let cap := s.frameWords x.port / 3
  match x.items with
  | [] => none
  | i :: _ => if cap ≤ x.items.length ∨ i.at_ + 12500 ≤ s.cyc then some ⟨i.at_, none, 3 * min cap x.items.length⟩ else none

/-- The frame of a session that is sent next: the one that has waited longest; notifications first, then the lower die. -/
def State.frameDue (s : State) (ses : Nat) : Option DueFrame :=
  let x := s.session ses
  if !x.live || !s.ethUp x.port || (s.source x.port x.peer).isNone then none
  else
    let all := (s.itemsDue ses).toList ++ (x.streams.map Prod.fst).filterMap (fun d => s.recordsDue ses d)
    match all with
    | [] => none
    | f :: rest => some (rest.foldl (fun a b => if b.since < a.since then b else a) f)

/-- Bytes of the datagram of a frame. -/
def DueFrame.size (f : DueFrame) : Nat := 24 + 9 * f.words

/-! Deficit round robin (R41). -/

/-- The session whose turn it is on a port, with the egress as the turn leaves it: a session whose next frame does not fit
its deficit gives way to the next, which receives a quantum of its weight × 1,024 bytes. -/
def State.turn (s : State) (p : Nat) (e : Egress) : Nat → Option (Nat × Egress)
  | 0 => none
  | fuel + 1 =>
    let due := fun n : Nat => if (s.session n).port = p then s.frameDue n else none
    let left := look 0 e.deficit e.at_
    match due e.at_ with
    | some f =>
      if f.size ≤ left then some (e.at_, { e with deficit := put 0 e.deficit e.at_ (left - f.size) })
      else
        let n := (e.at_ + 1) % 64
        s.turn p ⟨n, if (due n).isSome then put 0 e.deficit n (look 0 e.deficit n + s.rdN Obj.SESSION_WEIGHT n * 1024) else e.deficit⟩ fuel
    | none =>
      let n := (e.at_ + 1) % 64
      let d0 := put 0 e.deficit e.at_ 0
      s.turn p ⟨n, if (due n).isSome then put 0 d0 n (look 0 d0 n + s.rdN Obj.SESSION_WEIGHT n * 1024) else d0⟩ fuel

/-! Sending (R488–R490). -/

/-- A STREAM frame sent to the bound peer of a session (R470, R488). REPLY reads 0 in it. -/
def State.sendStream (s : State) (ses kind d first count : Nat) (ws : List Word) : State :=
  let x := s.session ses
  let body := toBytes (kind * 2 ^ 56 + d * 2 ^ 53 + first % 65536 * 2 ^ 32 + count % 2 ^ 32) 8 ++ ws.flatMap wordBytes
  let h : Head := ⟨1, 9, false, false, false, 0, ses, x.tag, x.frames, 0, body.length⟩
  (s.setSession ses { x with frames := x.frames + 1 }).send1
    (.landing x.port ((s.source x.port x.peer).getD 0) x.peer (h.bytes ++ body))

/-- The three words of a notification item (R490). -/
def Item.words (i : Item) : List Word := [word (i.kind * 2 ^ 64 + i.die * 2 ^ 61), i.tag, i.data]

/-- A frame of `n` notification items: HOST_NOTIFY's task input is free again once its item has been handed over (R370). -/
def State.sendItems (s : State) (ses n : Nat) : State :=
  let x := s.session ses
  let out := x.items.take n
  let s1 := (s.sendStream ses 1 0 0xFFFF x.itemsSent (out.flatMap Item.words))
  let s2 := s1.setSession ses { s1.session ses with items := x.items.drop n, itemsSent := x.itemsSent + n }
  s2.freeNotify out

/-- Where the first record that begins in a frame starts: 0 if the frame begins a record, else after the rest of the record in
progress, if that ends in the frame and another follows (R488). -/
def firstStart (placed rest n : Nat) : Nat := if placed = 0 then 0 else if rest < n then rest else 0xFFFF

/-- Records handed over whole by `n` words from position `placed` of the first: their numbers, and the place in the first
that is left. -/
def handed : List (Nat × Nat) → Nat → List Nat × Nat
  | [], _ => ([], 0)
  | (id, len) :: rs, n => if len ≤ n then
      let (ids, p) := handed rs (n - len)
      (id :: ids, p)
    else ([], n)

/-- A frame of `n` words of records of die `d` (R489); a record is freed once every session it is owed to has it (R348). -/
def State.sendRecords (s : State) (ses d n : Nat) : State :=
  let y := look {} (s.session ses).streams d
  let recs := y.ready.filterMap (fun p => s.recOf d p.1)
  let ws := ((recs.flatMap (fun r => r.words d)).drop y.placed).take n
  let first := firstStart y.placed (((recs.head?).map (·.len)).getD 0 - y.placed) n
  let s1 := s.sendStream ses 0 d first y.sent ws
  let (ids, left) := handed (recs.map (fun r => (r.id, r.len))) (y.placed + n)
  let ready := y.ready.filter (fun p => !ids.contains p.1)
  let x := s1.session ses
  let z : Stream := { sent := (y.sent + n) % 2 ^ 32, recId := (ready.head?.map Prod.fst).getD 0, placed := left, ready := ready }
  let s2 := s1.setSession ses { x with streams := put {} x.streams d z }
  let b := s2.acq d
  let kept := (b.recs.map (fun r => if ids.contains r.id then { r with owed := r.owed.filter (· != ses) } else r)).filter
    (fun r => !r.freed s.cyc)
  (s2.setAcq d { b with recs := kept }).acqResume d

/-- STREAM_FRAME_SEND (R41, R489): a session's next frame is sent when it is due and the session has its turn. -/
def execStreamFrameSend (ses : Nat) (s : State) : Out :=
  let s1 := s.feedStreams
  let p := (s1.session ses).port
  match s1.turn p (look {} s1.landing.egress p) 2048 with
  | some (n, e) =>
    if n ≠ ses then .next s1
    else
      match s1.frameDue ses with
      | some f =>
        let s2 : State := { s1 with landing := { s1.landing with egress := put {} s1.landing.egress p e } }
        .next (match f.die with
          | none => s2.sendItems ses (f.words / 3)
          | some d => s2.sendRecords ses d f.words)
      | none => .next s1
  | none => .next s1

end Sys2Proof.Machine
end

