-- ==== Sys2Proof/Machine/Wave.lean ====
section
/-!
DEFINITION. What one DAC sample does: carriers, generator samples, the summer, the predistortion chain and the DAC code
(R94–R96, R101, R102, R105–R107, R110–R112, R114, R118). The chain is modelled at the lands: its fixed pipeline (R107) is
taken out, except that the mixer forms the sample that reaches the lands 8 samples later, which the FIR's 8 leading taps need.
-/

namespace Sys2Proof.Machine

/-- Saturation to `w` bits, two's complement. -/
def sat (w : Nat) (x : Int) : Int := max (-(2 ^ (w - 1) : Nat)) (min ((2 ^ (w - 1) : Nat) - 1) x)

/-- Arithmetic shift right by `n` bits, rounding half up. -/
def roundShift (x : Int) (n : Nat) : Int := if n = 0 then x else (x + (2 ^ (n - 1) : Nat)) / (2 ^ n : Nat)

/-- The cycle and the sample within it, at the lands, of the sample now in the mixer: the 8th after the one at the lands
(R112). -/
def State.mixedAt (s : State) : Nat × Nat :=
  let q := s.clock.phase.toNat + 8
  (s.cyc + q / 16, q % 16)

/-- The interpolated envelope times AMP at sample `q`, counted from power-up, in units of 2^−(15 + interpBits) (R102, R107): the
inputs stand at the first sample of each cycle, and those within 2 cycles contribute. -/
def Gen.interpolated (x : Gen) (now : Nat) (may : Bool) (q : Nat) : Int × Int :=
  symSum (fun m : Int =>
    let at_ := (q : Int) + m
    if at_ % 16 = 0 then x.input now may (at_ / 16).toNat else (0, 0)) (Config.interpFilter.take 33) 0

/-- The generator sample before saturation (R94, R106): the interpolated envelope, delayed by FINE, on the carrier, rounded. -/
def Gen.mixed (x : Gen) (now : Nat) (may : Bool) (fine : BitVec 4) (c n : Nat) (theta : BitVec 32) : Int × Int :=
  let e := x.interpolated now may (16 * c + n - fine.toNat)
  if e = (0, 0) then (0, 0)
  else
    let m := turned e theta
    let den := 2 ^ (15 + Config.interpBits + trigBits)
    (roundNear 94 m.1 den, roundNear 94 m.2 den)

/-- What one DAC sample does to a generator: a phase reset at the pulse's first sample (R105), the sample in the mixer, and a
saturation noted at the output (R94). FREQ and PHASE act from the sample at their stamp on (R97). -/
def State.genSample (s : State) (k : Nat) : State :=
  let d := selDie k
  let x := s.gen k
  let (c, n) := s.mixedAt
  let v := x.ahead c (s.mayPlay d)
  let restart := match v.pulse with
    | some p => p.preset && (16 * c + n == 16 * p.start + p.fine.toNat)
    | none => false
  let acc := if restart then 0 else x.acc
  let m := x.mixed s.cyc (s.mayPlay d) v.fine c n (acc.extractLsb' 16 32 + v.pofs)
  let out := (sat 18 m.1, sat 18 m.2)
  let s1 := if x.acc = acc ∧ x.out = out then s else s.setGen k { x with acc := acc, out := out }
  if out = m then s1 else s1.setBit Obj.OUT_STATUS (sel d (selUnit k / 8)) 2

/-- ACC advances by FREQ once per DAC sample while the output's domain is powered (R96, R529): the FREQ in force at the
sample in the mixer. -/
def State.genPhase (s : State) (k : Nat) : State :=
  let x := s.gen k
  let f := (x.ahead s.mixedAt.1 (s.mayPlay (selDie k))).freq
  if s.domKept (selDie k) (domOut (selUnit k / 8)) then s.setGen k { x with acc := x.acc + f } else s

/-- The sum of an output's generators before HEADROOM (R110). -/
def State.genSum (s : State) (d o : Nat) : Int × Int :=
  (gensOf o).foldl (fun a g => let v := (s.gen (sel d g)).out; (a.1 + v.1, a.2 + v.2)) (0, 0)

/-- A signed field of two joined native words (R126). -/
def State.coef (s : State) (id k lo w : Nat) : Int := signed w (s.dwJoin id k 0 2 >>> lo)

/-- A sum of R111, in units of 2^−(30 + iirBits), in the 40 bits of the state; what a sum beyond them leaves is not
stated. -/
def iirKeep (z : Int) : BitVec 40 :=
  let v := roundOpen 111 z (2 ^ 30)
  if -(2 ^ 39 : Int) ≤ v ∧ v < 2 ^ 39 then BitVec.ofInt 40 v else Config.iirBeyond z

/-- One IIR stage on one component (R111): its output, whether it saturated, and its new state. -/
def iirStep (b0 b1 a1 x : Int) (st : IirState) : Int × Bool × IirState :=
  let y1 := iirKeep ((b0 * x + b1 * st.x1.toInt) * (2 ^ Config.iirBits.val : Nat) - a1 * st.y1.toInt)
  let y := roundOpen 111 y1.toInt (2 ^ Config.iirBits.val)
  (sat 18 y, decide (sat 18 y ≠ y), ⟨BitVec.ofInt 18 x, y1⟩)

/-- The IIR stages on one component (R111): a bypassed stage passes its input and clears its state. -/
def State.iirRun (s : State) (k : Nat) (x : Int) (st : List IirState) : Nat → Int × Nat × List IirState
  | 0 => (x, 0, st)
  | n + 1 =>
    let (y, sats, st1) := s.iirRun k x st n
    let st2 := if st1.length ≤ n then st1 ++ List.replicate (n + 1 - st1.length) {} else st1
    if s.bypassed k n then (y, sats, setAt st2 n {})
    else
      let id := Obj.IIR_ACTIVE_0 + n
      let r := iirStep (s.coef id k 64 32) (s.coef id k 32 32) (s.coef id k 0 32) y (st2.getD n {})
      (r.1, sats + b2n r.2.1, setAt st2 n r.2.2)

/-- The real part of one tap's product (R112). -/
def tapTerm (w : Word) (j : Nat) (x : Int × Int) : Int :=
  let re := signed 18 (w.toNat >>> (if j % 2 = 0 then 54 else 18))
  let im := signed 18 (w.toNat >>> (if j % 2 = 0 then 36 else 0))
  re * x.1 - im * x.2

/-- The FIR sum over the inputs, newest first, of `n` taps from tap 0 (R112, R114). -/
def State.firSum (s : State) (d o : Nat) (xs : List (Int × Int)) : Nat → Int
  | 0 => 0
  | n + 1 =>
    s.firSum d o xs n +
      tapTerm (s.dw Obj.FIR_ACTIVE (sel d (if n < 32 then o else o + 1)) ((n % 32) / 2)) n (xs.getD n (0, 0))

/-- The output drives mid-scale: MUTE, settling, a verify, the odd output of a FIR_LONG pair, or a stop window in which
its generators have stopped (R114, R115, R118, R544, R568). -/
def State.midScale (s : State) (d o : Nat) : Bool :=
  (s.out (sel d o)).muted || (o % 2 == 1 && (s.out (sel d (o - 1))).firLong) || (s.stopping d && !s.outActive d o)

/-- What one DAC sample does to an RF output that is on (R107, R110–R112, R114). The lands of a retired output float: its DAC and
output stage are off, its summer and chain run on (R123, log 60). -/
def State.outSample (s : State) (k : Nat) : State :=
  let d := selDie k
  let o := selUnit k
  if !s.domOn d (domOut o) then s
  else
    let x := s.out k
    let sum := s.genSum d o
    let a := roundShift sum.1 x.headroom
    let b := roundShift sum.2 x.headroom
    let v := (sat 18 a, sat 18 b)
    let fresh := decide (v ≠ (a, b))
    let s1 := if fresh then (if x.sumSat then s else s.inc Obj.SUM_SAT_COUNT k).setBit Obj.OUT_STATUS k 2 else s
    let (yi, ni, sti) := s1.iirRun k v.1 x.iirI 4
    let (yq, nq, stq) := s1.iirRun k v.2 x.iirQ 4
    let taps := if x.firLong then 64 else 32
    let xs := ((yi, yq) :: x.fir).take taps
    let y := roundOpen 112 (s1.firSum d o xs taps) (2 ^ 16)
    let y18 := sat 18 y
    let c := roundShift y18 4
    let c14 := sat 14 c
    let nf := b2n (decide (y18 ≠ y)) + b2n (decide (c14 ≠ c))
    let sats := ni + nq + nf
    let s2 := if sats = 0 then s1 else (s1.count Obj.PD_SAT_COUNT k sats).setBit Obj.OUT_STATUS k 3
    let codes := (c14 :: x.codes).take 33
    s2.setOut k { x with
      iirI := sti, iirQ := stq, fir := xs, sumSat := x.sumSat || fresh, codes := codes,
      code := if s2.midScale d o || s.outRetired k then 0 else if x.firLong then codes.getD 32 0 else c14,
      at_ := 64 * ((16 * s.cyc + s.clock.phase.toNat : Nat) : Int) + x.dly - 1024 }

/-- The generators that hold anything. -/
def State.genKeys (s : State) : List Nat := s.gens.map Prod.fst

/-- The outputs that hold anything, or one of whose generators does. -/
def State.outKeys (s : State) : List Nat :=
  (s.outs.map Prod.fst ++ s.gens.map (fun p => sel (selDie p.1) (selUnit p.1 / 8))).eraseDups

/-- What one DAC sample does to every generator and output. -/
def State.sampleWork (s : State) : State :=
  let s1 := s.genKeys.foldl State.genSample s
  s1.outKeys.foldl State.outSample s1

end Sys2Proof.Machine
end

