-- ==== Sys2Proof/Machine/Clock.lean ====
section
/-!
DEFINITION. The passing of time (R57, R62, R63): what one DAC sample, and every sixteenth of them one cycle, does of itself.
It is what the block does while no command waits (log 14).
-/

namespace Sys2Proof.Machine

/-- Raises whose cycle has come (R353). -/
def State.laterRaises (s : State) : State :=
  let s1 : State := { s with later := s.later.filter (fun x => decide (s.cyc < x.1)) }
  (s.later.filter (fun x => decide (x.1 ≤ s.cyc))).foldl (fun t x => t.raise x.2.1 x.2.2) s1

/-- SYNC_IN is raised on every die in its cycle (R353). -/
def State.syncInRaise (s : State) : State :=
  match s.clock.syncInAt with
  | some c =>
    if c ≤ s.cyc then s.dieList.foldl (fun t d => t.raise d 385) { s with clock := { s.clock with syncInAt := none } } else s
  | none => s

/-- The device is powered: VIN is valid (R525, R561). -/
def State.powered (s : State) : Bool := s.domSt 0 0 != .off && !(s.shut.st == .shutdown && s.shut.brown)

/-- The applied band of a die (R540). -/
def State.appliedBand (s : State) (d : Nat) : Nat := (s.appl (applKey 3 (d * 30 + 28))).setting.toNat % 8

/-- The seconds that the lifetime counters count (R561): whole seconds of cycles. -/
def State.seconds (s : State) : State :=
  if s.cyc % 1250000000 = 0 ∧ s.powered then
    s.dieList.foldl (fun t d => if (t.die d).s3 then t else t.inc (Obj.BAND_SECONDS_B0 + min 4 (t.appliedBand d)) (sel d 0))
      (s.inc Obj.POWER_ON_SECONDS 0)
  else s

/-- CAL_STATE as a number (R85). -/
def CalState.code : CalState → Nat
  | .unset => 0
  | .host => 1
  | .acquiring => 2
  | .locked => 3
  | .holdover => 4

/-- Notifications of NKIND 3 and 4 (R490): CROSSING_REACHABLE, TIME_STATE or CAL_STATE has changed. -/
def State.noticeChanges (s : State) : State :=
  let reach := (List.range 256).filter s.reachable
  let s1 : State := if s.landing.lastReach = reach then s
    else ({ s with landing := { s.landing with lastReach := reach } } : State).notify 3 0 (word reach.length)
  let now := s1.timeState + 256 * s1.cal.st.code
  if s1.landing.lastTime = now then s1
  else ({ s1 with landing := { s1.landing with lastTime := now } } : State).notify 4 0 (word now)

/-- Trims held until the boundary of their output (R118, R565). -/
def State.freeTrims (s : State) : State :=
  { s with outs := s.outs.map (fun p =>
      if p.2.heldTrim.isSome && s.outIdle (selDie p.1) (selUnit p.1) then (p.1, { p.2 with heldTrim := none }) else p) }

/-- What a cycle does to the generators, the outputs and the time base. -/
def State.cycleFront (s : State) : State :=
  let c := s.clock
  let s0 : State := { s with
    clock := { c with cyc := c.cyc + 1, lived := c.lived + b2n s.powered, now := if c.counting then c.now + 1 else c.now },
    outs := (s.outs.map (fun p => (p.1, { p.2 with sumSat := false }))).filter (fun p => p.2 != {}) }
  let s1 := (s0.dieList.foldl State.majForces s0.laterRaises).syncInRaise.freeTrims.sliceWork
  (s1.genKeys.foldl State.genCycle s1).calCycle

/-- What a cycle does to messages, slots, read-out and engines. -/
def State.cycleBack (s : State) : State :=
  let s1 := s.dieList.foldl State.bridgeEntry s
  let s2 := (s1.seqs.map Prod.fst).foldl (fun t k => t.consumeDue (selDie k) (selUnit k)) s1.dueMarks
  let s3 := s2.dieList.foldl State.countClips ((s2.demods.map Prod.fst).foldl (fun t k => (t.readWeights k).demodTimeline k) s2)
  let s4 := (s3.dsps.map Prod.fst).foldl (fun t k => t.dspCycle (selDie k) (selUnit k)) s3
  (s4.seqs.map Prod.fst).foldl (fun t k => t.seqFaults (selDie k) (selUnit k)) s4

/-- What a cycle does to lanes, rails, streams, counters of seconds and notifications. -/
def State.cycleEnd (s : State) : State :=
  let s1 := s.dieList.foldl State.moveRail s.laneSleeps
  s1.feedStreams.seconds.noticeChanges

/-- What ends with a cycle: bias outputs report, records are reserved, clears that waited apply, messages cross their links, and messages enter their ports. -/
def State.cycleClose (s : State) : State := (s.dieList.foldl State.placeAll s.biasReports).pendingClears.linkTurns.portArrivals

/-- One cycle ends, and the next begins. -/
def State.cycle (s : State) : State := s.cycleClose.cycleFront.cycleBack.cycleEnd

/-- One DAC sample passes (R57, R63, R94, R96): ACC of every generator advances; every sixteenth sample begins a cycle; then
the generators and the outputs form their samples. -/
def State.tick (s : State) : State :=
  let s1 := s.genKeys.foldl State.genPhase s
  let p := s1.clock.phase + 1
  let s2 : State := { s1 with clock := { s1.clock with phase := p } }
  (if p = 0 then s2.cycle else s2).sampleWork

end Sys2Proof.Machine
end

