-- ==== Sys2Proof/Machine/Dispatch.lean ====
section
/-!
DEFINITION. The dispatch of a command to its meaning, one arm per constructor.
-/

namespace Sys2Proof.Machine

/-- The effect of a command on everything but the queue. -/
def exec (i : Instr) (s : State) : Host.Outcome State Fault Refusal :=
  match i with
  | .epochRequest v => Sys2Proof.Machine.execEpochRequest v s
  | .epochRequestArrive d => Sys2Proof.Machine.execEpochRequestArrive d s
  | .epochApply cls entry => Sys2Proof.Machine.execEpochApply cls entry s
  | .gangwayLinkFail d link => Sys2Proof.Machine.execGangwayLinkFail d link s
  | .gangwaySpareSwap d link group => Sys2Proof.Machine.execGangwaySpareSwap d link group s
  | .remoteCommandArrive d => Sys2Proof.Machine.execRemoteCommandArrive d s
  | .remoteRefusalReturn d q => Sys2Proof.Machine.execRemoteRefusalReturn d q s
  | .commandIssue d g fixed bad => Sys2Proof.Machine.execCommandIssue d g fixed bad s
  | .pulseEnd d g => Sys2Proof.Machine.execPulseEnd d g s
  | .outcomePortWrite d p => Sys2Proof.Machine.execOutcomePortWrite d p s
  | .pllLock d => Sys2Proof.Machine.execPllLock d s
  | .timeSet v => Sys2Proof.Machine.execTimeSet v s
  | .tattooMarkerSend => Sys2Proof.Machine.execTattooMarkerSend s
  | .markerReceive d m arrived => Sys2Proof.Machine.execMarkerReceive d m arrived s
  | .markerAverage d => Sys2Proof.Machine.execMarkerAverage d s
  | .dlyApply d o => Sys2Proof.Machine.execDlyApply d o s
  | .markerLoss => Sys2Proof.Machine.execMarkerLoss s
  | .syncInCapture => Sys2Proof.Machine.execSyncInCapture s
  | .syncLoadApply => Sys2Proof.Machine.execSyncLoadApply s
  | .syncOutPulse => Sys2Proof.Machine.execSyncOutPulse s
  | .refclkLoss d => Sys2Proof.Machine.execRefclkLoss d s
  | .calSet w0 w1 => Sys2Proof.Machine.execCalSet w0 w1 s
  | .ptpAnnounceReceive a => Sys2Proof.Machine.execPtpAnnounceReceive a s
  | .ptpSyncReceive m => Sys2Proof.Machine.execPtpSyncReceive m s
  | .ptpFollowUpReceive m => Sys2Proof.Machine.execPtpFollowUpReceive m s
  | .ptpDelayReqSend => Sys2Proof.Machine.execPtpDelayReqSend s
  | .ptpDelayRespReceive m => Sys2Proof.Machine.execPtpDelayRespReceive m s
  | .ptpAnnounceTimeout => Sys2Proof.Machine.execPtpAnnounceTimeout s
  | .anchorRefresh => Sys2Proof.Machine.execAnchorRefresh s
  | .genFreqWrite d g v => Sys2Proof.Machine.execGenFreqWrite d g v s
  | .genPhaseOffsetWrite d g v => Sys2Proof.Machine.execGenPhaseOffsetWrite d g v s
  | .pdCommit d o b => Sys2Proof.Machine.execPdCommit d o b s
  | .pdCommitApply d o => Sys2Proof.Machine.execPdCommitApply d o s
  | .outputModeApply d o => Sys2Proof.Machine.execOutputModeApply d o s
  | .outputSettlingEnd d o => Sys2Proof.Machine.execOutputSettlingEnd d o s
  | .seqNop d q e => Sys2Proof.Machine.execSeqNop d q e s
  | .play d q e => Sys2Proof.Machine.execPlay d q e s
  | .freq d q e => Sys2Proof.Machine.execFreq d q e s
  | .phase d q e => Sys2Proof.Machine.execPhase d q e s
  | .mark d q e => Sys2Proof.Machine.execMark d q e s
  | .event d q e => Sys2Proof.Machine.execEvent d q e s
  | .seqPost d q e => Sys2Proof.Machine.execSeqPost d q e s
  | .read d q e => Sys2Proof.Machine.execRead d q e s
  | .acqArm d q e => Sys2Proof.Machine.execAcqArm d q e s
  | .acqForce d q e => Sys2Proof.Machine.execAcqForce d q e s
  | .acqStop d q e => Sys2Proof.Machine.execAcqStop d q e s
  | .biasActEnqueue d q e => Sys2Proof.Machine.execBiasActEnqueue d q e s
  | .biasActStart d q e => Sys2Proof.Machine.execBiasActStart d q e s
  | .biasActStop d q e => Sys2Proof.Machine.execBiasActStop d q e s
  | .biasActFlush d q e => Sys2Proof.Machine.execBiasActFlush d q e s
  | .msg d q e => Sys2Proof.Machine.execMsg d q e s
  | .remotePlay d q e => Sys2Proof.Machine.execRemotePlay d q e s
  | .remoteFreq d q e => Sys2Proof.Machine.execRemoteFreq d q e s
  | .remotePhase d q e => Sys2Proof.Machine.execRemotePhase d q e s
  | .cntld d q e => Sys2Proof.Machine.execCntld d q e s
  | .epoch d q e => Sys2Proof.Machine.execEpoch d q e s
  | .tret d q e => Sys2Proof.Machine.execTret d q e s
  | .brNext d q => Sys2Proof.Machine.execBrNext d q s
  | .brCondalt d q => Sys2Proof.Machine.execBrCondalt d q s
  | .brCondnext d q => Sys2Proof.Machine.execBrCondnext d q s
  | .brTable d q => Sys2Proof.Machine.execBrTable d q s
  | .brCall d q => Sys2Proof.Machine.execBrCall d q s
  | .brReturn d q => Sys2Proof.Machine.execBrReturn d q s
  | .brLoop d q => Sys2Proof.Machine.execBrLoop d q s
  | .brHalt d q => Sys2Proof.Machine.execBrHalt d q s
  | .cntopSel d q e => Sys2Proof.Machine.execCntopSel d q e s
  | .cntopDec d q e => Sys2Proof.Machine.execCntopDec d q e s
  | .cntopInc d q e => Sys2Proof.Machine.execCntopInc d q e s
  | .cntopClr d q e => Sys2Proof.Machine.execCntopClr d q e s
  | .cntopReload d q e => Sys2Proof.Machine.execCntopReload d q e s
  | .seqConditionMet d q => Sys2Proof.Machine.execSeqConditionMet d q s
  | .seqWaitTimeout d q => Sys2Proof.Machine.execSeqWaitTimeout d q s
  | .stampedActionDeliver d q => Sys2Proof.Machine.execStampedActionDeliver d q s
  | .seqStart d q => Sys2Proof.Machine.execSeqStart d q s
  | .seqHalt d q => Sys2Proof.Machine.execSeqHalt d q s
  | .seqAbort d q => Sys2Proof.Machine.execSeqAbort d q s
  | .seqArm d q => Sys2Proof.Machine.execSeqArm d q s
  | .seqDisarm d q => Sys2Proof.Machine.execSeqDisarm d q s
  | .seqStartTask d q => Sys2Proof.Machine.execSeqStartTask d q s
  | .seqStopTask d q => Sys2Proof.Machine.execSeqStopTask d q s
  | .seqEvcTask d q n => Sys2Proof.Machine.execSeqEvcTask d q n s
  | .seqEvtTask d q n => Sys2Proof.Machine.execSeqEvtTask d q n s
  | .csScrub d q e => Sys2Proof.Machine.execCsScrub d q e s
  | .windowOpen d m => Sys2Proof.Machine.execWindowOpen d m s
  | .windowClose d m spare0 spare1 badWeights fixedWeights => Sys2Proof.Machine.execWindowClose d m spare0 spare1 badWeights fixedWeights s
  | .inputModeApply d u => Sys2Proof.Machine.execInputModeApply d u s
  | .inputSettlingEnd d u => Sys2Proof.Machine.execInputSettlingEnd d u s
  | .rotationStep d u => Sys2Proof.Machine.execRotationStep d u s
  | .sliceCalibrationEnd d u meas => Sys2Proof.Machine.execSliceCalibrationEnd d u meas s
  | .qualityFigures d u offset image => Sys2Proof.Machine.execQualityFigures d u offset image s
  | .sliceRestore d u v => Sys2Proof.Machine.execSliceRestore d u v s
  | .calHoldSet d u => Sys2Proof.Machine.execCalHoldSet d u s
  | .calHoldClear d u => Sys2Proof.Machine.execCalHoldClear d u s
  | .wireStart d u => Sys2Proof.Machine.execWireStart d u s
  | .wireCancel d u => Sys2Proof.Machine.execWireCancel d u s
  | .wireCheckAuto d u => Sys2Proof.Machine.execWireCheckAuto d u s
  | .wireCheckBegin d u => Sys2Proof.Machine.execWireCheckBegin d u s
  | .wireCheckRound d u reading => Sys2Proof.Machine.execWireCheckRound d u reading s
  | .wireCheckResult d u => Sys2Proof.Machine.execWireCheckResult d u s
  | .slotClear d n => Sys2Proof.Machine.execSlotClear d n s
  | .subConfig d n v => Sys2Proof.Machine.execSubConfig d n v s
  | .forwardEntryInstall u => Sys2Proof.Machine.execForwardEntryInstall u s
  | .mirrorUpdateReceive d => Sys2Proof.Machine.execMirrorUpdateReceive d s
  | .forwardRemoval dev mDie mSlot stag => Sys2Proof.Machine.execForwardRemoval dev mDie mSlot stag s
  | .dspNop d k e => Sys2Proof.Machine.execDspNop d k e s
  | .dspBr d k e => Sys2Proof.Machine.execDspBr d k e s
  | .dspCall d k e => Sys2Proof.Machine.execDspCall d k e s
  | .dspRet d k e => Sys2Proof.Machine.execDspRet d k e s
  | .dspReti d k e => Sys2Proof.Machine.execDspReti d k e s
  | .dspRepeat d k e => Sys2Proof.Machine.execDspRepeat d k e s
  | .dspHalt d k e => Sys2Proof.Machine.execDspHalt d k e s
  | .dspWait d k e => Sys2Proof.Machine.execDspWait d k e s
  | .dspFlag d k e => Sys2Proof.Machine.execDspFlag d k e s
  | .dspSig d k e => Sys2Proof.Machine.execDspSig d k e s
  | .dspLdi d k e => Sys2Proof.Machine.execDspLdi d k e s
  | .dspMov d k e => Sys2Proof.Machine.execDspMov d k e s
  | .dspMvr d k e => Sys2Proof.Machine.execDspMvr d k e s
  | .dspLdsi d k e => Sys2Proof.Machine.execDspLdsi d k e s
  | .dspLd d k e m => Sys2Proof.Machine.execDspLd d k e m s
  | .dspSt d k e m => Sys2Proof.Machine.execDspSt d k e m s
  | .dspAdd d k e => Sys2Proof.Machine.execDspAdd d k e s
  | .dspSub d k e => Sys2Proof.Machine.execDspSub d k e s
  | .dspAnd d k e => Sys2Proof.Machine.execDspAnd d k e s
  | .dspOr d k e => Sys2Proof.Machine.execDspOr d k e s
  | .dspXor d k e => Sys2Proof.Machine.execDspXor d k e s
  | .dspShl d k e => Sys2Proof.Machine.execDspShl d k e s
  | .dspShr d k e => Sys2Proof.Machine.execDspShr d k e s
  | .dspAsr d k e => Sys2Proof.Machine.execDspAsr d k e s
  | .dspCmp d k e => Sys2Proof.Machine.execDspCmp d k e s
  | .dspPar d k e => Sys2Proof.Machine.execDspPar d k e s
  | .dspAddi d k e => Sys2Proof.Machine.execDspAddi d k e s
  | .dspAndi d k e => Sys2Proof.Machine.execDspAndi d k e s
  | .dspOri d k e => Sys2Proof.Machine.execDspOri d k e s
  | .dspXori d k e => Sys2Proof.Machine.execDspXori d k e s
  | .dspAdd32 d k e => Sys2Proof.Machine.execDspAdd32 d k e s
  | .dspSub32 d k e => Sys2Proof.Machine.execDspSub32 d k e s
  | .dspMpy d k e => Sys2Proof.Machine.execDspMpy d k e s
  | .dspMac d k e => Sys2Proof.Machine.execDspMac d k e s
  | .dspMsu d k e => Sys2Proof.Machine.execDspMsu d k e s
  | .dspMacm d k e m n => Sys2Proof.Machine.execDspMacm d k e m n s
  | .dspClra d k e => Sys2Proof.Machine.execDspClra d k e s
  | .dspSha d k e => Sys2Proof.Machine.execDspSha d k e s
  | .dspSta d k e => Sys2Proof.Machine.execDspSta d k e s
  | .dspLdac d k e => Sys2Proof.Machine.execDspLdac d k e s
  | .dspAdda d k e => Sys2Proof.Machine.execDspAdda d k e s
  | .dspSuba d k e => Sys2Proof.Machine.execDspSuba d k e s
  | .dspStap d k e => Sys2Proof.Machine.execDspStap d k e s
  | .dspRdw d k e => Sys2Proof.Machine.execDspRdw d k e s
  | .dspRds d k e => Sys2Proof.Machine.execDspRds d k e s
  | .dspRdc d k e => Sys2Proof.Machine.execDspRdc d k e s
  | .dspRdm d k e => Sys2Proof.Machine.execDspRdm d k e s
  | .dspPost d k e => Sys2Proof.Machine.execDspPost d k e s
  | .dspSmsg d k e => Sys2Proof.Machine.execDspSmsg d k e s
  | .dspEventInput d k u => Sys2Proof.Machine.execDspEventInput d k u s
  | .dspInterruptTake d k => Sys2Proof.Machine.execDspInterruptTake d k s
  | .dspWaitEnd d k => Sys2Proof.Machine.execDspWaitEnd d k s
  | .dspCmdStart d k => Sys2Proof.Machine.execDspCmdStart d k s
  | .dspCmdHalt d k => Sys2Proof.Machine.execDspCmdHalt d k s
  | .dspCmdResume d k => Sys2Proof.Machine.execDspCmdResume d k s
  | .dspCmdStep d k => Sys2Proof.Machine.execDspCmdStep d k s
  | .toneSample d t spare0 spare1 => Sys2Proof.Machine.execToneSample d t spare0 spare1 s
  | .toneRestart d t => Sys2Proof.Machine.execToneRestart d t s
  | .preSegmentCopy d => Sys2Proof.Machine.execPreSegmentCopy d s
  | .trigArm d t => Sys2Proof.Machine.execTrigArm d t s
  | .trigDisarm d t => Sys2Proof.Machine.execTrigDisarm d t s
  | .trigForce d t => Sys2Proof.Machine.execTrigForce d t s
  | .majorityDecide d u => Sys2Proof.Machine.execMajorityDecide d u s
  | .majForceTask d u => Sys2Proof.Machine.execMajForceTask d u s
  | .majConfigWrite d u w => Sys2Proof.Machine.execMajConfigWrite d u w s
  | .rawStartTask d => Sys2Proof.Machine.execRawStartTask d s
  | .rawCaptureEnd d spare0 => Sys2Proof.Machine.execRawCaptureEnd d spare0 s
  | .rawCopyEnd d => Sys2Proof.Machine.execRawCopyEnd d s
  | .acqFlush d => Sys2Proof.Machine.execAcqFlush d s
  | .tick d n => Sys2Proof.Machine.execTick d n s
  | .chanConfig d c ses v => Sys2Proof.Machine.execChanConfig d c ses v s
  | .chanFireImmediate d c ses => Sys2Proof.Machine.execChanFireImmediate d c ses s
  | .chanFireTimed d c ses time => Sys2Proof.Machine.execChanFireTimed d c ses time s
  | .timedFireExpire d => Sys2Proof.Machine.execTimedFireExpire d s
  | .chanFireCancel d c ses => Sys2Proof.Machine.execChanFireCancel d c ses s
  | .chanRelease d c ses => Sys2Proof.Machine.execChanRelease d c ses s
  | .rememberedEventDeliver d c => Sys2Proof.Machine.execRememberedEventDeliver d c s
  | .bridgeEventArrive d => Sys2Proof.Machine.execBridgeEventArrive d s
  | .alertTask d => Sys2Proof.Machine.execAlertTask d s
  | .alertClear d => Sys2Proof.Machine.execAlertClear d s
  | .hostNotifyTask d => Sys2Proof.Machine.execHostNotifyTask d s
  | .biasStartTask d g => Sys2Proof.Machine.execBiasStartTask d g s
  | .biasStopTask d g => Sys2Proof.Machine.execBiasStopTask d g s
  | .biasFlushTask d g => Sys2Proof.Machine.execBiasFlushTask d g s
  | .biasTick d o => Sys2Proof.Machine.execBiasTick d o s
  | .deglitchHoldEnd d o => Sys2Proof.Machine.execDeglitchHoldEnd d o s
  | .biasStart d o => Sys2Proof.Machine.execBiasStart d o s
  | .biasStop d o => Sys2Proof.Machine.execBiasStop d o s
  | .biasFlush d o => Sys2Proof.Machine.execBiasFlush d o s
  | .biasSafe d o => Sys2Proof.Machine.execBiasSafe d o s
  | .biasEnqueue d o v => Sys2Proof.Machine.execBiasEnqueue d o v s
  | .complianceDetect d o => Sys2Proof.Machine.execComplianceDetect d o s
  | .complianceClear d o => Sys2Proof.Machine.execComplianceClear d o s
  | .safeRampStep d o => Sys2Proof.Machine.execSafeRampStep d o s
  | .sensorEdge d c m => Sys2Proof.Machine.execSensorEdge d c m s
  | .snsEdgeTask d ms => Sys2Proof.Machine.execSnsEdgeTask d ms s
  | .conversionWindowOpen d c => Sys2Proof.Machine.execConversionWindowOpen d c s
  | .conversionWindowClose d c m => Sys2Proof.Machine.execConversionWindowClose d c m s
  | .burstResult d c => Sys2Proof.Machine.execBurstResult d c s
  | .snsStart d c => Sys2Proof.Machine.execSnsStart d c s
  | .snsStop d c => Sys2Proof.Machine.execSnsStop d c s
  | .snsOneshot d c => Sys2Proof.Machine.execSnsOneshot d c s
  | .snsAbort d c => Sys2Proof.Machine.execSnsAbort d c s
  | .frameSend d l => Sys2Proof.Machine.execFrameSend d l s
  | .flitReceive d f ok => Sys2Proof.Machine.execFlitReceive d f ok s
  | .callOrderedSet d l b => Sys2Proof.Machine.execCallOrderedSet d l b s
  | .helloReceive d l b => Sys2Proof.Machine.execHelloReceive d l b s
  | .probeSend d => Sys2Proof.Machine.execProbeSend d s
  | .probeReceive d sent => Sys2Proof.Machine.execProbeReceive d sent s
  | .echoReceive d trip => Sys2Proof.Machine.execEchoReceive d trip s
  | .ackReceive d n => Sys2Proof.Machine.execAckReceive d n s
  | .nakReceive d n => Sys2Proof.Machine.execNakReceive d n s
  | .lanesReceive d mask => Sys2Proof.Machine.execLanesReceive d mask s
  | .ackTimeout d => Sys2Proof.Machine.execAckTimeout d s
  | .stripeWiden d => Sys2Proof.Machine.execStripeWiden d s
  | .laneLock d l precode skewed => Sys2Proof.Machine.execLaneLock d l precode skewed s
  | .laneLockLoss d l => Sys2Proof.Machine.execLaneLockLoss d l s
  | .qualificationPass d l => Sys2Proof.Machine.execQualificationPass d l s
  | .linkStateFlood => Sys2Proof.Machine.execLinkStateFlood s
  | .linkStateRecordReceive r => Sys2Proof.Machine.execLinkStateRecordReceive r s
  | .routeUpdate => Sys2Proof.Machine.execRouteUpdate s
  | .sleepTx d l => Sys2Proof.Machine.execSleepTx d l s
  | .sleepRx d l => Sys2Proof.Machine.execSleepRx d l s
  | .wakeTx d l => Sys2Proof.Machine.execWakeTx d l s
  | .ferryWakeSignal d l => Sys2Proof.Machine.execFerryWakeSignal d l s
  | .ferrywakeEnd d l => Sys2Proof.Machine.execFerrywakeEnd d l s
  | .eyePublish d l height width => Sys2Proof.Machine.execEyePublish d l height width s
  | .laneConfigApply d l => Sys2Proof.Machine.execLaneConfigApply d l s
  | .landingRequestArrive port peer data => Sys2Proof.Machine.execLandingRequestArrive port peer data s
  | .openSession => Sys2Proof.Machine.execOpenSession s
  | .openAdminChallenge => Sys2Proof.Machine.execOpenAdminChallenge s
  | .openAdminResponse => Sys2Proof.Machine.execOpenAdminResponse s
  | .challengeExpiry => Sys2Proof.Machine.execChallengeExpiry s
  | .authLockoutEnd addr => Sys2Proof.Machine.execAuthLockoutEnd addr s
  | .close => Sys2Proof.Machine.execClose s
  | .keepalive => Sys2Proof.Machine.execKeepalive s
  | .landingRead => Sys2Proof.Machine.execLandingRead s
  | .landingWrite => Sys2Proof.Machine.execLandingWrite s
  | .readblock => Sys2Proof.Machine.execReadblock s
  | .writeblock => Sys2Proof.Machine.execWriteblock s
  | .subscribe => Sys2Proof.Machine.execSubscribe s
  | .fire => Sys2Proof.Machine.execFire s
  | .wake => Sys2Proof.Machine.execWake s
  | .resetUnit => Sys2Proof.Machine.execResetUnit s
  | .resetDie => Sys2Proof.Machine.execResetDie s
  | .resetDevice => Sys2Proof.Machine.execResetDevice s
  | .resetStopWindowEnd => Sys2Proof.Machine.execResetStopWindowEnd s
  | .streamFrameSend ses => Sys2Proof.Machine.execStreamFrameSend ses s
  | .sessionTimeout ses => Sys2Proof.Machine.execSessionTimeout ses s
  | .sessionClose ses => Sys2Proof.Machine.execSessionClose ses s
  | .commissionSecret ws => Sys2Proof.Machine.execCommissionSecret ws s
  | .networkConfigWrite port obj ws => Sys2Proof.Machine.execNetworkConfigWrite port obj ws s
  | .ethLinkUp port => Sys2Proof.Machine.execEthLinkUp port s
  | .ethLinkDown port => Sys2Proof.Machine.execEthLinkDown port s
  | .ethFrameReceive port f => Sys2Proof.Machine.execEthFrameReceive port f s
  | .dhcpMessageReceive port m => Sys2Proof.Machine.execDhcpMessageReceive port m s
  | .dhcpRenew port => Sys2Proof.Machine.execDhcpRenew port s
  | .dhcpRebind port => Sys2Proof.Machine.execDhcpRebind port s
  | .dhcpExpiry port => Sys2Proof.Machine.execDhcpExpiry port s
  | .arpRequestReceive port m => Sys2Proof.Machine.execArpRequestReceive port m s
  | .arpReplyReceive port m => Sys2Proof.Machine.execArpReplyReceive port m s
  | .arpAgeOut port => Sys2Proof.Machine.execArpAgeOut port s
  | .icmpEchoRequest port m => Sys2Proof.Machine.execIcmpEchoRequest port m s
  | .neighbourSolicitation port m => Sys2Proof.Machine.execNeighbourSolicitation port m s
  | .statusClear obj sel v => Sys2Proof.Machine.execStatusClear obj sel v s
  | .vendorTestWrite obj sel v => Sys2Proof.Machine.execVendorTestWrite obj sel v s
  | .sleepS0 v => Sys2Proof.Machine.execSleepS0 v s
  | .sleepS1 v => Sys2Proof.Machine.execSleepS1 v s
  | .sleepS2 v => Sys2Proof.Machine.execSleepS2 v s
  | .sleepS3 v => Sys2Proof.Machine.execSleepS3 v s
  | .sleepStandby v => Sys2Proof.Machine.execSleepStandby v s
  | .sleepEntryPoint => Sys2Proof.Machine.execSleepEntryPoint s
  | .wakeComplete target selector => Sys2Proof.Machine.execWakeComplete target selector s
  | .timedWake => Sys2Proof.Machine.execTimedWake s
  | .ethernetActivityWake port => Sys2Proof.Machine.execEthernetActivityWake port s
  | .hkRoundEnd d readings => Sys2Proof.Machine.execHkRoundEnd d readings s
  | .railSettled d => Sys2Proof.Machine.execRailSettled d s
  | .tempComparatorTrip d sensor => Sys2Proof.Machine.execTempComparatorTrip d sensor s
  | .brownoutOrderly d => Sys2Proof.Machine.execBrownoutOrderly d s
  | .brownoutImmediate d => Sys2Proof.Machine.execBrownoutImmediate d s
  | .vinValid straps store => Sys2Proof.Machine.execVinValid straps store s
  | .shutdownSignal => Sys2Proof.Machine.execShutdownSignal s
  | .shutdownWindowEnd => Sys2Proof.Machine.execShutdownWindowEnd s
  | .shutdownCommand => Sys2Proof.Machine.execShutdownCommand s
  | .shutdownResume => Sys2Proof.Machine.execShutdownResume s
  | .shutdownReady => Sys2Proof.Machine.execShutdownReady s
  | .trimSave => Sys2Proof.Machine.execTrimSave s
  | .trimSaveComplete => Sys2Proof.Machine.execTrimSaveComplete s
  | .trimLoadSaved => Sys2Proof.Machine.execTrimLoadSaved s
  | .trimLoadFactory => Sys2Proof.Machine.execTrimLoadFactory s
  | .restoreUnit selector => Sys2Proof.Machine.execRestoreUnit selector s
  | .verifyRequest v => Sys2Proof.Machine.execVerifyRequest v s
  | .verifyComplete d figure offset => Sys2Proof.Machine.execVerifyComplete d figure offset s
  | .faultLogWrite => Sys2Proof.Machine.execFaultLogWrite s
  | .lifetimeWrite => Sys2Proof.Machine.execLifetimeWrite s
  | .resetNAssert => Sys2Proof.Machine.execResetNAssert s
  | .resetNRelease straps store => Sys2Proof.Machine.execResetNRelease straps store s
  | .watchdogExpiry d => Sys2Proof.Machine.execWatchdogExpiry d s
  | .jtagExtest => Sys2Proof.Machine.execJtagExtest s
  | .jtagSamplePreload cells => Sys2Proof.Machine.execJtagSamplePreload cells s
  | .jtagIdcode => Sys2Proof.Machine.execJtagIdcode s
  | .jtagHighz => Sys2Proof.Machine.execJtagHighz s
  | .jtagClamp => Sys2Proof.Machine.execJtagClamp s
  | .jtagExtestPulse => Sys2Proof.Machine.execJtagExtestPulse s
  | .jtagExtestTrain => Sys2Proof.Machine.execJtagExtestTrain s
  | .jtagBypass => Sys2Proof.Machine.execJtagBypass s
  | .jtagReserved ir => Sys2Proof.Machine.execJtagReserved ir s
  | .refclkReturn => Sys2Proof.Machine.execRefclkReturn s
  | .syncInRise => Sys2Proof.Machine.execSyncInRise s
  | .gangwayTrainingEnd d dly groups badLinks => Sys2Proof.Machine.execGangwayTrainingEnd d dly groups badLinks s
  | .fredomBootEnd d => Sys2Proof.Machine.execFredomBootEnd d s

end Sys2Proof.Machine
end

