-- ==== Sys2Proof/Machine/Memory.lean ====
section
/-!
DEFINITION. The canonical form of the words of the DOMAIN objects, which are the device's memories and tables (R8, R510), and
of the values of the other objects (R512): object, selector and word strictly rising, no empty table, and no entry equal to
what an unlisted one reads.
-/

namespace Sys2Proof.Machine

/-- Words of one instance, from word `b` on. -/
def wordsWf (id k : Nat) : Nat → Tab Word → Bool
  | _, [] => true
  | b, (w, v) :: t => decide (b ≤ w) && decide (v ≠ domDefault id k w) && wordsWf id k (w + 1) t

/-- Instances of one DOMAIN object, from selector `b` on. -/
def instancesWf (id : Nat) : Nat → Tab (Tab Word) → Bool
  | _, [] => true
  | b, (k, t) :: r => decide (b ≤ k) && !t.isEmpty && wordsWf id k 0 t && instancesWf id (k + 1) r

/-- DOMAIN objects, from object `b` on. -/
def domainsWf : Nat → Tab (Tab (Tab Word)) → Bool
  | _, [] => true
  | b, (id, t) :: r => decide (b ≤ id) && !t.isEmpty && instancesWf id 0 t && domainsWf (id + 1) r

/-- The memories are in canonical form. -/
def Memory.wf (m : Tab (Tab (Tab Word))) : Bool := domainsWf 0 m

/-- Values of one object, from selector `b` on. -/
def valuesWf (id : Nat) : Nat → Tab Word → Bool
  | _, [] => true
  | b, (k, v) :: t => decide (b ≤ k) && decide (v ≠ objDefault id k) && valuesWf id (k + 1) t

/-- Objects that are not DOMAIN objects, from object `b` on. -/
def objectsWf : Nat → Tab (Tab Word) → Bool
  | _, [] => true
  | b, (id, t) :: r => decide (b ≤ id) && !t.isEmpty && valuesWf id 0 t && objectsWf (id + 1) r

/-- The object values are in canonical form. -/
def Registers.wf (m : Tab (Tab Word)) : Bool := objectsWf 0 m

end Sys2Proof.Machine
end

