-- ==== Sys2Proof/Safety.lean ====
section
/-!
DEFINITION. What a safe run is, in the terms that statements use: commands that complete, the invariants of the device, and
the conditions under which the rows of the larger units act.
-/

namespace Sys2Proof.Machine

/-- A command completes in a state: it neither stops with a host error nor is refused. -/
def completes (c : Instr) (s : State) : Prop := ∃ t, exec c s = .next t

/-- The words of the DOMAIN objects and the saved trims are in canonical form (R8, R510, R566). -/
def Canonical (s : State) : Prop := Memory.wf s.doms = true ∧ Memory.wf s.nv.saved = true

/-- At most 256 requests wait for die 0's management core (R474). -/
def QueueBounded (s : State) : Prop := s.landing.queue.length ≤ 256

/-! Sequencers. -/

/-- Sequencer `q` of die `d` has done the counter operation of its word `w`, no trap waits for the word, it does not wait on a
lost mirror, and it is on time or its lateness is not checked (R134, R146, R168, R171, R263). -/
def actsNow (s : State) (d q : Nat) (w : MW) : Bool :=
  let x := s.seq (sel d q)
  s.seqRuns d q && x.phase == .counted && x.mw == w && x.raised == 0 && (!s.isLate d x || (!w.lateChk && !x.resumed)) &&
    (decide (w.wait < 2) || !s.waitsOnLost d q)

/-- The same of a word that is late and whose lateness is checked, where cause 4 is not enabled (R134, R168). -/
def actsLate (s : State) (d q : Nat) (w : MW) : Bool :=
  let x := s.seq (sel d q)
  s.seqRuns d q && x.phase == .counted && x.mw == w && x.raised == 0 && s.isLate d x && w.lateChk &&
    (decide (w.wait < 2) || !s.waitsOnLost d q) && !bit (s.rd Obj.TRAP_ENABLE (sel d q)) 4

/-- Sequencer `q` of die `d` begins word `w`: it is due, is no enabled breakpoint, and its native words can be read (R133,
R173, R175). -/
def beginsWord (s : State) (d q : Nat) (e : MwEcc) (w : MW) : Bool :=
  let k := sel d q
  let x := s.seq k
  s.wordDue d q && !s.breakHere k && !eccLost e && !(s.store k).poison.contains (2 * x.addr) &&
    !(s.store k).poison.contains (2 * x.addr + 1) && s.fetchMw k x.addr == w && !mwBad w

/-- The sequencer once it has begun word `w` and its counter operation is done (R133, R146). -/
def Seq.begun (x : Seq) (now : Nat) (w : MW) : Seq :=
  { x with phase := .counted, mw := w, exec := now, last := x.addr, skipBreak := false, waitFault := false }

/-- The state in which word `w` has begun and its counter operation is done; each corrected native word has been counted
(R173). -/
def beginState (s : State) (d q : Nat) (e : MwEcc) (w : MW) : State :=
  (s.csFetched d q (s.seq (sel d q)).addr e).setSeq (sel d q) ((s.seq (sel d q)).begun s.now w)

/-- The sequencer once its word's action is done. -/
def Seq.acted (x : Seq) : Seq := { x with phase := .acted, resumed := false }

/-- The state in which the word's action has put `a` in the stamped-action buffer (R135, R136). -/
def stampState (s : State) (d q : Nat) (a : StampAct) : State :=
  let x := s.seq (sel d q)
  s.setSeq (sel d q) { x.acted with buf := insAct ⟨x.actTime, x.t.toNat, a⟩ x.buf }

/-- Generator `g` of die `d` admits a command of a stamp, on time (R29, R32, R108). -/
def admits (s : State) (d g : Nat) (stamp : Time) : Bool :=
  s.domOn d (domOut (g / 8)) && decide ((s.gen (sel d g)).queue.length < 32) && s.clock.stepCyc != some s.cyc &&
    decide (s.now + 34 ≤ stamp.toNat)

/-- The command of the current word of a sequencer (R29, R30, R135). -/
def wordCommand (s : State) (d q : Nat) (op : GenOp) : GenCmd :=
  { op := op, stamp := (s.seq (sel d q)).t, die := d, seq := q, ord := s.issued }

/-- The word has acted, its command stands in its place in the queue of generator `g` of the same die, QFULL is clear, and
nothing else has changed (R29, R30, R32). -/
def CommandQueued (s t : State) (d q g : Nat) (op : GenOp) : Prop :=
  t.gen (sel d g) =
    { s.gen (sel d g) with queue := insCmd { wordCommand s d q op with at_ := s.cyc } (s.gen (sel d g)).queue } ∧
  (∀ k : Nat, k ≠ sel d g → t.gen k = s.gen k) ∧
  t.seq (sel d q) = { (s.seq (sel d q)).acted with qfull := false } ∧
  (∀ k : Nat, k ≠ sel d q → t.seq k = s.seq k) ∧ t.issued = s.issued + 1 ∧
  t = { s with gens := t.gens, seqs := t.seqs, issued := t.issued }

/-- The word has acted and its REMOTE command has set out for generator `g` of another die along the fixed route; nothing
else has changed (R22, R109, R162). -/
def RemoteSent (s t : State) (d q die g : Nat) (op : GenOp) : Prop :=
  t.flight = s.flight ++ [{ due := s.cyc, src := d, dst := die, body := .remote g (wordCommand s d q op), unit := q,
                            left := route s.member.dies d die, issuer := some q }] ∧
  t.seq (sel d q) = (s.seq (sel d q)).acted ∧ (∀ k : Nat, k ≠ sel d q → t.seq k = s.seq k) ∧
  t.issued = s.issued + 1 ∧ t = { s with flight := t.flight, seqs := t.seqs, issued := t.issued }

/-- The word has acted and its REMOTE command was dropped: it is counted, and REMOTE_FAULT is due two cycles later (R25,
R168). -/
def RemoteDropped (s t : State) (d q : Nat) : Prop :=
  t.regs = (s.inc Obj.DECISION_DROPPED (sel d 0)).regs ∧
  t.seq (sel d q) = { (s.seq (sel d q)).acted with faultAt := (s.seq (sel d q)).faultAt ++ [s.cyc + 2] } ∧
  (∀ k : Nat, k ≠ sel d q → t.seq k = s.seq k) ∧ t.issued = s.issued + 1 ∧
  t = { s with regs := t.regs, seqs := t.seqs, issued := t.issued }

/-- Every link of the fixed route between two dies carries traffic (R22, R25). -/
def State.routeUp (s : State) (i j : Nat) : Bool := (route s.member.dies i j).all (fun h => s.linkUp h.1 h.2)

/-- What the three ends of a REMOTE word are (R25, R109, R162). -/
def RemoteEnds (s t : State) (d q die g : Nat) (op : GenOp) : Prop :=
  (die = d → admits s d g (s.seq (sel d q)).t = true → CommandQueued s t d q g op) ∧
  (die ≠ d → die < s.member.dies → s.routeUp d die = true → RemoteSent s t d q die g op) ∧
  (die ≠ d → s.member.dies ≤ die ∨ s.routeUp d die = false → RemoteDropped s t d q)

/-- The branch of code `n` of the current word resolves in this cycle: after its condition wait, or without one once the
word has executed and, where it samples, its sample cycle has come (R137, R138, R142). -/
def branchesNow (s : State) (d q n : Nat) : Bool :=
  let x := s.seq (sel d q)
  s.seqRuns d q && x.mw.br == n && x.raised == 0 &&
    (if 2 ≤ x.mw.wait then x.phase == .sampled
     else x.phase == .acted && decide (x.exec ≤ s.now) &&
       (n == 0 || decide (4 ≤ n) || (decide (x.sampleAt ≤ s.now) && !s.sampleBad (sel d q) x.mw)))

/-- The sequencer at its next word, after a word that takes no sample or has waited (R137, R141); no counter that the host
wrote is left to take its value (R178). -/
def Seq.atNext (x : Seq) (addr : Nat) : Seq :=
  { x with phase := .ready, addr := addr, cntWrites := [], t := if 2 ≤ x.mw.wait then x.succT else x.plainT,
           ready := if 2 ≤ x.mw.wait then x.sampleCyc + 4 else x.exec + 1 }

/-! DSP engines. -/

/-- Engine `k` of die `d` carries out instruction `w`, whose OP is `op`: the engine is ready, and the word's check bits
say `e` (R278, R304). -/
def dspIssues (s : State) (d k op : Nat) (e : Ecc) (w : BitVec 36) : Bool :=
  let x := s.dsp (sel d k)
  s.dspReady d k && e != .uncorrectable && s.dspFetch (sel d k) x.flow.pc (2 * s.dspQ d k + 2) == w && opOf w == op

/-- The instruction at PC stands in no delay slot and in no repeated block (R281, R292). -/
def dspFree (s : State) (d k : Nat) : Bool :=
  let f := (s.dsp (sel d k)).flow
  f.br == none && f.rep == none

/-- The state in which a corrected program word has been counted (R304). -/
def dspCounted (s : State) (d k : Nat) (e : Ecc) : State :=
  if e = .corrected then s.inc Obj.DSP_MEM_CORRECTED (sel d k) else s

/-- A register of value `v` as the instruction numbered `n` sees it once the instruction numbered `num` has added the
writes `ws`, in program order, each seen from the count that it gives (R279). -/
def seenAfter (num : Nat) (ws : List DspWrite) (n r v : Nat) : Nat :=
  (ws.filter (fun w => w.reg == r && decide (num + w.vis ≤ n))).foldl (fun u w => w.beyond u) v

/-- LC as the instruction numbered `n` sees it, where no repeated block moves it (R279, R292). -/
def Dsp.lcSeen (x : Dsp) (n : Nat) : Nat :=
  (x.pend.filter (fun w => w.reg == DspReg.LC && decide (w.vis ≤ n))).foldl (fun v w => w.beyond v) x.flow.lc

/-- The engine that was `y` has carried out an instruction whose register writes are `ws`: every later instruction sees
each register as R279 says, the next instruction is one instruction cycle later, and nothing else of the engine has
changed. -/
def DspNext (y z : Dsp) (q : Nat) (ws : List DspWrite) : Prop :=
  (∀ n r : Nat, y.num < n → r ≠ DspReg.LC → z.sees n r = seenAfter y.num ws n r (y.sees n r)) ∧
  (∀ n : Nat, y.num < n → z.lcSeen n = seenAfter y.num ws n DspReg.LC (({ y with flow := y.flow.next } : Dsp).lcSeen n)) ∧
  z = { y with regs := z.regs, pend := z.pend, num := y.num + 1, issueAt := y.issueAt + q, doneAt := y.issueAt + 6 * q - 1,
               flow := { y.flow.next with lc := z.flow.lc } }

/-- Engine `k` of die `d`, which stood as `y` when its instruction began, has carried it out in the state `u`: its register
writes are `ws`, and of the device only the engine has changed. -/
def DspRan (u t : State) (d k : Nat) (y : Dsp) (ws : List DspWrite) : Prop :=
  DspNext y (t.dsp (sel d k)) (u.dspQ d k) ws ∧ (∀ j : Nat, j ≠ sel d k → t.dsp j = u.dsp j) ∧
  t = { u with dsps := t.dsps }

/-- Engine `k` of die `d`, which stood as `y`, has carried out the last instruction that it issues, in the state `u` (R302): it
stands at the next address with its registers as they are, and has halted, raising HALTED, if that instruction has
completed its stage 6; otherwise it halts when it has. -/
def DspStops (u t : State) (d k : Nat) (y : Dsp) : Prop :=
  (t.dsp (sel d k)).flow = { y.flow.next with lc := (t.dsp (sel d k)).flow.lc } ∧
  (∀ r : Nat, r ≠ DspReg.LC → (t.dsp (sel d k)).latest r = y.latest r) ∧
  (∀ n : Nat, y.num + 8 < n → (t.dsp (sel d k)).lcSeen n = ({ y with flow := y.flow.next } : Dsp).lcSeen n) ∧
  (∀ j : Nat, j ≠ sel d k → t.dsp j = u.dsp j) ∧
  (if y.issueAt + 6 * u.dspQ d k - 1 < u.cyc then
    (t.dsp (sel d k)).run = false ∧ (t.dsp (sel d k)).stepping = false ∧
      t = { u with dsps := t.dsps, later := (u.raiseAcross d (112 + 6 * k + 4)).later }
  else
    (t.dsp (sel d k)).run = true ∧ (t.dsp (sel d k)).ending = true ∧
      (t.dsp (sel d k)).doneAt = y.issueAt + 6 * u.dspQ d k - 1 ∧ t = { u with dsps := t.dsps })

/-- Z, N, C and V as ST holds them (R284). -/
def flagBits (z n c v : Bool) : Nat := b2n z + 2 * b2n n + 4 * b2n c + 8 * b2n v

/-- The writes of an ALU instruction: a D register, seen from the next instruction on, and the flags of a mask, seen from
the third on (R279). -/
def aluWrites (reg val mask flags : Nat) : List DspWrite := [⟨1, reg, 0xFFFF, val⟩, ⟨3, DspReg.ST, mask, flags⟩]

/-- The writes of an accumulator instruction whose exact result is `v`: outside 40 bits it saturates or wraps, and SV is
set (R279, R284, R286). -/
def accWrites (a : Nat) (sata : Bool) (v : Int) : List DspWrite :=
  let m : Int := 2 ^ 39
  if -m ≤ v ∧ v < m then [⟨3, DspReg.A + a, 2 ^ 40 - 1, (v % 2 ^ 40).toNat⟩]
  else [⟨3, DspReg.A + a, 2 ^ 40 - 1, if sata then (if v < 0 then 2 ^ 39 else 2 ^ 39 - 1) else (v % 2 ^ 40).toNat⟩,
        ⟨3, DspReg.ST, 32, 32⟩]

/-- The write that sets SV (R284). -/
def svWrites (b : Bool) : List DspWrite := if b then [⟨3, DspReg.ST, 32, 32⟩] else []

/-- A halfword of an engine's data memory (R276). -/
def State.dspHalf (s : State) (d k a : Nat) : Nat := half (s.dw Obj.DSP_DATA (sel d k) (a / 4)) a

/-! Bell consumers. -/

/-- The row of the consumer of channel `c` of die `d` (R355, R357). -/
def taskRow (d c : Nat) : Instr :=
  if c < 160 then
    [.seqStartTask d (c / 10), .seqStopTask d (c / 10), .seqEvcTask d (c / 10) 0, .seqEvcTask d (c / 10) 1, .seqEvcTask d (c / 10) 2,
      .seqEvcTask d (c / 10) 3].getD (c % 10) (.seqEvtTask d (c / 10) (c % 10 - 6))
  else if c < 224 then .dspEventInput d ((c - 160) / 8) ((c - 160) % 8)
  else if c < 240 then .majForceTask d (c - 224)
  else if c = 240 then .rawStartTask d
  else if c < 253 then
    [.biasStartTask d ((c - 241) / 3), .biasStopTask d ((c - 241) / 3)].getD ((c - 241) % 3) (.biasFlushTask d ((c - 241) / 3))
  else if c = 253 then .snsEdgeTask d []
  else if c = 254 then .alertTask d
  else if c = 255 then .hostNotifyTask d
  else .dspEventInput d ((c - 512) / 16) (c % 16)

/-! Detector tones. -/

/-- A sample of tone `t` of die `d` reaches its trigger unit now: the tone runs, and the sample's instant, A cycles ago, lies
on the grid of its period P and not too near the restart (R311, R316, R317). -/
def toneDue (s : State) (d t : Nat) : Bool :=
  let z := s.tone (sel d t)
  let a := toneA z.config
  z.on && s.toneMayRun d t && decide (z.restart + 2 * a < s.cyc) &&
    (((s.now : Int) - a - s.rdN Obj.BIN_PHASE (sel d 0)) % toneP z.config == 0) && z.lastAt != some (s.cyc - a)

/-- The sample that reaches the trigger unit of tone `t` of die `d` now, and whether it is suspect (R312–R316, R345). -/
def toneArrives (s : State) (d t : Nat) : ToneSample :=
  let z := s.tone (sel d t)
  let c := s.cyc - toneA z.config
  ⟨toneSampleAt d (t / 256) (toneK z.config) (bits z.config 42 32) (signed 32 (bits z.config 31 0)) z.restart c,
    s.toneSuspect d (t / 256) (toneK z.config) c⟩

/-- What condition `c` of a tone's trigger unit does on the sample that arrives now: the threshold crossed if it fires, and
its arming (R319–R324). -/
def toneCond (s : State) (d t c : Nat) : Option Int × Bool × Bool :=
  let z := s.tone (sel d t)
  condStep (s.dw Obj.TRIG_CONFIG (sel d t) c) (toneArrives s d t).x (z.ring.map (fun y => y.x)) (z.arm.getD (2 * c) false)
    (z.arm.getD (2 * c + 1) false)

/-- The words of a tone's trigger unit and deadbands hold no host error. -/
def toneLegal (s : State) (d t : Nat) : Bool :=
  !s.trigBad (sel d t) && bits (s.rd Obj.TONE_DEADBAND (sel d t)) 63 36 == 0

/-- The stored form of the sample that arrives now (R315). -/
def toneStored (s : State) (d t : Nat) : BitVec 36 :=
  formatSample (b2n (bit (s.tone (sel d t)).config 62)) (toneArrives s d t).x

/-- A buffer without the records whose last word has been written by now (R346, R348). -/
def Acq.flushed (a : Acq) (cyc : Nat) : Acq :=
  { a with recs := a.recs.filter (fun r => r.open_ || r.copying || decide (cyc < r.fullAt)) }

/-! Sensor channels. -/

/-- An edge of the TIMER channel `c` of die `d` is due: it runs, and h has passed since the latest edge (R404). -/
def sensorDue (s : State) (d c : Nat) : Bool :=
  let x := s.sns (sel d c)
  s.snsOn d c && x.run && !snsEvent x.config && decide (x.edgeAt + snsHalf x.config ≤ s.cyc)

/-- Gains, applied configurations and written configurations of the sensor channels of die `d` are legal (R421). -/
def snsLegal (s : State) (d : Nat) : Bool :=
  (List.range 4).all (fun c =>
    decide ((s.sns (sel d c)).gain ≤ 8) && decide (s.rdN Obj.SNS_GAIN (sel d c) ≤ 8) &&
      (List.range 9).all (fun g =>
        !snsBad (s.sns (sel d c)).config g && !snsBad ((s.rd Obj.SNS_CONFIG (sel d c)).setWidth 64) g))

/-- An event is due at SNS_EDGE of die `d`, delivered as `u` says, and the running EVENT channel `c` takes it as an edge. -/
def edgeComes (s u : State) (d c : Nat) : Bool :=
  let r := s.deliver d 253 ((List.range 4).all (fun i => !s.domOn d (domSensor i)))
  r.1.isSome && r.2 == u && snsLegal s d && s.snsOn d c && (s.sns (sel d c)).run && bit (s.sns (sel d c)).config 41

/-! Ferry ports. -/

/-- Lane `l` of die `d` is to send a frame in this cycle, and no lane before it in the stripe has yet to (R429). -/
def frameDue (s : State) (d l : Nat) : Bool :=
  let x := s.lane (sel d l)
  let done : Nat → Bool := fun m => (s.lane (sel d m)).frame.any (fun f => f.cycle == s.cyc)
  s.cyc % 4 == 0 && s.domOn d domFerry && !x.txSleep && x.rx != .retired && !done l &&
    !(bit (s.fport d).stripe l && (List.range l).any (fun m => bit (s.fport d).stripe m && !done m))

/-- The destination and the source device of a flit (R260). -/
def flitEnds : FlitBody → Nat × Nat
  | .decision dest src _ => (dest, src)
  | .bulk dest src _ => (dest, src)

/-- `m` is the widest set of 1, 2 or 4 lanes of `g`, the lowest-numbered ones (R436). -/
def WidestOf (m g : BitVec 4) : Prop :=
  m &&& ~~~g = 0 ∧ width m = (if g = 0 then 0 else if width g = 1 then 1 else if width g = 4 then 4 else 2) ∧
  (∀ l : Nat, l < 4 → ∀ k : Nat, k < l → bit m l = true → bit g k = true → bit m k = true)

/-- The stripe of port `d` in `t`, where the lanes that may carry it are `g`: kept while it loses none, and else narrowed,
with a new reverse-channel word (R434, R436, R446). -/
def Narrowed (s t : State) (d : Nat) (g : BitVec 4) : Prop :=
  ((s.fport d).stripe &&& ~~~g = 0 → (t.fport d).stripe = (s.fport d).stripe ∧ (t.fport d).rcLeft = (s.fport d).rcLeft) ∧
  ((s.fport d).stripe &&& ~~~g ≠ 0 → WidestOf (t.fport d).stripe g ∧ (t.fport d).rcLeft = 0)

/-- The link of port `d` stands as in `s`. -/
def LinkKept (s t : State) (d : Nat) : Prop :=
  (t.fport d).up = (s.fport d).up ∧ (t.fport d).waiting = (s.fport d).waiting ∧ (t.fport d).bulk = (s.fport d).bulk ∧
  (t.fport d).turns = (s.fport d).turns ∧ t.regs = s.regs ∧ t.linkChanged = s.linkChanged

/-- The link of port `d` is down: one that was up has dropped and counted what waited (R256, R440, R446). -/
def LinkFell (s t : State) (d : Nat) : Prop :=
  ((s.fport d).up = false → LinkKept s t d) ∧
  ((s.fport d).up = true →
    (t.fport d).up = false ∧ (t.fport d).waiting = [] ∧ (t.fport d).bulk = [] ∧ (t.fport d).turns = [] ∧
    t.linkChanged = true ∧ t.regs = (s.count Obj.DECISION_DROPPED (sel d 0) (s.fport d).waitingMsgs).regs)

/-- A stripe lost lanes: the link falls with the last of them, and stands otherwise. -/
def StripeLost (s t : State) (d : Nat) : Prop :=
  ((s.fport d).stripe ≠ 0 ∧ (t.fport d).stripe = 0 → LinkFell s t d) ∧
  ((s.fport d).stripe = 0 ∨ (t.fport d).stripe ≠ 0 → LinkKept s t d)

/-- Of the ports, only port `d` has changed, in its stripe, the lanes reported good, and what a link that falls loses. -/
def StripeOnly (s t : State) (d : Nat) : Prop :=
  t.fport d = { s.fport d with
    good := (t.fport d).good, helloGood := (t.fport d).helloGood, stripe := (t.fport d).stripe, rcLeft := (t.fport d).rcLeft,
    up := (t.fport d).up, waiting := (t.fport d).waiting, bulk := (t.fport d).bulk, turns := (t.fport d).turns } ∧
  (∀ k : Nat, k ≠ d → t.fport k = s.fport k)

/-- A link has what R437 asks for but its length and its device number: a partner, both stripes and a round trip. -/
def State.linkReady (s : State) (d : Nat) : Bool :=
  (s.fport d).partner.isSome && (s.fport d).stripe != 0 && (s.fport d).theirStripe != 0 && !(s.fport d).trips.isEmpty

/-- A link that was down in `s` and is now ready comes up, or reports that it is too long or that the partner has the
device's own number (R437). -/
def LinkTried (s t : State) (d : Nat) : Prop :=
  let ready := !(s.fport d).up && t.linkReady d
  let far := decide (40960 < t.rdN Obj.LINK_DELAY (sel d 0))
  let own := (t.fport d).partner.map Prod.fst == some t.ownDevice
  (ready = false → (t.fport d).up = (s.fport d).up) ∧
  ((ready && far) = true → (t.fport d).up = false ∧ bit (t.rd Obj.PORT_STATUS (sel d 0)) 11 = true) ∧
  ((ready && !far && own) = true → (t.fport d).up = false ∧ bit (t.rd Obj.PORT_STATUS (sel d 0)) 10 = true) ∧
  ((ready && !far && !own) = true → (t.fport d).up = true ∧ t.linkChanged = true)

/-- Lane `l` of a port whose partner reports `b`, and reported the receivers `old` asleep before: a transmit direction
sleeps and wakes with the receiver (R440). -/
def laneHeard (x : Lane) (old : BitVec 4) (b : LaneSet) (l cyc : Nat) : Lane :=
  if bit b.rxSleep l then { x with txSleep := x.txSleep || x.waking.isNone }
  else if bit old l && x.txSleep && x.rx != .retired then { x with txSleep := false, waking := some cyc }
  else x

/-- Port `d` after a CALL or a HELLO that reports `b`, by which flits may be placed on the lanes `g`: the partner's lanes
and stripe are taken over, transmit directions sleep and wake, and the stripe narrows (R433, R436, R440, R446). -/
def SetHeard (s t : State) (d : Nat) (b : LaneSet) (g : BitVec 4) : Prop :=
  t.fport d = { s.fport d with
    partner := (t.fport d).partner, good := b.rxGood, helloGood := g, theirStripe := b.txStripe, asleep := b.rxSleep,
    stripe := (t.fport d).stripe, rcLeft := (t.fport d).rcLeft, up := (t.fport d).up, waiting := (t.fport d).waiting,
    bulk := (t.fport d).bulk, turns := (t.fport d).turns } ∧
  (∀ l : Nat, l < 4 → t.lane (sel d l) = laneHeard (s.lane (sel d l)) (s.fport d).asleep b l s.cyc) ∧
  Narrowed s t d (g &&& laneMask (t.txSends d)) ∧
  (∀ k : Nat, selDie k ≠ d ∨ 4 ≤ selUnit k → t.lane k = s.lane k) ∧ (∀ k : Nat, k ≠ d → t.fport k = s.fport k)

/-! Landing requests. -/

/-- The request at the head of the queue is `q`, of kind `kind`, and its header breaks no rule (R470, R473, R474). -/
def headIs (s : State) (kind : ReqKind) (q : Req) : Bool :=
  s.serves && !q.bad && s.kindOf q == some kind && s.landing.queue.head?.map s.reqOf == some q

/-- The state in which the request at the head of the queue has been taken (R474). -/
def State.taken (s : State) : State := { s with landing := { s.landing with queue := s.landing.queue.tail } }

/-- A request passes the session check (R473, R475). -/
def sessionPasses (s : State) (q : Req) : Bool :=
  let x := s.session q.h.ses
  decide (q.h.ses < 64) && x.live && x.tag == q.h.tag && x.port == q.port && x.peer == q.peer

/-- A request passes the session check, and its SEQ is beyond S_MAX (R473, R475, R479). -/
def newInSession (s : State) (q : Req) : Bool := sessionPasses s q && seqBeyond q.h.seq (s.session q.h.ses).smax

/-- The requests of a session, with the row of each (R471, R473). -/
def sessionRows : List (Instr × ReqKind) := [
  (.close, .close), (.keepalive, .keepalive), (.landingRead, .read), (.landingWrite, .write), (.readblock, .readBlock),
  (.writeblock, .writeBlock), (.subscribe, .subscribe), (.fire, .fire), (.resetUnit, .resetUnit), (.resetDie, .resetDie),
  (.resetDevice, .resetDevice)]

/-- The state in which a request that passes the session check executes: its session's idle time begins anew (R481). -/
def State.heard (s : State) (q : Req) : State :=
  s.taken.setSession q.h.ses { s.session q.h.ses with lastAt := s.cyc }

/-- The session of a request once it has executed with SEQ beyond S_MAX, with the reply it holds, if any (R479, R480). -/
def sessionAfter (s : State) (q : Req) (held : Option (List Byte)) : Session :=
  let x := s.session q.h.ses
  { x with lastAt := s.cyc, smax := q.h.seq,
           done := (q.h.seq, held) :: x.done.filter (fun p => p.1 != q.h.seq && decide ((q.h.seq - p.1).toNat < 32)) }

/-- Frames as they are sent in answer to a request: by a port whose link is up, from its address of the peer's kind (R466,
R469). -/
def Req.replies (q : Req) (frames : List (List Byte)) : List Sent :=
  match q.src with
  | some a => if q.up then frames.map (fun f => Sent.landing q.port a q.peer f) else []
  | none => []

/-- The request has left the queue and been answered with some frames. -/
def Replied (s t : State) (q : Req) (frames : List (List Byte)) : Prop :=
  t.sent = s.sent ++ q.replies frames ∧
  t.landing = { s.landing with queue := s.landing.queue.tail }

/-- The session of a request is `x`, and every other session is as before. -/
def OnlySession (s t : State) (q : Req) (x : Session) : Prop :=
  t.session q.h.ses = x ∧ ∀ n : Nat, n ≠ q.h.ses → t.session n = s.session n

/-- The request has executed: one reply of STATUS OK with a payload, held for a retry or not, and nothing else (R479,
R480). -/
def Served (s t : State) (q : Req) (body : List Byte) (held : Bool) : Prop :=
  Replied s t q [q.frame stOk false body] ∧
  OnlySession s t q (sessionAfter s q (if held then some (q.frame stOk false body) else none))

/-- The reply that opens session `n` with a TAG (R475). -/
def openFrame (s : State) (q : Req) (n : Nat) (tag : BitVec 32) : List Byte :=
  ({ q with h := { q.h with ses := n, tag := tag } } : Req).frame stOk false
    (toBytes (s.blockWords q.port) 2 ++ List.replicate 6 0)

/-- Session `n` has been opened by a request (R475): bound to its peer and port, with a TAG that is not 0, the request's SEQ
as S_MAX, the weight of the request, and the reply held; no other session and no object but SESSION_WEIGHT has changed. -/
def Opened (s t : State) (q : Req) (n : Nat) : Prop :=
  (t.session n).tag ≠ 0 ∧
  t.session n = { live := true, admin := q.h.admin, port := q.port, peer := q.peer, tag := (t.session n).tag,
                  openSeq := q.h.seq, opened := openFrame s q n (t.session n).tag, smax := q.h.seq,
                  done := [(q.h.seq, some (openFrame s q n (t.session n).tag))], lastAt := s.cyc } ∧
  (∀ m : Nat, m ≠ n → t.session m = s.session m) ∧ t.rd Obj.SESSION_WEIGHT n = word (q.field 0 1) ∧
  (∀ id k : Nat, ¬ (id = Obj.SESSION_WEIGHT ∧ k = n) → t.rd id k = s.rd id k) ∧
  t.sent = s.sent ++ q.replies [openFrame s q n (t.session n).tag] ∧
  t.landing = { s.landing with queue := s.landing.queue.tail, challenges := t.landing.challenges } ∧
  t = { s with sessions := t.sessions, regs := t.regs, sent := t.sent, landing := t.landing, free := t.free }

/-- Failures of an address in the last 60 s, this one not among them (R478). -/
def State.recentFailures (s : State) (a : BitVec 128) : Nat :=
  (s.landing.failures.filter (fun p => p.1 == a && decide (s.cyc < p.2 + 75000000000))).length

/-- A request has been answered AUTH_FAILED: the failure is counted and no session has changed; the eighth of an address
within 60 s locks it out for 60 s, one while it is locked out changes nothing of that (R478). -/
def AuthFailed (s t : State) (q : Req) : Prop :=
  (s.locked q.peer.addr = true → t.landing.failures = s.landing.failures ∧ t.landing.lockouts = s.landing.lockouts) ∧
  (s.locked q.peer.addr = false → s.recentFailures q.peer.addr < 7 →
    t.recentFailures q.peer.addr = s.recentFailures q.peer.addr + 1 ∧ t.landing.lockouts = s.landing.lockouts) ∧
  (s.locked q.peer.addr = false → 7 ≤ s.recentFailures q.peer.addr →
    t.recentFailures q.peer.addr = 0 ∧ t.landing.lockouts = (q.peer.addr, s.cyc + 75000000000) :: s.landing.lockouts) ∧
  t.rd Obj.AUTH_FAILURES 0 = (s.inc Obj.AUTH_FAILURES 0).rd Obj.AUTH_FAILURES 0 ∧
  t.sent = s.sent ++ q.replies [q.frame stAuthFailed false []] ∧
  t.landing = { s.landing with queue := s.landing.queue.tail, challenges := t.landing.challenges,
                               failures := t.landing.failures, lockouts := t.landing.lockouts } ∧
  t = { s with regs := t.regs, sent := t.sent, landing := t.landing }

/-- Session `n` has closed (R481): it owns no channel, subscribes to nothing and is owed no record, and its objects read
their defaults; pending timed fires stand, and no other session and no other object has changed. -/
def SessionClosed (s t : State) (n : Nat) : Prop :=
  t.session n = {} ∧ (∀ m : Nat, m ≠ n → t.session m = s.session m) ∧ look [] t.recSubs n = [] ∧
  (∀ k : Nat, t.chan k = { s.chan k with
    owner := if (s.chan k).owner = some n then none else (s.chan k).owner, keptFrom := (t.chan k).keptFrom }) ∧
  (∀ d : Nat, d < s.member.dies → ∀ r ∈ (t.acq d).recs, ¬ n ∈ r.owed) ∧
  (∀ id k : Nat, (k = n ∧ (id = Obj.SESSION_WEIGHT ∨ id = Obj.NOTIFY_LOST ∨ id = Obj.STREAM_FRAMES)) ∨ t.rd id k = s.rd id k) ∧
  (∀ d : Nat, t.die d = { s.die d with notifyBusy := (t.die d).notifyBusy }) ∧
  t = { s with sessions := t.sessions, recSubs := t.recSubs, chans := t.chans, acqs := t.acqs, regs := t.regs,
               dies := t.dies, sent := t.sent, landing := t.landing }

/-! Object access. -/

/-- A WRITE that passes the checks of R473 and only sets the value that the object holds (R14, R18). -/
def plainWrite (s : State) (ses id k : Nat) (v : Word) : Bool :=
  !isVendor id && (s.writeGuarded ses id k v).isNone && (s.writeTime id k v).isNone && (s.writeUnits id k v).isNone &&
    !badUnitValue id k v && !badSystemValue s id k v &&
    !([Obj.TIME_SOURCE, Obj.TATTOO_ROLE, Obj.SYNC_OUT_TIME, Obj.SYNC_OUT_ENABLE, Obj.DEMOD_FREQ, Obj.OUT_MODE, Obj.FS_CURRENT,
      Obj.HEADROOM, Obj.FIR_LONG, Obj.INPUT_MODE, Obj.INPUT_RANGE, Obj.SNS_CONFIG, Obj.SNS_GAIN, Obj.BIAS_CONFIG,
      Obj.BIAS_DIVIDER, Obj.TONE_CONFIG].contains id) &&
    id / 256 != 0x1230 && !(id == Obj.AUTO_RESUME && s.shut.st == .ready) && !(decide (Obj.SEQ_COUNTER_0 ≤ id) && decide (id ≤ Obj.SEQ_COUNTER_7))

/-- The reply frames of a READBLOCK (R483, R485, R486). -/
def blockFrames (s : State) (q : Req) (r : ObjRow) : List (List Byte) :=
  let size := s.blockWords q.port
  let n := (q.count + size - 1) / size
  (List.range n).map (fun i =>
    q.frame stOk (i + 1 == n) (q.body.take 11 ++ toBytes (i * size) 2 ++
      (s.readWords r (q.objSel 0) (q.field 5 4) q.checks (i * size) (min size (q.count - i * size))).1.flatMap wordBytes))

/-- The words of a WRITEBLOCK frame that lie below COUNT, and the word of the object that the frame's `i`th is written to
(R484, R486). -/
def blockKept (q : Req) : List Word :=
  (readWordsOf (q.body.drop 13) ((q.body.length - 13) / 9)).take (q.count - q.field 11 2)
def blockPlace (s : State) (q : Req) (r : ObjRow) (i : Nat) : Nat := (q.field 5 4 + q.field 11 2 + i) % s.objSize r

/-- Words of a session's stream of records of a die that wait, in order (R489). -/
def streamWords (s : State) (ses d : Nat) : List Word :=
  let y := look {} (s.session ses).streams d
  ((y.ready.filterMap (fun p => s.recOf d p.1)).flatMap (fun r => r.words d)).drop y.placed

/-- The egress gives a session its turn for frame `f` (R41, R489). -/
def sendsNow (s : State) (ses : Nat) (f : DueFrame) : Bool :=
  let u := s.feedStreams
  let p := (u.session ses).port
  (u.turn p (look {} s.landing.egress p) 2048).any (fun x => x.1 == ses) && u.frameDue ses == some f

/-! Resets. -/

/-- The device has started anew from the read of its store (R505, R572, R577, R581, R583): no session is open, no request
waits, every epoch is 0, device time is 0 and does not count, the always-on and management domains of every die are on,
and no management core has booted; the nonvolatile store keeps its secret, and RESET_CAUSE holds `cause`. -/
def Restarted (s t : State) (cause : Nat) : Prop :=
  (∀ n : Nat, (t.session n).live = false) ∧ t.landing.queue = [] ∧ (∀ k : Nat, (t.epochRec k).last = 0) ∧
  (∀ cls k : Nat, t.appliedEpoch cls k = 0) ∧ t.clock.now = 0 ∧ t.clock.counting = false ∧ t.clock.cyc = s.clock.cyc ∧
  (∀ d : Nat, d < s.member.dies → t.domOn d 0 = true ∧ t.domOn d 2 = true ∧ t.domOn d 3 = false ∧
    (t.die d).stored = true ∧ (t.die d).booted = false ∧ (t.die d).trained = false) ∧
  t.nv.secret = s.nv.secret ∧ t.member = s.member ∧ t.pending = s.pending ∧ t.rd Obj.RESET_CAUSE 0 = word cause ∧
  t.landing.vinAt = s.cyc

/-- What a unit reset leaves of the unit of a scope (R579): a lane that searches, outputs, inputs, generators, demodulators
and tones without pulses, commands, windows and records in progress, a sequencer, a DSP engine and a majority unit as after
a reset, a Bell channel without owner and fires, a bias output that takes its safe state, a sensor channel stopped; the
applied epoch of a unit of classes 0 to 2 reads 0. -/
def UnitCleared (t : State) (scope k : Nat) : Prop :=
  (scope = 4 → (t.lane k).losses = [] ∧ ((t.lane k).rx = RxState.search ∨ (t.lane k).rx = RxState.retired)) ∧
  (scope = 6 → ∀ i : Nat, i < 8 → (t.gen (sel (selDie k) (8 * selUnit k + i))).pulse = none ∧
    (t.gen (sel (selDie k) (8 * selUnit k + i))).queue = []) ∧
  (scope = 7 → (t.gen k).pulse = none ∧ (t.gen k).queue = [] ∧ t.appliedEpoch 0 (selDie k * 128 + selUnit k) = 0) ∧
  (scope = 8 → (t.rfIn k).mode = 0 ∧ ∀ j : Nat, j < 16 →
    (t.demod (sel (selDie k) (16 * selUnit k + j))).windows = [] ∧ (t.demod (sel (selDie k) (16 * selUnit k + j))).results = []) ∧
  (scope = 9 → (t.demod k).windows = [] ∧ (t.demod k).results = [] ∧ t.appliedEpoch 1 (selDie k * 128 + selUnit k) = 0) ∧
  (scope = 10 → t.seq k = {}) ∧ (scope = 13 → t.dsp k = {} ∧ t.appliedEpoch 2 (selDie k * 9 + selUnit k) = 0) ∧
  (scope = 14 → (t.tone k).on = false ∧ (t.tone k).armed = false ∧ (t.tone k).collecting = none) ∧
  (scope = 15 → t.maj k = {}) ∧
  (scope = 16 → (t.chan k).owner = none ∧ ∀ f ∈ t.fires, ¬ (f.die = selDie k ∧ f.chan = selUnit k)) ∧
  (scope = 17 → t.domOn (selDie k) (domBias (selUnit k)) = true → (t.biasTurn k).safe = true) ∧
  (scope = 18 → (t.sns k).run = false ∧ (t.sns k).exciting = false ∧ (t.sns k).opened = false)

/-- A request has executed under a right it has, and a cause of a reset has been found: its signal follows 64 cycles later,
and its stop window is 6,250,000 cycles (R494, R577, R578). -/
def ResetAsked (s t : State) (q : Req) (die : Nat) (kind : StopKind) : Prop :=
  Served s t q [] true ∧ t.shut = { s.shut with waiting := s.shut.waiting ++ [⟨s.cyc + 64, 0, die, 6250000, kind⟩] } ∧
  t = { s with sent := t.sent, landing := t.landing, sessions := t.sessions, shut := t.shut }

/-- A reset that a shutdown for a lost REFCLK does not hold back (R84). -/
def State.mayReset (s : State) : Bool :=
  !(s.isShut && s.shut.cause == 4) || s.clock.refBack.any (fun c => decide (c + 12500000 ≤ s.cyc))

/-! Ethernet ports. -/

/-- Only Ethernet port `p`, what it sends, and the record of the first port that becomes reachable can have changed. -/
def PortOnly (s t : State) (p : Nat) : Prop :=
  (∀ n : Nat, n ≠ p → t.eth n = s.eth n) ∧
  t = { s with eths := t.eths, sent := t.sent, regs := t.regs, landing := { s.landing with reached := t.landing.reached } }

/-- A frame whose VLAN identity the port accepts (R465): untagged or priority-tagged with VLAN 0, else tagged with VLAN. -/
def vlanFits (s : State) (p : Nat) (f : EthFrame) : Bool :=
  let v := s.rdN Obj.VLAN (sel p 0)
  if v = 0 then f.vid == none || f.vid == some 0 else f.vid == some (BitVec.ofNat 12 v)

/-! Sleep. -/

/-- SLEEP_REQUEST as a row and the STATE it asks for: 1 S1, 2 S2, 3 S3, 4 STANDBY (R550). -/
def sleepRows (v : Word) : List (Instr × Nat) := [(.sleepS1 v, 1), (.sleepS2 v, 2), (.sleepS3 v, 3), (.sleepStandby v, 4)]

/-- TARGET and SELECTOR of SLEEP_REQUEST (R552). -/
def sleepTarget (v : Word) : Nat := bits v 67 64
def sleepUnit (v : Word) : Nat := bits v 63 48

/-- An entry in progress stands at an abort point that it may pass, and no wake cause has arrived (R531). -/
def entryAt (s : State) (e : SleepEntry) (point : Nat) : Bool :=
  s.sleep.entry == some e && e.point == point && decide (e.due ≤ s.cyc) && !e.woken

/-- SLEEP_RESULT of a state (R550). -/
def ResultIs (t : State) (result target unit : Nat) : Prop :=
  t.sleep.result = result ∧ t.sleep.target = target ∧ t.sleep.unit = unit

/-- The wake of a TARGET and SELECTOR whose time has passed, with the wakes before and after it (R533). -/
def wakeDue (s : State) (target k result : Nat) (rest : List WakeJob) : Prop :=
  ∃ w ∈ s.sleep.wakes, w.result = result ∧
    takeFirst (fun x : WakeJob => x.target == target && x.selector == k && decide (x.due ≤ s.cyc)) s.sleep.wakes = some (w, rest)

/-! Housekeeping and shutdown. -/

/-- The six sensors of a die after a round (R538, R541): each reading is the mean of the two of its round. -/
def hkSensors (s : State) (d : Nat) (readings : List Int) : List Sensor :=
  (List.range 6).map (fun n => ((s.die d).sensors.getD n {}).round (s.rdN Obj.RISE_LIMIT 0)
    (readings.getD n 0 + readings.getD (52 + n) 0))

/-- The highest reading of the six sensors, in 0.005 °C, a broken one reading 150 °C (R538). -/
def dieTemp (ys : List Sensor) : Int := (ys.map (fun y : Sensor => if y.broken then 30000 else y.hist.headD 0)).foldl max (-100000)

/-- Every domain of every die but the always-on domains is off (R530). -/
def AllOff (t : State) : Prop := ∀ d : Nat, d < t.member.dies → ∀ n : Nat, n < 82 → n ≠ 0 → t.domSt d n = .off

/-- A cause of an orderly shutdown waits for its signal, 64 cycles from now, and nothing else has changed (R544). -/
def CauseFound (s t : State) (cause die window : Nat) : Prop :=
  t = { s with shut := { s.shut with waiting := s.shut.waiting ++ [⟨s.cyc + 64, cause, die, window, .shutdown⟩] } }

/-- An immediate shutdown (R546, R547): the domains are off, no session is open, the cause is held, the store is as before,
and device time runs on. -/
def Immediate (s t : State) (cause die : Nat) : Prop :=
  AllOff t ∧ (∀ n : Nat, (t.session n).live = false) ∧ t.shut.st = .shutdown ∧ t.shut.held = some (cause, die) ∧
  (s.shut.st = .running → t.shut.cause = cause ∧ t.shut.die = die) ∧
  (s.shut.st = .window → t.shut.cause = s.shut.cause ∧ t.shut.die = s.shut.die) ∧ t.nv = s.nv ∧ t.clock = s.clock

/-- The device has left shutdown (R548): its state is RUNNING, a wake of die 0 is under way, and one of every other die in
S3; the store is as before. -/
def Resumed (s t : State) : Prop :=
  t.shut = {} ∧ (∃ w ∈ t.sleep.wakes, w.target = 0 ∧ w.selector = 0) ∧
  (∀ d : Nat, d < s.member.dies → (s.die d).s3 = true → ∃ w ∈ t.sleep.wakes, w.target = 0 ∧ w.selector = sel d 0) ∧
  t.nv = s.nv ∧ t.clock = s.clock

end Sys2Proof.Machine
end

