-- ==== Sys2Proof/Certificates/Slice0/Obligations.lean ====
section
/-!
DEFINITION. The statements for the provers.
-/

open Sys2Proof Sys2Proof.Machine

/-- The model's own queue (log 14): a step takes the command at the front and runs it with the rest of the queue. -/
def Obligations.StepRunsTheFrontCommand : Prop :=
  ∀ (c : Instr) (rest : List Instr) (s : State),
    step { s with pending := c :: rest } = exec c { s with pending := rest }

/-- R44, R63, R505, R581: the values that the spec gives for reset. The instant at which the machine of State.reset
stands, before power-up, is the model's choice (log 9). -/
def Obligations.ResetValues : Prop :=
  State.reset.pending = [] ∧ State.reset.landing.queue = [] ∧ State.reset.clock.now = 0 ∧
  State.reset.clock.counting = false ∧
  (∀ cls k : Nat, State.reset.appliedEpoch cls k = 0) ∧ (∀ k : Nat, (State.reset.epochRec k).last = 0) ∧
  (∀ n : Nat, (State.reset.session n).live = false) ∧
  (∀ id k : Nat, State.reset.rd id k = objDefault id k) ∧
  (∀ id k w : Nat, State.reset.dw id k w = domDefault id k w)

/-- The reset state meets the two invariants of Safety.lean, Canonical (the model's data form) and QueueBounded
(R474). -/
def Obligations.InvariantsAtReset : Prop :=
  Canonical State.reset ∧ QueueBounded State.reset

/-- R44, its first sentence. -/
def Obligations.SerialOrderOfEpochs : Prop :=
  ∀ a n : Epoch,
    epochAtLeast a n = decide (((a.toNat : Int) - n.toNat) % 65536 < 32768) ∧
    epochBeyond a n = (epochAtLeast a n && decide (a ≠ n))

/-- R45, R46, R47, R54 for EPOCH_REQUEST. -/
def Obligations.EpochRequestIssues : Prop :=
  (∀ (v : Word) (s : State),
    bits v 71 70 = 0 → bits v 43 32 = 0 → epochBad s.member (epochReqOf v) = false → (epochReqOf v).cls < 3 →
    epochBeyond (epochReqOf v).epoch (s.epochRec (epochReqOf v).cls).last = true →
    ∃ t, exec (.epochRequest v) s = .next t ∧
      (t.epochRec (epochReqOf v).cls).last = (epochReqOf v).epoch ∧
      (t.epochRec (epochReqOf v).cls).reqs.head? = some (s.cyc + 2, epochReqOf v) ∧
      (∀ k : Nat, k ≠ (epochReqOf v).cls → t.epochRec k = s.epochRec k) ∧
      (∃ sent : List Msg, t.flight = s.flight ++ sent ∧
        (∀ m ∈ sent, m.src = 0 ∧ m.dst ≠ 0 ∧ m.dst < s.member.dies ∧ m.body = .epoch (epochReqOf v)) ∧
        (∀ d : Nat, 0 < d → d < s.member.dies → s.routeUp 0 d = true →
          ∃ m ∈ sent, m.dst = d ∧ m.due = s.cyc ∧ m.left = route s.member.dies 0 d)) ∧
      (∀ id k : Nat, ¬ (id = Obj.DECISION_DROPPED ∧ k = sel 0 0) → t.rd id k = s.rd id k) ∧
      t = { s with epochs := t.epochs, flight := t.flight, regs := t.regs }) ∧
  (∀ (v : Word) (s : State),
    bits v 71 70 = 0 → bits v 43 32 = 0 → epochBad s.member (epochReqOf v) = false →
    (epochReqOf v).cls = 3 ∨ epochBeyond (epochReqOf v).epoch (s.epochRec (epochReqOf v).cls).last = false →
    exec (.epochRequest v) s = .next (s.inc Obj.STALE_REQUESTS 0)) ∧
  (∀ (v : Word) (s : State),
    bits v 71 70 ≠ 0 ∨ bits v 43 32 ≠ 0 → exec (.epochRequest v) s = .fault .hostError)

/-- R46, R47 for EPOCH_REQUEST_ARRIVE. R48, R49, R51, R121, R213, R428, R536 for EPOCH_APPLY. -/
def Obligations.EpochsArriveAndApply : Prop :=
  (∀ (d : Nat) (s s1 : State) (m : Msg) (r : EpochReq),
    s.arrived d MsgBody.isEpoch = some (m, s1) → m.body = .epoch r →
    epochBeyond r.epoch (s.epochRec (d * 4 + r.cls)).last = true →
    ∃ t, exec (.epochRequestArrive d) s = .next t ∧
      (t.epochRec (d * 4 + r.cls)).last = r.epoch ∧
      (t.epochRec (d * 4 + r.cls)).reqs.head? = some (s.cyc + 2, r) ∧
      (∀ k : Nat, k ≠ d * 4 + r.cls → t.epochRec k = s.epochRec k) ∧
      t = { s with flight := s1.flight, epochs := t.epochs }) ∧
  (∀ (d : Nat) (s s1 : State) (m : Msg) (r : EpochReq),
    s.arrived d MsgBody.isEpoch = some (m, s1) → m.body = .epoch r →
    epochBeyond r.epoch (s.epochRec (d * 4 + r.cls)).last = false →
    exec (.epochRequestArrive d) s = .next ({ s with flight := s1.flight }.inc Obj.STALE_REQUESTS 0)) ∧
  (∀ (cls entry : Nat) (r : EpochReq) (s : State),
    cls < 4 → entryDie cls entry < s.member.dies → s.unitRetired cls entry = false →
    s.pendingEpoch (entryDie cls entry) cls entry = some r →
    s.atBoundary cls (entryDie cls entry) (entryUnit cls entry) = true →
    s.railAllows cls (entryDie cls entry) (entryUnit cls entry) r = true →
    ∃ t, exec (.epochApply cls entry) s = .next t ∧
      t.appliedEpoch cls entry = r.epoch ∧
      (t.appl (applKey cls entry)).setting =
        (if r.selects (entryDie cls entry) then r.setting else (s.appl (applKey cls entry)).setting) ∧
      (∀ k : Nat, k ≠ applKey cls entry → t.appl k = s.appl k) ∧
      (∀ k : Nat, t.gen k =
        if cls = 0 ∧ r.selects (entryDie cls entry) = true ∧ k = sel (entryDie cls entry) (entryUnit cls entry) ∧
          s.rdN Obj.GEN_BANK_FOLLOW k % 2 = 1 then { s.gen k with bank := r.setting.setWidth 20 } else s.gen k) ∧
      (∀ k : Nat, t.demod k =
        if cls = 1 ∧ r.selects (entryDie cls entry) = true ∧ k = sel (entryDie cls entry) (entryUnit cls entry) ∧
          bit (s.rd Obj.DEMOD_CONTROL k) 1 = true then { s.demod k with kset := r.setting.toNat % 2 } else s.demod
            k) ∧
      (∀ k : Nat, t.lane k =
        if cls = 3 ∧ r.selects (entryDie cls entry) = true ∧ 16 ≤ entryUnit cls entry ∧ entryUnit cls entry < 20 ∧
          k = sel (entryDie cls entry) (entryUnit cls entry - 16) then
            { s.lane k with ctle := s.preset k (r.setting.toNat % 8) } else s.lane k) ∧
      (cls < 2 → t.dsps = s.dsps ∧ t.ports = s.ports) ∧
      (∀ k : Nat, (t.dsp k).run = (s.dsp k).run ∧ (t.dsp k).num = (s.dsp k).num ∧ (t.dsp k).flow = (s.dsp k).flow ∧
        (t.dsp k).regs = (s.dsp k).regs ∧ (t.dsp k).pend = (s.dsp k).pend ∧
        (t.dsp k).outs.map Prod.snd = (s.dsp k).outs.map Prod.snd) ∧
      t = { s with applied := t.applied, gens := t.gens, demods := t.demods, lanes := t.lanes, dies := t.dies,
                   chans := t.chans, regs := t.regs, dsps := t.dsps, ports := t.ports })

/-- R49: "so a unit's applied epoch never goes back". -/
def Obligations.AppliedEpochNeverGoesBack : Prop :=
  ∀ (cls entry cls' entry' : Nat) (s t : State),
    exec (.epochApply cls entry) s = .next t →
    epochAtLeast (t.appliedEpoch cls' entry') (s.appliedEpoch cls' entry') = true

/-- R29, R30, R32, R70, R109 for REMOTE_COMMAND_ARRIVE and REMOTE_REFUSAL_RETURN. -/
def Obligations.RemoteCommandsArrive : Prop :=
  (∀ (d g : Nat) (c : GenCmd) (s s1 : State) (m : Msg),
    s.arrived d MsgBody.isRemote = some (m, s1) → m.body = .remote g c → m.doomed = false →
    s.domOn d (domOut (g / 8)) = true → (s.gen (sel d g)).queue.length < 32 → s.clock.stepCyc ≠ some s.cyc →
    s.now + 34 ≤ c.stamp.toNat →
    ∃ t, exec (.remoteCommandArrive d) s = .next t ∧
      t.gen (sel d g) =
        { s.gen (sel d g) with queue := insCmd { c with at_ := s.cyc } (s.gen (sel d g)).queue } ∧
      (∀ k : Nat, k ≠ sel d g → t.gen k = s.gen k) ∧
      t.seq (sel c.die c.seq) = { s.seq (sel c.die c.seq) with qfull := false } ∧
      (∀ k : Nat, k ≠ sel c.die c.seq → t.seq k = s.seq k) ∧
      t = { s with flight := s1.flight, gens := t.gens, seqs := t.seqs }) ∧
  (∀ (d g : Nat) (c : GenCmd) (s s1 : State) (m : Msg),
    s.arrived d MsgBody.isRemote = some (m, s1) → m.body = .remote g c → m.doomed = true →
    exec (.remoteCommandArrive d) s = .next { s with flight := s1.flight }) ∧
  (∀ (d q e g : Nat) (s s1 : State) (m : Msg),
    s.arrived d (MsgBody.isFor q) = some (m, s1) → m.body = .refusal q e g →
    ∃ t, exec (.remoteRefusalReturn d q) s = .next t ∧
      t.seq (sel d q) = { s.seq (sel d q) with qfull := true, qfree := false, refusedBy := some (e, g) } ∧
      (∀ k : Nat, k ≠ sel d q → t.seq k = s.seq k) ∧ t = { s with flight := s1.flight, seqs := t.seqs }) ∧
  (∀ (d q e g : Nat) (s s1 : State) (m : Msg),
    s.arrived d (MsgBody.isFor q) = some (m, s1) → m.body = .freed q e g →
    (s.seq (sel d q)).refusedBy = some (e, g) →
    ∃ t, exec (.remoteRefusalReturn d q) s = .next t ∧
      t.seq (sel d q) = { s.seq (sel d q) with qfree := true } ∧
      (∀ k : Nat, k ≠ sel d q → t.seq k = s.seq k) ∧ t = { s with flight := s1.flight, seqs := t.seqs })

/-- R127 for GEN_FREQ_WRITE and GEN_PHASE_OFFSET_WRITE; the host error is R18's. R103 for PULSE_END. R29, R30, R31,
R107 for COMMAND_ISSUE. -/
def Obligations.GeneratorCommands : Prop :=
  (∀ (d g : Nat) (v : BitVec 64) (s : State), bits v 63 48 = 0 →
    exec (.genFreqWrite d g v) s = .next (s.setGen (sel d g) { s.gen (sel d g) with freq := v.setWidth 48 })) ∧
  (∀ (d g : Nat) (v : BitVec 64) (s : State), bits v 63 48 ≠ 0 →
    exec (.genFreqWrite d g v) s = .fault .hostError) ∧
  (∀ (d g : Nat) (v : BitVec 32) (s : State),
    exec (.genPhaseOffsetWrite d g v) s = .next (s.setGen (sel d g) { s.gen (sel d g) with pofs := v })) ∧
  (∀ (d g : Nat) (p : Pulse) (s : State),
    (s.gen (sel d g)).pulse = some p → p.start + p.len ≤ s.cyc → p.hold = false →
    exec (.pulseEnd d g) s = .next (s.setGen (sel d g) { s.gen (sel d g) with pulse := none })) ∧
  (∀ (d g : Nat) (p : Pulse) (s : State),
    (s.gen (sel d g)).pulse = some p → p.start + p.len ≤ s.cyc → p.hold = true →
    exec (.pulseEnd d g) s = .next s) ∧
  (∀ (d g : Nat) (fixed bad : List Nat) (c : GenCmd) (cs : List GenCmd) (s : State),
    (s.gen (sel d g)).queue = c :: cs → c.stamp.toNat ≤ s.now + 34 →
    ∃ t, exec (.commandIssue d g fixed bad) s = .next t ∧
      (t.gen (sel d g)).queue = (c :: cs).drop (headGroup (c :: cs)).length ∧
      (t.gen (sel d g)).pipe = (s.gen (sel d g)).pipe ++
        groupEffects (s.cyc + (c.stamp.toNat - s.now)) fixed bad (headGroup (c :: cs)) ∧
      (∀ k : Nat, k ≠ sel d g → t.gen k = s.gen k) ∧
      (1 < (headGroup (c :: cs)).length → bit (t.rd Obj.GEN_STATUS (sel d g)) 2 = true) ∧
      (∀ a ∈ (headGroup (c :: cs)).drop 1, bit (t.rd Obj.SEQ_STATUS (sel a.die a.seq)) 12 = true) ∧
      ((headGroup (c :: cs)).length = 1 →
        (s.gen (sel d g)).pipe.any (fun f => f.due == s.cyc + (c.stamp.toNat - s.now)) = false →
        ∀ id k : Nat, id ≠ Obj.DECISION_DROPPED → t.rd id k = s.rd id k) ∧
      (∀ id k : Nat, ¬ (id = Obj.GEN_STATUS ∧ k = sel d g) → id ≠ Obj.SEQ_STATUS → id ≠ Obj.DECISION_DROPPED →
        t.rd id k = s.rd id k) ∧
      ((s.gen (sel d g)).owed = [] → t.seqs = s.seqs ∧ t.flight = s.flight) ∧
      t = { s with gens := t.gens, seqs := t.seqs, regs := t.regs, flight := t.flight }) ∧
  (∀ (d g : Nat) (fixed bad : List Nat) (c : GenCmd) (cs : List GenCmd) (s : State),
    (s.gen (sel d g)).queue = c :: cs → s.now + 34 < c.stamp.toNat →
    exec (.commandIssue d g fixed bad) s = .next s)

/-- R113 for PD_COMMIT and PD_COMMIT_APPLY; the host error is the host-error table of chapter 3. R114, R118 for
OUTPUT_MODE_APPLY and OUTPUT_SETTLING_END, R76 and R79 for DLY_APPLY. -/
def Obligations.PredistortionAndOutputModes : Prop :=
  (∀ (d o : Nat) (b : Bool) (s : State),
    exec (.pdCommit d o b) s =
      .next ((s.wrN Obj.PD_COMMIT (sel d o) (b2n b)).setOut (sel d o) { s.out (sel d o) with commit := b })) ∧
  (∀ (d o : Nat) (s : State),
    (s.out (sel d o)).commit = true → s.outIdle d o = true →
    (∀ i < 4, iirBad (s.dw (Obj.IIR_SHADOW_0 + i) (sel d o) 1) = false) →
    ∃ t, exec (.pdCommitApply d o) s = .next t ∧
      (∀ i w : Nat, i < 4 → w < 2 →
        t.dw (Obj.IIR_ACTIVE_0 + i) (sel d o) w = s.dw (Obj.IIR_SHADOW_0 + i) (sel d o) w) ∧
      (∀ w : Nat, w < 16 → t.dw Obj.FIR_ACTIVE (sel d o) w = s.dw Obj.FIR_SHADOW (sel d o) w) ∧
      (∀ id k w : Nat, ¬ (k = sel d o ∧ ((id = Obj.FIR_ACTIVE ∧ w < 16) ∨
        (Obj.IIR_ACTIVE_0 ≤ id ∧ id < Obj.IIR_ACTIVE_0 + 4 ∧ w < 2))) → t.dw id k w = s.dw id k w) ∧
      (∀ i : Nat, i < 4 → (t.out (sel d o)).iirI.getD i ({} : IirState) =
        if bit (s.dw (Obj.IIR_SHADOW_0 + i) (sel d o) 0) 24 then ({} : IirState) else (s.out (sel d o)).iirI.getD i
          {}) ∧
      (∀ i : Nat, i < 4 → (t.out (sel d o)).iirQ.getD i ({} : IirState) =
        if bit (s.dw (Obj.IIR_SHADOW_0 + i) (sel d o) 0) 24 then ({} : IirState) else (s.out (sel d o)).iirQ.getD i
          {}) ∧
      t.out (sel d o) = { s.out (sel d o) with
        commit := false, iirI := (t.out (sel d o)).iirI, iirQ := (t.out (sel d o)).iirQ } ∧
      (∀ k : Nat, k ≠ sel d o → t.out k = s.out k) ∧
      t = { s with doms := t.doms, outs := t.outs }) ∧
  (∀ (d o i : Nat) (s : State),
    (s.out (sel d o)).commit = true → s.outIdle d o = true → i < 4 →
    iirBad (s.dw (Obj.IIR_SHADOW_0 + i) (sel d o) 1) = true →
    exec (.pdCommitApply d o) s = .fault .hostError) ∧
  (∀ (d o : Nat) (s : State),
    s.modePending (sel d o) = true → s.outIdle d o = true → s.domKept d (domOut o) = true →
    ∃ t, exec (.outputModeApply d o) s = .next t ∧
      (t.out (sel d o)).mode = s.rdN Obj.OUT_MODE (sel d o) ∧
      (t.out (sel d o)).current = s.rdN Obj.FS_CURRENT (sel d o) ∧
      (t.out (sel d o)).headroom = s.rdN Obj.HEADROOM (sel d o) ∧
      (t.out (sel d o)).firLong =
        (if s.outIdle d (o + 1) then s.rdN Obj.FIR_LONG (sel d o) != 0 else (s.out (sel d o)).firLong) ∧
      ((t.out (sel d o)).mode ≠ (s.out (sel d o)).mode ∨ (t.out (sel d o)).current ≠ (s.out (sel d o)).current →
        (t.out (sel d o)).settling = true ∧ (t.out (sel d o)).settle = s.cyc + 25000) ∧
      ((t.out (sel d o)).mode = (s.out (sel d o)).mode ∧ (t.out (sel d o)).current = (s.out (sel d o)).current →
        (t.out (sel d o)).settling = (s.out (sel d o)).settling ∧
          (t.out (sel d o)).settle = (s.out (sel d o)).settle) ∧
      (t.out (sel d o)).written = ((t.out (sel d o)).firLong != (s.rdN Obj.FIR_LONG (sel d o) != 0)) ∧
      t.out (sel d o) = { s.out (sel d o) with
        mode := (t.out (sel d o)).mode, current := (t.out (sel d o)).current, headroom := (t.out (sel d o)).headroom,
        firLong := (t.out (sel d o)).firLong, settle := (t.out (sel d o)).settle,
        settling := (t.out (sel d o)).settling, written := (t.out (sel d o)).written } ∧
      (∀ k : Nat, k ≠ sel d o → t.out k = s.out k) ∧ t = { s with outs := t.outs }) ∧
  (∀ (d o : Nat) (s : State),
    (s.out (sel d o)).settling = true → (s.out (sel d o)).settle ≤ s.cyc →
    exec (.outputSettlingEnd d o) s = .next (s.setOut (sel d o) { s.out (sel d o) with settling := false })) ∧
  (∀ (d o : Nat) (s : State),
    s.outIdle d o = true →
    exec (.dlyApply d o) s = .next (s.setOut (sel d o) { s.out (sel d o) with dly := s.dlyTarget d o }))

/-- R59, R572 for PLL_LOCK; R84 for REFCLK_LOSS and REFCLK_RETURN. R69, R70 and R336 for TIME_SET. R82, R83, R353 for
SYNC_IN_CAPTURE, SYNC_LOAD_APPLY, SYNC_OUT_PULSE and SYNC_IN_RISE. -/
def Obligations.ClocksTimeAndSyncPins : Prop :=
  (∀ (d : Nat) (s : State),
    (s.die d).booted = true → s.clock.refclk = true → (∀ c ∈ s.clock.refBack, c + 12500000 ≤ s.cyc) →
    (s.die d).plls = 0 →
    ∃ t, exec (.pllLock d) s = .next t ∧
      t.rd Obj.PLL_LOCK (sel d 0) = (if d < 2 then 7 else 3) ∧ (t.dom (d * 128 + 1)).st = PState.s0 ∧
      t.clock = { s.clock with
        lockCyc := if s.dieList.any (fun e => (s.die e).trained) then s.clock.lockCyc else s.cyc,
        holdover := s.clock.holdover && s.dieList.any (fun e => (s.die e).trained) } ∧
      t.die d = { s.die d with plls := if d < 2 then 7 else 3 } ∧ (∀ k : Nat, k ≠ d → t.die k = s.die k) ∧
      (∀ k : Nat, k ≠ d * 128 + 1 → t.dom k = s.dom k) ∧
      (∀ id k : Nat, ¬ (id = Obj.PLL_LOCK ∧ k = sel d 0) → t.rd id k = s.rd id k) ∧
      t = { s with dies := t.dies, regs := t.regs, power := t.power, clock := t.clock }) ∧
  (∀ (d : Nat) (s : State),
    ∃ t, exec (.refclkLoss d) s = .next t ∧
      t.clock = { s.clock with refclk := false, refBack := none, holdover := true, aonOnRef := false } ∧
      t.rd Obj.TIME_STATUS 0 = s.rd Obj.TIME_STATUS 0 ||| 64 ∧
      (∀ id k : Nat, ¬ (id = Obj.TIME_STATUS ∧ k = 0) → t.rd id k = s.rd id k) ∧
      t.tattoo = { s.tattoo with align := if s.tattoo.align = Align.aligned then Align.unverified else s.tattoo.align }
        ∧
      (s.shut.st = .running ∨ s.shut.st = .window →
        t.shut = { s.shut with waiting := s.shut.waiting ++ [⟨s.cyc + 64, 4, d, 62500000, .shutdown⟩] }) ∧
      (s.shut.st = .shutdown ∨ s.shut.st = .ready → t.shut = s.shut) ∧
      t = { s with clock := t.clock, regs := t.regs, tattoo := t.tattoo, shut := t.shut }) ∧
  (∀ s : State,
    exec .refclkReturn s =
      .next { s with clock := { s.clock with refclk := true, refBack := some s.cyc, aonOnRef := true } }) ∧
  (∀ (v : Time) (s : State),
    s.rdN Obj.TIME_SOURCE 0 = 0 ∨ s.isMaster = true → s.anyRunning = false →
    exec (.timeSet v) s =
      .next ((s.skipped s.now v.toNat).foldl (fun u p => u.performSkipped p.2) (s.setTime v .host))) ∧
  (∀ (a b : Nat) (s : State),
    List.Pairwise (fun p q => p.1 ≤ q.1) (s.skipped a b) ∧ (∀ p ∈ s.skipped a b, a < p.1 ∧ p.1 < b) ∧
    (∀ f ∈ s.fires, a < f.time.toNat → f.time.toNat < b → (f.time.toNat, Scheduled.fire f) ∈ s.skipped a b) ∧
    (∀ w ∈ s.sleep.timers, a < w.time → w.time < b → (w.time, Scheduled.wake w) ∈ s.skipped a b) ∧
    (∀ c ∈ s.clock.syncOutNext, s.rdN Obj.SYNC_OUT_ENABLE 0 = 1 → a < c.toNat → c.toNat < b →
      (c.toNat, Scheduled.pulse) ∈ s.skipped a b)) ∧
  (∀ (v : Time) (s : State),
    s.rdN Obj.TIME_SOURCE 0 = 0 ∨ s.isMaster = true → s.anyRunning = false → s.rdN Obj.TIME_STEPS 0 + 1 < 2 ^ 32 →
    s.skipped s.now v.toNat = [] →
    ∃ t, exec (.timeSet v) s = .next t ∧
      t.clock = { s.clock with now := v, lastStep := .host, stepCyc := some s.cyc, stepFrom := s.clock.now } ∧
      (∀ k : Nat, (t.gen k).queue = []) ∧ (∀ m ∈ t.flight, m.body.isRemote = true → m.doomed = true) ∧
      t.cal.anchor.valid = false ∧ (∀ k : Nat, (t.maj k).fires = []) ∧
      t.rdN Obj.TIME_STEPS 0 = s.rdN Obj.TIME_STEPS 0 + 1 ∧
      t = { s with clock := t.clock, cal := t.cal, links := t.links, gens := t.gens, seqs := t.seqs,
                   flight := t.flight, majs := t.majs, regs := t.regs }) ∧
  (∀ (v : Time) (s : State),
    (s.rdN Obj.TIME_SOURCE 0 ≠ 0 ∧ s.isMaster = false) ∨ s.anyRunning = true →
    exec (.timeSet v) s = .next (s.setBit Obj.TIME_STATUS 0 5)) ∧
  (∀ s : State,
    s.rdN Obj.TIME_SOURCE 0 = 2 → s.rdN Obj.SYNC_ARM 0 = 1 → s.clock.syncLoadAt = none → s.refEdge = true →
    exec .syncInCapture s = .next { s with clock := { s.clock with syncLoadAt := some (s.cyc + 50) } }) ∧
  (∀ (c : Nat) (s : State),
    s.clock.syncLoadAt = some c → c ≤ s.cyc → s.anyRunning = false →
    s.skipped s.now (bits (s.rd Obj.SYNC_LOAD 0) 63 0) = [] →
    ∃ t, exec .syncLoadApply s = .next t ∧
      t.clock = { s.clock with now := (s.rd Obj.SYNC_LOAD 0).setWidth 64, lastStep := .synced, stepCyc := some s.cyc,
                               stepFrom := s.clock.now, syncLoadAt := none } ∧
      t.rd Obj.SYNC_ARM 0 = 0 ∧
      t = { s with clock := t.clock, cal := t.cal, links := t.links, gens := t.gens, seqs := t.seqs,
                   flight := t.flight, majs := t.majs, regs := t.regs }) ∧
  (∀ (c : Nat) (s : State),
    s.clock.syncLoadAt = some c → c ≤ s.cyc → s.anyRunning = true →
    exec .syncLoadApply s =
      .next ({ s with clock := { s.clock with syncLoadAt := none } }.setBit Obj.TIME_STATUS 0 5)) ∧
  (∀ (a : Time) (s : State),
    s.clock.syncOutNext = some a → s.rdN Obj.SYNC_OUT_ENABLE 0 = 1 → a.toNat ≤ s.now → s.refEdge = true →
    exec .syncOutPulse s = .next { s with clock := { s.clock with
      syncOutUntil := s.cyc + 5,
      syncOutNext := if s.rd Obj.SYNC_OUT_PERIOD 0 = 0 then none
        else some (a + (s.rd Obj.SYNC_OUT_PERIOD 0).setWidth 64) } }) ∧
  (∀ s : State,
    s.refEdge = true →
    exec .syncInRise s = .next { s with clock := { s.clock with syncInAt := some (s.cyc + 1) } })

/-- R72, R73, R74, R81 for TATTOO_MARKER_SEND and MARKER_RECEIVE. R73, R75, R76, R80 for MARKER_AVERAGE and
MARKER_LOSS. The window of 16 marker intervals within which a master counts as heard is the model's choice (log 58),
and so are the averages' halves (log 11). -/
def Obligations.Tattoo : Prop :=
  (∀ s : State,
    (∀ c ∈ s.tattoo.sentAt, c + 65536 ≤ s.cyc) → s.isMaster = true →
    ∃ t, exec .tattooMarkerSend s = .next t ∧
      (∀ d : Nat, d < s.member.dies → s.portUp d = true →
        (t.link d).markerDue = true ∧
        (t.link d).sent = some (Marker.mk (s.rdN Obj.CROSSING_DEVICE 0) 0 (1024 * s.now + 64 * s.clock.phase.toNat)
          (s.link d).trip)) ∧
      (∀ d : Nat, s.portUp d = false → t.link d = s.link d) ∧
      t.tattoo = { s.tattoo with sentAt := some s.cyc } ∧ t = { s with links := t.links, tattoo := t.tattoo }) ∧
  (∀ (m h p : Nat) (s : State),
    (∀ c ∈ s.tattoo.sentAt, c + 65536 ≤ s.cyc) → s.isFollower = true → s.tattoo.align = Align.aligned →
    s.tattoo.follow = some (m, h, p) →
    ∃ t, exec .tattooMarkerSend s = .next t ∧
      (∀ d : Nat, d < s.member.dies → s.portUp d = true → d ≠ p →
        (t.link d).markerDue = true ∧
        (t.link d).sent = some (Marker.mk m h (1024 * s.now + 64 * s.clock.phase.toNat) (s.link d).trip)) ∧
      t.link p = s.link p ∧ (∀ d : Nat, s.portUp d = false → t.link d = s.link d) ∧
      t.tattoo = { s.tattoo with sentAt := some s.cyc } ∧ t = { s with links := t.links, tattoo := t.tattoo }) ∧
  (∀ (d arrived : Nat) (m : Marker) (s : State),
    ∃ t, exec (.markerReceive d m arrived) s = .next t ∧
      (t.link d).echoDue = some (m.sent, s.cyc) ∧ (t.link d).heard.head? = some (m.master, m.hops, s.cyc) ∧
      (∀ h ∈ (s.link d).heard, h.1 ≠ m.master → h ∈ (t.link d).heard) ∧
      (∀ trip ∈ m.trip, (s.link d).avgOf = some m.master → (s.link d).count < 256 →
        (∀ h ∈ (s.link d).heard, s.cyc < h.2.2 + 1048576 → m.master ≤ h.1) →
        (t.link d).count = (s.link d).count + 1 ∧ (t.link d).sumTrip = (s.link d).sumTrip + trip ∧
        (t.link d).sumOff2 = (s.link d).sumOff2 + (2 * (m.sent : Int) + trip - 2 * arrived)) ∧
      (s.isFollower = true → d < s.member.dies → (∀ e : Nat, e < s.member.dies → (s.link e).heard = []) →
        t.tattoo.follow = some (m.master, m.hops + 1, d) ∧ t.tattoo.heardAt = s.cyc) ∧
      (s.isMaster = true → m.master < s.rdN Obj.CROSSING_DEVICE 0 →
        t.tattoo.demoted = true ∧ bit (t.rd Obj.TIME_STATUS 0) 3 = true) ∧
      (∀ e : Nat, e ≠ d → t.link e = s.link e) ∧
      t = { s with links := t.links, tattoo := t.tattoo, regs := t.regs }) ∧
  (∀ (d : Nat) (s : State),
    256 ≤ (s.link d).count →
    ∃ t, exec (.markerAverage d) s = .next t ∧
      t.rd Obj.LINK_DELAY (sel d 0) = word (mean ((s.link d).sumTrip : Int) 512).toNat ∧
      t.rd Obj.LINK_OFFSET (sel d 0) = wordOfInt (mean (s.link d).sumOff2 512) ∧ (t.link d).count = 0 ∧
      (∀ e : Nat, e ≠ d → s.isFollower = false → t.link e = s.link e) ∧
      (s.isFollower = false ∨ s.tattoo.follow.map (fun x : Nat × Nat × Nat => x.2.2) ≠ some d →
        t = { s with links := t.links, regs := t.regs })) ∧
  (∀ (d m h : Nat) (s : State),
    256 ≤ (s.link d).count → s.isFollower = true → s.tattoo.follow = some (m, h, d) → s.tattoo.once = false →
    s.clock.holdover = false → s.anyRunning = false →
    s.skipped s.now (BitVec.ofInt 64 ((s.now : Int) + (alignStep (mean (s.link d).sumOff2 512)).1)).toNat = [] →
    ∃ t, exec (.markerAverage d) s = .next t ∧
      t.clock.now = BitVec.ofInt 64 ((s.now : Int) + (alignStep (mean (s.link d).sumOff2 512)).1) ∧
      t.tattoo.dly = (alignStep (mean (s.link d).sumOff2 512)).2 ∧ t.tattoo.align = Align.aligned ∧
      t.tattoo.once = true ∧
      t = { s with links := t.links, regs := t.regs, tattoo := t.tattoo, clock := t.clock, cal := t.cal, gens := t.gens,
                   seqs := t.seqs, flight := t.flight, majs := t.majs }) ∧
  (∀ (d m h : Nat) (s : State),
    256 ≤ (s.link d).count → s.isFollower = true → s.tattoo.follow = some (m, h, d) → s.tattoo.once = true →
    s.tattoo.lost = false → s.tattoo.align = Align.aligned → s.clock.holdover = false →
    0 ≤ 1024 - mean (s.link d).sumOff2 512 → 1024 - mean (s.link d).sumOff2 512 ≤ 2047 →
    ∃ t, exec (.markerAverage d) s = .next t ∧
      ((t.tattoo.dly : Int) = s.tattoo.dly ∨ (t.tattoo.dly : Int) = s.tattoo.dly + 1 ∨ (t.tattoo.dly : Int) =
        s.tattoo.dly - 1) ∧
      ((s.tattoo.dly : Int) < 1024 - mean (s.link d).sumOff2 512 → t.tattoo.dly = s.tattoo.dly + 1) ∧
      (1024 - mean (s.link d).sumOff2 512 < (s.tattoo.dly : Int) → t.tattoo.dly = s.tattoo.dly - 1) ∧
      ((s.tattoo.dly : Int) = 1024 - mean (s.link d).sumOff2 512 → t.tattoo.dly = s.tattoo.dly) ∧
      t.tattoo = { s.tattoo with dly := t.tattoo.dly } ∧
      t = { s with links := t.links, regs := t.regs, tattoo := t.tattoo }) ∧
  (∀ s : State,
    s.isFollower = true → s.tattoo.lost = false → s.tattoo.follow.isSome = true →
    s.tattoo.heardAt + 1048576 ≤ s.cyc →
    ∃ t, exec .markerLoss s = .next t ∧
      bit (t.rd Obj.TIME_STATUS 0) 0 = true ∧ t.tattoo.lost = true ∧
      t.tattoo.align = (if s.tattoo.align = Align.aligned then Align.unverified else s.tattoo.align) ∧
      t.tattoo = { s.tattoo with lost := true, lossAt := s.cyc, align := t.tattoo.align } ∧
      (∀ k : Nat, (t.link k).count = 0) ∧ t = { s with links := t.links, tattoo := t.tattoo, regs := t.regs })

/-- R86, R92 for CAL_SET; R89, R93 for ANCHOR_REFRESH. What an increment leaves below 2^−64 s is carried (log 59).
R85, R87, R88 for the PTP commands. The mean's rounding and the servo's rate are free (log 11, log 1). -/
def Obligations.CalendarAndPtp : Prop :=
  (∀ (w0 w1 : Word) (s : State),
    bits w0 71 64 = 0 → bits w1 55 0 = 0 → s.rdN Obj.PTP_ENABLE 0 ≠ 1 →
    exec (.calSet w0 w1) s = .next { s with cal := { s.cal with
      st := .host, sec := bits w0 63 16, frac := (bits w0 15 0 * 2 ^ 16 + bits w1 71 56) * 2 ^ 32, below := 0,
      rate := 0, due := none } }) ∧
  (∀ (w0 w1 : Word) (s : State),
    bits w0 71 64 = 0 → bits w1 55 0 = 0 → s.rdN Obj.PTP_ENABLE 0 = 1 → exec (.calSet w0 w1) s = .next s) ∧
  (∀ (w0 w1 : Word) (s : State),
    bits w0 71 64 ≠ 0 ∨ bits w1 55 0 ≠ 0 → exec (.calSet w0 w1) s = .fault .hostError) ∧
  (∀ (b : Time) (f : Nat) (s : State),
    s.cal.due = some (b, f) → s.cal.st.anchored = true →
    ∃ t, exec .anchorRefresh s = .next t ∧
      t.cal = { s.cal with due := none, anchor := ⟨true, s.cal.sec, b, f, s.cal.rate⟩ } ∧
      t = { s with cal := t.cal, chans := t.chans, regs := t.regs }) ∧
  (∀ (a : Announce) (s : State),
    s.ptpHears a.port a.domain = true →
    ∃ t, exec (.ptpAnnounceReceive a) s = .next t ∧
      t.ptp.foreign.head? = some (a, s.cyc) ∧
      (∀ b ∈ t.ptp.master, (b = a ∨ ∃ c, (b, c) ∈ s.ptp.foreign) ∧ (b = a ∨ betterMaster b a = true) ∧
        t.rd Obj.UTC_OFFSET 0 = b.utcOffset.setWidth 72 ∧ t.rd Obj.PTP_MASTER_ID 0 = b.master.setWidth 72) ∧
      t.ptp.master.isSome = true ∧
      t.cal = { s.cal with st := t.cal.st } ∧
      (s.cal.st = CalState.locked → (∀ b ∈ t.ptp.master, ∃ c ∈ s.ptp.master, Announce.master c = Announce.master b) →
        t.cal.st = CalState.locked) ∧
      (s.cal.st ≠ CalState.locked ∨ (∀ b ∈ t.ptp.master, ∀ c ∈ s.ptp.master, Announce.master c ≠ Announce.master b) →
        t.cal.st = CalState.acquiring) ∧
      t = { s with ptp := t.ptp, cal := t.cal, regs := t.regs }) ∧
  (∀ (m : PtpSync) (s : State),
    s.fromMaster m.port m.domain m.master = true → m.twoStep = true →
    exec (.ptpSyncReceive m) s = .next
      { s with ptp := { s.ptp with sync := some (m.seq, s.calPs - Config.phyLatency) } }) ∧
  (∀ (m : PtpSync) (s : State),
    s.fromMaster m.port m.domain m.master = true → m.twoStep = false → s.ptp.havePath = true →
    ∃ t, exec (.ptpSyncReceive m) s = .next t ∧
      t.ptp.ms = some (s.calPs - Config.phyLatency - m.origin) ∧
      t.rd Obj.PTP_OFFSET 0 = wordOfInt (s.calPs - Config.phyLatency - m.origin - signed 64 (s.rdN Obj.PTP_MEAN_PATH
        0)) ∧
      (10 ^ 9 < (s.calPs - Config.phyLatency - m.origin - signed 64 (s.rdN Obj.PTP_MEAN_PATH 0)).natAbs →
        bit (t.rd Obj.TIME_STATUS 0) 1 = true ∧
        t.cal = (s.moveCal (-(s.calPs - Config.phyLatency - m.origin - signed 64 (s.rdN Obj.PTP_MEAN_PATH 0)))).cal) ∧
      t = { s with ptp := t.ptp, cal := t.cal, regs := t.regs, free := t.free }) ∧
  (∀ (m : PtpFollowUp) (t2 : Int) (s : State),
    s.ptp.sync = some (m.seq, t2) → s.fromMaster m.port m.domain m.master = true → s.ptp.havePath = true →
    ∃ t, exec (.ptpFollowUpReceive m) s = .next t ∧
      t.ptp.sync = none ∧ t.ptp.ms = some (t2 - m.origin) ∧
      t.rd Obj.PTP_OFFSET 0 = wordOfInt (t2 - m.origin - signed 64 (s.rdN Obj.PTP_MEAN_PATH 0)) ∧
      t = { s with ptp := t.ptp, cal := t.cal, regs := t.regs, free := t.free }) ∧
  (∀ s : State,
    s.rdN Obj.PTP_ENABLE 0 = 1 → s.ptp.master.isSome = true → s.ptp.ms.isSome = true →
    exec .ptpDelayReqSend s = .next { s with
      sent := s.sent ++ [.delayReq (s.rdN Obj.PTP_PORT 0) s.ptp.reqSeq],
      ptp := { s.ptp with
        req := some (s.ptp.reqSeq, s.calPs + Config.phyLatency), reqSeq := (s.ptp.reqSeq + 1) % 65536 } }) ∧
  (∀ (m : PtpDelayResp) (t3 ms : Int) (s : State),
    s.ptp.req = some (m.seq, t3) → s.ptp.ms = some ms → s.fromMaster m.port m.domain m.master = true →
    exec (.ptpDelayRespReceive m) s = .next ({ s with ptp := { s.ptp with req := none, havePath := true } }.wr
      Obj.PTP_MEAN_PATH 0 (wordOfInt (mean (ms + (m.received - t3)) 2)))) ∧
  (∀ (m : Announce) (h : Nat) (s : State),
    s.rdN Obj.PTP_ENABLE 0 = 1 → s.ptp.master = some m →
      s.ptp.foreign.find? (fun p => p.1.master == m.master) = some (m, h) →
    h + s.rdN Obj.PTP_ANNOUNCE_TIMEOUT 0 * m.interval ≤ s.cyc →
    exec .ptpAnnounceTimeout s = .next { s with
      cal := if s.cal.st = .locked then { s.cal with st := .holdover } else s.cal,
      ptp := { s.ptp with master := none, good := 0 } })

/-- R133, R146, R173: every action row runs a word from its beginning as it runs one whose counter operation is done;
with the statements about those, each of them completes from a due word. -/
def Obligations.WordsBeginWithTheirAction : Prop :=
  ∀ (d q : Nat) (e : MwEcc) (w : MW) (s : State),
    beginsWord s d q e w = true → w.cntOp = 0 →
    (w.act = 0x00 → exec (.seqNop d q e) s = exec (.seqNop d q e) (beginState s d q e w)) ∧
    (w.act = 0x01 → exec (.play d q e) s = exec (.play d q e) (beginState s d q e w)) ∧
    (w.act = 0x02 → exec (.freq d q e) s = exec (.freq d q e) (beginState s d q e w)) ∧
    (w.act = 0x03 → exec (.phase d q e) s = exec (.phase d q e) (beginState s d q e w)) ∧
    (w.act = 0x04 → exec (.mark d q e) s = exec (.mark d q e) (beginState s d q e w)) ∧
    (w.act = 0x05 → exec (.event d q e) s = exec (.event d q e) (beginState s d q e w)) ∧
    (w.act = 0x06 → exec (.seqPost d q e) s = exec (.seqPost d q e) (beginState s d q e w)) ∧
    (w.act = 0x07 → exec (.read d q e) s = exec (.read d q e) (beginState s d q e w)) ∧
    (w.act = 0x08 → w.op 67 66 = 0 → exec (.acqArm d q e) s = exec (.acqArm d q e) (beginState s d q e w)) ∧
    (w.act = 0x08 → w.op 67 66 = 1 → exec (.acqForce d q e) s = exec (.acqForce d q e) (beginState s d q e w)) ∧
    (w.act = 0x08 → w.op 67 66 = 2 → exec (.acqStop d q e) s = exec (.acqStop d q e) (beginState s d q e w)) ∧
    (w.act = 0x09 → w.op 41 40 = 0 →
      exec (.biasActEnqueue d q e) s = exec (.biasActEnqueue d q e) (beginState s d q e w)) ∧
    (w.act = 0x09 → w.op 41 40 = 1 →
      exec (.biasActStart d q e) s = exec (.biasActStart d q e) (beginState s d q e w)) ∧
    (w.act = 0x09 → w.op 41 40 = 2 → exec (.biasActStop d q e) s = exec (.biasActStop d q e) (beginState s d q e w)) ∧
    (w.act = 0x09 → w.op 41 40 = 3 →
      exec (.biasActFlush d q e) s = exec (.biasActFlush d q e) (beginState s d q e w)) ∧
    (w.act = 0x0A → exec (.msg d q e) s = exec (.msg d q e) (beginState s d q e w)) ∧
    (w.act = 0x0B → w.op 64 63 = 0 → exec (.remotePlay d q e) s = exec (.remotePlay d q e) (beginState s d q e w)) ∧
    (w.act = 0x0B → w.op 64 63 = 1 → exec (.remoteFreq d q e) s = exec (.remoteFreq d q e) (beginState s d q e w)) ∧
    (w.act = 0x0B → w.op 64 63 = 2 → exec (.remotePhase d q e) s = exec (.remotePhase d q e) (beginState s d q e w)) ∧
    (w.act = 0x0C → exec (.cntld d q e) s = exec (.cntld d q e) (beginState s d q e w)) ∧
    (w.act = 0x0D → exec (.epoch d q e) s = exec (.epoch d q e) (beginState s d q e w)) ∧
    (w.act = 0x0E → exec (.tret d q e) s = exec (.tret d q e) (beginState s d q e w))

/-- R29, R100, R109, R153, R154, R162 for PLAY, FREQ, PHASE and REMOTE. -/
def Obligations.GeneratorActions : Prop :=
  (∀ (d q : Nat) (e : MwEcc) (w : MW) (s : State),
    actsNow s d q w = true → w.act = 0x01 → w.op 2 0 = 0 → admits s d (w.op 67 61) (s.seq (sel d q)).t = true →
    ∃ t, exec (.play d q e) s = .next t ∧ CommandQueued s t d q (w.op 67 61)
      (.play (BitVec.ofNat 20 (w.op 60 41)) (if w.op 40 25 = 0 then 65536 else w.op 40 25) (BitVec.ofNat 16 (w.op 24
        9))
        (BitVec.ofNat 4 (w.op 8 5)) (bit w 4) (bit w 3))) ∧
  (∀ (d q : Nat) (e : MwEcc) (w : MW) (s : State),
    actsNow s d q w = true → w.act = 0x02 → w.op 12 0 = 0 → admits s d (w.op 67 61) (s.seq (sel d q)).t = true →
    ∃ t, exec (.freq d q e) s = .next t ∧
      CommandQueued s t d q (w.op 67 61) (.freq (BitVec.ofNat 48 (w.op 60 13)))) ∧
  (∀ (d q : Nat) (e : MwEcc) (w : MW) (s : State),
    actsNow s d q w = true → w.act = 0x03 → w.op 27 0 = 0 → admits s d (w.op 67 61) (s.seq (sel d q)).t = true →
    ∃ t, exec (.phase d q e) s = .next t ∧
      CommandQueued s t d q (w.op 67 61) (.phase (BitVec.ofNat 32 (w.op 60 29)) (bit w 28))) ∧
  (∀ (d q : Nat) (e : MwEcc) (w : MW) (s : State),
    actsNow s d q w = true → w.act = 0x0B → w.op 64 63 = 0 →
    ∃ t, exec (.remotePlay d q e) s = .next t ∧ RemoteEnds s t d q (w.op 67 65) (w.op 62 56)
      (.play (BitVec.ofNat 20 (4 * w.op 55 38)) (if w.op 37 22 = 0 then 65536 else w.op 37 22)
        (BitVec.ofNat 16 (w.op 21 6)) (BitVec.ofNat 4 (w.op 5 2)) (bit w 1) (bit w 0))) ∧
  (∀ (d q : Nat) (e : MwEcc) (w : MW) (s : State),
    actsNow s d q w = true → w.act = 0x0B → w.op 64 63 = 1 → w.op 7 0 = 0 →
    ∃ t, exec (.remoteFreq d q e) s = .next t ∧
      RemoteEnds s t d q (w.op 67 65) (w.op 62 56) (.freq (BitVec.ofNat 48 (w.op 55 8)))) ∧
  (∀ (d q : Nat) (e : MwEcc) (w : MW) (s : State),
    actsNow s d q w = true → w.act = 0x0B → w.op 64 63 = 2 → w.op 22 0 = 0 →
    ∃ t, exec (.remotePhase d q e) s = .next t ∧
      RemoteEnds s t d q (w.op 67 65) (w.op 62 56) (.phase (BitVec.ofNat 32 (w.op 55 24)) (bit w 23)))

/-- R135, R136 and R155 to R164 for the stamped actions. The order of entries of one cycle is the model's choice (log
56). -/
def Obligations.StampedActions : Prop :=
  (∀ (d q : Nat) (e : MwEcc) (w : MW) (s : State),
    actsNow s d q w = true → w.act = 0x04 → w.op 33 0 = 0 →
    exec (.mark d q e) s = .next (stampState s d q (.mark (BitVec.ofNat 32 (w.op 67 36)) (bit w 35) (bit w 34)))) ∧
  (∀ (d q : Nat) (e : MwEcc) (w : MW) (s : State),
    actsNow s d q w = true → w.act = 0x05 → w.op 65 0 = 0 →
    exec (.event d q e) s = .next (stampState s d q (.event (w.op 67 66)))) ∧
  (∀ (d q : Nat) (e : MwEcc) (w : MW) (s : State),
    actsNow s d q w = true → w.act = 0x06 → w.op 49 0 = 0 →
    exec (.seqPost d q e) s = .next (stampState s d q (.post (w.op 67 58) (BitVec.ofNat 8 (w.op 57 50))))) ∧
  (∀ (d q : Nat) (e : MwEcc) (w : MW) (s : State),
    actsNow s d q w = true → w.act = 0x08 → w.op 67 66 = 0 → acqBad w = false →
    exec (.acqArm d q e) s = .next (stampState s d q (.acq 0 (w.op 65 64) (w.op 63 53) (w.op 52 42)))) ∧
  (∀ (d q : Nat) (e : MwEcc) (w : MW) (s : State),
    actsNow s d q w = true → w.act = 0x08 → w.op 67 66 = 1 → acqBad w = false →
    exec (.acqForce d q e) s = .next (stampState s d q (.acq 1 (w.op 65 64) (w.op 63 53) (w.op 52 42)))) ∧
  (∀ (d q : Nat) (e : MwEcc) (w : MW) (s : State),
    actsNow s d q w = true → w.act = 0x08 → w.op 67 66 = 2 → acqBad w = false →
    exec (.acqStop d q e) s = .next (stampState s d q (.acq 2 (w.op 65 64) (w.op 63 53) (w.op 52 42)))) ∧
  (∀ (d q : Nat) (e : MwEcc) (w : MW) (s : State),
    actsNow s d q w = true → w.act = 0x09 → w.op 41 40 = 0 → w.op 39 0 = 0 →
    exec (.biasActEnqueue d q e) s = .next (stampState s d q (.bias (w.op 67 62) (BitVec.ofNat 20 (w.op 61 42)) 0))) ∧
  (∀ (d q : Nat) (e : MwEcc) (w : MW) (s : State),
    actsNow s d q w = true → w.act = 0x09 → w.op 41 40 = 1 → w.op 39 0 = 0 →
    exec (.biasActStart d q e) s = .next (stampState s d q (.bias (w.op 67 62) (BitVec.ofNat 20 (w.op 61 42)) 1))) ∧
  (∀ (d q : Nat) (e : MwEcc) (w : MW) (s : State),
    actsNow s d q w = true → w.act = 0x09 → w.op 41 40 = 2 → w.op 39 0 = 0 →
    exec (.biasActStop d q e) s = .next (stampState s d q (.bias (w.op 67 62) (BitVec.ofNat 20 (w.op 61 42)) 2))) ∧
  (∀ (d q : Nat) (e : MwEcc) (w : MW) (s : State),
    actsNow s d q w = true → w.act = 0x09 → w.op 41 40 = 3 → w.op 39 0 = 0 →
    exec (.biasActFlush d q e) s = .next (stampState s d q (.bias (w.op 67 62) (BitVec.ofNat 20 (w.op 61 42)) 3))) ∧
  (∀ (d q : Nat) (e : MwEcc) (w : MW) (s : State),
    actsNow s d q w = true → w.act = 0x0A → w.op 32 0 = 0 →
    exec (.msg d q e) s = .next (stampState s d q (.msg (w.op 67 65) (BitVec.ofNat 32 (w.op 64 33))))) ∧
  (∀ (d q : Nat) (e : MwEcc) (w : MW) (s : State),
    actsNow s d q w = true → w.act = 0x0D → w.op 41 32 = 0 → epochBad s.member w.epochReq = false →
    exec (.epoch d q e) s = .next (stampState s d q (.epoch w.epochReq)))

/-- R134, R135, R152, R158, R163, R171 for NOP, READ, CNTLD and TRET. R145, R146, R147 for the five counter
operations. -/
def Obligations.ImmediateActionsAndCounters : Prop :=
  (∀ (d q : Nat) (e : MwEcc) (w : MW) (s : State),
    actsNow s d q w = true → w.act = 0x00 → w.op 67 0 = 0 →
    exec (.seqNop d q e) s = .next (s.setSeq (sel d q) (s.seq (sel d q)).acted)) ∧
  (∀ (d q : Nat) (e : MwEcc) (w : MW) (s : State),
    actsLate s d q w = true → w.act = 0x00 → w.op 67 0 = 0 →
    exec (.seqNop d q e) s = .next ((((s.setSeq (sel d q) (s.seq (sel d q)).acted).setBit Obj.SEQ_STATUS (sel d q)
      11).inc
      Obj.LATE_WORDS (sel d q)).raise d (7 * q + 6))) ∧
  (∀ (d q : Nat) (e : MwEcc) (w : MW) (s : State),
    actsNow s d q w = true → w.act = 0x07 → w.op 42 0 = 0 →
    exec (.read d q e) s = .next ((s.setDemod (sel d (w.op 67 61)) { s.demod (sel d (w.op 67 61)) with
      reads := (s.demod (sel d (w.op 67 61))).reads ++
        [⟨(s.seq (sel d q)).actTime, q, if w.op 60 45 = 0 then 65536 else w.op 60 45, bit w 44, bit w 43⟩] }).setSeq
      (sel d q) (s.seq (sel d q)).acted)) ∧
  (∀ (d q : Nat) (e : MwEcc) (w : MW) (s : State),
    actsNow s d q w = true → w.act = 0x0C → w.op 39 0 = 0 →
    ∃ t, exec (.cntld d q e) s = .next t ∧
      t.rdN (Obj.SEQ_COUNTER_0 + w.op 67 65) (sel d q) = w.op 64 41 ∧
      (bit w 40 = true → t.rdN (Obj.CNT_RELOAD_0 + w.op 67 65) (sel d q) = w.op 64 41) ∧
      (∀ id k : Nat, ¬ (k = sel d q ∧ (id = Obj.SEQ_COUNTER_0 + w.op 67 65 ∨
        (bit w 40 = true ∧ id = Obj.CNT_RELOAD_0 + w.op 67 65))) → t.rd id k = s.rd id k) ∧
      t.seq (sel d q) = (s.seq (sel d q)).acted ∧ (∀ k : Nat, k ≠ sel d q → t.seq k = s.seq k) ∧
      t = { s with seqs := t.seqs, regs := t.regs }) ∧
  (∀ (d q : Nat) (e : MwEcc) (w : MW) (s : State),
    actsNow s d q w = true → w.act = 0x0E → w.op 67 0 = 0 → (s.seq (sel d q)).inHandler = true →
    (s.seq (sel d q)).frame.resumable = true → (s.seq (sel d q)).frame.waiting = false → (s.seq (sel d q)).pend = 0 →
    exec (.tret d q e) s = .next (s.setSeq (sel d q) { s.seq (sel d q) with
      phase := .ready, resumed := true, inHandler := false, ready := s.now + 1,
      latch := (s.seq (sel d q)).frame.latch, sp := (s.seq (sel d q)).frame.sp, t := (s.seq (sel d q)).frame.t,
      addr := (s.seq (sel d q)).frame.addr, waitFault := (s.seq (sel d q)).frame.faulted,
      skipBreak := (s.seq (sel d q)).frame.cause == 6 })) ∧
  (∀ (d q : Nat) (e : MwEcc) (w : MW) (s : State),
    actsNow s d q w = true → w.act = 0x0E → w.op 67 0 = 0 → (s.seq (sel d q)).inHandler = true →
    (s.seq (sel d q)).frame.resumable = true → (s.seq (sel d q)).frame.waiting = true → (s.seq (sel d q)).pend = 0 →
    ∃ t, exec (.tret d q e) s = .next t ∧
      (t.seq (sel d q)).phase = WordPhase.acted ∧ (t.seq (sel d q)).exec = s.now + 1 ∧
        (t.seq (sel d q)).inHandler = false ∧
      (t.seq (sel d q)).addr = (s.seq (sel d q)).frame.addr ∧ (t.seq (sel d q)).t = (s.seq (sel d q)).frame.t ∧
      (t.seq (sel d q)).mw.wait = (s.seq (sel d q)).frame.wait % 4 ∧
      (t.seq (sel d q)).mw.cond = (s.seq (sel d q)).frame.cond % 64 ∧
      (t.seq (sel d q)).mw.time = (s.seq (sel d q)).frame.time % 2 ^ 24 ∧
      (∀ k : Nat, k ≠ sel d q → t.seq k = s.seq k) ∧ t = { s with seqs := t.seqs }) ∧
  (∀ (d q : Nat) (e : MwEcc) (w : MW) (s : State),
    actsNow s d q w = true → w.act = 0x0E → w.op 67 0 = 0 → (s.seq (sel d q)).inHandler = false →
    exec (.tret d q e) s = .next ((s.setBit Obj.SEQ_STATUS (sel d q) 18).setSeq (sel d q) (s.seq (sel d q)).acted)) ∧
  (∀ (d q : Nat) (e : MwEcc) (w : MW) (s : State),
    beginsWord s d q e w = true → w.cntOp = 1 →
    exec (.cntopSel d q e) s = .next ((beginState s d q e w).setSeq (sel d q)
      { (s.seq (sel d q)).begun s.now w with latch := w.cntSel })) ∧
  (∀ (d q : Nat) (e : MwEcc) (w : MW) (s : State),
    beginsWord s d q e w = true → w.cntOp = 2 →
    exec (.cntopDec d q e) s = .next ((beginState s d q e w).wrN (Obj.SEQ_COUNTER_0 + w.cntSel) (sel d q)
      (s.rdN (Obj.SEQ_COUNTER_0 + w.cntSel) (sel d q) % 16777216 - 1))) ∧
  (∀ (d q : Nat) (e : MwEcc) (w : MW) (s : State),
    beginsWord s d q e w = true → w.cntOp = 3 →
    exec (.cntopInc d q e) s = .next ((beginState s d q e w).wrN (Obj.SEQ_COUNTER_0 + w.cntSel) (sel d q)
      ((s.rdN (Obj.SEQ_COUNTER_0 + w.cntSel) (sel d q) + 1) % 16777216))) ∧
  (∀ (d q : Nat) (e : MwEcc) (w : MW) (s : State),
    beginsWord s d q e w = true → w.cntOp = 4 →
    exec (.cntopClr d q e) s = .next ((beginState s d q e w).wrN (Obj.SEQ_COUNTER_0 + w.cntSel) (sel d q) 0)) ∧
  (∀ (d q : Nat) (e : MwEcc) (w : MW) (s : State),
    beginsWord s d q e w = true → w.cntOp = 5 →
    exec (.cntopReload d q e) s = .next ((beginState s d q e w).wrN (Obj.SEQ_COUNTER_0 + w.cntSel) (sel d q)
      (s.rdN (Obj.CNT_RELOAD_0 + w.cntSel) (sel d q) % 16777216)))

/-- R137 to R144 for the branch rows, R165 for BR HALT, R178 for counters that the host writes. -/
def Obligations.Branches : Prop :=
  (∀ (d q : Nat) (s : State),
    branchesNow s d q 0 = true →
    exec (.brNext d q) s = .next ((s.settle (sel d q)).setSeq (sel d q) ((s.seq (sel d q)).atNext (s.seq (sel d
      q)).mw.next))) ∧
  (∀ (d q : Nat) (s : State),
    branchesNow s d q 1 = true → 2 ≤ (s.seq (sel d q)).mw.wait →
    exec (.brCondalt d q) s = .next ((s.settle (sel d q)).setSeq (sel d q) ((s.seq (sel d q)).atNext     (if (s.seq
      (sel d q)).cond then (s.seq (sel d q)).mw.alt else (s.seq (sel d q)).mw.next)))) ∧
  (∀ (d q : Nat) (s : State),
    branchesNow s d q 1 = true → (s.seq (sel d q)).mw.wait < 2 →
    ∃ t, exec (.brCondalt d q) s = .next t ∧
      (t.seq (sel d q)).addr = (if s.condValue d q (s.seq (sel d q)).mw.cond then (s.seq (sel d q)).mw.alt
        else (s.seq (sel d q)).mw.next) ∧
      (t.seq (sel d q)).t = (s.seq (sel d q)).plainT ∧ (t.seq (sel d q)).ready = s.now + 4 ∧
      (t.seq (sel d q)).phase = WordPhase.ready ∧ (∀ k : Nat, k ≠ sel d q → t.seq k = s.seq k) ∧
      t = { s.settle (sel d q) with seqs := t.seqs }) ∧
  (∀ (d q : Nat) (s : State),
    branchesNow s d q 2 = true → 2 ≤ (s.seq (sel d q)).mw.wait →
    exec (.brCondnext d q) s = .next ((s.settle (sel d q)).setSeq (sel d q) ((s.seq (sel d q)).atNext     (if (s.seq
      (sel d q)).cond then (s.seq (sel d q)).mw.next else (s.seq (sel d q)).mw.alt)))) ∧
  (∀ (d q : Nat) (s : State),
    branchesNow s d q 2 = true → (s.seq (sel d q)).mw.wait < 2 →
    ∃ t, exec (.brCondnext d q) s = .next t ∧
      (t.seq (sel d q)).addr = (if s.condValue d q (s.seq (sel d q)).mw.cond then (s.seq (sel d q)).mw.next
        else (s.seq (sel d q)).mw.alt) ∧
      (t.seq (sel d q)).t = (s.seq (sel d q)).plainT ∧ (t.seq (sel d q)).ready = s.now + 4 ∧
      (t.seq (sel d q)).phase = WordPhase.ready ∧ (∀ k : Nat, k ≠ sel d q → t.seq k = s.seq k) ∧
      t = { s.settle (sel d q) with seqs := t.seqs }) ∧
  (∀ (d q : Nat) (s : State),
    branchesNow s d q 3 = true → 2 ≤ (s.seq (sel d q)).mw.wait →
    exec (.brTable d q) s = .next ((s.settle (sel d q)).setSeq (sel d q) ((s.seq (sel d q)).atNext     (s.tableEntry
      (sel d q) (s.seq (sel d q)).index (s.now - (s.seq (sel d q)).sampleCyc))))) ∧
  (∀ (d q : Nat) (s : State),
    branchesNow s d q 3 = true → (s.seq (sel d q)).mw.wait < 2 →
    ∃ t, exec (.brTable d q) s = .next t ∧
      (t.seq (sel d q)).addr = s.tableEntry (sel d q) ((s.mapEntries (sel d q)).foldl
        (fun (n : Nat) (p : Nat × Nat) => if s.condValue d q p.2 then n + 2 ^ p.1 else n) 0) 0 ∧
      (t.seq (sel d q)).t = (s.seq (sel d q)).plainT ∧ (t.seq (sel d q)).ready = s.now + 4 ∧
      (t.seq (sel d q)).phase = WordPhase.ready ∧ (∀ k : Nat, k ≠ sel d q → t.seq k = s.seq k) ∧
      t = { s.settle (sel d q) with seqs := t.seqs }) ∧
  (∀ (d q : Nat) (s : State),
    branchesNow s d q 4 = true → (s.seq (sel d q)).sp < 8 →
    exec (.brCall d q) s = .next ((s.settle (sel d q)).setSeq (sel d q)
      { (s.seq (sel d q)).atNext (s.seq (sel d q)).mw.alt with
      cells := (s.seq (sel d q)).cells8.set (s.seq (sel d q)).sp (s.seq (sel d q)).mw.next,
      sp := (s.seq (sel d q)).sp + 1 })) ∧
  (∀ (d q : Nat) (s : State),
    branchesNow s d q 4 = true → 8 ≤ (s.seq (sel d q)).sp →
    exec (.brCall d q) s = .next (((s.setBit Obj.SEQ_STATUS (sel d q) 13).settle (sel d q)).setSeq (sel d q)
      { (s.seq (sel d q)).atNext (s.seq (sel d q)).mw.alt with
        cells := (s.seq (sel d q)).cells8.drop 1 ++ [(s.seq (sel d q)).mw.next] })) ∧
  (∀ (d q : Nat) (s : State),
    branchesNow s d q 5 = true → 0 < (s.seq (sel d q)).sp →
    exec (.brReturn d q) s = .next ((s.settle (sel d q)).setSeq (sel d q)
      { (s.seq (sel d q)).atNext ((s.seq (sel d q)).cells8.getD ((s.seq (sel d q)).sp - 1) 0) with
        sp := (s.seq (sel d q)).sp - 1 })) ∧
  (∀ (d q : Nat) (s : State),
    branchesNow s d q 5 = true → (s.seq (sel d q)).sp = 0 →
    exec (.brReturn d q) s = .next (((s.setBit Obj.SEQ_STATUS (sel d q) 14).settle (sel d q)).setSeq (sel d q)
      ((s.seq (sel d q)).atNext (s.seq (sel d q)).mw.next))) ∧
  (∀ (d q : Nat) (s : State),
    branchesNow s d q 6 = true → s.counter (sel d q) (s.seq (sel d q)).latch = 0 →
    exec (.brLoop d q) s = .next ((s.settle (sel d q)).setSeq (sel d q) ((s.seq (sel d q)).atNext (s.seq (sel d
      q)).mw.next))) ∧
  (∀ (d q : Nat) (s : State),
    branchesNow s d q 6 = true → 0 < s.counter (sel d q) (s.seq (sel d q)).latch →
    exec (.brLoop d q) s = .next (((s.wrN (Obj.SEQ_COUNTER_0 + (s.seq (sel d q)).latch) (sel d q)
      (s.counter (sel d q) (s.seq (sel d q)).latch - 1)).settle (sel d q)).setSeq (sel d q)
      ((s.seq (sel d q)).atNext (s.seq (sel d q)).mw.alt))) ∧
  (∀ (d q : Nat) (s : State),
    s.seqRuns d q = true → (s.seq (sel d q)).phase = .acted → (s.seq (sel d q)).mw.br = 7 →
    (s.seq (sel d q)).exec ≤ s.now →
    ∃ t, exec (.brHalt d q) s = .next t ∧
      t.seq (sel d q) = { s.seq (sel d q) with run := .halted, phase := .ready, pend := 0, raised := 0, inHandler := false,
                                               skipBreak := false, resumed := false, faultAt := [], cntWrites := []
                                                 } ∧
      (∀ k : Nat, k ≠ sel d q → t.seq k = s.seq k) ∧
      t = { (s.settle (sel d q)).raise d (7 * q + 5) with seqs := t.seqs }) ∧
  (∀ (k : Nat) (s : State),
    (s.settle k).seq k = { s.seq k with cntWrites := [] } ∧
    (∀ n : Nat, (s.settle k).rd (Obj.SEQ_COUNTER_0 + n) k =
      (((s.seq k).cntWrites.reverse.find? (fun p : Nat × Nat => p.1 == n)).map (fun p : Nat × Nat => word p.2)).getD
        (s.rd (Obj.SEQ_COUNTER_0 + n) k)))

/-- R137, R138 for the ends of waits; R135, R136, R155 to R164 for the delivery of stamped actions. -/
def Obligations.WaitsAndDeliveries : Prop :=
  (∀ (d q : Nat) (s : State),
    s.inWait d q = true → s.condValue d q (s.seq (sel d q)).mw.cond = true →
    s.sampleBad (sel d q) (s.seq (sel d q)).mw = false → (s.seq (sel d q)).mw.wait = 2 →
    ∃ t, exec (.seqConditionMet d q) s = .next t ∧
      (t.seq (sel d q)).cond = true ∧ (t.seq (sel d q)).phase = WordPhase.sampled ∧
        (t.seq (sel d q)).sampleCyc = s.now ∧
      (t.seq (sel d q)).succT =
        BitVec.ofNat 64 (max (s.seq (sel d q)).t.toNat (s.now + 38) + (s.seq (sel d q)).mw.time) ∧
      (∀ k : Nat, k ≠ sel d q → t.seq k = s.seq k) ∧ t = { s with seqs := t.seqs }) ∧
  (∀ (d q : Nat) (s : State),
    s.inWait d q = true → s.condValue d q (s.seq (sel d q)).mw.cond = true →
    s.sampleBad (sel d q) (s.seq (sel d q)).mw = false → (s.seq (sel d q)).mw.wait = 3 →
    s.now ≤ (s.seq (sel d q)).deadline - 38 ∨ s.now = (s.seq (sel d q)).s0 →
    ∃ t, exec (.seqConditionMet d q) s = .next t ∧
      (t.seq (sel d q)).cond = true ∧ (t.seq (sel d q)).phase = WordPhase.sampled ∧
        (t.seq (sel d q)).timedOut = false ∧
      (t.seq (sel d q)).succT = BitVec.ofNat 64 (if s.now ≤ (s.seq (sel d q)).deadline - 38
        then max (s.seq (sel d q)).t.toNat (s.now + 38) else (s.seq (sel d q)).deadline) ∧
      (∀ k : Nat, k ≠ sel d q → t.seq k = s.seq k) ∧ t = { s with seqs := t.seqs }) ∧
  (∀ (d q : Nat) (s : State),
    s.inWait d q = true → s.sampleBad (sel d q) (s.seq (sel d q)).mw = false → (s.seq (sel d q)).mw.wait = 3 →
    max (s.seq (sel d q)).s0 ((s.seq (sel d q)).deadline - 38) < s.now ∨
      (max (s.seq (sel d q)).s0 ((s.seq (sel d q)).deadline - 38) = s.now ∧
        s.condValue d q (s.seq (sel d q)).mw.cond = false) →
    ∃ t, exec (.seqWaitTimeout d q) s = .next t ∧
      (t.seq (sel d q)).cond = false ∧ (t.seq (sel d q)).phase = WordPhase.sampled ∧
        (t.seq (sel d q)).timedOut = true ∧
      (t.seq (sel d q)).succT = BitVec.ofNat 64 (s.seq (sel d q)).deadline ∧
      (∀ k : Nat, k ≠ sel d q → t.seq k = s.seq k) ∧ t = { s with seqs := t.seqs }) ∧
  (∀ (d q due : Nat) (stamp : Nat) (a : StampAct) (rest : List Stamped) (s u : State),
    (s.seq (sel d q)).buf = ⟨due, stamp, a⟩ :: rest → due ≤ s.now → s.domOn d (domSeq q) = true →
    u = s.setSeq (sel d q) { s.seq (sel d q) with buf := rest } →
    ∃ t, exec (.stampedActionDeliver d q) s = .next t ∧
      (∀ (tag : BitVec 32) (record signal : Bool), a = StampAct.mark tag record signal →
        t = (if signal then (if record then u.markRecord d q tag stamp else u).raise d (7 * q + 4)
          else if record then u.markRecord d q tag stamp else u)) ∧
      (∀ p : Nat, a = StampAct.event p → t = u.raise d (7 * q + p)) ∧
      (∀ (n : Nat) (v : BitVec 8), a = StampAct.post n v → t = (if 256 ≤ n ∧ n < 512
        then u.offerPost d (q / 2) s.cyc n v (.seq q) else u.setBit Obj.SEQ_STATUS (sel d q) 17)) ∧
      (∀ op kind first last : Nat, a = StampAct.acq op kind first last → t = u.acqAct d op kind first last) ∧
      (∀ (o op : Nat) (c : BitVec 20), a = StampAct.bias o c op → t = u.biasAct d q o c op) ∧
      (∀ (g : Nat) (m : BitVec 32), a = StampAct.msg g m → t = u.dspMail d g q m) ∧
      (∀ r : EpochReq, a = StampAct.epoch r → t = u.issueEpoch d (some q) r))

/-- R165 for SEQ_COMMAND, R150 for the captures of START, R32 for QFREE. The spec does not state when the first word
after START is ready: a free value (log 1). That an armed sequencer which returns to halted raises no HALTED is the
model's choice (log 57). -/
def Obligations.SequencerCommands : Prop :=
  (∀ (d q : Nat) (s : State),
    (s.seq (sel d q)).run ≠ .running → s.domOn d (domSeq q) = true → s.rdN Obj.SEQ_START_ADDR (sel d q) < 2 ^ 14 →
    ∃ t, exec (.seqStart d q) s = .next t ∧
      t.seq (sel d q) = { s.seq (sel d q) with
        run := .running, phase := .ready, addr := s.rdN Obj.SEQ_START_ADDR (sel d q), t := s.startTime (sel d q),
        ready := (t.seq (sel d q)).ready, sp := 0, frame := {}, inHandler := false, pend := 0, raised := 0, timedOut
          := false,
        qfull := false, qfree := false, refusedBy := none, skipBreak := false, resumed := false, waitFault := false,
          evc := 0,
        eaten := none, fresh := (t.seq (sel d q)).fresh } ∧
      s.now < (t.seq (sel d q)).ready ∧
      (∀ i : Nat, i < 64 → entrySource (s.condEntry (sel d q) i) = 2 →
        seen 0 (look [] (t.seq (sel d q)).fresh i) s.cyc =
          (s.slotSeen (sel d (ebits (s.condEntry (sel d q) i) 9 0))).gen.toNat) ∧
      (∀ k : Nat, k ≠ sel d q → t.seq k = s.seq k) ∧
      t = { s with seqs := t.seqs, chans := t.chans, free := s.free + 1 }) ∧
  (∀ (d q : Nat) (s : State),
    (s.seq (sel d q)).run = .running ∨ s.domOn d (domSeq q) = false → exec (.seqStart d q) s = .next s) ∧
  (∀ (d q : Nat) (s : State),
    (s.seq (sel d q)).run = .running →
    ∃ t, exec (.seqHalt d q) s = .next t ∧
      t.seq (sel d q) = { s.seq (sel d q) with run := .halted, phase := .ready, pend := 0, raised := 0, inHandler := false,
                                               skipBreak := false, resumed := false, faultAt := [], cntWrites := []
                                                 } ∧
      (∀ k : Nat, k ≠ sel d q → t.seq k = s.seq k) ∧
      t = { (s.settle (sel d q)).raise d (7 * q + 5) with seqs := t.seqs }) ∧
  (∀ (d q : Nat) (s : State),
    (s.seq (sel d q)).run = .armed →
    exec (.seqHalt d q) s = .next (s.setSeq (sel d q) { s.seq (sel d q) with run := .halted })) ∧
  (∀ (d q : Nat) (s : State), (s.seq (sel d q)).run = .halted → exec (.seqHalt d q) s = .next s) ∧
  (∀ (d q : Nat) (s : State),
    ∃ t, exec (.seqAbort d q) s = .next t ∧
      (t.seq (sel d q)).run = SeqRun.halted ∧ (t.seq (sel d q)).buf = [] ∧
      (∀ g : Nat, g < 128 → (t.gen (sel d g)).queue =
        (s.gen (sel d g)).queue.filter (fun c => !(c.die == d && c.seq == q))) ∧
      (∀ k : Nat, k ≠ sel d q → t.seq k = { s.seq k with qfree := (t.seq k).qfree }) ∧
      (∀ k : Nat, t.gen k = { s.gen k with queue := (t.gen k).queue, owed := (t.gen k).owed }) ∧
      (∀ k : Nat, (∀ g : Nat, g < 128 → k ≠ sel d g) → t.gen k = s.gen k) ∧
      t = { s with seqs := t.seqs, gens := t.gens, chans := t.chans, regs := t.regs, flight := t.flight }) ∧
  (∀ (d q : Nat) (s : State),
    (s.seq (sel d q)).run = .halted → s.domOn d (domSeq q) = true →
    exec (.seqArm d q) s = .next (s.setSeq (sel d q) { s.seq (sel d q) with run := .armed })) ∧
  (∀ (d q : Nat) (s : State),
    (s.seq (sel d q)).run = .armed →
    exec (.seqDisarm d q) s = .next (s.setSeq (sel d q) { s.seq (sel d q) with run := .halted })) ∧
  (∀ (d q : Nat) (s : State),
    (s.seq (sel d q)).run ≠ .halted ∨ s.domOn d (domSeq q) = false → exec (.seqArm d q) s = .next s) ∧
  (∀ (d q : Nat) (s : State), (s.seq (sel d q)).run ≠ .armed → exec (.seqDisarm d q) s = .next s)

/-- R150, R165, R166, R168 to R170 for the task inputs; R174 for CS_SCRUB. -/
def Obligations.SequencerTasksAndScrub : Prop :=
  (∀ (d q : Nat) (v : BellEvent) (s s1 : State),
    s.domOn d (domSeq q) = true → s.deliver d (10 * q) false = (some v, s1) → (s.seq (sel d q)).run = .armed →
    ∃ t, exec (.seqStartTask d q) s = .next t ∧
      (t.seq (sel d q)).run = SeqRun.running ∧ (t.seq (sel d q)).addr = s.rdN Obj.SEQ_START_ADDR (sel d q) % 16384 ∧
      (t.seq (sel d q)).t = s.clock.now + BitVec.ofNat 64 (s.rdN Obj.SEQ_START_OFFSET (sel d q)) ∧
      s.now < (t.seq (sel d q)).ready ∧ (∀ k : Nat, k ≠ sel d q → t.seq k = s.seq k) ∧
      t = { s with seqs := t.seqs, chans := t.chans, regs := t.regs, free := s.free + 1 }) ∧
  (∀ (d q : Nat) (v : BellEvent) (s s1 : State),
    s.domOn d (domSeq q) = true → s.deliver d (10 * q + 1) false = (some v, s1) → (s.seq (sel d q)).run ≠ .halted →
    ∃ t, exec (.seqStopTask d q) s = .next t ∧
      (t.seq (sel d q)).run = SeqRun.halted ∧ (∀ k : Nat, k ≠ sel d q → t.seq k = s.seq k) ∧
      t = { s with seqs := t.seqs, chans := t.chans, regs := t.regs }) ∧
  (∀ (d q n : Nat) (v : BellEvent) (s s1 : State),
    n < 4 → s.domOn d (domSeq q) = true → (s.seq (sel d q)).evc.getLsbD n = false →
    s.deliver d (10 * q + 2 + n) false = (some v, s1) →
    exec (.seqEvcTask d q n) s =
      .next (s1.setSeq (sel d q) { s.seq (sel d q) with evc := (s.seq (sel d q)).evc ||| oneBit 4 n })) ∧
  (∀ (d q n : Nat) (v : BellEvent) (s s1 : State),
    n < 4 → s.seqRuns d q = true → s.deliver d (10 * q + 6 + n) false = (some v, s1) →
    bit (s.rd Obj.TRAP_ENABLE (sel d q)) n = true → (s.seq (sel d q)).inHandler = false →
    (s.seq (sel d q)).phase = .ready → s.wordDue d q = false ∨ s.breakHere (sel d q) = false →
    ∃ t, exec (.seqEvtTask d q n) s = .next t ∧
      (t.seq (sel d q)).inHandler = true ∧ (t.seq (sel d q)).frame.cause = n ∧
      (t.seq (sel d q)).frame.resumable = true ∧ (t.seq (sel d q)).frame.waiting = false ∧
      (t.seq (sel d q)).frame.addr = (s.seq (sel d q)).addr ∧ (t.seq (sel d q)).frame.t = (s.seq (sel d q)).t ∧
      (t.seq (sel d q)).frame.latch = (s.seq (sel d q)).latch ∧ (t.seq (sel d q)).frame.sp = (s.seq (sel d q)).sp ∧
      (t.seq (sel d q)).addr = s.trapVector (sel d q) n ∧ (t.seq (sel d q)).ready = s.now + 4 ∧
      (t.seq (sel d q)).t = BitVec.ofNat 64 (s.now + 38) ∧ (∀ k : Nat, k ≠ sel d q → t.seq k = s.seq k) ∧
      t = { s with seqs := t.seqs, chans := t.chans, regs := t.regs }) ∧
  (∀ (d q : Nat) (e : Ecc) (s : State),
    (s.store (sel d q)).due ≤ s.cyc → s.domOn d (domSeq q) = true →
    ∃ t, exec (.csScrub d q e) s = .next t ∧
      (t.store (sel d q)).next = ((s.store (sel d q)).next + 1) % 32768 ∧
      (t.store (sel d q)).due =
        (if s.cyc < (s.store (sel d q)).due + 512 then (s.store (sel d q)).due + 512 else s.cyc + 512) ∧
      (e = Ecc.clean → (t.store (sel d q)).poison = (s.store (sel d q)).poison ∧ t.regs = s.regs) ∧
      (e = Ecc.corrected → t.rd Obj.CS_CORRECTED (sel d q) = (s.inc Obj.CS_CORRECTED (sel d q)).rd Obj.CS_CORRECTED
        (sel d q)) ∧
      (e = Ecc.uncorrectable → (s.store (sel d q)).next ∈ (t.store (sel d q)).poison ∧ t.regs = s.regs) ∧
      (∀ k : Nat, k ≠ sel d q → t.store k = s.store k) ∧
      t = { s with stores := t.stores, regs := t.regs, dies := t.dies }) ∧
  (∀ (d q n : Nat) (v : BellEvent) (s s1 : State),
    n < 4 → s.deliver d (10 * q + 6 + n) false = (some v, s1) →
    bit (s.rd Obj.TRAP_ENABLE (sel d q)) n = true → (s.seq (sel d q)).inHandler = false → s.wordDue d q = true →
    s.breakHere (sel d q) = true → (s.seq (sel d q)).pend = 0 →
    ∃ t, exec (.seqEvtTask d q n) s = .next t ∧
      (t.seq (sel d q)).inHandler = true ∧ (t.seq (sel d q)).frame.cause = 6 ∧
      (t.seq (sel d q)).pend = oneBit 8 n ∧ (t.seq (sel d q)).frame.addr = (s.seq (sel d q)).addr ∧
      (t.seq (sel d q)).addr = s.trapVector (sel d q) 6 ∧ (∀ k : Nat, k ≠ sel d q → t.seq k = s.seq k) ∧
      t = { s with seqs := t.seqs, chans := t.chans, regs := t.regs })

/-- R187 and R318 for the input's mode; R190 to R210 for windows, their points and posts. The decimated samples are
those of a free signal and free filter coefficients (log 62). -/
def Obligations.InputsAndWindows : Prop :=
  (∀ (d i c mode range : Nat) (s : State),
    (s.rfIn (sel d i)).written = some c → ((s.rfIn (sel d i)).mode = 1 → c < s.cyc) →
    ((s.rfIn (sel d i)).mode ≠ 1 →
      s.wireRuns (sel d i) = false ∧ ∀ j : Nat, j < 16 → s.demodOpen d (16 * i + j) = false) →
    mode = s.rdN Obj.INPUT_MODE (sel d i) → mode ≤ 1 → range = s.rdN Obj.INPUT_RANGE (sel d i) → range ≤ 3 →
    ∃ t, exec (.inputModeApply d i) s = .next t ∧
      t.rfIn (sel d i) = { s.rfIn (sel d i) with
        mode := mode, range := range, written := none, rot := (t.rfIn (sel d i)).rot,
        settling := (s.rfIn (sel d i)).settling || range != (s.rfIn (sel d i)).range,
        settle := if range = (s.rfIn (sel d i)).range then (s.rfIn (sel d i)).settle else s.cyc + 1250 } ∧
      (t.rfIn (sel d i)).rot = { (s.rfIn (sel d i)).rot with abandoned := (s.rfIn (sel d i)).rot.abandoned ||
        (range != (s.rfIn (sel d i)).range && (s.rfIn (sel d i)).rot.begun && !(s.rfIn (sel d i)).rot.held) } ∧
      (∀ k : Nat, k ≠ sel d i → t.rfIn k = s.rfIn k) ∧
      ((s.rfIn (sel d i)).mode = 1 → mode = 0 → ∀ n : Nat, n < 2048 → n / 256 = i →
        (t.tone (sel d n)).on = false ∧ (t.tone (sel d n)).armed = false ∧ (t.tone (sel d n)).collecting = none) ∧
      ((s.rfIn (sel d i)).mode ≠ 1 ∨ mode = 1 → t = { s with inputs := t.inputs }) ∧
      (∀ k : Nat, selDie k ≠ d ∨ selUnit k / 256 ≠ i → t.tone k = s.tone k) ∧
      t = { s with inputs := t.inputs, tones := t.tones, acqs := t.acqs, regs := t.regs }) ∧
  (∀ (d i : Nat) (s : State),
    (s.rfIn (sel d i)).settling = true → (s.rfIn (sel d i)).settle ≤ s.cyc →
    exec (.inputSettlingEnd d i) s = .next (s.setRfIn (sel d i) { s.rfIn (sel d i) with settling := false })) ∧
  (∀ (d m : Nat) (r top : ReadReq) (rest : List ReadReq) (set : List Word) (run phase : BitVec 48) (s : State),
    (s.demod (sel d m)).reads.filter (fun r => decide (r.opens ≤ s.now)) = r :: rest → s.readRefused d m = false →
    top = rest.foldl (fun a b : ReadReq => if a.seq < b.seq then b else a) r →
    bits (s.rd Obj.DEMOD_FREQ (sel d m)) 63 48 = 0 → bits (s.rd Obj.DEMOD_CONTROL (sel d m)) 31 2 = 0 →
    set = lookRange 0 (look [] (look [] s.doms
      (if (s.demod (sel d m)).kset = 0 then Obj.DEMOD_SET_0 else Obj.DEMOD_SET_1)) (sel d m)) 0 10 →
        setBad set = false →
    run = (if bit (s.rd Obj.DEMOD_CONTROL (sel d m)) 0 then 0 else (s.demod (sel d m)).phaseNow s.cyc) →
    phase = run + (s.rd Obj.DEMOD_PHASE (sel d m)).setWidth 48 <<< 16 →
    ∃ t, exec (.windowOpen d m) s = .next t ∧
      t.demod (sel d m) = { s.demod (sel d m) with
        reads := (s.demod (sel d m)).reads.filter (fun r => !decide (r.opens ≤ s.now)),
        windows := (t.demod (sel d m)).windows, phase := run, phaseAt := s.cyc,
        freq := (s.rd Obj.DEMOD_FREQ (sel d m)).setWidth 48, next := none } ∧
      (t.demod (sel d m)).windows.dropLast = (s.demod (sel d m)).windows.map (fun w : Window =>
        if w.start < s.cyc ∧ s.cyc ≤ w.last then { w with last := s.cyc - 1 } else w) ∧
      (∃ w : Window, (t.demod (sel d m)).windows.getLast? = some w ∧ w = { w with
        start := s.cyc, time := s.clock.now, last := s.cyc + top.len - 1, nopost := top.nopost,
        kset := (s.demod (sel d m)).kset, phase := phase, freq := (s.rd Obj.DEMOD_FREQ (sel d m)).setWidth 48, set
          := set,
        settling := decide (s.cyc < (s.rfIn (sel d (m / 16))).settle), weights := [] } ∧
        (top.trace = false → w.trace = none ∧ t.acqs = s.acqs)) ∧
      (rest ≠ [] → t.rd Obj.COLLIDED_READS (sel d m) =
        (s.count Obj.COLLIDED_READS (sel d m) rest.length).rd Obj.COLLIDED_READS (sel d m)) ∧
      (∀ k : Nat, k ≠ sel d m → t.demod k = s.demod k) ∧
      t = { s with demods := t.demods, regs := t.regs, acqs := t.acqs }) ∧
  (∀ (d m : Nat) (r : ReadReq) (rest : List ReadReq) (s : State),
    (s.demod (sel d m)).reads.filter (fun r => decide (r.opens ≤ s.now)) = r :: rest → s.readRefused d m = true →
    exec (.windowOpen d m) s = .next (((s.setDemod (sel d m) { s.demod (sel d m) with
      reads := (s.demod (sel d m)).reads.filter (fun r => !decide (r.opens ≤ s.now)) }).setBit
        Obj.DEMOD_STATUS (sel d m) 6).count Obj.REFUSED_READS (sel d m) (rest.length + 1))) ∧
  (∀ (d m fixed n : Nat) (bad : List Nat) (w : Window) (rest : List Window) (sum p : Int × Int) (suspect : Bool)
    (v : BitVec 8) (s : State),
    takeFirst (fun w : Window => decide (w.last + 14 ≤ s.cyc)) (s.demod (sel d m)).windows = some (w, rest) →
    n = w.last + 1 - w.start →
    sum = sumProducts w w.weights.reverse bad 0 (decimatedFrom d (m / 16) w.start w.phase w.freq n) →
    p = (roundHalfUp sum.1, roundHalfUp sum.2) →
    suspect = (clippedOver d (m / 16) w.start n || w.settling || !bad.isEmpty) →
    v = BitVec.ofNat 8 (w.kset * 16 + b2n suspect * 8 + b2n (discriminate w.set p.1 p.2).2 * 4 +
      (discriminate w.set p.1 p.2).1) →
    ∃ t, exec (.windowClose d m () () bad fixed) s = .next t ∧
      t.demod (sel d m) = { s.demod (sel d m) with
        windows := rest,
        results := (s.demod (sel d m)).results ++
          [DemodResult.mk w.last (BitVec.ofInt 36 p.1 ++ BitVec.ofInt 36 p.2) w.time v w.nopost false] } ∧
      (w.nopost = false → t.port (d * 16 + m / 16) = { s.port (d * 16 + m / 16) with
        posts := (s.port (d * 16 + m / 16)).posts ++ [Post.mk (w.last + 21) m v (.disc m)] } ∧
        ∀ k : Nat, k ≠ d * 16 + m / 16 → t.port k = s.port k) ∧
      (w.nopost = true → t.ports = s.ports) ∧ (∀ k : Nat, k ≠ sel d m → t.demod k = s.demod k) ∧
      t = { s with demods := t.demods, ports := t.ports, regs := t.regs, dies := t.dies, acqs := t.acqs })

/-- R222 to R233 for the rotation and calibration of slices. -/
def Obligations.SliceRotation : Prop :=
  (∀ (d i : Nat) (s : State),
    s.domOn d (domIn i) = true → s.retiredSlice (sel d i) = none → s.atFrame = true →
    (s.rfIn (sel d i)).rot.begun = false ∨ (s.rfIn (sel d i)).rot.held = true →
    bit (s.rd Obj.CAL_CONTROL (sel d i)) 0 = false →
    exec (.rotationStep d i) s = .next (s.setRfIn (sel d i)
      { s.rfIn (sel d i) with rot := { (s.rfIn (sel d i)).rot with
      begun := true, held := false, start := s.cyc, calibrated := false, failed := false, abandoned := false,
      undo := none } })) ∧
  (∀ (d i : Nat) (s : State),
    s.domOn d (domIn i) = true → s.retiredSlice (sel d i) = none → s.atFrame = true →
    (s.rfIn (sel d i)).rot.begun = false ∨ (s.rfIn (sel d i)).rot.held = true →
    bit (s.rd Obj.CAL_CONTROL (sel d i)) 0 = true →
    exec (.rotationStep d i) s = .next (s.setRfIn (sel d i)
      { s.rfIn (sel d i) with rot := { (s.rfIn (sel d i)).rot with
      begun := true, held := true } })) ∧
  (∀ (d i : Nat) (s : State),
    s.domOn d (domIn i) = true → s.retiredSlice (sel d i) = none → s.atFrame = true →
    (s.rfIn (sel d i)).rot.begun = true → (s.rfIn (sel d i)).rot.held = false →
      (s.rfIn (sel d i)).rot.retire = false →
    (s.rfIn (sel d i)).rot.abandoned = false → (s.rfIn (sel d i)).rot.start + 154400 ≤ s.cyc →
    ∃ t, exec (.rotationStep d i) s = .next t ∧
      (t.rfIn (sel d i)).rot.step = (s.rfIn (sel d i)).rot.step + 1 ∧ (t.rfIn (sel d i)).rot.start = s.cyc ∧
      (t.rfIn (sel d i)).rot.out =
        (s.rfIn (sel d i)).rot.pos.getD (((s.rfIn (sel d i)).rot.step + 1) % 16) 0 ∧
      (t.rfIn (sel d i)).rot.pos =
        (s.rfIn (sel d i)).rot.pos.set (((s.rfIn (sel d i)).rot.step + 1) % 16) (s.rfIn (sel d i)).rot.out ∧
      (t.rfIn (sel d i)).rot.held = bit (s.rd Obj.CAL_CONTROL (sel d i)) 0 ∧
      (t.rfIn (sel d i)).rot.done = (s.rfIn (sel d i)).rot.done + 1 ∧
      ((s.rfIn (sel d i)).rot.out ∈ (s.rfIn (sel d i)).rot.fresh → (s.rfIn (sel d i)).rot.out < 17 →
        t.correction (sel d i) (s.rfIn (sel d i)).rot.out =
          trimOf (s.dw Obj.IN_TRIM (sel d i) (s.rfIn (sel d i)).rot.out)) ∧
      t.regs = (s.inc Obj.CAL_STEPS (sel d i)).regs ∧
      (∀ k : Nat, k ≠ sel d i → t.rfIn k = s.rfIn k) ∧ t = { s with inputs := t.inputs, regs := t.regs }) ∧
  (∀ (d i : Nat) (s : State),
    s.domOn d (domIn i) = true → s.retiredSlice (sel d i) = none → s.atFrame = true →
    (s.rfIn (sel d i)).rot.begun = true → (s.rfIn (sel d i)).rot.held = false → (s.rfIn (sel d i)).rot.retire = true →
    (s.rfIn (sel d i)).rot.start + 154400 ≤ s.cyc →
    ∃ t, exec (.rotationStep d i) s = .next t ∧
      t.retiredSlice (sel d i) = some (s.rfIn (sel d i)).rot.out ∧
      t.rfIn (sel d i) = { s.rfIn (sel d i) with
        rot := { (s.rfIn (sel d i)).rot with figuresAt := s.cyc, retire := false } } ∧
      t.rd Obj.SPUR_AT_RETIRE (sel d i) = s.rd Obj.SPUR_IMAGE (sel d i) ∧
      (∀ k : Nat, k ≠ sel d i → t.rfIn k = s.rfIn k) ∧
      t = { s with inputs := t.inputs, regs := t.regs, dies := t.dies, nv := t.nv }) ∧
  (∀ (d i : Nat) (s : State),
    s.domOn d (domIn i) = true → s.retiredSlice (sel d i) = none → s.atFrame = true →
    (s.rfIn (sel d i)).rot.begun = true → (s.rfIn (sel d i)).rot.held = false →
      (s.rfIn (sel d i)).rot.retire = false →
    (s.rfIn (sel d i)).rot.abandoned = true → (s.rfIn (sel d i)).rot.start + 154400 ≤ s.cyc →
    exec (.rotationStep d i) s = .next (s.setRfIn (sel d i)
      { s.rfIn (sel d i) with rot := { (s.rfIn (sel d i)).rot with
      begun := true, held := false, start := s.cyc, calibrated := false, failed := false, abandoned := false,
      undo := none } })) ∧
  (∀ (d i : Nat) (m : CalMeas) (s : State),
    s.domOn d (domIn i) = true → s.retiredSlice (sel d i) = none → (s.rfIn (sel d i)).rot.begun = true →
    (s.rfIn (sel d i)).rot.held = false → (s.rfIn (sel d i)).rot.calibrated = false →
    (s.rfIn (sel d i)).rot.abandoned = false → (s.rfIn (sel d i)).rot.start + 154272 ≤ s.cyc → calFails m = false →
    ∃ t, exec (.sliceCalibrationEnd d i m) s = .next t ∧
      (t.rfIn (sel d i)).rot.calibrated = true ∧
      (t.rfIn (sel d i)).rot.undo =
        (if m.handoverOk then none else some (s.correction (sel d i) (s.rfIn (sel d i)).rot.out)) ∧
      ((s.rfIn (sel d i)).rot.out < 17 → t.correction (sel d i) (s.rfIn (sel d i)).rot.out = (m.offset, m.gain,
        if m.skewHeld then (s.correction (sel d i) (s.rfIn (sel d i)).rot.out).2.2 else m.skew)) ∧
      ((s.rfIn (sel d i)).rot.out ∈ (s.rfIn (sel d i)).rot.fresh → t.doms = s.doms) ∧
      (¬ (s.rfIn (sel d i)).rot.out ∈ (s.rfIn (sel d i)).rot.fresh →
        t.dw Obj.IN_TRIM (sel d i) (s.rfIn (sel d i)).rot.out = trimWord (m.offset, m.gain,
          if m.skewHeld then (s.correction (sel d i) (s.rfIn (sel d i)).rot.out).2.2 else m.skew)) ∧
      (∀ k : Nat, k ≠ sel d i → t.rfIn k = s.rfIn k) ∧
      (∀ id k w : Nat, ¬ (id = Obj.IN_TRIM ∧ k = sel d i ∧ w = (s.rfIn (sel d i)).rot.out) →
        t.dw id k w = s.dw id k w) ∧
      t = { s with inputs := t.inputs, regs := t.regs, doms := t.doms }) ∧
  (∀ (d i : Nat) (m : CalMeas) (s : State),
    s.domOn d (domIn i) = true → s.retiredSlice (sel d i) = none → (s.rfIn (sel d i)).rot.begun = true →
    (s.rfIn (sel d i)).rot.held = false → (s.rfIn (sel d i)).rot.calibrated = false →
    (s.rfIn (sel d i)).rot.abandoned = false → (s.rfIn (sel d i)).rot.start + 154272 ≤ s.cyc → calFails m = true →
    ∃ t, exec (.sliceCalibrationEnd d i m) s = .next t ∧
      (t.rfIn (sel d i)).rot.calibrated = true ∧ (t.rfIn (sel d i)).rot.failed = true ∧
      (t.rfIn (sel d i)).rot.corr = (s.rfIn (sel d i)).rot.corr ∧
      bit (t.rd Obj.CAL_STATUS (sel d i)) 17 = true ∧
      t.rd Obj.CAL_FAILURES (sel d i) = (s.inc Obj.CAL_FAILURES (sel d i)).rd Obj.CAL_FAILURES (sel d i) ∧
      t.doms = s.doms ∧ (∀ k : Nat, k ≠ sel d i → t.rfIn k = s.rfIn k) ∧
      t = { s with inputs := t.inputs, regs := t.regs, dies := t.dies, nv := t.nv }) ∧
  (∀ (d i : Nat) (offset image : BitVec 16) (s : State),
    s.domOn d (domIn i) = true →
    (s.retiredSlice (sel d i) = none ∧ 17 ≤ (s.rfIn (sel d i)).rot.done) ∨
      ((s.retiredSlice (sel d i)).isSome = true ∧ (s.rfIn (sel d i)).rot.figuresAt + 2624800 ≤ s.cyc) →
    exec (.qualityFigures d i offset image) s = .next (((s.setRfIn (sel d i) { s.rfIn (sel d i) with
      rot := { (s.rfIn (sel d i)).rot with done := 0, figuresAt := s.cyc } }).wr Obj.SPUR_OFFSET (sel d i)
        (offset.setWidth 72)).wr Obj.SPUR_IMAGE (sel d i) (image.setWidth 72))) ∧
  (∀ (d i v : Nat) (s : State),
    s.retiredSlice (sel d i) = some v →
    ∃ t, exec (.sliceRestore d i v) s = .next t ∧
      t.retiredSlice (sel d i) = none ∧ (t.rfIn (sel d i)).rot.begun = false ∧ (t.rfIn (sel d i)).rot.out = v ∧
      (t.rfIn (sel d i)).rot.step = 0 ∧ (∀ k : Nat, k ≠ sel d i → t.rfIn k = s.rfIn k) ∧
      t = { s with inputs := t.inputs, nv := t.nv }) ∧
  (∀ (d i v : Nat) (s : State),
    s.retiredSlice (sel d i) ≠ some v → exec (.sliceRestore d i v) s = .next s) ∧
  (∀ (d i : Nat) (s : State), exec (.calHoldSet d i) s = .next (s.wrN Obj.CAL_CONTROL (sel d i) 1)) ∧
  (∀ (d i : Nat) (s : State), exec (.calHoldClear d i) s = .next (s.wrN Obj.CAL_CONTROL (sel d i) 0))

/-- R234 to R238 for the wire checks. That a negative resistance lies outside the measurable range is the model's
choice (log 63), and the rounding of WIRE_RESISTANCE is free (log 11). -/
def Obligations.WireChecks : Prop :=
  (∀ (d i : Nat) (s : State),
    (s.rfIn (sel d i)).wire.waiting = false → s.wireRuns (sel d i) = false → (s.rfIn (sel d i)).mode ≠ 1 →
    exec (.wireStart d i) s = .next (s.setRfIn (sel d i) { s.rfIn (sel d i) with
      wire := { (s.rfIn (sel d i)).wire with waiting := true } })) ∧
  (∀ (d i : Nat) (s : State),
    (s.rfIn (sel d i)).wire.waiting = false → s.wireRuns (sel d i) = false → (s.rfIn (sel d i)).mode ≠ 1 →
    0 < bits (s.rd Obj.WIRE_CONFIG (sel d i)) 23 8 →
    (s.rfIn (sel d i)).wire.ended.toNat + bits (s.rd Obj.WIRE_CONFIG (sel d i)) 23 8 * 1250000000 ≤ s.now →
    exec (.wireCheckAuto d i) s = .next (s.setRfIn (sel d i) { s.rfIn (sel d i) with
      wire := { (s.rfIn (sel d i)).wire with waiting := true } })) ∧
  (∀ (d i : Nat) (s : State),
    i < 8 → (s.rfIn (sel d i)).wire.waiting = false → s.wireRuns (sel d i) = false → (s.rfIn (sel d i)).mode = 1 →
    exec (.wireStart d i) s = .next (((s.setRfIn (sel d i) { s.rfIn (sel d i) with
      wire := { ended := s.clock.now } }).wrN Obj.WIRE_RESULT (sel d i) 4).raise d (179 + 2 * i))) ∧
  (∀ (d i : Nat) (s : State),
    i < 8 → (s.rfIn (sel d i)).wire.waiting = false → s.wireRuns (sel d i) = false → (s.rfIn (sel d i)).mode = 1 →
    0 < bits (s.rd Obj.WIRE_CONFIG (sel d i)) 23 8 →
    (s.rfIn (sel d i)).wire.ended.toNat + bits (s.rd Obj.WIRE_CONFIG (sel d i)) 23 8 * 1250000000 ≤ s.now →
    exec (.wireCheckAuto d i) s = .next (((s.setRfIn (sel d i) { s.rfIn (sel d i) with
      wire := { ended := s.clock.now } }).wrN Obj.WIRE_RESULT (sel d i) 4).raise d (179 + 2 * i))) ∧
  (∀ (d i : Nat) (s : State),
    (s.rfIn (sel d i)).wire.waiting = true ∨ s.wireRuns (sel d i) = true → exec (.wireStart d i) s = .next s) ∧
  (∀ (d i : Nat) (s : State),
    (s.rfIn (sel d i)).wire.waiting = false → s.wireRuns (sel d i) = false → exec (.wireCancel d i) s = .next s) ∧
  (∀ (d i : Nat) (s : State),
    i < 8 → (s.rfIn (sel d i)).wire.waiting = true ∨ s.wireRuns (sel d i) = true →
    exec (.wireCancel d i) s = .next (((s.setRfIn (sel d i) { s.rfIn (sel d i) with
      wire := { ended := s.clock.now } }).wrN Obj.WIRE_RESULT (sel d i) 5).raise d (179 + 2 * i))) ∧
  (∀ (d i : Nat) (s : State),
    (s.rfIn (sel d i)).wire.waiting = true → s.atRound d = true → (s.rfIn (sel d i)).mode = 0 →
    s.domOn d (domIn i) = true → s.windowOpen d i = false →
    (∀ j : Nat, j < 16 → (s.demod (sel d (16 * i + j))).opensNow s.now = false) →
    exec (.wireCheckBegin d i) s = .next (s.setRfIn (sel d i) { s.rfIn (sel d i) with
      wire := { (s.rfIn (sel d i)).wire with
        waiting := false, round := 1, current := if bit (s.rd Obj.WIRE_CONFIG (sel d i)) 0 then 10 else 1,
        amps := if bit (s.rd Obj.WIRE_CONFIG (sel d i)) 0 then 10 else 1, at_ := s.cyc, beyond := false } })) ∧
  (∀ (d i : Nat) (v : Int) (s : State),
    s.atRound d = true → s.wireRuns (sel d i) = true → (s.rfIn (sel d i)).wire.beyond = false →
    (s.rfIn (sel d i)).wire.at_ + 2 ≤ s.cyc →
    ∃ t, exec (.wireCheckRound d i v) s = .next t ∧
      (t.rfIn (sel d i)).wire.at_ = s.cyc ∧
      ((s.rfIn (sel d i)).wire.round = 1 → (t.rfIn (sel d i)).wire.round = 2 ∧
        (t.rfIn (sel d i)).wire.current = (s.rfIn (sel d i)).wire.current) ∧
      ((s.rfIn (sel d i)).wire.round = 2 → (t.rfIn (sel d i)).wire.round = 3 ∧ (t.rfIn (sel d i)).wire.vPlus = v ∧
        (t.rfIn (sel d i)).wire.current = -(s.rfIn (sel d i)).wire.current) ∧
      ((s.rfIn (sel d i)).wire.round = 3 → (t.rfIn (sel d i)).wire.round = 4 ∧
        (t.rfIn (sel d i)).wire.current = (s.rfIn (sel d i)).wire.current) ∧
      ((s.rfIn (sel d i)).wire.round = 4 → (t.rfIn (sel d i)).wire.vMinus = v ∧
        (t.rfIn (sel d i)).wire.current = 0 ∧ (t.rfIn (sel d i)).wire.beyond = true) ∧
      (∀ k : Nat, k ≠ sel d i → t.rfIn k = s.rfIn k) ∧ t = { s with inputs := t.inputs }) ∧
  (∀ (d i tol : Nat) (v den want : Int) (beyond opened short : Bool) (s : State),
    i < 8 → (s.rfIn (sel d i)).wire.beyond = true → tol = bits (s.rd Obj.WIRE_CONFIG (sel d i)) 7 1 → 0 < tol →
      tol ≤ 100 →
    v = (s.rfIn (sel d i)).wire.vPlus - (s.rfIn (sel d i)).wire.vMinus → den = 20 * (s.rfIn (sel d i)).wire.amps →
    want = s.rdN Obj.WIRE_EXPECTED (sel d i) →
    beyond = (decide (v < 0) ||
      decide ((if (s.rfIn (sel d i)).wire.amps = 10 then 50000 else 500000 : Int) * den < v)) →
    opened = (beyond || decide (want * (100 + tol) * den < v * 100)) →
    short = decide (v * 100 < want * (100 - (tol : Int)) * den) →
    ∃ t, exec (.wireCheckResult d i) s = .next t ∧
      t.rd Obj.WIRE_RESULT (sel d i) = (if opened then 2 else if short then 3 else 1) ∧
      t.rd Obj.WIRE_RESULT_TIME (sel d i) = s.clock.now.setWidth 72 ∧
      t.rd Obj.WIRE_RESISTANCE (sel d i) =
        word (if beyond then 0xFFFFFFFF else (roundOpen 234 v den.toNat).toNat) ∧
      (t.rfIn (sel d i)).wire = ({ ended := s.clock.now } : Wire) ∧ (∀ k : Nat, k ≠ sel d i → t.rfIn k = s.rfIn k) ∧
      t = { s with inputs := t.inputs, regs := t.regs, chans := t.chans })

/-- R36 to R39, R243, R245, R253 for OUTCOME_PORT_WRITE and SLOT_CLEAR. -/
def Obligations.SlotWritesAndClears : Prop :=
  (∀ (d p : Nat) (y : Post) (ys : List Post) (s : State),
    s.offered (d * 16 + p) 0 = y :: ys →
    exec (.outcomePortWrite d p) s = .next ((y :: ys).foldl (fun (t : State) (z : Post) => t.writeSlot d p z.slot
      z.value)
      (s.setPort (d * 16 + p) { s.port (d * 16 + p) with
        posts := (s.port (d * 16 + p)).posts.filter (fun z : Post => !(decide (z.due ≤ s.cyc) && z.src.rank == 0)),
        discAt := some s.cyc }))) ∧
  (∀ (d p : Nat) (y : Post) (s : State),
    s.offered (d * 16 + p) 0 = [] → (s.port (d * 16 + p)).discAt ≠ some s.cyc →
      (s.port (d * 16 + p)).otherAt ≠ some s.cyc →
    (List.range 4).findSome? (fun r => (s.offered (d * 16 + p) r).head?) = some y →
    exec (.outcomePortWrite d p) s = .next (((s.setPort (d * 16 + p) { s.port (d * 16 + p) with
      posts := (s.port (d * 16 + p)).posts.erase y, otherAt := some s.cyc }).freeBuffer d y.src).writeSlot d p y.slot
        y.value)) ∧
  (∀ (d p : Nat) (s : State),
    s.offered (d * 16 + p) 0 = [] →
    (s.port (d * 16 + p)).discAt = some s.cyc ∨ (s.port (d * 16 + p)).otherAt = some s.cyc ∨
      (∀ r : Nat, r < 4 → s.offered (d * 16 + p) r = []) →
    exec (.outcomePortWrite d p) s = .next s) ∧
  (∀ (d p n : Nat) (v : BitVec 8) (s : State),
    (∀ w ∈ (s.slot (sel d n)).wrote, w.1 ≠ s.cyc) →
    ((s.writeSlot d p n v).slot (sel d n)).view = SlotView.mk v true ((s.slot (sel d n)).view.gen + 1)) ∧
  (∀ (d p q n : Nat) (v : BitVec 8) (s : State),
    (s.slot (sel d n)).wrote = some (s.cyc, q) →
    ((s.writeSlot d p n v).slot (sel d n)).view =
      SlotView.mk (if p < q then (s.slot (sel d n)).view.value else v) true ((s.slot (sel d n)).view.gen + 1)) ∧
  (∀ (d p n : Nat) (v : BitVec 8) (s : State),
    (∀ k : Nat, k ≠ sel d n → (s.writeSlot d p n v).slot k = s.slot k) ∧
    s.writeSlot d p n v = { s with
      slots := (s.writeSlot d p n v).slots, regs := (s.writeSlot d p n v).regs, flight := (s.writeSlot d p n
        v).flight,
      routes := (s.writeSlot d p n v).routes }) ∧
  (∀ (d n : Nat) (s : State),
    (∀ w ∈ (s.slot (sel d n)).wrote, w.1 ≠ s.cyc) →
    ∃ t, exec (.slotClear d n) s = .next t ∧
      (t.slot (sel d n)).view = SlotView.mk 0 false (s.slot (sel d n)).view.gen ∧
      (∀ k : Nat, k ≠ sel d n → t.slot k = s.slot k) ∧
      t = { s with slots := t.slots, regs := t.regs, flight := t.flight, routes := t.routes }) ∧
  (∀ (d n p : Nat) (s : State),
    (s.slot (sel d n)).wrote = some (s.cyc, p) →
    exec (.slotClear d n) s = .next (s.setSlot (sel d n) { s.slot (sel d n) with clearing := true }))

/-- R248 to R262, R270 for subscriptions and forward entries. -/
def Obligations.Subscriptions : Prop :=
  (∀ (d n : Nat) (v : Word) (s : State),
    bits v 30 21 = 0 →
    ∃ t, exec (.subConfig d n v) s = .next t ∧
      t.rd Obj.SUB_CONFIG (sel d n) = v ∧
      t.sub (sel d n) =
        ({ stag := (s.sub (sel d n)).stag, st := if bit v 31 then t.subStart d n else SubState.off } : Sub) ∧
      ((s.sub (sel d n)).st = SubState.active ∨ (s.sub (sel d n)).st = SubState.pending ∨
          (s.sub (sel d n)).st = SubState.unreachable →
        ∃ r ∈ t.removals, r.2 = (d, n, (s.sub (sel d n)).stag)) ∧
      ((s.sub (sel d n)).st ≠ SubState.off → (t.slot (sel d n)).unreach = false) ∧
      (∀ k : Nat, (t.slot k).view = (s.slot k).view) ∧ (∀ k : Nat, k ≠ sel d n → t.slot k = s.slot k) ∧
      (∀ k : Nat, k ≠ sel d n → t.sub k = s.sub k) ∧
      (∀ id k : Nat, ¬ (id = Obj.SUB_CONFIG ∧ k = sel d n) → t.rd id k = s.rd id k) ∧
      t = { s with subs := t.subs, regs := t.regs, slots := t.slots, removals := t.removals }) ∧
  (∀ (d n : Nat) (v : Word) (s : State),
    bits v 30 21 ≠ 0 → exec (.subConfig d n v) s = .fault .hostError) ∧
  (∀ (d n : Nat) (s : State),
    (s.sub (sel d n)).st = .pending → (s.sub (sel d n)).awaited = false → n < 768 →
    (s.die (s.subDie (sel d n))).booted = true → (s.subRoute d n).isSome = true →
    s.forwardUsed (s.subDie (sel d n)) < 1024 →
    ∃ t, exec (.forwardEntryInstall (.here d n)) s = .next t ∧
      t.sub (sel d n) =
        { s.sub (sel d n) with stag := ((s.sub (sel d n)).stag + 1) % 8, awaited := true } ∧
      (∀ k : Nat, k ≠ sel d n → t.sub k = s.sub k) ∧
      t.forwards = s.forwards ++ [Forward.mk (s.subDie (sel d n)) (s.subSlot (sel d n)) none d n (((s.sub (sel d
        n)).stag + 1) % 8)] ∧
      (∃ m ∈ t.flight, m.body = MsgBody.update (Update.mk s.cyc none (s.subDie (sel d n)) (s.subSlot (sel d n)) d n
        (((s.sub (sel d n)).stag + 1) % 8) (s.slot (sel (s.subDie (sel d n)) (s.subSlot (sel d n)))).view)) ∧
      t = { s with subs := t.subs, forwards := t.forwards, regs := t.regs, flight := t.flight }) ∧
  (∀ (d n : Nat) (s : State),
    (s.sub (sel d n)).st = .pending → (s.sub (sel d n)).awaited = false → n < 768 →
    (s.die (s.subDie (sel d n))).booted = true → (s.subRoute d n).isSome = true →
    1024 ≤ s.forwardUsed (s.subDie (sel d n)) →
    exec (.forwardEntryInstall (.here d n)) s = .next (s.setSub (sel d n)
      { s.sub (sel d n) with st := .refusedFull })) ∧
  (∀ (sd ss dev d n tag : Nat) (s : State),
    s.forwardUsed sd < 1024 → sourceSlot ss = true → 768 ≤ n → (s.die sd).booted = true →
    ∃ t, exec (.forwardEntryInstall (.toOther sd ss dev d n tag)) s = .next t ∧
      t.forwards = s.forwards ++ [Forward.mk sd ss (some dev) d n tag] ∧
      t = { s with forwards := t.forwards, regs := t.regs, flight := t.flight, routes := t.routes }) ∧
  (∀ (d n : Nat) (full : Bool) (s : State),
    (s.sub (sel d n)).st = .pending → (s.sub (sel d n)).awaited = false → 768 ≤ n →
    exec (.forwardEntryInstall (.fromOther d n full)) s = .next (s.setSub (sel d n)
      (if full then { s.sub (sel d n) with st := .refusedFull }
       else { s.sub (sel d n) with stag := ((s.sub (sel d n)).stag + 1) % 8, awaited := true }))) ∧
  (∀ (d : Nat) (u : Update) (m : Msg) (s s0 : State),
    s.arrived d MsgBody.isUpdate = some (m, s0) → m.body = .update u → (s.die d).s3 = false →
    (s.sub (sel d u.mSlot)).st = .pending → (s.sub (sel d u.mSlot)).awaited = true →
      (s.sub (sel d u.mSlot)).stag = u.stag →
    (u.dev = none → u.mSlot < 768 ∧ s.subDie (sel d u.mSlot) = u.srcDie) →
    (∀ dev : Nat, u.dev = some dev → 768 ≤ u.mSlot ∧ s.subDevice (sel d u.mSlot) = dev) →
    ∃ t, exec (.mirrorUpdateReceive d) s = .next t ∧
      (t.slot (sel d u.mSlot)).view = u.view ∧ (t.slot (sel d u.mSlot)).unreach = false ∧
      (t.sub (sel d u.mSlot)).st = SubState.active ∧ (t.sub (sel d u.mSlot)).awaited = false ∧
      (∀ k : Nat, k ≠ sel d u.mSlot → t.slot k = s.slot k ∧ t.sub k = s.sub k) ∧
      t = { s with slots := t.slots, subs := t.subs, regs := t.regs, flight := s0.flight }) ∧
  (∀ (d : Nat) (u : Update) (m : Msg) (s s0 : State),
    s.arrived d MsgBody.isUpdate = some (m, s0) → m.body = .update u → (s.die d).s3 = false →
    (s.sub (sel d u.mSlot)).st = .active → (s.sub (sel d u.mSlot)).stag = u.stag →
    (u.dev = none → u.mSlot < 768 ∧ s.subDie (sel d u.mSlot) = u.srcDie) →
    (∀ dev : Nat, u.dev = some dev → 768 ≤ u.mSlot ∧ s.subDevice (sel d u.mSlot) = dev) →
    ∃ t, exec (.mirrorUpdateReceive d) s = .next t ∧
      (t.slot (sel d u.mSlot)).view =
        (if (s.slot (sel d u.mSlot)).unreach then { u.view with valid := false } else u.view) ∧
      (∀ k : Nat, k ≠ sel d u.mSlot → t.slot k = s.slot k) ∧
      t = { s with slots := t.slots, regs := t.regs, flight := s0.flight }) ∧
  (∀ (d : Nat) (u : Update) (m : Msg) (s s0 : State),
    s.arrived d MsgBody.isUpdate = some (m, s0) → m.body = .update u → (s.die d).s3 = false →
    (s.sub (sel d u.mSlot)).stag ≠ u.stag ∨ ((s.sub (sel d u.mSlot)).st ≠ .active ∧
      ((s.sub (sel d u.mSlot)).st ≠ .pending ∨ (s.sub (sel d u.mSlot)).awaited = false)) →
    exec (.mirrorUpdateReceive d) s =
      .next ((s0.inc Obj.UPDATES_DISCARDED (sel d 0)).askRemoval u.dev d u.mSlot u.stag)) ∧
  (∀ (d : Nat) (u : Update) (m : Msg) (s s0 : State),
    s.arrived d MsgBody.isUpdate = some (m, s0) → m.body = .update u → (s.die d).s3 = true →
    exec (.mirrorUpdateReceive d) s = .next (s0.inc Obj.UPDATES_DISCARDED (sel d 0))) ∧
  (∀ (dev : Option Nat) (d n tag : Nat) (s : State),
    ∃ t, exec (.forwardRemoval dev d n tag) s = .next t ∧
      (∀ f : Forward, f ∈ t.forwards ↔ f ∈ s.forwards ∧ ¬ (f.dev = dev ∧ f.mDie = d ∧ f.mSlot = n ∧ f.stag = tag)) ∧
      (∀ r ∈ s.removals, r.2 ≠ (d, n, tag) → r ∈ t.removals) ∧ (∀ r ∈ t.removals, r ∈ s.removals) ∧
      t = { s with forwards := t.forwards, removals := t.removals })

/-- R25, R256, R554 for GANGWAY_LINK_FAIL; R554, R555 for GANGWAY_SPARE_SWAP. A message is dropped at the link it
cannot cross (log 54, log 55). -/
def Obligations.GangwayFaults : Prop :=
  (∀ (d link k far : Nat) (s : State),
    link < linkCount s.member.dies → d < s.member.dies → k = d * 4 + link →
    far = farDie s.member.dies d link * 4 + farLink s.member.dies link →
    ∃ t, exec (.gangwayLinkFail d link) s = .next t ∧
      t.glink k = { s.glink k with up := false, failed := true } ∧
      t.glink far = { s.glink far with up := false, failed := true } ∧
      (∀ j : Nat, j ≠ k → j ≠ far → t.glink j = s.glink j) ∧
      (∀ p ∈ s.subs, p.2.st = SubState.active ∨ (p.2.st = SubState.pending ∧ p.2.awaited = true) →
        ((d, link) ∈ s.mirrorHops p.1 ∨ (farDie s.member.dies d link, farLink s.member.dies link) ∈ s.mirrorHops
          p.1) →
        (s.cyc + 2, selDie p.1, selUnit p.1) ∈ t.marks) ∧
      (∀ m ∈ s.marks, m ∈ t.marks) ∧
      ((s.die d).logs.length < 64 → (t.die d).logs = (s.die d).logs ++ [LogEntry.mk s.cyc 0x0C 0 d 0
        (BitVec.ofNat 32 link) (BitVec.ofNat 32 (s.rdN Obj.POWER_ON_SECONDS 0)) (BitVec.ofNat 16 (s.rdN
          Obj.POWER_CYCLES 0))]) ∧
      (64 ≤ (s.die d).logs.length → (t.die d).logsLost = (s.die d).logsLost + 1) ∧
      t = { s with glinks := t.glinks, marks := t.marks, dies := t.dies, regs := t.regs }) ∧
  (∀ (d link : Nat) (s : State),
    linkCount s.member.dies ≤ link ∨ s.member.dies ≤ d → exec (.gangwayLinkFail d link) s = .next s) ∧
  (∀ (d link group : Nat) (s : State),
    (s.glink (d * 4 + link)).spared.length < 4 → ¬ group ∈ (s.glink (d * 4 + link)).spared → group < 40 →
    exec (.gangwaySpareSwap d link group) s = .next ((s.setGlink (d * 4 + link) { s.glink (d * 4 + link) with
      spared := (s.glink (d * 4 + link)).spared ++ [group] }).log d 0x0B 2 0
        (link + 4 * group + 256 * (s.glink (d * 4 + link)).spared.length))) ∧
  (∀ (d link group : Nat) (s : State),
    4 ≤ (s.glink (d * 4 + link)).spared.length ∨ group ∈ (s.glink (d * 4 + link)).spared ∨ 40 ≤ group →
    exec (.gangwaySpareSwap d link group) s = .next s)

/-- R279 for when values are seen, R282 for the operations, R284 and R286 for the flags. That a command of an
instruction carries it out at its stage 3 is the model's choice (log 21). -/
def Obligations.DspArithmetic : Prop :=
  (∀ (d k : Nat) (e : Ecc) (w : BitVec 36) (y : Dsp) (s : State),
    y = (s.dsp (sel d k)).begin → y.stepping = false → dspIssues s d k 0x00 e w = true →
    stray w 0 = false →
    ∃ t, exec (.dspNop d k e) s = .next t ∧ DspRan (dspCounted s d k e) t d k y []) ∧
  (∀ (d k : Nat) (e : Ecc) (w : BitVec 36) (y : Dsp) (s : State),
    y = (s.dsp (sel d k)).begin → y.stepping = false → dspIssues s d k 0x0A e w = true →
    stray w (fld 29 26 + fld 15 0) = false →
    ∃ t, exec (.dspLdi d k e) s = .next t ∧
      DspRan (dspCounted s d k e) t d k y [⟨1, bits w 29 26, 0xFFFF, bits w 15 0⟩]) ∧
  (∀ (d k : Nat) (e : Ecc) (w : BitVec 36) (y : Dsp) (s : State),
    y = (s.dsp (sel d k)).begin → y.stepping = false → dspIssues s d k 0x0B e w = true →
    stray w (fld 29 22) = false →
    ∃ t, exec (.dspMov d k e) s = .next t ∧
      DspRan (dspCounted s d k e) t d k y [⟨1, bits w 29 26, 0xFFFF, y.get (bits w 25 22)⟩]) ∧
  (∀ (d k : Nat) (e : Ecc) (w : BitVec 36) (y : Dsp) (a b r : Nat) (s : State),
    y = (s.dsp (sel d k)).begin → y.stepping = false → dspIssues s d k 0x10 e w = true →
    stray w aluMask = false →
    a = y.get (bits w 25 22) % 65536 → b = y.get (bits w 21 18) % 65536 → r = (a + b) % 65536 →
    ∃ t, exec (.dspAdd d k e) s = .next t ∧
      DspRan (dspCounted s d k e) t d k y (aluWrites (bits w 29 26) r 15 (flagBits (r == 0) (decide (32768 ≤ r))
      (decide (65536 ≤ a + b)) (signed 16 r != signed 16 a + signed 16 b)))) ∧
  (∀ (d k : Nat) (e : Ecc) (w : BitVec 36) (y : Dsp) (a b r : Nat) (s : State),
    y = (s.dsp (sel d k)).begin → y.stepping = false → dspIssues s d k 0x11 e w = true →
    stray w aluMask = false →
    a = y.get (bits w 25 22) % 65536 → b = y.get (bits w 21 18) % 65536 → r = (a + 65536 - b) % 65536 →
    ∃ t, exec (.dspSub d k e) s = .next t ∧
      DspRan (dspCounted s d k e) t d k y (aluWrites (bits w 29 26) r 15 (flagBits (r == 0) (decide (32768 ≤ r))
      (decide (b ≤ a)) (signed 16 r != signed 16 a - signed 16 b)))) ∧
  (∀ (d k : Nat) (e : Ecc) (w : BitVec 36) (y : Dsp) (a b r : Nat) (s : State),
    y = (s.dsp (sel d k)).begin → y.stepping = false → dspIssues s d k 0x18 e w = true →
    stray w (fld 25 18) = false →
    a = y.get (bits w 25 22) % 65536 → b = y.get (bits w 21 18) % 65536 → r = (a + 65536 - b) % 65536 →
    ∃ t, exec (.dspCmp d k e) s = .next t ∧
      DspRan (dspCounted s d k e) t d k y
      [⟨3, DspReg.ST, 15, (flagBits (r == 0) (decide (32768 ≤ r)) (decide (b ≤ a)) (signed 16 r != signed 16 a - signed
      16 b))⟩]) ∧
  (∀ (d k : Nat) (e : Ecc) (w : BitVec 36) (y : Dsp) (a b r : Nat) (s : State),
    y = (s.dsp (sel d k)).begin → y.stepping = false → dspIssues s d k 0x1A e w = true →
    stray w immMask = false →
    a = y.get (bits w 25 22) % 65536 → b = bits w 15 0 → r = (a + b) % 65536 →
    ∃ t, exec (.dspAddi d k e) s = .next t ∧
      DspRan (dspCounted s d k e) t d k y (aluWrites (bits w 29 26) r 15 (flagBits (r == 0) (decide (32768 ≤ r))
      (decide (65536 ≤ a + b)) (signed 16 r != signed 16 a + signed 16 b)))) ∧
  (∀ (d k : Nat) (e : Ecc) (w : BitVec 36) (y : Dsp) (r : Nat) (s : State),
    y = (s.dsp (sel d k)).begin → y.stepping = false → dspIssues s d k 0x12 e w = true →
    stray w aluMask = false →
    r = y.get (bits w 25 22) &&& y.get (bits w 21 18) →
    ∃ t, exec (.dspAnd d k e) s = .next t ∧
      DspRan (dspCounted s d k e) t d k y (aluWrites (bits w 29 26) r 15 (flagBits (r == 0) (r.testBit 15) false
      false))) ∧
  (∀ (d k : Nat) (e : Ecc) (w : BitVec 36) (y : Dsp) (r : Nat) (s : State),
    y = (s.dsp (sel d k)).begin → y.stepping = false → dspIssues s d k 0x13 e w = true →
    stray w aluMask = false →
    r = y.get (bits w 25 22) ||| y.get (bits w 21 18) →
    ∃ t, exec (.dspOr d k e) s = .next t ∧
      DspRan (dspCounted s d k e) t d k y (aluWrites (bits w 29 26) r 15 (flagBits (r == 0) (r.testBit 15) false
      false))) ∧
  (∀ (d k : Nat) (e : Ecc) (w : BitVec 36) (y : Dsp) (r : Nat) (s : State),
    y = (s.dsp (sel d k)).begin → y.stepping = false → dspIssues s d k 0x14 e w = true →
    stray w aluMask = false →
    r = y.get (bits w 25 22) ^^^ y.get (bits w 21 18) →
    ∃ t, exec (.dspXor d k e) s = .next t ∧
      DspRan (dspCounted s d k e) t d k y (aluWrites (bits w 29 26) r 15 (flagBits (r == 0) (r.testBit 15) false
      false))) ∧
  (∀ (d k : Nat) (e : Ecc) (w : BitVec 36) (y : Dsp) (r : Nat) (s : State),
    y = (s.dsp (sel d k)).begin → y.stepping = false → dspIssues s d k 0x1B e w = true →
    stray w immMask = false →
    r = y.get (bits w 25 22) &&& bits w 15 0 →
    ∃ t, exec (.dspAndi d k e) s = .next t ∧
      DspRan (dspCounted s d k e) t d k y (aluWrites (bits w 29 26) r 15 (flagBits (r == 0) (r.testBit 15) false
      false))) ∧
  (∀ (d k : Nat) (e : Ecc) (w : BitVec 36) (y : Dsp) (r : Nat) (s : State),
    y = (s.dsp (sel d k)).begin → y.stepping = false → dspIssues s d k 0x1C e w = true →
    stray w immMask = false →
    r = y.get (bits w 25 22) ||| bits w 15 0 →
    ∃ t, exec (.dspOri d k e) s = .next t ∧
      DspRan (dspCounted s d k e) t d k y (aluWrites (bits w 29 26) r 15 (flagBits (r == 0) (r.testBit 15) false
      false))) ∧
  (∀ (d k : Nat) (e : Ecc) (w : BitVec 36) (y : Dsp) (r : Nat) (s : State),
    y = (s.dsp (sel d k)).begin → y.stepping = false → dspIssues s d k 0x1D e w = true →
    stray w immMask = false →
    r = y.get (bits w 25 22) ^^^ bits w 15 0 →
    ∃ t, exec (.dspXori d k e) s = .next t ∧
      DspRan (dspCounted s d k e) t d k y (aluWrites (bits w 29 26) r 15 (flagBits (r == 0) (r.testBit 15) false
      false))) ∧
  (∀ (d k : Nat) (e : Ecc) (w : BitVec 36) (y : Dsp) (a n r : Nat) (s : State),
    y = (s.dsp (sel d k)).begin → y.stepping = false → dspIssues s d k 0x15 e w = true →
    stray w shiftMask = false →
    y.get (bits w 25 22) < 65536 → a = y.get (bits w 25 22) % 65536 → n = bits w 17 14 → r = a * 2 ^ n % 65536 →
    ∃ t, exec (.dspShl d k e) s = .next t ∧
      DspRan (dspCounted s d k e) t d k y (aluWrites (bits w 29 26) r (if n = 0 then 3 else 7) (flagBits (r == 0)
      (decide (32768 ≤ r)) (decide (0 < n) && a / 2 ^ (16 - n) % 2 == 1) false))) ∧
  (∀ (d k : Nat) (e : Ecc) (w : BitVec 36) (y : Dsp) (a n r : Nat) (s : State),
    y = (s.dsp (sel d k)).begin → y.stepping = false → dspIssues s d k 0x16 e w = true →
    stray w shiftMask = false →
    y.get (bits w 25 22) < 65536 → a = y.get (bits w 25 22) % 65536 → n = bits w 17 14 → r = a / 2 ^ n →
    ∃ t, exec (.dspShr d k e) s = .next t ∧
      DspRan (dspCounted s d k e) t d k y (aluWrites (bits w 29 26) r (if n = 0 then 3 else 7) (flagBits (r == 0)
      (decide (32768 ≤ r)) (decide (0 < n) && a / 2 ^ (n - 1) % 2 == 1) false))) ∧
  (∀ (d k : Nat) (e : Ecc) (w : BitVec 36) (y : Dsp) (a n r : Nat) (s : State),
    y = (s.dsp (sel d k)).begin → y.stepping = false → dspIssues s d k 0x17 e w = true →
    stray w shiftMask = false →
    y.get (bits w 25 22) < 65536 → a = y.get (bits w 25 22) % 65536 → n = bits w 17 14 →
      r = (signed 16 a / 2 ^ n % 65536).toNat →
    ∃ t, exec (.dspAsr d k e) s = .next t ∧
      DspRan (dspCounted s d k e) t d k y (aluWrites (bits w 29 26) r (if n = 0 then 3 else 7) (flagBits (r == 0)
      (decide (32768 ≤ r)) (decide (0 < n) && a / 2 ^ (n - 1) % 2 == 1) false))) ∧
  (∀ (d k : Nat) (e : Ecc) (w : BitVec 36) (y : Dsp) (r : Nat) (s : State),
    y = (s.dsp (sel d k)).begin → y.stepping = false → dspIssues s d k 0x19 e w = true →
    stray w aluMask = false →
    r = ((List.range 16).filter (fun i => (y.get (bits w 25 22) &&& y.get (bits w 21 18)).testBit i)).length % 2 →
    ∃ t, exec (.dspPar d k e) s = .next t ∧
      DspRan (dspCounted s d k e) t d k y (aluWrites (bits w 29 26) r 1 (b2n (r == 0)))) ∧
  (∀ (d k : Nat) (e : Ecc) (w : BitVec 36) (y : Dsp) (a b r : Nat) (s : State),
    y = (s.dsp (sel d k)).begin → y.stepping = false → dspIssues s d k 0x1E e w = true →
    stray w aluMask = false →
    bits w 26 26 = 0 → bits w 22 22 = 0 → bits w 18 18 = 0 → a = y.pair (bits w 25 22) % 4294967296 →
      b = y.pair (bits w 21 18) % 4294967296 → r = (a + b) % 4294967296 →
    ∃ t, exec (.dspAdd32 d k e) s = .next t ∧
      DspRan (dspCounted s d k e) t d k y [⟨1, bits w 29 26, 0xFFFF, r % 65536⟩,
      ⟨1, bits w 29 26 + 1, 0xFFFF, r / 65536⟩,
      ⟨3, DspReg.ST, 15, flagBits (r == 0) (decide (2147483648 ≤ r)) (decide (4294967296 ≤ a + b)) (signed 32 r != signed
      32 a + signed 32 b)⟩]) ∧
  (∀ (d k : Nat) (e : Ecc) (w : BitVec 36) (y : Dsp) (a b r : Nat) (s : State),
    y = (s.dsp (sel d k)).begin → y.stepping = false → dspIssues s d k 0x1F e w = true →
    stray w aluMask = false →
    bits w 26 26 = 0 → bits w 22 22 = 0 → bits w 18 18 = 0 → a = y.pair (bits w 25 22) % 4294967296 →
      b = y.pair (bits w 21 18) % 4294967296 → r = (a + 4294967296 - b) % 4294967296 →
    ∃ t, exec (.dspSub32 d k e) s = .next t ∧
      DspRan (dspCounted s d k e) t d k y [⟨1, bits w 29 26, 0xFFFF, r % 65536⟩,
      ⟨1, bits w 29 26 + 1, 0xFFFF, r / 65536⟩,
      ⟨3, DspReg.ST, 15, flagBits (r == 0) (decide (2147483648 ≤ r)) (decide (b ≤ a)) (signed 32 r != signed 32 a - signed
      32 b)⟩])

/-- R282 and R286 for the results, R284 for SATA, RND and SV, R279 for when a value is seen. -/
def Obligations.DspAccumulators : Prop :=
  (∀ (d k : Nat) (e : Ecc) (w : BitVec 36) (y : Dsp) (s : State),
    y = (s.dsp (sel d k)).begin → y.stepping = false → dspIssues s d k 0x20 e w = true →
    stray w (fld 29 20) = false →
    ∃ t, exec (.dspMpy d k e) s = .next t ∧
      DspRan (dspCounted s d k e) t d k y (accWrites (bits w 29 28) (y.get DspReg.ST / 2048 % 2 == 1) (signed 16
      (y.get (bits w 27 24)) * signed 16 (y.get (bits w 23 20))))) ∧
  (∀ (d k : Nat) (e : Ecc) (w : BitVec 36) (y : Dsp) (s : State),
    y = (s.dsp (sel d k)).begin → y.stepping = false → dspIssues s d k 0x21 e w = true →
    stray w (fld 29 20) = false →
    ∃ t, exec (.dspMac d k e) s = .next t ∧
      DspRan (dspCounted s d k e) t d k y (accWrites (bits w 29 28) (y.get DspReg.ST / 2048 % 2 == 1) (signed 40
      (y.latest (DspReg.A + bits w 29 28)) + signed 16 (y.get (bits w 27 24)) * signed 16 (y.get (bits w 23 20))))) ∧
  (∀ (d k : Nat) (e : Ecc) (w : BitVec 36) (y : Dsp) (s : State),
    y = (s.dsp (sel d k)).begin → y.stepping = false → dspIssues s d k 0x22 e w = true →
    stray w (fld 29 20) = false →
    ∃ t, exec (.dspMsu d k e) s = .next t ∧
      DspRan (dspCounted s d k e) t d k y (accWrites (bits w 29 28) (y.get DspReg.ST / 2048 % 2 == 1) (signed 40
      (y.latest (DspReg.A + bits w 29 28)) - signed 16 (y.get (bits w 27 24)) * signed 16 (y.get (bits w 23 20))))) ∧
  (∀ (d k : Nat) (e : Ecc) (w : BitVec 36) (y : Dsp) (s : State),
    y = (s.dsp (sel d k)).begin → y.stepping = false → dspIssues s d k 0x24 e w = true →
    stray w (fld 29 28) = false →
    ∃ t, exec (.dspClra d k e) s = .next t ∧
      DspRan (dspCounted s d k e) t d k y (accWrites (bits w 29 28) (y.get DspReg.ST / 2048 % 2 == 1) (0))) ∧
  (∀ (d k : Nat) (e : Ecc) (w : BitVec 36) (y : Dsp) (s : State),
    y = (s.dsp (sel d k)).begin → y.stepping = false → dspIssues s d k 0x25 e w = true →
    stray w (fld 29 28 + fld 5 0) = false →
    ∃ t, exec (.dspSha d k e) s = .next t ∧
      DspRan (dspCounted s d k e) t d k y (accWrites (bits w 29 28) (y.get DspReg.ST / 2048 % 2 == 1) (if bits w 5 0
      < 32 then signed 40 (y.latest (DspReg.A + bits w 29 28)) * 2 ^ bits w 5 0 else signed 40 (y.latest (DspReg.A +
      bits w 29 28)) / 2 ^ (64 - bits w 5 0)))) ∧
  (∀ (d k : Nat) (e : Ecc) (w : BitVec 36) (y : Dsp) (s : State),
    y = (s.dsp (sel d k)).begin → y.stepping = false → dspIssues s d k 0x27 e w = true →
    stray w (fld 29 24) = false →
    bits w 24 24 = 0 →
    ∃ t, exec (.dspLdac d k e) s = .next t ∧
      DspRan (dspCounted s d k e) t d k y (accWrites (bits w 29 28) (y.get DspReg.ST / 2048 % 2 == 1) (signed 32
      (y.pair (bits w 27 24))))) ∧
  (∀ (d k : Nat) (e : Ecc) (w : BitVec 36) (y : Dsp) (s : State),
    y = (s.dsp (sel d k)).begin → y.stepping = false → dspIssues s d k 0x28 e w = true →
    stray w (fld 29 26) = false →
    ∃ t, exec (.dspAdda d k e) s = .next t ∧
      DspRan (dspCounted s d k e) t d k y (accWrites (bits w 29 28) (y.get DspReg.ST / 2048 % 2 == 1) (signed 40
      (y.latest (DspReg.A + bits w 29 28)) + signed 40 (y.latest (DspReg.A + bits w 27 26))))) ∧
  (∀ (d k : Nat) (e : Ecc) (w : BitVec 36) (y : Dsp) (s : State),
    y = (s.dsp (sel d k)).begin → y.stepping = false → dspIssues s d k 0x29 e w = true →
    stray w (fld 29 26) = false →
    ∃ t, exec (.dspSuba d k e) s = .next t ∧
      DspRan (dspCounted s d k e) t d k y (accWrites (bits w 29 28) (y.get DspReg.ST / 2048 % 2 == 1) (signed 40
      (y.latest (DspReg.A + bits w 29 28)) - signed 40 (y.latest (DspReg.A + bits w 27 26))))) ∧
  (∀ (d k : Nat) (e : Ecc) (w : BitVec 36) (y : Dsp) (v : Int) (s : State),
    y = (s.dsp (sel d k)).begin → y.stepping = false → dspIssues s d k 0x26 e w = true →
    stray w (fld 29 24 + fld 4 0) = false →
    y.get DspReg.ST / 4096 % 4 < 3 →
      v = rounded (y.get DspReg.ST / 4096 % 4) (signed 40 (y.get (DspReg.A + bits w 25 24))) (bits w 4 0) →
    ∃ t, exec (.dspSta d k e) s = .next t ∧
      DspRan (dspCounted s d k e) t d k y
      (⟨1, bits w 29 26, 0xFFFF, (if v < -2 ^ 15 then 2 ^ 15 else if 2 ^ 15 ≤ v then 2 ^ 15 - 1 else (v % 2 ^ 16).toNat)⟩
      :: svWrites (decide (v < -2 ^ 15) || decide (2 ^ 15 ≤ v)))) ∧
  (∀ (d k : Nat) (e : Ecc) (w : BitVec 36) (y : Dsp) (v : Int) (r : Nat) (s : State),
    y = (s.dsp (sel d k)).begin → y.stepping = false → dspIssues s d k 0x2A e w = true →
    stray w (fld 29 24 + fld 4 0) = false →
    bits w 26 26 = 0 → y.get DspReg.ST / 4096 % 4 < 3 →
      v = rounded (y.get DspReg.ST / 4096 % 4) (signed 40 (y.get (DspReg.A + bits w 25 24))) (bits w 4 0) →
      r = (if v < -2 ^ 31 then 2 ^ 31 else if 2 ^ 31 ≤ v then 2 ^ 31 - 1 else (v % 2 ^ 32).toNat) →
    ∃ t, exec (.dspStap d k e) s = .next t ∧
      DspRan (dspCounted s d k e) t d k y (⟨1, bits w 29 26, 0xFFFF, r % 65536⟩ ::
      ⟨1, bits w 29 26 + 1, 0xFFFF, r / 65536⟩ :: svWrites (decide (v < -2 ^ 31) || decide (2 ^ 31 ≤ v))))

/-- R280, R285, R292 and R293 for the flow; R291 for outputs; R294 and R302 for WAIT and HALT; R304 for an
uncorrectable program word. The engine's own view of FLAGS after FLAG, and the cycle in which HALT and an error halt
the engine, are the model's reading (log 21). -/
def Obligations.DspProgramFlow : Prop :=
  (∀ (d k : Nat) (e : Ecc) (w : BitVec 36) (y : Dsp) (cc st target : Nat) (mail taken : Bool) (s : State),
    y = (s.dsp (sel d k)).begin → y.stepping = false → dspIssues s d k 0x01 e w = true → dspFree s d k = true →
      stray w (fld 29 25 + fld 12 0) = false → cc = bits w 29 25 → target = bits w 12 0 → st = y.get DspReg.ST →
      cc ≤ 16 → mail = y.mbox.any (fun m => decide (m.from_ ≤ s.cyc)) →
      taken = [true, bit (word st) 0, !bit (word st) 0, bit (word st) 1, !bit (word st) 1, bit (word st) 2, !bit
      (word st) 2,
      bit (word st) 3, !bit (word st) 3, bit (word st) 1 != bit (word st) 3, bit (word st) 1 == bit (word st) 3,
      bit (word st) 0 || bit (word st) 1 != bit (word st) 3, !bit (word st) 0 && bit (word st) 1 == bit (word st) 3,
      mail, !mail, bit (word st) 10, !bit (word st) 10].getD cc false →
    ∃ t, exec (.dspBr d k e) s = .next t ∧
      DspRan (dspCounted s d k e) t d k
      { y with flow := { y.flow with br := some (3, if taken then some target else none) } } [] ∧
      (t.dsp (sel d k)).flow.pc = (y.flow.pc + 1) % 8192 ∧
      (t.dsp (sel d k)).flow.next.next.pc =
        if taken then target else (((y.flow.pc + 1) % 8192 + 1) % 8192 + 1) % 8192) ∧
  (∀ (d k : Nat) (e : Ecc) (w : BitVec 36) (y : Dsp) (s : State),
    y = (s.dsp (sel d k)).begin → y.stepping = false → dspIssues s d k 0x02 e w = true → dspFree s d k = true →
      stray w (fld 12 0) = false → y.sp < 8 →
    ∃ t, exec (.dspCall d k e) s = .next t ∧
      DspRan (dspCounted s d k e) t d k
      { y with sp := y.sp + 1, rs := put 0 y.rs y.sp ((y.flow.pc + 3) % 8192), flow := { y.flow with br := some (3, some (bits w 12 0)) } }
      [] ∧
      (t.dsp (sel d k)).flow.next.next.pc = bits w 12 0) ∧
  (∀ (d k : Nat) (e : Ecc) (w : BitVec 36) (y : Dsp) (s : State),
    y = (s.dsp (sel d k)).begin → y.stepping = false → dspIssues s d k 0x02 e w = true → dspFree s d k = true →
      stray w (fld 12 0) = false → 8 ≤ y.sp →
    ∃ t, exec (.dspCall d k e) s = .next t ∧
      DspRan ((dspCounted s d k e).setBit Obj.DSP_STATUS (sel d k) 5) t d k
      { y with rs := (t.dsp (sel d k)).rs, flow := { y.flow with br := some (3, some (bits w 12 0)) } } [] ∧
      (∀ i : Nat, i < 7 → look 0 (t.dsp (sel d k)).rs i = look 0 y.rs (i + 1)) ∧
        look 0 (t.dsp (sel d k)).rs 7 = (y.flow.pc + 3) % 8192 ∧
      (t.dsp (sel d k)).flow.next.next.pc = bits w 12 0 ∧
      bit (t.rd Obj.DSP_STATUS (sel d k)) 5 = true) ∧
  (∀ (d k : Nat) (e : Ecc) (w : BitVec 36) (y : Dsp) (a : Nat) (s : State),
    y = (s.dsp (sel d k)).begin → y.stepping = false → dspIssues s d k 0x03 e w = true → dspFree s d k = true →
      stray w 0 = false → y.sp ≠ 0 → a = look 0 y.rs (y.sp - 1) →
    ∃ t, exec (.dspRet d k e) s = .next t ∧
      DspRan (dspCounted s d k e) t d k { y with sp := y.sp - 1, flow := { y.flow with br := some (3, some a) } } [] ∧
      (t.dsp (sel d k)).flow.next.next.pc = a) ∧
  (∀ (d k : Nat) (e : Ecc) (w : BitVec 36) (y : Dsp) (s : State),
    y = (s.dsp (sel d k)).begin → y.stepping = false → dspIssues s d k 0x03 e w = true → dspFree s d k = true →
      stray w 0 = false → y.sp = 0 →
    ∃ t, exec (.dspRet d k e) s = .next t ∧
      DspRan ((dspCounted s d k e).setBit Obj.DSP_STATUS (sel d k) 6) t d k
      { y with flow := { y.flow with br := some (3, none) } } [] ∧
      (t.dsp (sel d k)).flow.next.next.pc = (((y.flow.pc + 1) % 8192 + 1) % 8192 + 1) % 8192 ∧
        bit (t.rd Obj.DSP_STATUS (sel d k)) 6 = true) ∧
  (∀ (d k : Nat) (e : Ecc) (w : BitVec 36) (y : Dsp) (s : State),
    y = (s.dsp (sel d k)).begin → y.stepping = false → dspIssues s d k 0x04 e w = true → dspFree s d k = true →
      stray w 0 = false →
    ∃ t, exec (.dspReti d k e) s = .next t ∧
      DspRan (dspCounted s d k e) t d k
      { y with retiDue := true, flow := { y.flow with br := some (3, some (y.get DspReg.IPC % 8192)) } } [] ∧
      (t.dsp (sel d k)).flow.next.next.pc = y.get DspReg.IPC % 8192) ∧
  (∀ (d k : Nat) (e : Ecc) (w : BitVec 36) (y : Dsp) (s : State),
    y = (s.dsp (sel d k)).begin → y.stepping = false → dspIssues s d k 0x00 e w = true →
      (s.dsp (sel d k)).retiDue = true → y.flow.br = none → stray w 0 = false →
    ∃ t, exec (.dspNop d k e) s = .next t ∧ (∀ n : Nat, y.num < n →
      (t.dsp (sel d k)).sees n DspReg.ST = (s.dsp (sel d k)).get DspReg.IST &&& 0xFFEF) ∧
      (t.dsp (sel d k)).retiDue = false) ∧
  (∀ (d k : Nat) (e : Ecc) (w : BitVec 36) (y : Dsp) (c : Nat) (s : State),
    y = (s.dsp (sel d k)).begin → y.stepping = false → dspIssues s d k 0x05 e w = true → dspFree s d k = true →
      stray w (fld 29 19 + fld 11 0) = false →
      c = (if bits w 23 23 = 1 then y.get (bits w 22 19) % 4096 else bits w 11 0) →
    ∃ t, exec (.dspRepeat d k e) s = .next t ∧
      DspRan (dspCounted s d k e) t d k
      { y with pend := y.pend.filter (fun p => p.reg != DspReg.LC), flow := { y.flow with lc := if c = 0 then 4096 else c, rep := some (DspRepeat.mk y.flow.pc (bits w 29 24 + 1) 0 false none) } }
      []) ∧
  (∀ (d k : Nat) (e : Ecc) (w : BitVec 36) (y : Dsp) (r : DspRepeat) (s : State),
    y = (s.dsp (sel d k)).begin → y.stepping = false → dspIssues s d k 0x00 e w = true → y.flow.br = none →
      stray w 0 = false → y.flow.rep = some r → r.begun = true → (∀ p ∈ y.pend, p.reg ≠ DspReg.LC) →
    ∃ t, exec (.dspNop d k e) s = .next t ∧ DspRan (dspCounted s d k e) t d k y [] ∧
      (t.dsp (sel d k)).flow = if r.at_ + 1 < r.len then
        { y.flow with pc := (y.flow.pc + 1) % 8192, rep := some { r with at_ := r.at_ + 1 } }
        else if r.newLc.getD y.flow.lc = 0 then { y.flow with pc := (y.flow.pc + 1) % 8192, rep := none, lc := 0 }
        else { y.flow with pc := (r.addr + 1) % 8192, lc := r.newLc.getD y.flow.lc - 1, rep := some { r with at_ := 0, newLc := none } })
          ∧
  (∀ (d k : Nat) (e : Ecc) (w : BitVec 36) (y : Dsp) (s : State),
    y = (s.dsp (sel d k)).begin → y.stepping = false → dspIssues s d k 0x06 e w = true → dspFree s d k = true →
      stray w 0 = false →
    ∃ t, exec (.dspHalt d k e) s = .next t ∧ DspStops (dspCounted s d k e) t d k y) ∧
  (∀ (d k : Nat) (e : Ecc) (w : BitVec 36) (y : Dsp) (s : State),
    y = (s.dsp (sel d k)).begin → y.stepping = false → dspIssues s d k 0x07 e w = true → dspFree s d k = true →
      stray w (fld 29 14) = false →
    ∃ t, exec (.dspWait d k e) s = .next t ∧
      (t.dsp (sel d k)).flow = { y.flow with lc := (t.dsp (sel d k)).flow.lc } ∧
      (t.dsp (sel d k)).run = y.haltReq.isNone ∧ (t.dsp (sel d k)).num = y.num + 1 ∧
        (t.dsp (sel d k)).doneAt = y.issueAt + 6 * s.dspQ d k - 1 ∧
      (t.dsp (sel d k)).wait = (if y.haltReq.isNone then some (DspWaiting.mk (bits w 29 28) (y.get (bits w 27 24))
        (bits w 23 14) s.cyc) else none) ∧
      (∀ r : Nat, r ≠ DspReg.LC → (t.dsp (sel d k)).latest r = y.latest r) ∧ (∀ j : Nat, j ≠ sel d k →
        t.dsp j = s.dsp j) ∧
      t = { (dspCounted s d k e) with
        dsps := t.dsps, later := if y.haltReq.isNone then s.later else (s.raiseAcross d (112 + 6 * k + 4)).later }) ∧
  (∀ (d k : Nat) (e : Ecc) (w : BitVec 36) (y : Dsp) (v : Nat) (s : State),
    y = (s.dsp (sel d k)).begin → y.stepping = false → dspIssues s d k 0x08 e w = true →
      stray w (fld 29 28 + fld 7 0) = false → bits w 29 28 ≤ 2 →
      v = (if bits w 29 28 = 0 then y.latest DspReg.FLAGS ||| bits w 7 0 else if bits w 29 28 = 1 then y.latest
      DspReg.FLAGS &&& (255 - bits w 7 0)
      else y.latest DspReg.FLAGS ^^^ bits w 7 0) →
    ∃ t, exec (.dspFlag d k e) s = .next t ∧
      DspRan (dspCounted s d k e) t d k
      { y with outs := y.outs ++ [(y.issueAt + 6 * s.dspQ d k - 1, DspOut.flags (BitVec.ofNat 8 v))] }
      [⟨4, DspReg.FLAGS, 255, v⟩]) ∧
  (∀ (d k : Nat) (e : Ecc) (w : BitVec 36) (y : Dsp) (s : State),
    y = (s.dsp (sel d k)).begin → y.stepping = false → dspIssues s d k 0x09 e w = true → stray w (fld 1 0) = false →
    ∃ t, exec (.dspSig d k e) s = .next t ∧
      DspRan (dspCounted s d k e) t d k
      { y with outs := y.outs ++ [(y.issueAt + 6 * s.dspQ d k - 1, DspOut.sig (bits w 1 0))] } []) ∧
  (∀ (d k : Nat) (s : State),
    s.dspReady d k = true →
    ∃ t, exec (.dspNop d k .uncorrectable) s = .next t ∧
      t = (s.dspStop d k).dspUncorr d k 0 ((s.dsp (sel d k)).flow.pc / 2) ∧
      (t.dsp (sel d k)).flow.pc = (s.dsp (sel d k)).flow.pc ∧
      (if (s.dsp (sel d k)).doneAt < s.cyc then (t.dsp (sel d k)).run = false else (t.dsp (sel d k)).ending = true)) ∧
  (∀ (d k : Nat) (e : Ecc) (w : BitVec 36) (y : Dsp) (s : State),
    y = (s.dsp (sel d k)).begin → y.stepping = true → y.flow.next.eligible = true →
    dspIssues s d k 0x00 e w = true → stray w 0 = false →
    ∃ t, exec (.dspNop d k e) s = .next t ∧ DspStops (dspCounted s d k e) t d k y)

/-- R283 for special registers, R276, R277 and R287 for data memory, R304 and R305 for its errors. -/
def Obligations.DspRegistersAndMemory : Prop :=
  (∀ (d k : Nat) (e : Ecc) (w : BitVec 36) (y : Dsp) (r : Nat) (s : State),
    y = (s.dsp (sel d k)).begin → y.stepping = false → dspIssues s d k 0x0C e w = true →
      stray w (fld 29 20) = false → r = bits w 24 20 → r ≤ 21 → bits w 25 25 = 1 →
    ∃ t, exec (.dspMvr d k e) s = .next t ∧ DspRan (dspCounted s d k e) t d k y [⟨1, bits w 29 26, 0xFFFF,
        if r = 16 then (dspCounted s d k e).lcAhead (sel d k) (s.dspQ d k) y else y.get (16 + r)⟩]) ∧
  (∀ (d k : Nat) (e : Ecc) (w : BitVec 36) (y : Dsp) (r v : Nat) (s : State),
    y = (s.dsp (sel d k)).begin → y.stepping = false → dspIssues s d k 0x0C e w = true →
      stray w (fld 29 20) = false → bits w 25 25 = 0 → r = bits w 24 20 → v = y.get (bits w 29 26) → r ≤ 20 →
      (r = 16 → y.flow.rep = none) →
    ∃ t, exec (.dspMvr d k e) s = .next t ∧
      DspRan (dspCounted s d k e) t d k y
      [⟨3, 16 + r, if r = 16 ∨ r = 18 then 0x1FFF else if r = 17 then 0xFFEF else 0xFFFF, v⟩]) ∧
  (∀ (d k : Nat) (e : Ecc) (w : BitVec 36) (y : Dsp) (r v : Nat) (s : State),
    y = (s.dsp (sel d k)).begin → y.stepping = false → dspIssues s d k 0x0C e w = true →
      stray w (fld 29 20) = false → bits w 25 25 = 0 → r = bits w 24 20 → v = y.get (bits w 29 26) → r = 21 →
    ∃ t, exec (.dspMvr d k e) s = .next t ∧
      DspRan (dspCounted s d k e) t d k
      { y with outs := y.outs ++ [(y.issueAt + 6 * s.dspQ d k - 1, DspOut.flags (BitVec.ofNat 8 v))] }
      [⟨3, DspReg.FLAGS, 0xFF, v⟩]) ∧
  (∀ (d k : Nat) (e : Ecc) (w : BitVec 36) (y : Dsp) (r v : Nat) (p : DspRepeat) (s : State),
    y = (s.dsp (sel d k)).begin → y.stepping = false → dspIssues s d k 0x0C e w = true →
      stray w (fld 29 20) = false → bits w 25 25 = 0 → r = bits w 24 20 → v = y.get (bits w 29 26) → r = 16 →
      y.flow.rep = some p →
    ∃ t, exec (.dspMvr d k e) s = .next t ∧
      DspRan (dspCounted s d k e) t d k
      { y with flow := { y.flow with rep := some { p with newLc := some (v % 8192) } } } []) ∧
  (∀ (d k : Nat) (e : Ecc) (w : BitVec 36) (y : Dsp) (r v : Nat) (s : State),
    y = (s.dsp (sel d k)).begin → y.stepping = false → dspIssues s d k 0x0D e w = true →
      stray w (fld 24 20 + fld 15 0) = false → r = bits w 24 20 → v = bits w 15 0 → r ≤ 20 → (r = 16 →
      y.flow.rep = none) →
    ∃ t, exec (.dspLdsi d k e) s = .next t ∧
      DspRan (dspCounted s d k e) t d k y
      [⟨3, 16 + r, if r = 16 ∨ r = 18 then 0x1FFF else if r = 17 then 0xFFEF else 0xFFFF, v⟩]) ∧
  (∀ (d k : Nat) (e : Ecc) (w : BitVec 36) (y : Dsp) (r v : Nat) (s : State),
    y = (s.dsp (sel d k)).begin → y.stepping = false → dspIssues s d k 0x0D e w = true →
      stray w (fld 24 20 + fld 15 0) = false → r = bits w 24 20 → v = bits w 15 0 → r = 21 →
    ∃ t, exec (.dspLdsi d k e) s = .next t ∧
      DspRan (dspCounted s d k e) t d k
      { y with outs := y.outs ++ [(y.issueAt + 6 * s.dspQ d k - 1, DspOut.flags (BitVec.ofNat 8 v))] }
      [⟨3, DspReg.FLAGS, 0xFF, v⟩]) ∧
  (∀ (d k : Nat) (e : Ecc) (w : BitVec 36) (y : Dsp) (r v : Nat) (p : DspRepeat) (s : State),
    y = (s.dsp (sel d k)).begin → y.stepping = false → dspIssues s d k 0x0D e w = true →
      stray w (fld 24 20 + fld 15 0) = false → r = bits w 24 20 → v = bits w 15 0 → r = 16 → y.flow.rep = some p →
    ∃ t, exec (.dspLdsi d k e) s = .next t ∧
      DspRan (dspCounted s d k e) t d k
      { y with flow := { y.flow with rep := some { p with newLc := some (v % 8192) } } } []) ∧
  (∀ (d k : Nat) (e m : Ecc) (w : BitVec 36) (y : Dsp) (a : Nat) (s : State),
    y = (s.dsp (sel d k)).begin → y.stepping = false → dspIssues s d k 0x0E e w = true →
      stray w (fld 29 21 + fld 14 0) = false → bits w 22 21 ≤ 2 → sel d k ∉ s.nv.dsps →
      a = (if bits w 22 21 = 2 then bits w 14 0 else y.get (DspReg.X + bits w 25 23) % 32768) → m ≠ .uncorrectable →
    ∃ t, exec (.dspLd d k e m) s = .next t ∧
      DspRan (dspCounted (dspCounted s d k e) d k m) t d k y ((if bits w 22 21 = 1 then
      [(⟨1, DspReg.X + bits w 25 23, 0xFFFF,
        (y.get (DspReg.X + bits w 25 23) + y.get (DspReg.N + bits w 25 23)) % 65536⟩ : DspWrite)] else []) ++
        [(⟨2, bits w 29 26, 0xFFFF, s.dspHalf d k a⟩ : DspWrite)])) ∧
  (∀ (d k : Nat) (e m : Ecc) (w : BitVec 36) (y : Dsp) (a : Nat) (s : State),
    y = (s.dsp (sel d k)).begin → y.stepping = false → dspIssues s d k 0x0F e w = true →
      stray w (fld 29 21 + fld 14 0) = false → bits w 22 21 ≤ 2 → sel d k ∉ s.nv.dsps →
      a = (if bits w 22 21 = 2 then bits w 14 0 else y.get (DspReg.X + bits w 25 23) % 32768) → m ≠ .uncorrectable →
    ∃ t, exec (.dspSt d k e m) s = .next t ∧
      DspNext y (t.dsp (sel d k)) (s.dspQ d k) (if bits w 22 21 = 1 then [(⟨1, DspReg.X + bits w 25 23, 0xFFFF,
        (y.get (DspReg.X + bits w 25 23) + y.get (DspReg.N + bits w 25 23)) % 65536⟩ : DspWrite)] else []) ∧
      (∀ j : Nat, j ≠ sel d k → t.dsp j = s.dsp j) ∧
      (∀ b : Nat, b < 32768 → t.dspHalf d k b = if b = a then y.get (bits w 29 26) % 65536 else s.dspHalf d k b) ∧
      (∀ id j c : Nat, ¬ (id = Obj.DSP_DATA ∧ j = sel d k ∧ c = a / 4) → t.dw id j c = s.dw id j c) ∧
      t = { (dspCounted (dspCounted s d k e) d k m) with dsps := t.dsps, doms := t.doms }) ∧
  (∀ (d k : Nat) (e : Ecc) (w : BitVec 36) (y : Dsp) (a : Nat) (s : State),
    y = (s.dsp (sel d k)).begin → y.stepping = false → dspIssues s d k 0x0E e w = true →
      stray w (fld 29 21 + fld 14 0) = false → bits w 22 21 ≤ 2 → sel d k ∉ s.nv.dsps →
      a = (if bits w 22 21 = 2 then bits w 14 0 else y.get (DspReg.X + bits w 25 23) % 32768) →
      ((s.dsp (sel d k)).errs.filter (fun c => decide (s.cyc < c + 108000000000000))).length < 2 →
    ∃ t, exec (.dspLd d k e .uncorrectable) s = .next t ∧ bit (t.rd Obj.DSP_STATUS (sel d k)) 9 = true ∧
      t.rdN Obj.DSP_MEM_UNCORR_ADDR (sel d k) = 8192 + a / 4 ∧
      DspNext { y with errs := (t.dsp (sel d k)).errs } (t.dsp (sel d k)) (s.dspQ d k)
        ((if bits w 22 21 = 1 then [(⟨1, DspReg.X + bits w 25 23, 0xFFFF,
        (y.get (DspReg.X + bits w 25 23) + y.get (DspReg.N + bits w 25 23)) % 65536⟩ : DspWrite)] else []) ++
          [(⟨2, bits w 29 26, 0xFFFF, 0⟩ : DspWrite)]) ∧ (∀ j : Nat, j ≠ sel d k → t.dsp j = s.dsp j) ∧
            sel d k ∉ t.nv.dsps ∧
      t = { ((dspCounted s d k e).dspUncorr d k 1 (a / 4)) with dsps := t.dsps }) ∧
  (∀ (d k : Nat) (e : Ecc) (w : BitVec 36) (y : Dsp) (a : Nat) (s : State),
    y = (s.dsp (sel d k)).begin → y.stepping = false → dspIssues s d k 0x0F e w = true →
      stray w (fld 29 21 + fld 14 0) = false → bits w 22 21 ≤ 2 → sel d k ∉ s.nv.dsps →
      a = (if bits w 22 21 = 2 then bits w 14 0 else y.get (DspReg.X + bits w 25 23) % 32768) →
      ((s.dsp (sel d k)).errs.filter (fun c => decide (s.cyc < c + 108000000000000))).length < 2 →
    ∃ t, exec (.dspSt d k e .uncorrectable) s = .next t ∧ bit (t.rd Obj.DSP_STATUS (sel d k)) 9 = true ∧
      t.rdN Obj.DSP_MEM_UNCORR_ADDR (sel d k) = 8192 + a / 4 ∧
      DspNext { y with errs := (t.dsp (sel d k)).errs } (t.dsp (sel d k)) (s.dspQ d k) (if bits w 22 21 = 1 then
        [(⟨1, DspReg.X + bits w 25 23, 0xFFFF,
        (y.get (DspReg.X + bits w 25 23) + y.get (DspReg.N + bits w 25 23)) % 65536⟩ : DspWrite)] else []) ∧
      (∀ b : Nat, b < 32768 → t.dspHalf d k b = if b = a then y.get (bits w 29 26) % 65536
        else if b / 4 = a / 4 then 0 else s.dspHalf d k b) ∧ (∀ j : Nat, j ≠ sel d k → t.dsp j = s.dsp j) ∧
          sel d k ∉ t.nv.dsps ∧
      (∀ id j c : Nat, ¬ (id = Obj.DSP_DATA ∧ j = sel d k ∧ c = a / 4) → t.dw id j c = s.dw id j c) ∧
      t = { ((dspCounted s d k e).dspUncorr d k 1 (a / 4)) with dsps := t.dsps, doms := t.doms }) ∧
  (∀ (d k : Nat) (e : Ecc) (w : BitVec 36) (y : Dsp) (a : Nat) (s : State),
    y = (s.dsp (sel d k)).begin → y.stepping = false → dspIssues s d k 0x0E e w = true →
      stray w (fld 29 21 + fld 14 0) = false → bits w 22 21 ≤ 2 → sel d k ∉ s.nv.dsps →
      a = (if bits w 22 21 = 2 then bits w 14 0 else y.get (DspReg.X + bits w 25 23) % 32768) →
      2 ≤ ((s.dsp (sel d k)).errs.filter (fun c => decide (s.cyc < c + 108000000000000))).length →
    ∃ t, exec (.dspLd d k e .uncorrectable) s = .next t ∧ sel d k ∈ t.nv.dsps ∧
      bit (t.rd Obj.DSP_STATUS (sel d k)) 9 = true ∧
      (if y.issueAt + 6 * s.dspQ d k - 1 < s.cyc then (t.dsp (sel d k)).run = false else (t.dsp (sel d k)).ending =
        true) ∧
      (t.dsp (sel d k)).flow = { y.flow.next with lc := (t.dsp (sel d k)).flow.lc } ∧ (∀ j : Nat, j ≠ sel d k →
        t.dsp j = s.dsp j)) ∧
  (∀ (d k : Nat) (e : Ecc) (w : BitVec 36) (y : Dsp) (a : Nat) (s : State),
    y = (s.dsp (sel d k)).begin → y.stepping = false → dspIssues s d k 0x0F e w = true →
      stray w (fld 29 21 + fld 14 0) = false → bits w 22 21 ≤ 2 → sel d k ∉ s.nv.dsps →
      a = (if bits w 22 21 = 2 then bits w 14 0 else y.get (DspReg.X + bits w 25 23) % 32768) →
      2 ≤ ((s.dsp (sel d k)).errs.filter (fun c => decide (s.cyc < c + 108000000000000))).length →
    ∃ t, exec (.dspSt d k e .uncorrectable) s = .next t ∧ sel d k ∈ t.nv.dsps ∧
      bit (t.rd Obj.DSP_STATUS (sel d k)) 9 = true ∧
      (if y.issueAt + 6 * s.dspQ d k - 1 < s.cyc then (t.dsp (sel d k)).run = false else (t.dsp (sel d k)).ending =
        true) ∧
      (t.dsp (sel d k)).flow = { y.flow.next with lc := (t.dsp (sel d k)).flow.lc } ∧ (∀ j : Nat, j ≠ sel d k →
        t.dsp j = s.dsp j)) ∧
  (∀ (d k : Nat) (e m n : Ecc) (w : BitVec 36) (y : Dsp) (i j : Nat) (v : Int) (s : State),
    y = (s.dsp (sel d k)).begin → y.stepping = false → dspIssues s d k 0x23 e w = true →
      stray w (fld 29 22) = false → sel d k ∉ s.nv.dsps → m ≠ .uncorrectable → n ≠ .uncorrectable →
      i = bits w 27 25 → j = bits w 24 22 →
      v = signed 40 (y.latest (DspReg.A + bits w 29 28)) + signed 16 (s.dspHalf d k (y.get (DspReg.X + i) % 32768))
      * signed 16 (s.dspHalf d k (y.get (DspReg.X + j) % 32768)) →
    ∃ t, exec (.dspMacm d k e m n) s = .next t ∧
      DspRan (if y.get (DspReg.X + i) % 32768 / 4 = y.get (DspReg.X + j) % 32768 / 4 then dspCounted (dspCounted s d
      k e) d k m
        else dspCounted (dspCounted (dspCounted s d k e) d k m) d k n) t d k y (accWrites (bits w 29 28) (y.get
          DspReg.ST / 2048 % 2 == 1) v ++
        [(⟨1, DspReg.X + i, 0xFFFF, (y.get (DspReg.X + i) + y.get (DspReg.N + i)) % 65536⟩ : DspWrite)] ++
        (if i = j then [] else [(⟨1, DspReg.X + j, 0xFFFF, (y.get (DspReg.X + j) + y.get (DspReg.N + j)) % 65536⟩ :
          DspWrite)]))) ∧
  (∀ (d k : Nat) (e m n : Ecc) (w : BitVec 36) (y : Dsp) (i j p q : Nat) (v : Int) (s : State),
    y = (s.dsp (sel d k)).begin → y.stepping = false → dspIssues s d k 0x23 e w = true →
      stray w (fld 29 22) = false → sel d k ∉ s.nv.dsps → i = bits w 27 25 → j = bits w 24 22 →
    p = (if m = Ecc.uncorrectable then 0 else s.dspHalf d k (y.get (DspReg.X + i) % 32768)) →
    q = (if (if y.get (DspReg.X + i) % 32768 / 4 = y.get (DspReg.X + j) % 32768 / 4 then m else n) =
      Ecc.uncorrectable then 0
      else s.dspHalf d k (y.get (DspReg.X + j) % 32768)) →
    v = signed 40 (y.latest (DspReg.A + bits w 29 28)) + signed 16 p * signed 16 q →
    ∃ t, exec (.dspMacm d k e m n) s = .next t ∧ (∀ r : Nat, r ≠ DspReg.LC → (t.dsp (sel d k)).latest r =
        seenAfter y.num (accWrites (bits w 29 28) (y.get DspReg.ST / 2048 % 2 == 1) v ++
        [(⟨1, DspReg.X + i, 0xFFFF, (y.get (DspReg.X + i) + y.get (DspReg.N + i)) % 65536⟩ : DspWrite)] ++
        (if i = j then [] else [(⟨1, DspReg.X + j, 0xFFFF, (y.get (DspReg.X + j) + y.get (DspReg.N + j)) % 65536⟩ :
          DspWrite)]))
        (y.num + 8) r (y.latest r)) ∧
      (m = Ecc.uncorrectable → bit (t.rd Obj.DSP_STATUS (sel d k)) 9 = true) ∧
      (t.dsp (sel d k)).flow = { y.flow.next with lc := (t.dsp (sel d k)).flow.lc } ∧
      (∀ j : Nat, j ≠ sel d k → t.dsp j = s.dsp j) ∧ t.doms = s.doms)

/-- R288 to R291 for the ports, R279 for when their results are seen. -/
def Obligations.DspPorts : Prop :=
  (∀ (d k : Nat) (e : Ecc) (w : BitVec 36) (y : Dsp) (u sh : Nat) (i q : Int) (s : State),
    y = (s.dsp (sel d k)).begin → y.stepping = false → dspIssues s d k 0x30 e w = true →
      stray w (fld 29 26 + fld 25 25 + fld 24 18 + fld 17 17 + fld 4 0) = false → bits w 26 26 = 0 →
      sh = bits w 4 0 → sh ≤ 20 → u = (if bits w 25 25 = 1 then y.get (bits w 24 21) % 128 else bits w 24 18) →
      i = signed 36 (bits (s.rd Obj.DEMOD_RESULT (sel d u)) 71 36) / 2 ^ sh →
      q = signed 36 (bits (s.rd Obj.DEMOD_RESULT (sel d u)) 35 0) / 2 ^ sh →
    ∃ t, exec (.dspRdw d k e) s = .next t ∧ (bits w 17 17 = 0 →
      DspRan (dspCounted s d k e) t d k y [⟨2, bits w 29 26, 0xFFFF, (i % 65536).toNat⟩,
      ⟨2, bits w 29 26 + 1, 0xFFFF, (q % 65536).toNat⟩]) ∧
      (bits w 17 17 = 1 → DspRan (dspCounted s d k e) t d k y
        (⟨2, bits w 29 26, 0xFFFF, ((saturate 16 i).1 % 65536).toNat⟩ ::
        ⟨2, bits w 29 26 + 1, 0xFFFF, ((saturate 16 q).1 % 65536).toNat⟩ :: svWrites ((saturate 16 i).2 || (saturate
          16 q).2)))) ∧
  (∀ (d k : Nat) (e : Ecc) (w : BitVec 36) (y : Dsp) (u : Nat) (v : SlotView) (s : State),
    y = (s.dsp (sel d k)).begin → y.stepping = false → dspIssues s d k 0x31 e w = true →
      stray w (fld 29 26 + fld 25 25 + fld 24 15) = false →
      u = (if bits w 25 25 = 1 then y.get (bits w 24 21) % 1024 else bits w 24 15) → v = s.slotSeen (sel d u) →
    ∃ t, exec (.dspRds d k e) s = .next t ∧
      DspRan (dspCounted s d k e) t d k y
      [⟨2, bits w 29 26, 0xFFFF, b2n v.valid * 32768 + v.gen.toNat * 256 + v.value.toNat⟩,
        ⟨3, DspReg.ST, 1024, b2n (s.unreachSeen (sel d u)) * 1024⟩]) ∧
  (∀ (d k : Nat) (e : Ecc) (w : BitVec 36) (y : Dsp) (u : Nat) (s : State),
    y = (s.dsp (sel d k)).begin → y.stepping = false → dspIssues s d k 0x32 e w = true →
      stray w (fld 29 26 + fld 25 25 + fld 24 18) = false →
      u = (if bits w 25 25 = 1 then y.get (bits w 24 21) % 128 else bits w 24 18) →
    ∃ t, exec (.dspRdc d k e) s = .next t ∧
      DspRan (dspCounted s d k e) t d k y [⟨2, bits w 29 26, 0xFFFF, s.rdN Obj.READ_COUNT (sel d u) % 256⟩]) ∧
  (∀ (d k : Nat) (e : Ecc) (w : BitVec 36) (y : Dsp) (m : DspMail) (early rest : List DspMail) (s : State),
    y = (s.dsp (sel d k)).begin → y.stepping = false → dspIssues s d k 0x33 e w = true →
      stray w (fld 29 26) = false → bits w 26 26 = 0 → y.mbox = early ++ m :: rest →
      (∀ p ∈ early, s.cyc < p.from_) → m.from_ ≤ s.cyc →
    ∃ t, exec (.dspRdm d k e) s = .next t ∧
      DspRan (dspCounted s d k e) t d k { y with mbox := early ++ rest }
      [⟨2, bits w 29 26, 0xFFFF, m.data.toNat % 65536⟩,
        ⟨2, bits w 29 26 + 1, 0xFFFF, m.data.toNat / 65536⟩, ⟨3, DspReg.ST, 0x3C1, m.sender * 64⟩]) ∧
  (∀ (d k : Nat) (e : Ecc) (w : BitVec 36) (y : Dsp) (s : State),
    y = (s.dsp (sel d k)).begin → y.stepping = false → dspIssues s d k 0x33 e w = true →
      stray w (fld 29 26) = false → bits w 26 26 = 0 → (∀ p ∈ y.mbox, s.cyc < p.from_) →
    ∃ t, exec (.dspRdm d k e) s = .next t ∧
      DspRan (dspCounted s d k e) t d k y [⟨2, bits w 29 26, 0xFFFF, 0⟩, ⟨2, bits w 29 26 + 1, 0xFFFF, 0⟩,
      ⟨3, DspReg.ST, 0x3C1, 1⟩]) ∧
  (∀ (d k : Nat) (e : Ecc) (w : BitVec 36) (y : Dsp) (u : Nat) (s : State),
    y = (s.dsp (sel d k)).begin → y.stepping = false → dspIssues s d k 0x34 e w = true →
      stray w (fld 29 26 + fld 25 25 + fld 24 15) = false →
      u = (if bits w 25 25 = 1 then y.get (bits w 24 21) % 1024 else bits w 24 15) →
    ∃ t, exec (.dspPost d k e) s = .next t ∧ DspRan (dspCounted s d k e) t d k { y with outs := y.outs ++
        [(y.issueAt + 6 * s.dspQ d k - 1, DspOut.post u (BitVec.ofNat 8 (y.get (bits w 29 26))))] } []) ∧
  (∀ (d k : Nat) (e : Ecc) (w : BitVec 36) (y : Dsp) (s : State),
    y = (s.dsp (sel d k)).begin → y.stepping = false → dspIssues s d k 0x35 e w = true → stray w (fld 29 22) = false →
    ∃ t, exec (.dspSmsg d k e) s = .next t ∧ DspRan (dspCounted s d k e) t d k { y with outs := y.outs ++
        [(y.issueAt + 6 * s.dspQ d k - 1, DspOut.smsg (bits w 25 22) (BitVec.ofNat 8 (y.get (bits w 29 26))))] } []) ∧
  (∀ (d k c u : Nat) (v : BitVec 8) (s : State),
    c ≤ s.cyc → u < 256 ∨ 512 ≤ u →
    s.dspOuts d k [(c, DspOut.post u v)] =
      (s.setDsp (sel d k) { (s.dsp (sel d k)) with outs := [] }).setBit Obj.DSP_STATUS (sel d k) 7)

/-- R294 for the end of a WAIT, R295 to R297 for events and interrupts, R302 for the commands, R308 for the vectors.
-/
def Obligations.DspControl : Prop :=
  (∀ (d k i c : Nat) (e : BellEvent) (u s : State),
    i < 16 → c = (if i < 8 then 160 + 8 * k + i else 512 + 16 * k + i) → s.domOn d (domDsp k) = true →
    s.dspEdge d k c = true → look 0 (s.dsp (sel d k)).ip i = 0 → s.deliver d c false = (some e, u) →
    ∃ t, exec (.dspEventInput d k i) s = .next t ∧
      (∀ j : Nat, look 0 (t.dsp (sel d k)).ip j = if j = i then s.cyc + 1 else look 0 (s.dsp (sel d k)).ip j) ∧
      t.dsp (sel d k) = { s.dsp (sel d k) with ip := (t.dsp (sel d k)).ip } ∧
      (∀ j : Nat, j ≠ sel d k → t.dsp j = s.dsp j) ∧ t = { u with dsps := t.dsps }) ∧
  (∀ (d k i c : Nat) (busy : Bool) (u s : State),
    i < 16 → c = (if i < 8 then 160 + 8 * k + i else 512 + 16 * k + i) →
      s.domOn d (domDsp k) = false ∨ s.dspEdge d k c = true →
    busy = (decide (0 < look 0 (s.dsp (sel d k)).ip i) || !s.domOn d (domDsp k)) → s.dropsEvent d c = true →
    busy = true ∨ s.cyc < (s.chan (sel d c)).keptFrom →
    s.deliver d c busy = (none, u) →
    ∃ t, exec (.dspEventInput d k i) s = .next t ∧
      bit (t.rd Obj.DSP_EV_OVERRUN (sel d k)) i = true ∧ t.dsps = s.dsps ∧ t = { u with regs := t.regs }) ∧
  (∀ (d k i : Nat) (x : Dsp) (s : State),
    x = s.dsp (sel d k) → x.run = true → x.ending = false → x.stalled = none → s.domOn d (domDsp k) = true →
      x.wait = none →
    x.taking = none → (x.get DspReg.ST).testBit 15 = true → x.flow.eligible = true → x.issueAt ≤ s.cyc → i < 16 →
    (x.get DspReg.IE).testBit i = true → 0 < look 0 x.ip i → look 0 x.ip i ≤ x.issueAt →
    (∀ j : Nat, j < 16 → i < j → ¬ ((x.get DspReg.IE).testBit j = true ∧ 0 < look 0 x.ip j ∧
      look 0 x.ip j ≤ x.issueAt)) →
    ∃ t, exec (.dspInterruptTake d k) s = .next t ∧
      (t.dsp (sel d k)).latest DspReg.IPC = x.flow.resumeAt ∧
      (t.dsp (sel d k)).latest DspReg.IST = x.latest DspReg.ST ∧
      (t.dsp (sel d k)).latest DspReg.ST = (x.latest DspReg.ST &&& 0x7FFF) ||| 0x4000 ∧
      (∀ r : Nat, r ≠ DspReg.LC → r ≠ DspReg.IPC → r ≠ DspReg.IST → r ≠ DspReg.ST →
        (t.dsp (sel d k)).latest r = x.latest r) ∧
      (∀ j : Nat, look 0 (t.dsp (sel d k)).ip j = if j = i then 0 else look 0 x.ip j) ∧
      (t.dsp (sel d k)).flow.pc = bits (s.dw Obj.DSP_VECTORS (sel d k) (i / 4)) (66 - 18 * (i % 4)) (54 - 18 * (i %
        4)) ∧
      (t.dsp (sel d k)).issueAt = x.issueAt + 3 * s.dspQ d k ∧ (t.dsp (sel d k)).run = true ∧
      (∀ j : Nat, j ≠ sel d k → t.dsp j = s.dsp j) ∧ t = { s with dsps := t.dsps, chans := t.chans }) ∧
  (∀ (d k i : Nat) (x : Dsp) (w : DspWaiting) (s : State),
    x = s.dsp (sel d k) → x.run = true → x.ending = false → x.stalled = none → s.domOn d (domDsp k) = true →
      x.wait = some w →
    w.cond ≠ 0 → (x.get DspReg.ST).testBit 15 = true → x.interrupt s.cyc = some i →
    s.dspBoundary d k (look 0 x.ip i - 1) ≤ s.cyc →
    ∃ t, exec (.dspInterruptTake d k) s = .next t ∧
      (t.dsp (sel d k)).latest DspReg.IPC = x.flow.pc ∧ (t.dsp (sel d k)).wait = none ∧
      (t.dsp (sel d k)).latest DspReg.IST = x.latest DspReg.ST ∧
      (t.dsp (sel d k)).latest DspReg.ST = (x.latest DspReg.ST &&& 0x7FFF) ||| 0x4000 ∧
      (t.dsp (sel d k)).flow.pc = bits (s.dw Obj.DSP_VECTORS (sel d k) (i / 4)) (66 - 18 * (i % 4)) (54 - 18 * (i %
        4)) ∧
      (∀ j : Nat, j ≠ sel d k → t.dsp j = s.dsp j) ∧ t = { s with dsps := t.dsps, chans := t.chans }) ∧
  (∀ (d k : Nat) (x : Dsp) (w : DspWaiting) (s : State),
    x = s.dsp (sel d k) → x.wait = some w → x.run = true → x.stalled = none → s.domOn d (domDsp k) = true →
      w.from_ ≤ s.cyc →
    x.stepping = false →
    (w.cond = 1 ∧ (∃ m ∈ x.mbox, m.from_ ≤ s.cyc)) ∨ (w.cond = 2 ∧
      (s.slotSeen (sel d w.src)).gen.toNat ≠ w.val % 128) ∨
      (w.cond = 3 ∧ s.rdN Obj.READ_COUNT (sel d (w.src % 128)) % 256 ≠ w.val % 256) ∨
      (w.cond = 0 ∧ (x.get DspReg.ST).testBit 15 = false ∧ (x.interrupt (s.cyc + 1)).isSome = true) →
    exec (.dspWaitEnd d k) s = .next (s.setDsp (sel d k)
      { x with wait := none, issueAt := s.cyc + 1, flow := x.flow.next })) ∧
  (∀ (d k i : Nat) (x : Dsp) (w : DspWaiting) (s : State),
    x = s.dsp (sel d k) → x.wait = some w → x.run = true → x.stalled = none → s.domOn d (domDsp k) = true →
      w.from_ ≤ s.cyc →
    w.cond = 0 → (x.get DspReg.ST).testBit 15 = true → x.interrupt (s.cyc + 1) = some i →
    ∃ t, exec (.dspWaitEnd d k) s = .next t ∧
      (t.dsp (sel d k)).latest DspReg.IPC = (x.flow.pc + 1) % 8192 ∧ (t.dsp (sel d k)).wait = none ∧
      (t.dsp (sel d k)).latest DspReg.IST = x.latest DspReg.ST ∧
      (t.dsp (sel d k)).flow.pc = bits (s.dw Obj.DSP_VECTORS (sel d k) (i / 4)) (66 - 18 * (i % 4)) (54 - 18 * (i %
        4)) ∧
      (∀ j : Nat, j ≠ sel d k → t.dsp j = s.dsp j) ∧ t = { s with dsps := t.dsps, chans := t.chans }) ∧
  (∀ (d k : Nat) (x : Dsp) (s : State),
    x = s.dsp (sel d k) → x.run = false → sel d k ∉ s.nv.dsps → s.domOn d (domDsp k) = true →
    ∃ t, exec (.dspCmdStart d k) s = .next t ∧
      (t.dsp (sel d k)).run = true ∧ (t.dsp (sel d k)).issueAt = s.cyc + 1 ∧ (t.dsp (sel d k)).stepping = false ∧
      (t.dsp (sel d k)).flow = ({ pc := s.rdN Obj.DSP_START_ADDR (sel d k) % 8192 } : DspFlow) ∧
      (t.dsp (sel d k)).latest DspReg.ST = 0 ∧
      (∀ r : Nat, r ≠ DspReg.ST → r ≠ DspReg.LC → (t.dsp (sel d k)).latest r = x.latest r) ∧
      (t.dsp (sel d k)).ip = [] ∧ (t.dsp (sel d k)).sp = 0 ∧ (t.dsp (sel d k)).rs = x.rs ∧
        (t.dsp (sel d k)).outs = [] ∧
      (t.dsp (sel d k)).cross = [] ∧ (t.dsp (sel d k)).buffered = 0 ∧
      (t.dsp (sel d k)).mbox = x.mbox ∧
      (t.port (d * 16 + k)).posts = (s.port (d * 16 + k)).posts.filter (fun p : Post => p.src != Poster.dsp k) ∧
      (∀ j : Nat, j ≠ sel d k → t.dsp j = s.dsp j) ∧
      t = { s with dsps := t.dsps, ports := t.ports, chans := t.chans }) ∧
  (∀ (d k : Nat) (x : Dsp) (s : State),
    x = s.dsp (sel d k) → x.run = false → sel d k ∉ s.nv.dsps → s.domOn d (domDsp k) = true →
    exec (.dspCmdResume d k) s = .next (s.setDsp (sel d k) { x with
      run := true, wait := none, issueAt := s.cyc + 1, haltReq := none, stepping := false, ending := false })) ∧
  (∀ (d k : Nat) (x : Dsp) (s : State),
    x = s.dsp (sel d k) → x.run = false → sel d k ∉ s.nv.dsps → s.domOn d (domDsp k) = true →
    exec (.dspCmdStep d k) s = .next (s.setDsp (sel d k) { x with
      run := true, wait := none, issueAt := s.cyc + 1, haltReq := none, stepping := true, ending := false })) ∧
  (∀ (d k : Nat) (x : Dsp) (s : State),
    x = s.dsp (sel d k) → x.run = true → x.wait = none → sel d k ∉ s.nv.dsps → s.domOn d (domDsp k) = true →
    exec (.dspCmdHalt d k) s = .next (s.setDsp (sel d k) { x with haltReq := some s.cyc })) ∧
  (∀ (d k : Nat) (x : Dsp) (s : State),
    x = s.dsp (sel d k) → x.run = true → x.wait.isSome = true → sel d k ∉ s.nv.dsps → s.domOn d (domDsp k) = true →
    ∃ t, exec (.dspCmdHalt d k) s = .next t ∧
      (t.dsp (sel d k)).run = false ∧ (t.dsp (sel d k)).wait = none ∧
        (t.dsp (sel d k)).flow = { x.flow with lc := (t.dsp (sel d k)).flow.lc } ∧
      (∀ n : Nat, x.num + 7 < n → (t.dsp (sel d k)).lcSeen n = x.lcSeen n) ∧
      (∀ r : Nat, r ≠ DspReg.LC → (t.dsp (sel d k)).latest r = x.latest r) ∧ (∀ j : Nat, j ≠ sel d k →
        t.dsp j = s.dsp j) ∧
      t = { s with dsps := t.dsps, later := (s.raiseAcross d (112 + 6 * k + 4)).later }) ∧
  (∀ (d k i n : Nat) (x : Dsp) (s : State),
    x = s.dsp (sel d k) → x.run = true → x.ending = false → x.stalled = none → s.domOn d (domDsp k) = true →
      x.wait = none →
    x.taking = none → (s.cyc < x.issueAt ∨ x.flow.eligible = false ∨ x.interrupt x.issueAt = none) →
    s.takenAhead d k x = some (i, n) →
    ∃ t, exec (.dspInterruptTake d k) s = .next t ∧
      (∀ j : Nat, look 0 (t.dsp (sel d k)).ip j = if j = i then 0 else look 0 x.ip j) ∧
      t.dsp (sel d k) = { x with ip := (t.dsp (sel d k)).ip, taking := some (i, n) } ∧
      (∀ j : Nat, j ≠ sel d k → t.dsp j = s.dsp j) ∧ t = { s with dsps := t.dsps, chans := t.chans }) ∧
  (∀ (d k i : Nat) (x : Dsp) (s : State),
    x = s.dsp (sel d k) → x.run = true → x.ending = false → x.stalled = none → s.domOn d (domDsp k) = true →
      x.wait = none →
    x.taking = some (i, x.num) →
    ∃ t, exec (.dspInterruptTake d k) s = .next t ∧
      (t.dsp (sel d k)).latest DspReg.IPC = x.flow.resumeAt ∧
      (t.dsp (sel d k)).latest DspReg.IST = x.latest DspReg.ST ∧
      (t.dsp (sel d k)).latest DspReg.ST = (x.latest DspReg.ST &&& 0x7FFF) ||| 0x4000 ∧
      (∀ r : Nat, r ≠ DspReg.LC → r ≠ DspReg.IPC → r ≠ DspReg.IST → r ≠ DspReg.ST →
        (t.dsp (sel d k)).latest r = x.latest r) ∧
      (t.dsp (sel d k)).ip = x.ip ∧ (t.dsp (sel d k)).taking = none ∧
      (t.dsp (sel d k)).flow.pc = bits (s.dw Obj.DSP_VECTORS (sel d k) (i / 4)) (66 - 18 * (i % 4)) (54 - 18 * (i %
        4)) ∧
      (t.dsp (sel d k)).issueAt = x.issueAt + 3 * s.dspQ d k ∧ (∀ j : Nat, j ≠ sel d k → t.dsp j = s.dsp j) ∧
      t = { s with dsps := t.dsps }) ∧
  (∀ (d k i c : Nat) (busy : Bool) (u s : State),
    i < 16 → c = (if i < 8 then 160 + 8 * k + i else 512 + 16 * k + i) →
      s.domOn d (domDsp k) = false ∨ s.dspEdge d k c = true →
    busy = (decide (0 < look 0 (s.dsp (sel d k)).ip i) || !s.domOn d (domDsp k)) →
      s.dropsEvent d c = false ∨ (busy = false ∧ (s.chan (sel d c)).keptFrom ≤ s.cyc) →
    s.deliver d c busy = (none, u) →
    exec (.dspEventInput d k i) s = .next u) ∧
  (∀ (d k i : Nat) (s : State),
    16 ≤ i ∨ (i < 16 ∧ s.domOn d (domDsp k) = true ∧
      s.dspEdge d k (if i < 8 then 160 + 8 * k + i else 512 + 16 * k + i) = false) →
    exec (.dspEventInput d k i) s = .next s) ∧
  (∀ (d k i : Nat) (x : Dsp) (w : DspWaiting) (s : State),
    x = s.dsp (sel d k) → x.run = true → x.ending = false → x.stalled = none → s.domOn d (domDsp k) = true →
      x.wait = some w →
    w.cond = 0 → (x.get DspReg.ST).testBit 15 = true → x.interrupt s.cyc = some i →
    ∃ t, exec (.dspInterruptTake d k) s = .next t ∧
      (t.dsp (sel d k)).latest DspReg.IPC = (x.flow.pc + 1) % 8192 ∧ (t.dsp (sel d k)).wait = none ∧
      (t.dsp (sel d k)).latest DspReg.IST = x.latest DspReg.ST ∧
      (t.dsp (sel d k)).latest DspReg.ST = (x.latest DspReg.ST &&& 0x7FFF) ||| 0x4000 ∧
      (t.dsp (sel d k)).issueAt = s.cyc + 1 + 3 * s.dspQ d k ∧
      (t.dsp (sel d k)).flow.pc = bits (s.dw Obj.DSP_VECTORS (sel d k) (i / 4)) (66 - 18 * (i % 4)) (54 - 18 * (i %
        4)) ∧
      (∀ j : Nat, j ≠ sel d k → t.dsp j = s.dsp j) ∧ t = { s with dsps := t.dsps, chans := t.chans }) ∧
  (∀ (d k : Nat) (x : Dsp) (s : State),
    x = s.dsp (sel d k) →
    x.run = false ∨ x.ending = true ∨ x.stalled ≠ none ∨ s.domOn d (domDsp k) = false ∨
      (x.wait ≠ none ∧ (x.get DspReg.ST).testBit 15 = false) →
    exec (.dspInterruptTake d k) s = .next s) ∧
  (∀ (d k : Nat) (x : Dsp) (w : DspWaiting) (s : State),
    x = s.dsp (sel d k) → x.wait = some w → x.run = true → x.stalled = none → s.domOn d (domDsp k) = true →
      w.from_ ≤ s.cyc →
    x.stepping = true →
    (w.cond = 1 ∧ (∃ m ∈ x.mbox, m.from_ ≤ s.cyc)) ∨ (w.cond = 2 ∧
      (s.slotSeen (sel d w.src)).gen.toNat ≠ w.val % 128) ∨
      (w.cond = 3 ∧ s.rdN Obj.READ_COUNT (sel d (w.src % 128)) % 256 ≠ w.val % 256) ∨
      (w.cond = 0 ∧ (x.get DspReg.ST).testBit 15 = false ∧ (x.interrupt (s.cyc + 1)).isSome = true) →
    ∃ t, exec (.dspWaitEnd d k) s = .next t ∧
      (t.dsp (sel d k)).run = false ∧ (t.dsp (sel d k)).wait = none ∧
        (t.dsp (sel d k)).flow = { x.flow.next with lc := (t.dsp (sel d k)).flow.lc } ∧
      (∀ r : Nat, r ≠ DspReg.LC → (t.dsp (sel d k)).latest r = x.latest r) ∧ (∀ j : Nat, j ≠ sel d k →
        t.dsp j = s.dsp j) ∧
      t = { s with dsps := t.dsps, later := (s.raiseAcross d (112 + 6 * k + 4)).later }) ∧
  (∀ (d k : Nat) (x : Dsp) (s : State),
    x = s.dsp (sel d k) →
    x.wait = none ∨ x.run = false ∨ x.stalled ≠ none ∨ s.domOn d (domDsp k) = false ∨
      (∃ w, x.wait = some w ∧ (s.cyc < w.from_ ∨ (w.cond = 0 ∧ x.interrupt (s.cyc + 1) = none) ∨ (w.cond = 1 ∧
        ∀ m ∈ x.mbox, s.cyc < m.from_) ∨
        (w.cond = 2 ∧ (s.slotSeen (sel d w.src)).gen.toNat = w.val % 128) ∨
        (w.cond = 3 ∧ s.rdN Obj.READ_COUNT (sel d (w.src % 128)) % 256 = w.val % 256))) →
    exec (.dspWaitEnd d k) s = .next s) ∧
  (∀ (d k : Nat) (s : State),
    (s.dsp (sel d k)).run = true ∨ sel d k ∈ s.nv.dsps ∨ s.domOn d (domDsp k) = false →
    exec (.dspCmdStart d k) s = .next s) ∧
  (∀ (d k : Nat) (s : State),
    (s.dsp (sel d k)).run = true ∨ sel d k ∈ s.nv.dsps ∨ s.domOn d (domDsp k) = false →
    exec (.dspCmdResume d k) s = .next s) ∧
  (∀ (d k : Nat) (s : State),
    (s.dsp (sel d k)).run = true ∨ sel d k ∈ s.nv.dsps ∨ s.domOn d (domDsp k) = false →
    exec (.dspCmdStep d k) s = .next s) ∧
  (∀ (d k : Nat) (s : State),
    (s.dsp (sel d k)).run = false ∨ sel d k ∈ s.nv.dsps ∨ s.domOn d (domDsp k) = false →
    exec (.dspCmdHalt d k) s = .next s)

/-- R316 and R317 for the samples of a tone, R318 for records cut short, R324 to R330 for its trigger unit, R338 to
R340 for its stream, R346 for records, R350 for TRIG_COMMAND. The signal and the filters' coefficients are free (log
62). -/
def Obligations.TonesAndTriggers : Prop :=
  (∀ (d t : Nat) (cfg : BitVec 64) (x : Tone) (s : State),
    cfg = (s.rd Obj.TONE_CONFIG (sel d t)).setWidth 64 → x = s.tone (sel d t) → s.toneMayRun d t = true →
    x.written = true ∨ (x.on = false ∧ bit cfg 63 = true) →
    ((s.now : Int) - s.rdN Obj.BIN_PHASE (sel d 0)) % 128 = 0 → toneBad cfg = false →
    ∃ u, exec (.toneRestart d t) s = .next u ∧
      u.tone (sel d t) = { x with
        on := bit cfg 63, config := cfg, written := false, life := x.life + 1, restart := s.cyc, lastAt := none, n
          := 0, ring := [], arm := [false, false, false, false], shut := 0, collecting := none, filled := none, dead
          := 0, suppressed := 0, stored := none, since := 0, block := none } ∧
      (∀ k : Nat, k ≠ sel d t → u.tone k = s.tone k) ∧ (∀ k : Nat, k ≠ d → u.acq k = s.acq k) ∧
      (x.collecting = none ∧ x.block = none → u.acqs = s.acqs ∧ u.regs = s.regs) ∧
      (x.block = none → ∀ r ∈ (s.acq d).recs, ∀ left : Nat, x.collecting = some (r.id, left) →
        { r with open_ := false, count := r.count - left, flags := r.flags ||| 4 } ∈ (u.acq d).recs) ∧
      (x.collecting ≠ none ∨ x.block ≠ none → bit (u.rd Obj.TONE_STATUS (sel d t)) 3 = true) ∧
      u = { s with tones := u.tones, acqs := u.acqs, regs := u.regs }) ∧
  (∀ (d t : Nat) (cfg : BitVec 64) (s : State),
    cfg = (s.rd Obj.TONE_CONFIG (sel d t)).setWidth 64 → s.toneMayRun d t = true →
    (s.tone (sel d t)).written = true ∨ ((s.tone (sel d t)).on = false ∧ bit cfg 63 = true) →
    ((s.now : Int) - s.rdN Obj.BIN_PHASE (sel d 0)) % 128 = 0 → toneBad cfg = true →
    exec (.toneRestart d t) s = hostError) ∧
  (∀ (d t : Nat) (s : State),
    s.toneMayRun d t = false ∨ ((s.now : Int) - s.rdN Obj.BIN_PHASE (sel d 0)) % 128 ≠ 0 ∨
      ((s.tone (sel d t)).written = false ∧
        ((s.tone (sel d t)).on = true ∨ bit (s.rd Obj.TONE_CONFIG (sel d t)) 63 = false)) →
    exec (.toneRestart d t) s = .next s) ∧
  (∀ (d t : Nat) (s : State),
    toneDue s d t = true → toneLegal s d t = true →
    ∃ u, exec (.toneSample d t () ()) s = .next u ∧
      (u.tone (sel d t)).ring = (toneArrives s d t :: (s.tone (sel d t)).ring).take 512 ∧
      (u.tone (sel d t)).n = (s.tone (sel d t)).n + 1 ∧
      (u.tone (sel d t)).lastAt = some (s.cyc - toneA (s.tone (sel d t)).config) ∧
      (u.tone (sel d t)).arm = [(toneCond s d t 0).2.1, (toneCond s d t 0).2.2, (toneCond s d t 1).2.1, (toneCond s
        d t 1).2.2] ∧
      u.rd Obj.TONE_LATEST (sel d t) = (toneStored s d t).setWidth 72 ∧
      (∀ k : Nat, k ≠ sel d t → u.tone k = s.tone k) ∧ (∀ k : Nat, k ≠ d → u.acq k = s.acq k) ∧
      u = { s with tones := u.tones, acqs := u.acqs, regs := u.regs, majs := u.majs, free := u.free }) ∧
  (∀ (d t : Nat) (s : State),
    toneDue s d t = true → toneLegal s d t = false → exec (.toneSample d t () ()) s = hostError) ∧
  (∀ (d t : Nat) (s : State),
    toneDue s d t = false → exec (.toneSample d t () ()) s = .next s) ∧
  (∀ (d t : Nat) (b : Int) (z : Tone) (w2 : Word) (prev : List Sample) (s : State),
    toneDue s d t = true → toneLegal s d t = true → z = s.tone (sel d t) → prev = z.ring.map (fun y => y.x) →
    w2 = s.dw Obj.TRIG_CONFIG (sel d t) 2 → (toneCond s d t 0).1 = some b → z.armed = true → z.shut = 0 →
    z.collecting = none → z.block.all (fun p => p.1 != (s.acq d).nextId) = true →
    ∃ u, exec (.toneSample d t () ()) s = .next u ∧
      (∃ r ∈ (u.acq d).wants, r.typ = RecType.trigger ∧ r.id = (s.acq d).nextId ∧ r.unit = t ∧ r.at_ = s.cyc + 1 ∧
        r.pre = min (bits w2 71 63) z.ring.length ∧ r.count = bits w2 62 51 + 1 ∧
        r.len = 3 + (min (bits w2 71 63) z.ring.length + bits w2 62 51 + 2) / 2 ∧ r.samples = [toneStored s d t] ∧
        r.open_ = decide (0 < bits w2 62 51) ∧ r.copying = decide (0 < r.pre) ∧
        bit r.flags 7 = true ∧ bit r.flags 6 = (toneCond s d t 1).1.isSome ∧
        bit r.flags 5 = decide (z.ring.length < bits w2 71 63) ∧ bit r.flags 3 = (toneArrives s d t).suspect ∧
        r.word2 = word (min (z.dead * toneP z.config) (2 ^ 40 - 1) * 2 ^ 32 + min z.suppressed (2 ^ 32 - 1)) ∧
        (∀ f : Nat, fraction b ((condValue (s.dw Obj.TRIG_CONFIG (sel d t) 0) prev).getD ((condValue (s.dw
          Obj.TRIG_CONFIG (sel d t) 0) ((toneArrives s d t).x :: prev)).getD 0))
            ((condValue (s.dw Obj.TRIG_CONFIG (sel d t) 0) ((toneArrives s d t).x :: prev)).getD 0) = some f →
          r.tag = if f < 256 then timeTag ((s.now + 2 ^ 64 - toneA z.config) % 2 ^ 64 - toneP z.config) f
            else timeTag ((s.now + 2 ^ 64 - toneA z.config) % 2 ^ 64) 0)) ∧
      u.rd Obj.TRIG_RECORDS (sel d t) = (s.inc Obj.TRIG_RECORDS (sel d t)).rd Obj.TRIG_RECORDS (sel d t) ∧
      u.rd Obj.LIVE_TIME (sel d t) = (s.count64 Obj.LIVE_TIME (sel d t) (toneP z.config)).rd Obj.LIVE_TIME (sel d t) ∧
      (u.tone (sel d t)).shut = bits w2 62 51 + bits w2 50 35 ∧ (u.tone (sel d t)).dead = 0 ∧
      (u.tone (sel d t)).suppressed = 0 ∧ (u.tone (sel d t)).force = none ∧ (u.tone (sel d t)).collecting =
        (if bits w2 62 51 = 0 then none else some ((s.acq d).nextId, bits w2 62 51))) ∧
  (∀ (d t c : Nat) (m : Bool) (z : Tone) (w2 : Word) (s : State),
    toneDue s d t = true → toneLegal s d t = true → z = s.tone (sel d t) → w2 = s.dw Obj.TRIG_CONFIG (sel d t) 2 →
    z.force = some (m, c) → c < s.cyc → z.collecting = none →
    z.armed = false ∨ 0 < z.shut ∨ ((toneCond s d t 0).1 = none ∧ (toneCond s d t 1).1 = none) →
    z.block.all (fun p => p.1 != (s.acq d).nextId) = true →
    ∃ u, exec (.toneSample d t () ()) s = .next u ∧
      (∃ r ∈ (u.acq d).wants, r.typ = RecType.forced ∧ r.id = (s.acq d).nextId ∧ r.unit = t ∧ r.at_ = s.cyc + 1 ∧
        r.pre = min (bits w2 71 63) z.ring.length ∧ r.count = bits w2 62 51 + 1 ∧ bit r.flags 4 = m ∧
        r.tag = timeTag ((s.now + 2 ^ 64 - toneA z.config) % 2 ^ 64) 0 ∧ r.samples = [toneStored s d t]) ∧
      u.rd Obj.TRIG_RECORDS (sel d t) = (s.inc Obj.TRIG_RECORDS (sel d t)).rd Obj.TRIG_RECORDS (sel d t) ∧
      (u.tone (sel d t)).shut = bits w2 62 51 + bits w2 50 35 ∧ (u.tone (sel d t)).force = none) ∧
  (∀ (d t : Nat) (z : Tone) (s : State),
    toneDue s d t = true → toneLegal s d t = true →
    z = s.tone (sel d t) → z.armed = false ∨ 0 < z.shut → z.collecting = none →
    z.force.all (fun f => decide (s.cyc ≤ f.2)) = true → (toneCond s d t 0).1.isSome = true →
    ∃ u, exec (.toneSample d t () ()) s = .next u ∧
      (bits z.config 61 60 = 0 → u.acqs = s.acqs) ∧
      u.rd Obj.TRIG_SUPPRESSED (sel d t) = (s.inc Obj.TRIG_SUPPRESSED (sel d t)).rd Obj.TRIG_SUPPRESSED (sel d t) ∧
      u.rd Obj.TRIG_RECORDS (sel d t) = s.rd Obj.TRIG_RECORDS (sel d t) ∧
      u.rd Obj.LIVE_TIME (sel d t) = s.rd Obj.LIVE_TIME (sel d t) ∧
      (u.tone (sel d t)).dead = z.dead + 1 ∧ (u.tone (sel d t)).suppressed = z.suppressed + 1 ∧
      (u.tone (sel d t)).shut = z.shut - 1 ∧ (u.tone (sel d t)).force = z.force) ∧
  (∀ (d t id left : Nat) (z : Tone) (s : State),
    toneDue s d t = true → toneLegal s d t = true → z = s.tone (sel d t) → z.collecting = some (id, left) →
      z.block = none →
    ∃ u, exec (.toneSample d t () ()) s = .next u ∧
      (∀ r ∈ (s.acq d).recs, r.id = id → { r with
        samples := r.samples ++ [toneStored s d t], open_ := decide (1 < left), fullAt := s.cyc + 1, flags := if
          (toneArrives s d t).suspect then r.flags ||| 8 else r.flags } ∈ (u.acq d).recs) ∧
      (∀ r ∈ (s.acq d).recs, r.id ≠ id → r ∈ (u.acq d).recs) ∧
      (u.tone (sel d t)).collecting = (if left ≤ 1 then none else some (id, left - 1)) ∧
      u.rd Obj.TRIG_RECORDS (sel d t) = s.rd Obj.TRIG_RECORDS (sel d t)) ∧
  (∀ (d t : Nat) (z : Tone) (s : State),
    toneDue s d t = true → toneLegal s d t = true → z = s.tone (sel d t) → bits z.config 61 60 = 1 →
    z.stored.all (fun o => beyondBand (b2n (bit z.config 62)) ((s.rd Obj.TONE_DEADBAND (sel d t)).setWidth 64)
      (toneStored s d t) o) = true →
    ∃ u, exec (.toneSample d t () ()) s = .next u ∧
      (∃ r ∈ (u.acq d).wants, r.typ = RecType.change ∧ r.unit = t ∧ r.at_ = s.cyc + 1 ∧ r.len = 2 ∧
        r.tag = timeTag ((s.now + 2 ^ 64 - toneA z.config) % 2 ^ 64) 0 ∧ r.samples = [toneStored s d t]) ∧
      (u.tone (sel d t)).stored = some (toneStored s d t) ∧ (u.tone (sel d t)).since = 0) ∧
  (∀ (d t : Nat) (o : BitVec 36) (z : Tone) (s : State),
    toneDue s d t = true → toneLegal s d t = true → z = s.tone (sel d t) → bits z.config 61 60 = 1 →
      z.stored = some o →
    beyondBand (b2n (bit z.config 62)) ((s.rd Obj.TONE_DEADBAND (sel d t)).setWidth 64) (toneStored s d t) o = false →
    ∃ u, exec (.toneSample d t () ()) s = .next u ∧
      (if 0 < s.rdN Obj.TONE_KEEPALIVE (sel d t) ∧ s.rdN Obj.TONE_KEEPALIVE (sel d t) ≤ z.since then
        (∃ r ∈ (u.acq d).wants, r.typ = RecType.keepalive ∧ r.unit = t ∧ r.at_ = s.cyc + 1 ∧
          r.samples = [toneStored s d t]) ∧
          (u.tone (sel d t)).stored = some (toneStored s d t) ∧ (u.tone (sel d t)).since = 0
      else (u.tone (sel d t)).stored = some o ∧ (u.tone (sel d t)).since = z.since + 1)) ∧
  (∀ (d t : Nat) (z : Tone) (s : State),
    toneDue s d t = true → toneLegal s d t = true → z = s.tone (sel d t) → bits z.config 61 60 = 2 → z.block = none →
    ∃ u, exec (.toneSample d t () ()) s = .next u ∧
      (∃ r ∈ (u.acq d).wants, r.typ = RecType.block ∧ r.unit = t ∧ r.at_ = s.cyc + 1 ∧ r.len = 130 ∧ r.count = 256 ∧
        r.open_ = true ∧ r.samples = [toneStored s d t] ∧ (u.tone (sel d t)).block = some (r.id, 1))) ∧
  (∀ (d t id n : Nat) (z : Tone) (s : State),
    toneDue s d t = true → toneLegal s d t = true → z = s.tone (sel d t) → bits z.config 61 60 = 2 →
      z.block = some (id, n) →
    z.collecting.all (fun p => p.1 != id) = true →
    ∃ u, exec (.toneSample d t () ()) s = .next u ∧
      (∀ r ∈ (s.acq d).recs, r.id = id → { r with
        samples := r.samples ++ [toneStored s d t], open_ := decide (n + 1 < 256), fullAt := s.cyc + 1, flags :=
          r.flags ||| (if (toneArrives s d t).suspect then 8 else 0) } ∈ (u.acq d).recs) ∧
      (u.tone (sel d t)).block = (if n + 1 < 256 then some (id, n + 1) else none)) ∧
  (∀ (d : Nat) (c : PreCopy) (rest : List PreCopy) (z : Tone) (s : State),
    (s.acq d).copies = c :: rest → c.at_ ≤ s.cyc → z = s.tone (sel d c.tone) →
    ∃ u, exec (.preSegmentCopy d) s = .next u ∧
      (u.acq d).copies = rest ∧
      (∀ r ∈ (s.acq d).recs, r.id ≠ c.id → r ∈ (u.acq d).recs) ∧ (∀ r ∈ (s.acq d).wants, r.id ≠ c.id →
        r ∈ (u.acq d).wants) ∧
      (∀ r ∈ (s.acq d).recs, r.id = c.id → ∃ q ∈ (u.acq d).recs, q.id = r.id ∧ q.copying = false ∧
        q.samples = r.samples ∧ q.preSamples = (List.range r.pre).map (fun j =>
          if z.life = c.life ∧ c.first + j < z.n then
            match z.ring[z.n - 1 - (c.first + j)]? with
            | some y => formatSample (b2n (bit z.config 62)) y.x
            | none => 0
          else 0) ∧
        ((∃ j ∈ List.range r.pre, z.sampleNo c.life (c.first + j) = none) → bit q.flags 2 = true)) ∧
      (∀ k : Nat, k ≠ d → u.acq k = s.acq k) ∧ u = { s with acqs := u.acqs, regs := u.regs }) ∧
  (∀ (d : Nat) (s : State),
    (s.acq d).copies = [] ∨ (∃ c ∈ (s.acq d).copies.head?, s.cyc < c.at_) → exec (.preSegmentCopy d) s = .next s) ∧
  (∀ (d t : Nat) (s : State), exec (.trigArm d t) s = .next (s.setTone (sel d t) { s.tone (sel d t) with
    armed := true, arm := [false, false, false, false] })) ∧
  (∀ (d t : Nat) (s : State), exec (.trigDisarm d t) s =
    .next (s.setTone (sel d t) { s.tone (sel d t) with armed := false })) ∧
  (∀ (d t : Nat) (s : State),
    (s.tone (sel d t)).collecting = none → (s.tone (sel d t)).filled.all (fun p => p.2 != s.cyc) = true →
    exec (.trigForce d t) s = .next (s.setTone (sel d t) { s.tone (sel d t) with
      force := some ((s.tone (sel d t)).force.getD (false, s.cyc)) })) ∧
  (∀ (d t : Nat) (s : State),
    (s.tone (sel d t)).collecting ≠ none ∨ (s.tone (sel d t)).filled.any (fun p => p.2 == s.cyc) = true →
    exec (.trigForce d t) s = .next s)

/-- R332 to R336 for the majority units. That a decision is made for one cycle a command is the model's choice (log
15). -/
def Obligations.MajorityUnits : Prop :=
  (∀ (d u t w n : Nat) (c : Word) (x : Maj) (s : State),
    c = s.rd Obj.MAJ_CONFIG (sel d u) → x = s.maj (sel d u) → bit c 63 = true → s.now = t + x.lambda →
    x.decided ≠ some t → s.domOn d 32 = true → w = bits c 47 36 + 1 →
    n = ((x.fires.filter (fun f => decide (f.2 ≤ t) && decide (t < f.2 + w))).map (·.1)).eraseDups.length →
    bits c 59 48 ≤ n →
    ∃ v, exec (.majorityDecide d u) s = .next v ∧
      v.rd Obj.MAJ_FIRES (sel d u) = (s.inc Obj.MAJ_FIRES (sel d u)).rd Obj.MAJ_FIRES (sel d u) ∧
      (v.maj (sel d u)).decided = some t ∧ (v.maj (sel d u)).deaf = some (t + bits c 35 20) ∧
      (∀ f ∈ (v.maj (sel d u)).fires, f ∈ x.fires ∧ t + bits c 35 20 < f.2) ∧
      (v.port (d * 16 + 8)).posts = (s.port (d * 16 + 8)).posts ++ [Post.mk (s.cyc + 1) (128 + u)
        (BitVec.ofNat 8 (min n 31 * 8 + b2n (decide (bits c 59 48 < n)) * 4 + 1)) (.maj u)] ∧
      v.later = s.later ++ [(s.cyc + 1, d, 160 + u)] ∧
      (v.acq d).forces = (if bit c 61 then (s.acq d).forces ++ [(s.cyc + 1, u)] else (s.acq d).forces) ∧
      (if bit c 60 then ∃ r ∈ (v.acq d).wants, r.typ = RecType.majority ∧ r.unit = u ∧ r.at_ = s.cyc + 1 ∧ r.len = 2 ∧
          r.tag = timeTag t 0 ∧ r.body = n % 4096
        else (v.acq d).wants = (s.acq d).wants) ∧ (v.acq d).recs = (s.acq d).recs ∧
      (∀ k : Nat, k ≠ sel d u → v.maj k = s.maj k) ∧ (∀ k : Nat, k ≠ d → v.acq k = s.acq k) ∧
      v = { s with majs := v.majs, regs := v.regs, ports := v.ports, later := v.later, acqs := v.acqs }) ∧
  (∀ (d u t w : Nat) (c : Word) (x : Maj) (s : State),
    c = s.rd Obj.MAJ_CONFIG (sel d u) → x = s.maj (sel d u) → bit c 63 = true → s.now = t + x.lambda →
    x.decided ≠ some t → s.domOn d 32 = true → w = bits c 47 36 + 1 →
    ((x.fires.filter (fun f => decide (f.2 ≤ t) && decide (t < f.2 + w))).map (·.1)).eraseDups.length < bits c 59 48 →
    exec (.majorityDecide d u) s = .next (s.setMaj (sel d u) { x with
      decided := some t, fires := x.fires.filter (fun f => decide (t < f.2 + w + 1)) })) ∧
  (∀ (d u : Nat) (s : State),
    bit (s.rd Obj.MAJ_CONFIG (sel d u)) 63 = false ∨ s.now < (s.maj (sel d u)).lambda ∨ s.domOn d 32 = false ∨
      (s.maj (sel d u)).decided = some (s.now - (s.maj (sel d u)).lambda) →
    exec (.majorityDecide d u) s = .next s) ∧
  (∀ (d u n : Nat) (c : Word) (e : BellEvent) (p s : State),
    s.deliver d (224 + u) false = (some e, p) → c = s.rd Obj.MAJ_CONFIG (sel d u) → bit c 63 = true →
    n = s.majCount d u (s.now - (s.maj (sel d u)).lambda - 1) →
    ∃ v, exec (.majForceTask d u) s = .next v ∧
      v.rd Obj.MAJ_FIRES (sel d u) = (s.inc Obj.MAJ_FIRES (sel d u)).rd Obj.MAJ_FIRES (sel d u) ∧
      (v.port (d * 16 + 8)).posts = (s.port (d * 16 + 8)).posts ++ [Post.mk s.cyc (128 + u)
        (BitVec.ofNat 8 (min n 31 * 8 + b2n (decide (bits c 59 48 < n)) * 4 + 2)) (.maj u)] ∧
      (bit c 61 = false → v.tones = s.tones) ∧
      (bit c 61 = true → ∀ i ∈ s.members d u, (s.tone (sel d i)).collecting = none →
        (s.tone (sel d i)).filled = none →
        (v.tone (sel d i)).force = some (true, ((s.tone (sel d i)).force.getD (true, s.cyc)).2)) ∧
      (bit c 60 = true → ∃ r ∈ (v.acq d).wants, r.typ = RecType.majority ∧ r.unit = u ∧ r.at_ = s.cyc) ∧
      (bit c 60 = false ∧ bit c 61 = false → v.acqs = s.acqs) ∧
      v = { s with majs := v.majs, regs := v.regs, ports := v.ports, chans := v.chans, tones := v.tones, acqs := v.acqs })
        ∧
  (∀ (d u : Nat) (o : Option BellEvent) (p s : State),
    s.deliver d (224 + u) false = (o, p) → o = none ∨ bit (s.rd Obj.MAJ_CONFIG (sel d u)) 63 = false →
    exec (.majForceTask d u) s = .next p) ∧
  (∀ (d u : Nat) (v : BitVec 64) (s : State),
    majBad v = false →
    ∃ p, exec (.majConfigWrite d u (.config v)) s = .next p ∧
      p.rd Obj.MAJ_CONFIG (sel d u) = v.setWidth 72 ∧ (p.maj (sel d u)).fires = [] ∧
      (bit v 63 = true → ∀ i ∈ p.members d u, toneA (s.tone (sel d i)).config + toneP (s.tone (sel d i)).config + 2 ≤
        (p.maj (sel d u)).lambda) ∧
      (bit v 63 = false → (p.maj (sel d u)).lambda = (s.maj (sel d u)).lambda) ∧
      (∀ k : Nat, k ≠ sel d u → p.maj k = s.maj k) ∧ p = { s with majs := p.majs, regs := p.regs }) ∧
  (∀ (d u : Nat) (v : BitVec 64) (s : State),
    majBad v = true → exec (.majConfigWrite d u (.config v)) s = hostError) ∧
  (∀ (d u o : Nat) (ws : List Word) (s : State),
    o < 5 → ws.length ≤ 5 → (s.writeWords Obj.MAJ_GROUP (sel d u) 5 o ws).groupBad d u = false →
    ∃ p, exec (.majConfigWrite d u (.group o ws)) s = .next p ∧
      (∀ j : Nat, j < 5 → p.dw Obj.MAJ_GROUP (sel d u) j = (ws[(j + 5 - o) % 5]?).getD (s.dw Obj.MAJ_GROUP (sel d u)
        j)) ∧
      (∀ id k j : Nat, ¬ (id = Obj.MAJ_GROUP ∧ k = sel d u) → p.dw id k j = s.dw id k j) ∧
      p.maj (sel d u) = { s.maj (sel d u) with fires := [] } ∧ (∀ k : Nat, k ≠ sel d u → p.maj k = s.maj k) ∧
      p = { s with majs := p.majs, doms := p.doms }) ∧
  (∀ (d u o : Nat) (ws : List Word) (s : State),
    (s.writeWords Obj.MAJ_GROUP (sel d u) 5 o ws).groupBad d u = true →
    exec (.majConfigWrite d u (.group o ws)) s = hostError)

/-- R341 and R342 for raw capture, R345 for TRUNC, R346 to R348 for the acquisition buffer. What a stopped capture has
taken is the model's reading (log 62). -/
def Obligations.RawCaptureAndBuffer : Prop :=
  (∀ (d n i : Nat) (e : BellEvent) (p s : State),
    s.deliver d 240 false = (some e, p) → (s.acq d).raw.armed = true → (s.acq d).raw.capturing = false →
    (s.acq d).raw.copying = false → bit (s.rd Obj.RAW_CONFIG (sel d 0)) 30 = false →
    n = bits (s.rd Obj.RAW_CONFIG (sel d 0)) 16 0 + 1 → i = bits (s.rd Obj.RAW_CONFIG (sel d 0)) 29 27 →
    ∃ t, exec (.rawStartTask d) s = .next t ∧
      (t.acq d).raw = ({ armed := true, capturing := true, record := some (s.acq d).nextId, start := s.cyc, input := i, len := n }
        : Raw) ∧
      (∃ r ∈ (t.acq d).wants, r.id = (s.acq d).nextId ∧ r.typ = RecType.raw ∧ r.len = 2 + (n + 5) / 6 ∧ r.count = n ∧
        r.unit = i ∧ r.at_ = s.cyc ∧ r.tag = timeTag s.now 0 ∧ r.open_ = true ∧ r.copying = true) ∧
      (∀ r ∈ (s.acq d).wants, r ∈ (t.acq d).wants) ∧ (t.acq d).recs = (s.acq d).recs ∧ (∀ k : Nat, k ≠ d →
        t.acq k = s.acq k) ∧
      t = { p with acqs := t.acqs }) ∧
  (∀ (d : Nat) (e : BellEvent) (p s : State),
    s.deliver d 240 false = (some e, p) → (s.acq d).raw.capturing = true ∨ (s.acq d).raw.copying = true →
    exec (.rawStartTask d) s = .next (p.inc Obj.RAW_IGNORED (sel d 0))) ∧
  (∀ (d : Nat) (o : Option BellEvent) (p s : State),
    s.deliver d 240 false = (o, p) → o = none ∨ ((s.acq d).raw.capturing = false ∧ (s.acq d).raw.copying = false ∧
      ((s.acq d).raw.armed = false ∨ bit (s.rd Obj.RAW_CONFIG (sel d 0)) 30 = true)) →
    exec (.rawStartTask d) s = .next p) ∧
  (∀ (d id n : Nat) (r : Raw) (s : State),
    r = (s.acq d).raw → r.capturing = true → r.trace = false → r.record = some id →
    (r.cut = none ∧ n = r.len ∧ r.start + (n + 7) / 8 ≤ s.cyc) ∨ (∃ c, r.cut = some c ∧
      n = min r.len (8 * (c - r.start))) →
    ∃ t, exec (.rawCaptureEnd d ()) s = .next t ∧
      (t.acq d).raw = { r with capturing := false, copying := true } ∧
      (∀ x ∈ (s.acq d).recs, x.id = id → { x with
        samples := (List.range n).map (fun j => BitVec.ofInt 36 (adcAt d r.input (8 * r.start + j))), open_ :=
          false, count := n, flags := x.flags ||| (if n < x.count then 4 else 0) ||| (if s.rawSuspect d r n then 8
          else 0) } ∈ (t.acq d).recs) ∧
      (∀ x ∈ (s.acq d).recs, x.id ≠ id → x ∈ (t.acq d).recs) ∧ (∀ k : Nat, k ≠ d → t.acq k = s.acq k) ∧
      t = { s with acqs := t.acqs }) ∧
  (∀ (d id n : Nat) (r : Raw) (s : State),
    r = (s.acq d).raw → r.capturing = true → r.trace = true → r.record = some id →
    (r.cut = none ∧ r.closed = true ∧ n = r.len ∧ r.start + 14 + n ≤ s.cyc) ∨ (∃ c, r.cut = some c ∧
      n = min r.len (c - r.start - 14)) →
    ∃ t, exec (.rawCaptureEnd d ()) s = .next t ∧
      (t.acq d).raw = { r with capturing := false, copying := true } ∧
      (∀ x ∈ (s.acq d).recs, x.id = id → { x with
        samples := (decimatedFrom d r.input r.start r.phase r.freq n).map (fun y : Sample => y.i ++ y.q), open_ :=
          false, count := n, flags := x.flags ||| (if n < x.count then 4 else 0) ||| (if s.rawSuspect d r n then 8
          else 0) } ∈ (t.acq d).recs) ∧
      (∀ x ∈ (s.acq d).recs, x.id ≠ id → x ∈ (t.acq d).recs) ∧ (∀ k : Nat, k ≠ d → t.acq k = s.acq k) ∧
      t = { s with acqs := t.acqs }) ∧
  (∀ (d : Nat) (r : Raw) (s : State),
    r = (s.acq d).raw →
    r.capturing = false ∨ r.record = none ∨ (r.cut = none ∧ ((r.trace = true ∧ r.closed = false) ∨
      (r.trace = true ∧ s.cyc < r.start + 14 + r.len) ∨ (r.trace = false ∧ s.cyc < r.start + (r.len + 7) / 8))) →
    exec (.rawCaptureEnd d ()) s = .next s) ∧
  (∀ (d : Nat) (s : State),
    (s.acq d).raw.copying = true →
    ∃ t, exec (.rawCopyEnd d) s = .next t ∧
      (t.acq d).raw = ({ armed := if (s.acq d).raw.stop then (s.acq d).raw.armed else bit (s.rd Obj.RAW_CONFIG (sel d 0)) 31 }
        : Raw) ∧
      (∀ r ∈ (s.acq d).recs, (s.acq d).raw.record = some r.id → { r with copying := false } ∈ (t.acq d).recs) ∧
      (∀ r ∈ (s.acq d).recs, (s.acq d).raw.record ≠ some r.id → r ∈ (t.acq d).recs) ∧
      (∀ k : Nat, k ≠ d → t.acq k = s.acq k) ∧ t = { s with acqs := t.acqs, chans := (s.raise d 177).chans }) ∧
  (∀ (d : Nat) (s : State),
    (s.acq d).raw.copying = false → exec (.rawCopyEnd d) s = .next s) ∧
  (∀ (d : Nat) (a z : Acq) (s : State),
    z = s.acq d → a = z.flushed s.cyc →
    a.dropping = false ∨ 4194304 - a.fill < s.rdN Obj.ACQ_RESUME (sel d 0) ∨ 4194304 < a.fill + 3 →
    exec (.acqFlush d) s = .next (s.setAcq d a)) ∧
  (∀ (d : Nat) (a z : Acq) (s : State),
    z = s.acq d → a = z.flushed s.cyc →
    a.dropping = true → s.rdN Obj.ACQ_RESUME (sel d 0) ≤ 4194304 - a.fill → a.fill + 3 ≤ 4194304 →
    ∃ t, exec (.acqFlush d) s = .next t ∧ (t.acq d).dropping = false ∧ (t.acq d).gapCount = 0 ∧
      (∀ r ∈ a.recs, r ∈ (t.acq d).recs) ∧
      (∃ g ∈ (t.acq d).recs, g.typ = RecType.gap ∧ g.at_ = s.cyc ∧ g.len = 3 ∧ g.tag = a.gapFirst ∧
        g.word2 = a.gapLast ∧
        g.body = a.gapCount) ∧
      (∀ k : Nat, k ≠ d → t.acq k = s.acq k) ∧ t = { s with acqs := t.acqs })

/-- R359, R364, R365, R371 and R372. -/
def Obligations.ChannelsAndFires : Prop :=
  (∀ (d c ses : Nat) (v : BitVec 32) (s : State),
    s.mayConfigure (sel d c) ses (bit v 22) = true → chanConfigBad s.member c v = false →
    ∃ t, exec (.chanConfig d c ses v) s = .next t ∧
      t.rd Obj.CHAN_CONFIG (sel d c) = v.setWidth 72 ∧
        (t.chan (sel d c)).owner = some ((s.chan (sel d c)).owner.getD ses) ∧
      t.chan (sel d c) = { s.chan (sel d c) with owner := (t.chan (sel d c)).owner } ∧
      t.rdSeen Obj.CHAN_CONFIG (sel d c) 2 = s.rdSeen Obj.CHAN_CONFIG (sel d c) 2 ∧
      (∀ id k : Nat, ¬ (id = Obj.CHAN_CONFIG ∧ k = sel d c) → t.rd id k = s.rd id k) ∧
      (∀ k : Nat, k ≠ sel d c → t.chan k = s.chan k) ∧
      t = { s with regs := t.regs, recent := t.recent, chans := t.chans }) ∧
  (∀ (d c ses : Nat) (v : BitVec 32) (s : State),
    s.mayConfigure (sel d c) ses (bit v 22) = true → chanConfigBad s.member c v = true →
    exec (.chanConfig d c ses v) s = hostError) ∧
  (∀ (d c ses : Nat) (v : BitVec 32) (s : State),
    s.mayConfigure (sel d c) ses (bit v 22) = false → exec (.chanConfig d c ses v) s = .next s) ∧
  (∀ (d c ses : Nat) (s : State),
    s.mayFire (sel d c) ses = true → s.dieRuns d = true →
    ∃ t, exec (.chanFireImmediate d c ses) s = .next t ∧
      (∃ e ∈ (t.chan (sel d c)).events, e.raised = s.cyc ∧ bit e.cands 4 = true) ∧
      (∀ k : Nat, k ≠ sel d c → t.chan k = s.chan k) ∧ t = { s with chans := t.chans, regs := t.regs }) ∧
  (∀ (d c ses : Nat) (s : State),
    s.mayFire (sel d c) ses = false ∨ s.dieRuns d = false → exec (.chanFireImmediate d c ses) s = .next s) ∧
  (∀ (d c ses : Nat) (time : Time) (s : State),
    s.mayFire (sel d c) ses = true → s.now ≤ time.toNat → (s.fires.filter (fun f => f.die == d)).length < 64 →
    ∃ t, exec (.chanFireTimed d c ses time) s = .next t ∧
      (∀ f : TimedFire, f ∈ t.fires ↔ f = TimedFire.mk d c time ∨ f ∈ s.fires) ∧ t.fires.length = s.fires.length + 1 ∧
      t = { s with fires := t.fires }) ∧
  (∀ (d c ses : Nat) (time : Time) (s : State),
    s.mayFire (sel d c) ses = true → s.now ≤ time.toNat → 64 ≤ (s.fires.filter (fun f => f.die == d)).length →
    exec (.chanFireTimed d c ses time) s = .next (s.inc Obj.FIRE_REFUSED (sel d 0))) ∧
  (∀ (d c ses : Nat) (time : Time) (s : State),
    s.mayFire (sel d c) ses = true → time.toNat < s.now →
    ∃ t, exec (.chanFireTimed d c ses time) s = .next t ∧
      (s.dieRuns d = true → ∃ e ∈ (t.chan (sel d c)).events, e.raised = s.cyc ∧ bit e.cands 4 = true) ∧
      t.rd Obj.LATE_FIRES (sel d 0) = (s.inc Obj.LATE_FIRES (sel d 0)).rd Obj.LATE_FIRES (sel d 0) ∧
      t = { s with chans := t.chans, regs := t.regs }) ∧
  (∀ (d c ses : Nat) (time : Time) (s : State),
    s.mayFire (sel d c) ses = false → exec (.chanFireTimed d c ses time) s = .next s) ∧
  (∀ (d : Nat) (s : State),
    ∃ t, exec (.timedFireExpire d) s = .next t ∧
      (s.dieRuns d = true → ∀ f ∈ s.fires, f.die = d → f.time.toNat ≤ s.now →
        ∃ e ∈ (t.chan (sel d f.chan)).events, e.raised = s.cyc ∧ bit e.cands 4 = true) ∧
      t.fires = s.fires.filter (fun f : TimedFire => f.die != d || decide (s.now < f.time.toNat)) ∧
      t = { s with fires := t.fires, chans := t.chans, regs := t.regs }) ∧
  (∀ (d c ses : Nat) (s : State),
    s.mayConfigure (sel d c) ses false = true →
    exec (.chanFireCancel d c ses) s = .next
      { s with fires := s.fires.filter (fun f => f.die != d || f.chan != c) }) ∧
  (∀ (d c ses : Nat) (s : State),
    s.mayConfigure (sel d c) ses false = false → exec (.chanFireCancel d c ses) s = .next s) ∧
  (∀ (d c ses : Nat) (s : State),
    s.isAdmin ses = true ∨ (s.isOpen ses = true ∧ (s.chan (sel d c)).owner = some ses ∧
      bit (s.rd Obj.CHAN_CONFIG (sel d c)) 22 = false) →
    exec (.chanRelease d c ses) s = .next (s.setChan (sel d c) { s.chan (sel d c) with owner := none })) ∧
  (∀ (d c ses : Nat) (s : State),
    s.isAdmin ses = false →
    s.isOpen ses = false ∨ (s.chan (sel d c)).owner ≠ some ses ∨ bit (s.rd Obj.CHAN_CONFIG (sel d c)) 22 = true →
    exec (.chanRelease d c ses) s = .next s)

/-- R354 for tick generators, R353 and R359 for events on channels, R367 for bridges, R369 and R370 for the consumers
ALERT and HOST_NOTIFY, R362 for remembered events. -/
def Obligations.ProducersAndConsumers : Prop :=
  (∀ (d n p g : Nat) (s : State),
    n < 4 → s.dieRuns d = true → p = (s.rdSeen (Obj.TICK_PERIOD_0 + n) (sel d 0) 2).toNat →
    g = (s.rdSeen (Obj.TICK_START_0 + n) (sel d 0) 2).toNat → 0 < p → g ≤ s.now →
    (s.now - g) % p = 0 ∨ (s.clock.stepCyc = some s.cyc ∧ s.clock.stepFrom.toNat < s.now - (s.now - g) % p) →
    ∃ t, exec (.tick d n) s = .next t ∧
      (∀ c j : Nat, c < 8192 → j < 4 → (candidates c).getD j none = some (388 + n) →
        bit (s.rdSeen Obj.CHAN_CONFIG (sel d c) 2) (24 + j) = true →
        ∃ e ∈ (t.chan (sel d c)).events, e.raised = s.cyc ∧ bit e.cands j = true) ∧
      (∀ c : Nat, c < 8192 → bits (s.rdSeen Obj.CHAN_CONFIG (sel d c) 2) 27 24 = 0 →
        t.chan (sel d c) = s.chan (sel d c)) ∧ t = { s with chans := t.chans, regs := t.regs }) ∧
  (∀ (d n p g : Nat) (s : State),
    p = (s.rdSeen (Obj.TICK_PERIOD_0 + n) (sel d 0) 2).toNat →
      g = (s.rdSeen (Obj.TICK_START_0 + n) (sel d 0) 2).toNat →
    4 ≤ n ∨ p = 0 ∨ s.now < g ∨ ((s.now - g) % p ≠ 0 ∧ s.clock.stepCyc ≠ some s.cyc) →
    exec (.tick d n) s = .next s) ∧
  (∀ (d : Nat) (s : State),
    (∀ m ∈ s.flight, m.dst = d → MsgBody.isBridge m.body = true → m.left ≠ [] ∨ s.cyc < m.due) →
    exec (.bridgeEventArrive d) s = .next s) ∧
  (∀ (d link lane : Nat) (cs : List Nat) (m : Msg) (u s : State),
    s.arrived d MsgBody.isBridge = some (m, u) → m.body = .bridge link lane cs →
    exec (.bridgeEventArrive d) s = .next (u.raise d (334 + 16 * farLink s.member.dies link + lane))) ∧
  (∀ (d : Nat) (e : BellEvent) (u s : State),
    s.deliver d 254 false = (some e, u) →
    exec (.alertTask d) s = .next (u.wrN Obj.ALERT_EVENT (sel d 0) 1)) ∧
  (∀ (d : Nat) (s : State), exec (.alertClear d) s = .next (s.wrN Obj.ALERT_EVENT (sel d 0) 0)) ∧
  (∀ (d : Nat) (u s : State),
    s.deliver d 254 false = (none, u) → exec (.alertTask d) s = .next u) ∧
  (∀ (d o : Nat) (e : BellEvent) (it : Item) (u s : State),
    s.deliver d 255 (s.die d).notifyBusy = (some e, u) → (s.chan (sel d 255)).owner = some o →
    (s.session o).items.length + (if (s.session o).lost = 0 then 1 else 2) ≤ 256 →
    it = Item.mk 0 d (word (s.now * 256)) (word (e.cands.toNat % 16)) s.cyc →
    ∃ t, exec (.hostNotifyTask d) s = .next t ∧
      t.session o = { s.session o with
        items := (s.session o).items ++ (if (s.session o).lost = 0 then [it] else [Item.mk 5 0 it.tag (word
          (s.session o).lost) s.cyc, it]), lost := 0 } ∧
      t.die d = { s.die d with notifyBusy := true } ∧ (∀ k : Nat, k ≠ d → t.die k = s.die k) ∧
      (∀ k : Nat, k ≠ o → t.session k = s.session k) ∧
      t = { u with sessions := t.sessions, dies := t.dies }) ∧
  (∀ (d o : Nat) (e : BellEvent) (u s : State),
    s.deliver d 255 (s.die d).notifyBusy = (some e, u) → (s.chan (sel d 255)).owner = some o →
    256 < (s.session o).items.length + (if (s.session o).lost = 0 then 1 else 2) →
    exec (.hostNotifyTask d) s = .next ((u.setSession o { s.session o with lost := (s.session o).lost + 1 }).inc
      Obj.NOTIFY_LOST o)) ∧
  (∀ (d : Nat) (e : BellEvent) (u s : State),
    s.deliver d 255 (s.die d).notifyBusy = (some e, u) → (s.chan (sel d 255)).owner = none →
    exec (.hostNotifyTask d) s =
      .next ((u.wr Obj.CHAN_EVENTS (sel d 255) (s.rd Obj.CHAN_EVENTS (sel d 255))).inc Obj.CHAN_DROPPED (sel d
        255))) ∧
  (∀ (d : Nat) (u s : State),
    s.deliver d 255 (s.die d).notifyBusy = (none, u) → exec (.hostNotifyTask d) s = .next u) ∧
  (∀ (d c : Nat) (s : State),
    (s.chan (sel d c)).kept ≠ none → exec (.rememberedEventDeliver d c) s = exec (taskRow d c) s) ∧
  (∀ (d c : Nat) (s : State),
    (s.chan (sel d c)).kept = none → exec (.rememberedEventDeliver d c) s = .next s) ∧
  (∀ (d : Nat) (e : BellEvent) (s : State),
    (s.chan (sel d 254)).kept = some e → (s.chan (sel d 254)).keptFrom ≤ s.cyc → (s.chan (sel d 254)).events = [] →
    (s.chan (sel d 254)).lastAt ≠ some s.cyc →
    ∃ t, exec (.rememberedEventDeliver d 254) s = .next t ∧
      t.rd Obj.ALERT_EVENT (sel d 0) = 1 ∧ (t.chan (sel d 254)).kept = none ∧
      (t.chan (sel d 254)).lastAt = some s.cyc ∧ (∀ k : Nat, k ≠ sel d 254 → t.chan k = s.chan k) ∧
      t = { s with chans := t.chans, regs := t.regs })

/-- R380 to R387 for bias outputs, R382 for the order within a cycle, R398 for BIAS_ENQUEUE. -/
def Obligations.BiasQueueAndTicks : Prop :=
  (∀ (d o : Nat) (v : Word) (codes : List Int) (x : Bias) (s : State),
    bits v 71 62 = 0 → s.domKept d (domBias o) = true → x = s.bias (sel d o) →
    codes = [signed 20 (bits v 59 40), signed 20 (bits v 39 20), signed 20 (bits v 19 0)].take (bits v 61 60) →
    ∃ t, exec (.biasEnqueue d o v) s = .next t ∧
      (s.biasTurn (sel d o) = ({} : BiasTurn) → t.bias (sel d o) = { x with
          queue := x.queue ++ codes.take (512 - x.queue.length), spell := x.spell && (codes.take (512 -
            x.queue.length)).isEmpty } ∧
        (t.biasTurn (sel d o)).refused = codes.length - (512 - x.queue.length)) ∧
      (∀ k : Nat, k ≠ sel d o → t.bias k = s.bias k ∧ t.biasTurn k = s.biasTurn k) ∧
        t = { s with biases := t.biases, biasTurns := t.biasTurns }) ∧
  (∀ (d o : Nat) (v : Word) (s : State),
    bits v 71 62 ≠ 0 → exec (.biasEnqueue d o v) s = hostError) ∧
  (∀ (d o : Nat) (x : Bias) (s : State),
    s.domKept d (domBias o) = true → x = s.bias (sel d o) →
    ∃ t, exec (.biasStart d o) s = .next t ∧
      (s.biasTurn (sel d o) = ({} : BiasTurn) → t.bias (sel d o) = if x.ramp ≠ none ∨ x.run then x else { x with
        run := true, safeHeld := false, spell := false }) ∧
      (∀ k : Nat, k ≠ sel d o → t.bias k = s.bias k ∧ t.biasTurn k = s.biasTurn k) ∧
        t = { s with biases := t.biases, biasTurns := t.biasTurns }) ∧
  (∀ (d o : Nat) (x : Bias) (s : State),
    s.domKept d (domBias o) = true → x = s.bias (sel d o) →
    ∃ t, exec (.biasStop d o) s = .next t ∧
      (s.biasTurn (sel d o) = ({} : BiasTurn) →
        t.bias (sel d o) = if x.ramp ≠ none then x else { x with run := false }) ∧
      (∀ k : Nat, k ≠ sel d o → t.bias k = s.bias k ∧ t.biasTurn k = s.biasTurn k) ∧
        t = { s with biases := t.biases, biasTurns := t.biasTurns }) ∧
  (∀ (d o : Nat) (x : Bias) (s : State),
    s.domKept d (domBias o) = true → x = s.bias (sel d o) →
    ∃ t, exec (.biasFlush d o) s = .next t ∧
      (s.biasTurn (sel d o) = ({} : BiasTurn) → t.bias (sel d o) = { x with queue := [] }) ∧
      (∀ k : Nat, k ≠ sel d o → t.bias k = s.bias k ∧ t.biasTurn k = s.biasTurn k) ∧
        t = { s with biases := t.biases, biasTurns := t.biasTurns }) ∧
  (∀ (d o : Nat) (u s : State),
    s.domKept d (domBias o) = true → s.biasTurn (sel d o) = ({} : BiasTurn) → (s.bias (sel d o)).ramp = none →
    .next u = exec (.biasStop d o) s →
    ∃ t, exec (.biasStart d o) u = .next t ∧ (t.bias (sel d o)).run = false) ∧
  (∀ (d o : Nat) (v : Word) (u s : State),
    s.domKept d (domBias o) = true → s.biasTurn (sel d o) = ({} : BiasTurn) → .next u = exec (.biasEnqueue d o v) s →
    ∃ t, exec (.biasFlush d o) u = .next t ∧ (t.bias (sel d o)).queue =
      [signed 20 (bits v 59 40), signed 20 (bits v 39 20), signed 20 (bits v 19 0)].take (bits v 61 60)) ∧
  (∀ (d o : Nat) (v w : Word) (u s : State),
    s.domOn d (domBias o) = true → s.biasTurn (sel d o) = ({} : BiasTurn) → (s.bias (sel d o)).run = true →
      (s.bias (sel d o)).queue = [] →
    s.biasGrid (sel d o) = true → w = s.rd Obj.BIAS_CONFIG (sel d o) → biasConfigBad w = false →
    biasDividerBad (s.rdN Obj.BIAS_DIVIDER (sel d o)) = false → .next u = exec (.biasEnqueue d o v) s →
    ∃ t, exec (.biasTick d o) u = .next t ∧ (t.bias (sel d o)).starved = true ∧
      (t.bias (sel d o)).code = (s.bias (sel d o)).code ∧
      (t.bias (sel d o)).queue = [signed 20 (bits v 59 40), signed 20 (bits v 39 20), signed 20 (bits v 19 0)].take
        (bits v 61 60)) ∧
  (∀ (d g : Nat) (e : BellEvent) (u s : State),
    g < 4 → s.deliver d (241 + 3 * g) (s.biasAsleep d g) = (some e, u) →
    ∃ t, exec (.biasStartTask d g) s = .next t ∧
      (∀ o : Nat, 16 * g ≤ o → o < 16 * g + 16 → s.domOn d (domBias o) = true → (s.bias (sel d o)).ramp = none →
        s.biasTurn (sel d o) = ({} : BiasTurn) → (t.bias (sel d o)).run = true) ∧
      (∀ o : Nat, 16 * g ≤ o → o < 16 * g + 16 → s.domOn d (domBias o) = false →
        t.bias (sel d o) = s.bias (sel d o)) ∧
      (∀ k : Nat, k < sel d (16 * g) ∨ sel d (16 * g + 16) ≤ k → t.bias k = s.bias k) ∧
      t = { u with biases := t.biases, biasTurns := t.biasTurns }) ∧
  (∀ (d g : Nat) (e : BellEvent) (u s : State),
    g < 4 → s.deliver d (242 + 3 * g) (s.biasAsleep d g) = (some e, u) →
    ∃ t, exec (.biasStopTask d g) s = .next t ∧
      (∀ o : Nat, 16 * g ≤ o → o < 16 * g + 16 → s.domOn d (domBias o) = true → (s.bias (sel d o)).ramp = none →
        s.biasTurn (sel d o) = ({} : BiasTurn) → (t.bias (sel d o)).run = false) ∧
      (∀ o : Nat, 16 * g ≤ o → o < 16 * g + 16 → s.domOn d (domBias o) = false →
        t.bias (sel d o) = s.bias (sel d o)) ∧
      (∀ k : Nat, k < sel d (16 * g) ∨ sel d (16 * g + 16) ≤ k → t.bias k = s.bias k) ∧
      t = { u with biases := t.biases, biasTurns := t.biasTurns }) ∧
  (∀ (d g : Nat) (e : BellEvent) (u s : State),
    g < 4 → s.deliver d (243 + 3 * g) (s.biasAsleep d g) = (some e, u) →
    ∃ t, exec (.biasFlushTask d g) s = .next t ∧
      (∀ o : Nat, 16 * g ≤ o → o < 16 * g + 16 → s.domOn d (domBias o) = true →
        s.biasTurn (sel d o) = ({} : BiasTurn) →
        t.bias (sel d o) = { s.bias (sel d o) with queue := [] }) ∧
      (∀ o : Nat, 16 * g ≤ o → o < 16 * g + 16 → s.domOn d (domBias o) = false →
        t.bias (sel d o) = s.bias (sel d o)) ∧
      (∀ k : Nat, k < sel d (16 * g) ∨ sel d (16 * g + 16) ≤ k → t.bias k = s.bias k) ∧
      t = { u with biases := t.biases, biasTurns := t.biasTurns }) ∧
  (∀ (d g j : Nat) (u s : State),
    g < 4 → j < 3 → s.deliver d (241 + 3 * g + j) (s.biasAsleep d g) = (none, u) →
    exec (if j = 0 then .biasStartTask d g else if j = 1 then .biasStopTask d g else .biasFlushTask d g) s = .next
      u) ∧
  (∀ (d o : Nat) (w : Word) (s : State),
    s.domOn d (domBias o) = true → s.biasGrid (sel d o) = true → (s.biasTurn (sel d o)).tick = none →
    w = s.rd Obj.BIAS_CONFIG (sel d o) → biasConfigBad w = false →
      biasDividerBad (s.rdN Obj.BIAS_DIVIDER (sel d o)) = false →
    ∃ t, exec (.biasTick d o) s = .next t ∧
      (t.biasTurn (sel d o)).tick = some (w, s.rdN Obj.BIAS_DIVIDER (sel d o)) ∧
      (∀ k : Nat, k ≠ sel d o → t.bias k = s.bias k ∧ t.biasTurn k = s.biasTurn k) ∧
        t = { s with biases := t.biases, biasTurns := t.biasTurns }) ∧
  (∀ (d o : Nat) (c : Int) (rest : List Int) (x : Bias) (w : Word) (held : Bool) (s : State),
    s.domOn d (domBias o) = true → s.biasGrid (sel d o) = true → s.biasTurn (sel d o) = ({} : BiasTurn) →
      x = s.bias (sel d o) →
    w = s.rd Obj.BIAS_CONFIG (sel d o) → biasConfigBad w = false →
      biasDividerBad (s.rdN Obj.BIAS_DIVIDER (sel d o)) = false →
    x.run = true → x.queue = c :: rest →
    held = (if bits w 4 3 = 0 then decide ((BitVec.ofInt 20 c).toNat / 16384 ≠ (BitVec.ofInt 20 x.code).toNat / 16384)
      else if bits w 4 3 = 1 then decide (c ≠ x.code) else false) →
    ∃ t, exec (.biasTick d o) s = .next t ∧
      t.bias (sel d o) = { x with
        code := c, queue := rest, starved := false, spell := false, deglitch := bits w 4 3, limit := bits w 12 8,
          divider := s.rdN Obj.BIAS_DIVIDER (sel d o), written := false, hold := if held then some (s.cyc + 24,
          s.cyc + 224) else x.hold, lands := (s.cyc + (if held then 224 else 24), (c, x.range)) :: trimTrail s.cyc
          x.lands } ∧
      (t.biasTurn (sel d o)).starved = false) ∧
  (∀ (d o : Nat) (x : Bias) (w : Word) (s : State),
    s.domOn d (domBias o) = true → s.biasGrid (sel d o) = true → s.biasTurn (sel d o) = ({} : BiasTurn) →
      x = s.bias (sel d o) →
    w = s.rd Obj.BIAS_CONFIG (sel d o) → biasConfigBad w = false →
      biasDividerBad (s.rdN Obj.BIAS_DIVIDER (sel d o)) = false →
    x.run = true → x.queue = [] →
    ∃ t, exec (.biasTick d o) s = .next t ∧
      t.bias (sel d o) = { x with
        starved := true, spell := true, deglitch := bits w 4 3, limit := bits w 12 8, divider := s.rdN
          Obj.BIAS_DIVIDER (sel d o), written := false } ∧
      (t.biasTurn (sel d o)).starved = true ∧ (t.biasTurn (sel d o)).first = !x.spell) ∧
  (∀ (d o : Nat) (x : Bias) (w : Word) (s : State),
    s.domOn d (domBias o) = true → s.biasGrid (sel d o) = true → s.biasTurn (sel d o) = ({} : BiasTurn) →
      x = s.bias (sel d o) →
    w = s.rd Obj.BIAS_CONFIG (sel d o) → biasConfigBad w = false →
      biasDividerBad (s.rdN Obj.BIAS_DIVIDER (sel d o)) = false →
    x.run = false →
    ∃ t, exec (.biasTick d o) s = .next t ∧
      (t.bias (sel d o)).code = x.code ∧ (t.bias (sel d o)).queue = x.queue ∧ (t.bias (sel d o)).run = false ∧
      (t.bias (sel d o)).range = bits w 2 0 ∧ (t.bias (sel d o)).deglitch = bits w 4 3 ∧
        (t.bias (sel d o)).limit = bits w 12 8 ∧
      (t.bias (sel d o)).divider = s.rdN Obj.BIAS_DIVIDER (sel d o) ∧ (t.bias (sel d o)).written = false ∧
      (t.bias (sel d o)).rangeWritten = false ∧
      (x.range ≠ bits w 2 0 → (t.bias (sel d o)).hold = some (s.cyc + 24, s.cyc + 224) ∧
        (t.bias (sel d o)).lands.head? = some (s.cyc + 224, (x.code, bits w 2 0))) ∧
      (x.range = bits w 2 0 → (t.bias (sel d o)).hold = x.hold ∧ (t.bias (sel d o)).lands = x.lands) ∧
      (t.biasTurn (sel d o)).starved = false) ∧
  (∀ (d o : Nat) (s : State),
    s.domOn d (domBias o) = true → s.biasGrid (sel d o) = true → (s.biasTurn (sel d o)).tick = none →
    biasConfigBad (s.rd Obj.BIAS_CONFIG (sel d o)) = true ∨ biasDividerBad (s.rdN Obj.BIAS_DIVIDER (sel d o)) = true →
    exec (.biasTick d o) s = hostError) ∧
  (∀ (d o : Nat) (s : State),
    s.domOn d (domBias o) = false ∨ s.biasGrid (sel d o) = false ∨ (s.biasTurn (sel d o)).tick ≠ none →
    exec (.biasTick d o) s = .next s) ∧
  (∀ (k : Nat) (u : BiasTurn) (t s : State),
    t = s.biasReport k u →
    (u.refused ≠ 0 → t.rd Obj.BIAS_REFUSED k = (s.count Obj.BIAS_REFUSED k u.refused).rd Obj.BIAS_REFUSED k ∧
      bit (t.rd Obj.BIAS_STATUS k) 9 = true) ∧
    (u.starved = true → t.rd Obj.UNDERRUN_TICKS k = (s.inc Obj.UNDERRUN_TICKS k).rd Obj.UNDERRUN_TICKS k) ∧
    (u.first = true → bit (t.rd Obj.BIAS_STATUS k) 7 = true ∧
      t.chans = (s.raise (selDie k) (258 + selUnit k)).chans) ∧
    t = { s with regs := t.regs, chans := t.chans }) ∧
  (∀ (d o b e : Nat) (s : State),
    (s.bias (sel d o)).hold = some (b, e) → e ≤ s.cyc →
    exec (.deglitchHoldEnd d o) s = .next (s.setBias (sel d o) { s.bias (sel d o) with hold := none })) ∧
  (∀ (d o : Nat) (s : State),
    (s.bias (sel d o)).hold.all (fun h => decide (s.cyc < h.2)) = true →
    exec (.deglitchHoldEnd d o) s = .next s) ∧
  (∀ (d o : Nat) (v : Word) (s : State),
    s.domKept d (domBias o) = false → bits v 71 62 = 0 → exec (.biasEnqueue d o v) s = .next s) ∧
  (∀ (d o : Nat) (s : State),
    s.domKept d (domBias o) = false → exec (.biasStart d o) s = .next s) ∧
  (∀ (d o : Nat) (s : State),
    s.domKept d (domBias o) = false → exec (.biasStop d o) s = .next s) ∧
  (∀ (d o : Nat) (s : State),
    s.domKept d (domBias o) = false → exec (.biasFlush d o) s = .next s)

/-- R388 for compliance, R390 and R391 for safe ramps. That a detection holds in the cycle of its row is the model's
choice (log 15). -/
def Obligations.BiasSafetyAndCompliance : Prop :=
  (∀ (d o : Nat) (x : Bias) (s : State),
    s.domOn d (domBias o) = true → x = s.bias (sel d o) →
    ∃ t, exec (.biasSafe d o) s = .next t ∧
      (s.biasTurn (sel d o) = ({} : BiasTurn) → t.bias (sel d o) = { x with
        run := false, ramp := if x.code = signed 20 (s.rdN Obj.SAFE_CODE (sel d o)) then none else some (Ramp.mk
          s.cyc), safeHeld := decide (x.code = signed 20 (s.rdN Obj.SAFE_CODE (sel d o))) }) ∧
      (∀ k : Nat, k ≠ sel d o → t.bias k = s.bias k ∧ t.biasTurn k = s.biasTurn k) ∧
        t = { s with biases := t.biases, biasTurns := t.biasTurns }) ∧
  (∀ (d o : Nat) (u s : State),
    s.domOn d (domBias o) = true → s.biasTurn (sel d o) = ({} : BiasTurn) → (s.bias (sel d o)).ramp = none →
      .next u = exec (.biasSafe d o) s →
    ∃ t, exec (.biasStart d o) u = .next t ∧ (t.bias (sel d o)).run = false ∧
      (t.bias (sel d o)).ramp = (u.bias (sel d o)).ramp) ∧
  (∀ (d o at_ : Nat) (x : Bias) (s : State),
    s.domOn d (domBias o) = true → x = s.bias (sel d o) → x.ramp = some ⟨at_⟩ → at_ + 1250 ≤ s.cyc →
    s.rdN Obj.SAFE_SLEW (sel d o) < 1048576 → s.rdN Obj.SAFE_CODE (sel d o) < 1048576 →
    ∃ t, exec (.safeRampStep d o) s = .next t ∧ (t.biasTurn (sel d o)).step = true ∧
      (∀ k : Nat, k ≠ sel d o → t.bias k = s.bias k ∧ t.biasTurn k = s.biasTurn k) ∧
        t = { s with biases := t.biases, biasTurns := t.biasTurns }) ∧
  (∀ (d o at_ : Nat) (x : Bias) (safe : Int) (slew : Nat) (s : State),
    s.domOn d (domBias o) = true → x = s.bias (sel d o) → x.ramp = some ⟨at_⟩ → at_ + 1250 ≤ s.cyc →
      s.biasTurn (sel d o) = ({} : BiasTurn) →
    slew = s.rdN Obj.SAFE_SLEW (sel d o) → slew < 1048576 → s.rdN Obj.SAFE_CODE (sel d o) < 1048576 →
    safe = signed 20 (s.rdN Obj.SAFE_CODE (sel d o)) →
    ∃ t, exec (.safeRampStep d o) s = .next t ∧
      (0 < slew → ((t.bias (sel d o)).code - x.code).natAbs ≤ slew) ∧
      (slew < (safe - x.code).natAbs → 0 < slew →
        ((t.bias (sel d o)).code - safe).natAbs + slew = (x.code - safe).natAbs ∧
        (t.bias (sel d o)).ramp = some (Ramp.mk (at_ + 1250)) ∧ (t.bias (sel d o)).safeHeld = x.safeHeld) ∧
      ((safe - x.code).natAbs ≤ slew ∨ slew = 0 → (t.bias (sel d o)).code = safe ∧ (t.bias (sel d o)).ramp = none ∧
        (t.bias (sel d o)).safeHeld = true) ∧
      (t.bias (sel d o)).queue = x.queue ∧ (t.bias (sel d o)).run = x.run) ∧
  (∀ (d o at_ : Nat) (s : State),
    s.domOn d (domBias o) = true → (s.bias (sel d o)).ramp = some ⟨at_⟩ → at_ + 1250 ≤ s.cyc →
    1048576 ≤ s.rdN Obj.SAFE_SLEW (sel d o) ∨ 1048576 ≤ s.rdN Obj.SAFE_CODE (sel d o) →
    exec (.safeRampStep d o) s = hostError) ∧
  (∀ (d o : Nat) (s : State),
    s.domOn d (domBias o) = false ∨ (s.bias (sel d o)).ramp.all (fun r => decide (s.cyc < r.at_ + 1250)) = true →
    exec (.safeRampStep d o) s = .next s) ∧
  (∀ (d o : Nat) (s : State),
    s.domOn d (domBias o) = true → (s.bias (sel d o)).inComp = false →
    ∃ t, exec (.complianceDetect d o) s = .next t ∧
      t.bias (sel d o) = { s.bias (sel d o) with inComp := true } ∧ bit (t.rd Obj.BIAS_STATUS (sel d o)) 8 = true ∧
      (∀ k : Nat, k ≠ sel d o → t.bias k = s.bias k) ∧ t.chans = (s.raise d (194 + o)).chans ∧
      t = { s with biases := t.biases, regs := t.regs, chans := t.chans }) ∧
  (∀ (d o : Nat) (s : State),
    s.domOn d (domBias o) = false ∨ (s.bias (sel d o)).inComp = true → exec (.complianceDetect d o) s = .next s) ∧
  (∀ (d o : Nat) (s : State),
    s.domOn d (domBias o) = true →
    exec (.complianceClear d o) s = .next (s.setBias (sel d o) { s.bias (sel d o) with inComp := false })) ∧
  (∀ (d o : Nat) (s : State),
    s.domOn d (domBias o) = false → exec (.complianceClear d o) s = .next s) ∧
  (∀ (d o : Nat) (s : State),
    s.domOn d (domBias o) = false → exec (.biasSafe d o) s = .next s)

/-- R403 to R406 for edges and boundaries, R408 and R409 for the result, R410 to R412 for the range, R416 for the end
of a burst. The scale of a conversion's 24-bit result is the model's choice (log 22). -/
def Obligations.SensorEdges : Prop :=
  (∀ (d c g : Nat) (m : ConvMeas) (x : Sns) (s : State),
    x = s.sns (sel d c) → sensorDue s d c = true → x.exciting = true → x.half + 1 < 2 * snsBurst x.config →
    x.closed = false → m.beyond = false →
    m.saturated = false → g = s.rdN Obj.SNS_GAIN (sel d c) → snsBad x.config g = false →
    ∃ t, exec (.sensorEdge d c m) s = .next t ∧
      t.sns (sel d c) = { x with
        convs := x.convs ++ [Conv.mk (x.half % 2 == 0) m.sense.toInt m.ref.toInt x.gain], half := x.half + 1,
        gain := g, gainWritten := false, edgeAt := x.edgeAt + snsHalf x.config, opened := false, closed := false,
          lastOver := false, checking := false } ∧
      (∀ k : Nat, k ≠ sel d c → t.sns k = s.sns k) ∧ t = { s with channels := t.channels }) ∧
  (∀ (d c g : Nat) (m : ConvMeas) (x : Sns) (s : State),
    x = s.sns (sel d c) → sensorDue s d c = true → x.exciting = true → x.half + 1 < 2 * snsBurst x.config →
    x.closed = false → m.beyond = true → m.saturated = false →
    g = (if bit x.config 0 then min (x.gain - 1) (s.rdN Obj.SNS_GAIN (sel d c)) else s.rdN Obj.SNS_GAIN (sel d c)) →
    snsBad x.config g = false →
    ∃ t, exec (.sensorEdge d c m) s = .next t ∧
      t.sns (sel d c) = { x with
        beyond := true, half := x.half + 1,
        gain := g, gainWritten := false, edgeAt := x.edgeAt + snsHalf x.config, opened := false, closed := false,
          lastOver := false, checking := false } ∧
      t.rdN Obj.SNS_GAIN (sel d c) = g ∧ bit (t.rd Obj.SNS_STATUS (sel d c)) 6 = true ∧
      t.rd Obj.SNS_CONV_OVERRANGE (sel d c) = (s.inc Obj.SNS_CONV_OVERRANGE (sel d c)).rd Obj.SNS_CONV_OVERRANGE
        (sel d c) ∧
      t.chans = (s.raise d (322 + 3 * c + 1)).chans ∧
      (∀ k : Nat, k ≠ sel d c → t.sns k = s.sns k) ∧
        t = { s with channels := t.channels, regs := t.regs, chans := t.chans }) ∧
  (∀ (d c g : Nat) (m : ConvMeas) (x : Sns) (s : State),
    x = s.sns (sel d c) → sensorDue s d c = true → x.exciting = true → x.half + 1 < 2 * snsBurst x.config →
    x.closed = false → m.beyond = false → m.saturated = true → g = s.rdN Obj.SNS_GAIN (sel d c) →
      snsBad x.config g = false →
    ∃ t, exec (.sensorEdge d c m) s = .next t ∧
      t.sns (sel d c) = { x with
        broken := true, wireBroken := true, half := x.half + 1,
        gain := g, gainWritten := false, edgeAt := x.edgeAt + snsHalf x.config, opened := false, closed := false,
          lastOver := false, checking := false } ∧
      bit (t.rd Obj.SNS_STATUS (sel d c)) 7 = true ∧
      t.chans = (if x.wireBroken then s.chans else (s.raise d (322 + 3 * c + 2)).chans) ∧
      (∀ k : Nat, k ≠ sel d c → t.sns k = s.sns k) ∧
        t = { s with channels := t.channels, regs := t.regs, chans := t.chans }) ∧
  (∀ (d c g : Nat) (m : ConvMeas) (x : Sns) (s : State),
    x = s.sns (sel d c) → sensorDue s d c = true → x.exciting = true → x.half + 1 < 2 * snsBurst x.config →
    x.closed = true →
    g = (if x.lastOver ∧ bit x.config 0 then min (x.gain - 1) (s.rdN Obj.SNS_GAIN (sel d c)) else s.rdN Obj.SNS_GAIN
      (sel d c)) →
    snsBad x.config g = false →
    ∃ t, exec (.sensorEdge d c m) s = .next t ∧
      t.sns (sel d c) = { x with
        half := x.half + 1, gain := g, gainWritten := false, edgeAt := x.edgeAt + snsHalf x.config, opened := false,
          closed := false, lastOver := false, checking := false } ∧
      t.rdN Obj.SNS_GAIN (sel d c) = g ∧
      (∀ k : Nat, k ≠ sel d c → t.sns k = s.sns k) ∧ t = { s with channels := t.channels, regs := t.regs }) ∧
  (∀ (d c g : Nat) (m : ConvMeas) (x : Sns) (p q : List Int) (s : State),
    x = s.sns (sel d c) → sensorDue s d c = true → x.exciting = true → x.half + 1 = 2 * snsBurst x.config →
    x.closed = false → m.beyond = false →
    m.saturated = false → snsBad x.config (s.rdN Obj.SNS_GAIN (sel d c)) = false →
    snsBad ((s.rd Obj.SNS_CONFIG (sel d c)).setWidth 64) (s.rdN Obj.SNS_GAIN (sel d c)) = false →
    g ≤ 8 → x.gain = g → (∀ e ∈ x.convs, e.gain = g) →
    p = (x.convs.filter (fun e => e.pos)).map (fun e => e.sense) →
    q = (x.convs.filter (fun e => !e.pos)).map (fun e => e.sense) ++ [m.sense.toInt] → 0 < p.length →
    ∃ t, exec (.sensorEdge d c m) s = .next t ∧
      (x.stopping = true ∨ (x.once = true ∧ (snsRest x.config = 0 ∨ x.checks = false)) →
        (t.sns (sel d c)).run = false) ∧
      (x.stopping = false ∧ x.once = false ∧ snsRest x.config = 0 →
        (t.sns (sel d c)).exciting = true ∧ (t.sns (sel d c)).half = 0 ∧ (t.sns (sel d c)).convs = [] ∧
        (t.sns (sel d c)).config = (s.rd Obj.SNS_CONFIG (sel d c)).setWidth 64 ∧
          (t.sns (sel d c)).burstTime = s.clock.now) ∧
      (x.stopping = false ∧ 0 < snsRest x.config ∧ (x.once = false ∨ x.checks = true) →
        (t.sns (sel d c)).exciting = false ∧ (t.sns (sel d c)).resting = true ∧ (t.sns (sel d c)).half = 0 ∧
        (t.sns (sel d c)).checking = x.checks) ∧
      (t.sns (sel d c)).edgeAt = x.edgeAt + snsHalf x.config ∧
      ((t.sns (sel d c)).results.take x.results.length = x.results ∧
        (t.sns (sel d c)).results.length = x.results.length + 1 ∧
        ((t.sns (sel d c)).results.getLastD (0, [])).1 = s.cyc + 2500 ∧
        bit (((t.sns (sel d c)).results.getLastD (0, [])).2.getD 0 0) 71 = true ∧
        (((t.sns (sel d c)).results.getLastD (0, [])).2.getD 0 0 ++ ((t.sns (sel d c)).results.getLastD (0,
          [])).2.getD 1 0).extractLsb' 56 64 =
          BitVec.ofInt 64 (halfUp ((p.sum * q.length - q.sum * p.length) * 2 ^ (8 - g) * 1250000000000000)
            (2 * (p.length * q.length * 2147483648))) ∧
        (((t.sns (sel d c)).results.getLastD (0, [])).2.getD 2 0).extractLsb' 0 64 = x.burstTime) ∧
      (∀ k : Nat, k ≠ sel d c → t.sns k = s.sns k) ∧ t = { s with channels := t.channels }) ∧
  (∀ (d c : Nat) (m : ConvMeas) (x : Sns) (s : State),
    x = s.sns (sel d c) → sensorDue s d c = true → x.exciting = true → x.half + 1 = 2 * snsBurst x.config →
      x.closed = true →
    x.lastOver = false → snsBad x.config (s.rdN Obj.SNS_GAIN (sel d c)) = false →
    snsBad ((s.rd Obj.SNS_CONFIG (sel d c)).setWidth 64) (s.rdN Obj.SNS_GAIN (sel d c)) = false →
    (∀ e ∈ x.convs, e.pos = true) ∨ (∀ e ∈ x.convs, e.pos = false) →
    ∃ t, exec (.sensorEdge d c m) s = .next t ∧
      (t.sns (sel d c)).results.length = x.results.length + 1 ∧
      ((t.sns (sel d c)).results.getLastD (0, [])).1 = s.cyc + 2500 ∧
      bit (((t.sns (sel d c)).results.getLastD (0, [])).2.getD 0 0) 71 = false ∧
      (∀ k : Nat, k ≠ sel d c → t.sns k = s.sns k) ∧ t = { s with channels := t.channels, free := t.free }) ∧
  (∀ (d c : Nat) (m : ConvMeas) (x : Sns) (s : State),
    x = s.sns (sel d c) → sensorDue s d c = true → x.exciting = false → x.checking = false → x.lastOver = false →
    snsBad x.config (s.rdN Obj.SNS_GAIN (sel d c)) = false →
    snsBad ((s.rd Obj.SNS_CONFIG (sel d c)).setWidth 64) (s.rdN Obj.SNS_GAIN (sel d c)) = false →
    ∃ t, exec (.sensorEdge d c m) s = .next t ∧
      (x.resting = true ∧ x.once = true → t.sns (sel d c) = { x.stop with
        gain := s.rdN Obj.SNS_GAIN (sel d c), gainWritten := false, edgeAt := x.edgeAt + snsHalf x.config }) ∧
      (x.resting = true ∧ x.once = false ∧ x.half + 1 < 2 * snsRest x.config → t.sns (sel d c) = { x with
        half := x.half + 1, gain := s.rdN Obj.SNS_GAIN (sel d c), gainWritten := false, edgeAt := x.edgeAt + snsHalf
          x.config, opened := false, closed := false }) ∧
      (x.resting = false ∨ (x.once = false ∧ 2 * snsRest x.config ≤ x.half + 1) → t.sns (sel d c) = { x with
        config := (s.rd Obj.SNS_CONFIG (sel d c)).setWidth 64, written := false, trim := s.dw Obj.SNS_REF_TRIM (sel
          d c) 0, exciting := true, resting := false, half := 0, convs := [], beyond := false, broken := false,
          voided := false, burstTime := s.clock.now, bursts := x.bursts + 1, gain := s.rdN Obj.SNS_GAIN (sel d c),
          gainWritten := false, edgeAt := x.edgeAt + snsHalf x.config, opened := false, closed := false }) ∧
      (∀ k : Nat, k ≠ sel d c → t.sns k = s.sns k) ∧ t = { s with channels := t.channels }) ∧
  (∀ (d c : Nat) (m : ConvMeas) (s : State),
    sensorDue s d c = false → exec (.sensorEdge d c m) s = .next s) ∧
  (∀ (d : Nat) (ms : List ConvMeas) (e : BellEvent) (u s : State),
    s.deliver d 253 ((List.range 4).all (fun c => !s.domOn d (domSensor c))) = (some e, u) →
    snsLegal s d = true →
    ∃ t, exec (.snsEdgeTask d ms) s = .next t ∧
      (∀ c : Nat, c < 4 → s.snsOn d c = true → (s.sns (sel d c)).run = true → bit (s.sns (sel d c)).config 41 = true →
        (t.sns (sel d c)).edgeAt = s.cyc ∧ (t.sns (sel d c)).opened = false ∧ (t.sns (sel d c)).closed = false ∧
          (t.sns (sel d c)).gainWritten = false) ∧
      (∀ c : Nat, c < 4 → (s.sns (sel d c)).run = false ∨ bit (s.sns (sel d c)).config 41 = false ∨ s.snsOn d c =
        false →
        t.sns (sel d c) = s.sns (sel d c)) ∧
      t = { u with channels := t.channels, regs := t.regs, chans := t.chans, free := t.free }) ∧
  (∀ (d c : Nat) (ms : List ConvMeas) (x : Sns) (u s : State),
    edgeComes s u d c = true → x = s.sns (sel d c) → x.exciting = true → x.closed = false →
      x.half + 1 < 2 * snsBurst x.config →
    s.cyc < x.edgeAt + snsSettle x.config + 156250 →
    ∃ t, exec (.snsEdgeTask d ms) s = .next t ∧ (t.sns (sel d c)).half = x.half + 1 ∧
      (t.sns (sel d c)).convs = x.convs ∧ (t.sns (sel d c)).voided = true ∧ (t.sns (sel d c)).edgeAt = s.cyc ∧
      bit (t.rd Obj.SNS_STATUS (sel d c)) 8 = true ∧
      t.rd Obj.SNS_VOID_CONV (sel d c) = (s.inc Obj.SNS_VOID_CONV (sel d c)).rd Obj.SNS_VOID_CONV (sel d c)) ∧
  (∀ (d c : Nat) (ms : List ConvMeas) (x : Sns) (u s : State),
    edgeComes s u d c = true → x = s.sns (sel d c) → x.exciting = true → x.closed = false →
      x.half + 1 < 2 * snsBurst x.config →
    x.edgeAt + snsSettle x.config + 156250 ≤ s.cyc → (ms.getD c {}).beyond = false →
      (ms.getD c {}).saturated = false →
    ∃ t, exec (.snsEdgeTask d ms) s = .next t ∧ (t.sns (sel d c)).half = x.half + 1 ∧
      (t.sns (sel d c)).edgeAt = s.cyc ∧
      (t.sns (sel d c)).convs = x.convs ++
        [Conv.mk (x.half % 2 == 0) (ms.getD c {}).sense.toInt (ms.getD c {}).ref.toInt x.gain]) ∧
  (∀ (d c : Nat) (ms : List ConvMeas) (x : Sns) (u s : State),
    edgeComes s u d c = true → x = s.sns (sel d c) → x.exciting = false → x.resting = false →
    ∃ t, exec (.snsEdgeTask d ms) s = .next t ∧ (t.sns (sel d c)).exciting = true ∧ (t.sns (sel d c)).half = 0 ∧
      (t.sns (sel d c)).burstTime = s.clock.now ∧ (t.sns (sel d c)).convs = [] ∧
      (t.sns (sel d c)).config = (s.rd Obj.SNS_CONFIG (sel d c)).setWidth 64) ∧
  (∀ (d : Nat) (ms : List ConvMeas) (u s : State),
    s.deliver d 253 ((List.range 4).all (fun c => !s.domOn d (domSensor c))) = (none, u) →
    exec (.snsEdgeTask d ms) s = .next u)

/-- R405 for windows, R410 and R412 for what a conversion reports, R413 and R414 for check windows, R408 for results,
R416 for commands. The scale of a check window's 24-bit result is the model's choice (log 22). -/
def Obligations.SensorWindowsAndCommands : Prop :=
  (∀ (d c : Nat) (x : Sns) (s : State),
    x = s.sns (sel d c) → s.snsOn d c = true → x.run = true → x.exciting = true ∨ x.checking = true →
      x.opened = false →
    x.edgeAt + bits x.config 18 11 * 78125 ≤ s.cyc →
    exec (.conversionWindowOpen d c) s = .next (s.setSns (sel d c) { x with opened := true })) ∧
  (∀ (d c : Nat) (x : Sns) (s : State),
    x = s.sns (sel d c) →
    s.snsOn d c = false ∨ x.run = false ∨ (x.exciting = false ∧ x.checking = false) ∨ x.opened = true ∨
      s.cyc < x.edgeAt + bits x.config 18 11 * 78125 →
    exec (.conversionWindowOpen d c) s = .next s) ∧
  (∀ (d c : Nat) (m : ConvMeas) (x : Sns) (s : State),
    x = s.sns (sel d c) → s.snsOn d c = true → x.run = true → x.checking = false → x.opened = true →
      x.closed = false →
    x.edgeAt + bits x.config 18 11 * 78125 + 80000000 ≤ s.cyc →
    ∃ t, exec (.conversionWindowClose d c m) s = .next t ∧
      t.sns (sel d c) = { x with
        closed := true, lastOver := m.beyond, beyond := x.beyond || m.beyond, broken := x.broken || m.saturated,
          wireBroken := x.wireBroken || m.saturated,
        convs := if m.beyond ∨ m.saturated then x.convs else x.convs ++ [Conv.mk (x.half % 2 == 0) m.sense.toInt
          m.ref.toInt x.gain] } ∧
      (m.beyond = true → bit (t.rd Obj.SNS_STATUS (sel d c)) 6 = true ∧
        t.rd Obj.SNS_CONV_OVERRANGE (sel d c) = (s.inc Obj.SNS_CONV_OVERRANGE (sel d c)).rd Obj.SNS_CONV_OVERRANGE
          (sel d c)) ∧
      (m.saturated = true → bit (t.rd Obj.SNS_STATUS (sel d c)) 7 = true) ∧
      (m.beyond = false ∧ m.saturated = false → t.regs = s.regs ∧ t.chans = s.chans) ∧
      (m.beyond = true ∧ m.saturated = false → t.chans = (s.raise d (322 + 3 * c + 1)).chans) ∧
      (m.beyond = false ∧ m.saturated = true ∧ x.wireBroken = false → t.chans = (s.raise d (322 + 3 * c + 2)).chans) ∧
      (∀ k : Nat, k ≠ sel d c → t.sns k = s.sns k) ∧
        t = { s with channels := t.channels, regs := t.regs, chans := t.chans }) ∧
  (∀ (d c : Nat) (m : ConvMeas) (x : Sns) (s : State),
    x = s.sns (sel d c) → s.snsOn d c = true → x.run = true → x.checking = true → x.opened = true → x.closed = false →
    x.edgeAt + bits x.config 18 11 * 78125 + 80000000 ≤ s.cyc →
    ∃ t, exec (.conversionWindowClose d c m) s = .next t ∧
      t.sns (sel d c) = { x with
        closed := true, checking := false, wireBroken := decide (4 * 2 ^ 23 < 5 * m.sense.toInt.natAbs) } ∧
      (4 * 2 ^ 23 < 5 * m.sense.toInt.natAbs → bit (t.rd Obj.SNS_STATUS (sel d c)) 7 = true) ∧
      (4 * 2 ^ 23 < 5 * m.sense.toInt.natAbs ∧ x.wireBroken = false → t.chans = (s.raise d (322 + 3 * c + 2)).chans) ∧
      (5 * m.sense.toInt.natAbs ≤ 4 * 2 ^ 23 → t.regs = s.regs ∧ t.chans = s.chans) ∧
      (∀ k : Nat, k ≠ sel d c → t.sns k = s.sns k) ∧
        t = { s with channels := t.channels, regs := t.regs, chans := t.chans }) ∧
  (∀ (d c : Nat) (m : ConvMeas) (x : Sns) (s : State),
    x = s.sns (sel d c) →
    s.snsOn d c = false ∨ x.run = false ∨ x.opened = false ∨ x.closed = true ∨
      s.cyc < x.edgeAt + bits x.config 18 11 * 78125 + 80000000 →
    exec (.conversionWindowClose d c m) s = .next s) ∧
  (∀ (d c due : Nat) (a b e : Word) (rest : List (Nat × List Word)) (s : State),
    (s.sns (sel d c)).results = (due, [a, b, e]) :: rest → due ≤ s.cyc → s.snsOn d c = true →
    ∃ t, exec (.burstResult d c) s = .next t ∧
      t.dw Obj.SNS_RESULT (sel d c) 0 = a ∧ t.dw Obj.SNS_RESULT (sel d c) 1 = b ∧
        t.dw Obj.SNS_RESULT (sel d c) 2 = e ∧
      t.sns (sel d c) = { s.sns (sel d c) with results := rest } ∧
      t.rd Obj.SNS_BURSTS (sel d c) = (s.inc Obj.SNS_BURSTS (sel d c)).rd Obj.SNS_BURSTS (sel d c) ∧
      t.chans = (s.raise d (322 + 3 * c)).chans ∧
      (∀ id k w : Nat, ¬ (id = Obj.SNS_RESULT ∧ k = sel d c ∧ w < 3) → t.dw id k w = s.dw id k w) ∧
      (∀ k : Nat, k ≠ sel d c → t.sns k = s.sns k) ∧
      t = { s with channels := t.channels, regs := t.regs, doms := t.doms, chans := t.chans }) ∧
  (∀ (d c : Nat) (s : State),
    s.snsOn d c = false ∨ (s.sns (sel d c)).results.head?.all (fun r => decide (s.cyc < r.1)) = true →
    exec (.burstResult d c) s = .next s) ∧
  (∀ (d c : Nat) (once : Bool) (cfg : BitVec 64) (s : State),
    (s.sns (sel d c)).run = false → s.snsOn d c = true → s.verifying d 3 c = false →
    cfg = (s.rd Obj.SNS_CONFIG (sel d c)).setWidth 64 → snsBad cfg (s.rdN Obj.SNS_GAIN (sel d c)) = false →
    ∃ t, exec (if once then .snsOneshot d c else .snsStart d c) s = .next t ∧
      (t.sns (sel d c)).run = true ∧ (t.sns (sel d c)).once = once ∧ (t.sns (sel d c)).config = cfg ∧
      (t.sns (sel d c)).stopping = false ∧ (t.sns (sel d c)).resting = false ∧ (t.sns (sel d c)).opened = false ∧
      (t.sns (sel d c)).trim = s.dw Obj.SNS_REF_TRIM (sel d c) 0 ∧
        (t.sns (sel d c)).results = (s.sns (sel d c)).results ∧
      (bit cfg 41 = false → (t.sns (sel d c)).exciting = true ∧ (t.sns (sel d c)).edgeAt = s.cyc ∧
        (t.sns (sel d c)).half = 0 ∧ (t.sns (sel d c)).burstTime = s.clock.now ∧ (t.sns (sel d c)).convs = [] ∧
        (t.sns (sel d c)).gain = s.rdN Obj.SNS_GAIN (sel d c) ∧ (t.sns (sel d c)).bursts = 1) ∧
      (bit cfg 41 = true → (t.sns (sel d c)).exciting = false) ∧
      (∀ k : Nat, k ≠ sel d c → t.sns k = s.sns k) ∧ t = { s with channels := t.channels }) ∧
  (∀ (d c : Nat) (once : Bool) (s : State),
    (s.sns (sel d c)).run = false → s.snsOn d c = true → s.verifying d 3 c = false →
    snsBad ((s.rd Obj.SNS_CONFIG (sel d c)).setWidth 64) (s.rdN Obj.SNS_GAIN (sel d c)) = true →
    exec (if once then .snsOneshot d c else .snsStart d c) s = hostError) ∧
  (∀ (d c : Nat) (once : Bool) (s : State),
    (s.sns (sel d c)).run = true ∨ s.snsOn d c = false ∨ s.verifying d 3 c = true →
    exec (if once then .snsOneshot d c else .snsStart d c) s = .next s) ∧
  (∀ (d c : Nat) (s : State),
    (s.sns (sel d c)).run = true → (s.sns (sel d c)).exciting = true →
    exec (.snsStop d c) s = .next (s.setSns (sel d c) { s.sns (sel d c) with stopping := true })) ∧
  (∀ (d c : Nat) (s : State),
    (s.sns (sel d c)).run = true → (s.sns (sel d c)).exciting = false →
    exec (.snsStop d c) s = .next (s.setSns (sel d c) { s.sns (sel d c) with
      run := false, once := false, stopping := false, exciting := false, resting := false, checking := false, half
        := 0, opened := false, closed := false })) ∧
  (∀ (d c : Nat) (s : State),
    (s.sns (sel d c)).run = false → exec (.snsStop d c) s = .next s) ∧
  (∀ (d c : Nat) (s : State),
    exec (.snsAbort d c) s = .next (s.setSns (sel d c) { s.sns (sel d c) with
      run := false, once := false, stopping := false, exciting := false, resting := false, checking := false, half
        := 0, opened := false, closed := false }))

/-- R429 to R431 and R442 for frames, R441, R443 and R444 for the retry protocol, R260 for a message that arrives. -/
def Obligations.FlitsAndRetries : Prop :=
  (∀ (d l : Nat) (x : Lane) (s : State),
    x = s.lane (sel d l) → l < 4 → frameDue s d l = true → x.waking = none → bit (s.fport d).good l = false →
    bit (s.fport d).stripe l = false →
    ∃ t, exec (.frameSend d l) s = .next t ∧
      (∃ f ∈ (t.lane (sel d l)).frame.toList, f.cycle = s.cyc ∧ f.kindA = 3 ∧ f.kindB = 3 ∧
        f.seq = BitVec.ofNat 8 (s.fport d).upcoming ∧
        f.flitA = flitSlot 3 (s.fport d).upcoming 0 ∧ f.rc = 0 ∧
        f.osb = (t.lane (sel d l)).oset.extractLsb' (126 - 2 * (s.cyc % 256 / 4)) 2) ∧
      (t.lane (sel d l)).oset = (if s.cyc % 256 = 0 then orderedSet 1 (s.laneSet d l) else x.oset) ∧
      (t.lane (sel d l)).symbols.length = 170 ∧ (∀ k : Nat, k ≠ sel d l → t.lane k = s.lane k) ∧
        t = { s with lanes := t.lanes }) ∧
  (∀ (d l : Nat) (w : WaitFlit) (s : State),
    l < 4 → frameDue s d l = true → (s.lane (sel d l)).waking = none → (s.fport d).stripe = oneBit 4 l →
      bit (s.fport d).good l = true → (s.fport d).replay = [] → (s.fport d).up = true →
      (s.fport d).retry.length < 254 →
    (s.fport d).waiting = [w] → w.turn ≤ s.cyc + 3 → (s.fport d).bulk = [] →
    ∃ t, exec (.frameSend d l) s = .next t ∧
      (∃ f ∈ (t.lane (sel d l)).frame.toList, f.cycle = s.cyc ∧ f.kindA = BitVec.ofNat 2 (flitKind w.body) ∧
        f.kindB = 0 ∧
        f.seq = (s.fport d).nextSeq ∧
          f.flitA = flitSlot (flitKind w.body) (s.fport d).nextSeq.toNat (flitPayload w.body)) ∧
      t.fport d = { s.fport d with nextSeq := (s.fport d).nextSeq + 1, waiting := [], retry := (s.fport d).retry ++ [HeldFlit.mk ⟨(s.fport d).nextSeq, w.body⟩ s.cyc], rcWord := (t.fport d).rcWord, rcLeft := (t.fport d).rcLeft, rcLanes := (t.fport d).rcLanes, rcNak := (t.fport d).rcNak, rcAck := (t.fport d).rcAck }
        ∧
      (∀ k : Nat, k ≠ sel d l → t.lane k = s.lane k) ∧ (∀ k : Nat, k ≠ d → t.fport k = s.fport k) ∧
        t = { s with lanes := t.lanes, fports := t.fports, links := t.links }) ∧
  (∀ (d l : Nat) (b : FlitBody) (s : State),
    l < 4 → frameDue s d l = true → (s.lane (sel d l)).waking = none → (s.fport d).stripe = oneBit 4 l →
      bit (s.fport d).good l = true → (s.fport d).replay = [] → (s.fport d).up = true →
      (s.fport d).retry.length < 254 →
    (∀ w ∈ (s.fport d).waiting, s.cyc + 3 < w.turn) → (s.fport d).bulk = [b] →
    ∃ t, exec (.frameSend d l) s = .next t ∧
      (∃ f ∈ (t.lane (sel d l)).frame.toList, f.cycle = s.cyc ∧ f.kindA = BitVec.ofNat 2 (flitKind b) ∧ f.kindB = 0 ∧
        f.seq = (s.fport d).nextSeq ∧ f.flitA = flitSlot (flitKind b) (s.fport d).nextSeq.toNat (flitPayload b)) ∧
      t.fport d = { s.fport d with nextSeq := (s.fport d).nextSeq + 1, bulk := [], retry := (s.fport d).retry ++ [HeldFlit.mk ⟨(s.fport d).nextSeq, b⟩ s.cyc], rcWord := (t.fport d).rcWord, rcLeft := (t.fport d).rcLeft, rcLanes := (t.fport d).rcLanes, rcNak := (t.fport d).rcNak, rcAck := (t.fport d).rcAck }
        ∧
      (∀ k : Nat, k ≠ sel d l → t.lane k = s.lane k) ∧ (∀ k : Nat, k ≠ d → t.fport k = s.fport k) ∧
        t = { s with lanes := t.lanes, fports := t.fports, links := t.links }) ∧
  (∀ (d l : Nat) (f : Flit) (s : State),
    l < 4 → frameDue s d l = true → (s.lane (sel d l)).waking = none → (s.fport d).stripe = oneBit 4 l →
      bit (s.fport d).good l = true → (s.fport d).replay = [f] → (s.fport d).waiting = [] → (s.fport d).bulk = [] →
    ∃ t, exec (.frameSend d l) s = .next t ∧
      (∃ g ∈ (t.lane (sel d l)).frame.toList, g.cycle = s.cyc ∧ g.kindA = BitVec.ofNat 2 (flitKind f.body) ∧
        g.kindB = 0 ∧
        g.seq = f.seq ∧ g.flitA = flitSlot (flitKind f.body) f.seq.toNat (flitPayload f.body)) ∧
      t.fport d = { s.fport d with replay := [], retry := (s.fport d).retry.map (fun h : HeldFlit => if h.flit.seq = f.seq then { h with sentAt := s.cyc } else h), rcWord := (t.fport d).rcWord, rcLeft := (t.fport d).rcLeft, rcLanes := (t.fport d).rcLanes, rcNak := (t.fport d).rcNak, rcAck := (t.fport d).rcAck }
        ∧
      t.regs = (s.inc Obj.FLITS_RETRIED (sel d 0)).regs ∧
      (∀ k : Nat, k ≠ sel d l → t.lane k = s.lane k) ∧ (∀ k : Nat, k ≠ d → t.fport k = s.fport k) ∧
        t = { s with lanes := t.lanes, fports := t.fports, links := t.links, regs := t.regs }) ∧
  (∀ (d l c : Nat) (s : State),
    l < 4 → frameDue s d l = true → (s.lane (sel d l)).waking = some c →
    exec (.frameSend d l) s = .next (s.setLane (sel d l) { s.lane (sel d l) with
      symbols := (List.range 170).map (fun i => if ((s.cyc - c) / 4 * 170 + i) % 64 < 32 then 3 else 0) })) ∧
  (∀ (d l : Nat) (s : State),
    4 ≤ l ∨ s.cyc % 4 ≠ 0 ∨ s.domOn d domFerry = false ∨ (s.lane (sel d l)).txSleep = true ∨ (s.lane (sel d l)).rx =
      RxState.retired →
    exec (.frameSend d l) s = .next s) ∧
  (∀ (d src : Nat) (f : Flit) (ms : List DecMsg) (s : State),
    s.domOn d domFerry = true → f.seq = (s.fport d).expect → f.body = .decision s.ownDevice src ms →
    (∀ m ∈ ms, m.die < s.member.dies) →
    exec (.flitReceive d f true) s = .next
      { s.setFport d { s.fport d with expect := (s.fport d).expect + 1, discarding := false, naks := 0, rcNak := false, rcAck := true } with
      flight := s.flight ++ ms.map (fun m : DecMsg =>
        ({ due := s.cyc, src := d, dst := m.die, body := .update ⟨s.cyc, some src, 0, 0, m.die, 768 + m.mirror, m.stag, ⟨m.value, m.valid, m.gen⟩⟩, unit := 768 + m.mirror, left := route s.member.dies d m.die }
        : Msg)) }) ∧
  (∀ (d src : Nat) (f : Flit) (m : DecMsg) (s : State),
    s.domOn d domFerry = true → f.seq = (s.fport d).expect → f.body = .decision s.ownDevice src [m] →
    s.member.dies ≤ m.die →
    exec (.flitReceive d f true) s = .next ((s.setFport d
      { s.fport d with expect := (s.fport d).expect + 1, discarding := false, naks := 0, rcNak := false, rcAck := true }).inc
      Obj.DECISION_DROPPED (sel d 0))) ∧
  (∀ (d : Nat) (f : Flit) (r : Route) (s : State),
    s.domOn d domFerry = true → f.seq = (s.fport d).expect → (flitEnds f.body).1 ≠ s.ownDevice → flitKind f.body = 1 →
    r = s.fRoute (d * 256 + (flitEnds f.body).1) → r.valid = true → r.notBefore ≤ s.cyc →
    exec (.flitReceive d f true) s = .next
      { (s.setFport d { s.fport d with expect := (s.fport d).expect + 1, discarding := false, naks := 0, rcNak := false, rcAck := true }).setFRoute (d * 256 + (flitEnds f.body).1) { r with lastAt := s.cyc } with
      flight := s.flight ++
        [({ due := s.cyc, src := d, dst := r.egress, body := .flit f.body, left := route s.member.dies d r.egress }
        : Msg)] }) ∧
  (∀ (d : Nat) (f : Flit) (r : Route) (s : State),
    s.domOn d domFerry = true → f.seq = (s.fport d).expect → (flitEnds f.body).1 ≠ s.ownDevice → flitKind f.body = 2 →
    r = s.fRoute (d * 256 + (flitEnds f.body).1) → r.valid = true → s.routeUp d r.egress = true →
    exec (.flitReceive d f true) s = .next
      { s.setFport d { s.fport d with expect := (s.fport d).expect + 1, discarding := false, naks := 0, rcNak := false, rcAck := true } with
      flight := s.flight ++ [({ due := s.cyc, src := d, dst := r.egress, body := .flit f.body } : Msg)] }) ∧
  (∀ (d : Nat) (f : Flit) (s : State),
    s.domOn d domFerry = true → f.seq = (s.fport d).expect → (flitEnds f.body).1 ≠ s.ownDevice → flitKind f.body = 1 →
    (s.fRoute (d * 256 + (flitEnds f.body).1)).valid = false →
    exec (.flitReceive d f true) s = .next ((s.setFport d
      { s.fport d with expect := (s.fport d).expect + 1, discarding := false, naks := 0, rcNak := false, rcAck := true }).count
      Obj.DECISION_DROPPED (sel d 0) (flitMsgs f.body))) ∧
  (∀ (d : Nat) (f : Flit) (s : State),
    s.domOn d domFerry = true → f.seq ≠ (s.fport d).expect → (s.fport d).discarding = true →
    exec (.flitReceive d f true) s = .next s) ∧
  (∀ (d : Nat) (f : Flit) (s : State),
    s.domOn d domFerry = true → f.seq ≠ (s.fport d).expect → (s.fport d).discarding = false → (s.fport d).naks < 15 →
    exec (.flitReceive d f true) s = .next (s.setFport d
      { s.fport d with discarding := true, rcNak := true, naks := (s.fport d).naks + 1 })) ∧
  (∀ (d : Nat) (f : Flit) (s : State),
    s.domOn d domFerry = true → (s.fport d).naks < 15 →
    exec (.flitReceive d f false) s = .next ((s.inc Obj.CRC_ERRORS (sel d 0)).setFport d
      { s.fport d with discarding := true, rcNak := true, naks := (s.fport d).naks + 1 })) ∧
  (∀ (d : Nat) (f : Flit) (ok : Bool) (s : State),
    s.domOn d domFerry = true → (s.fport d).naks = 15 → ok = false ∨ (f.seq ≠ (s.fport d).expect ∧
      (s.fport d).discarding = false) →
    ∃ t, exec (.flitReceive d f ok) s = .next t ∧
      bit (t.rd Obj.PORT_STATUS (sel d 0)) 9 = true ∧ (t.fport d).naks = 0 ∧ (t.fport d).discarding = true ∧
        (t.fport d).rcNak = true ∧
      (∀ l : Nat, l < 4 → (t.lane (sel d l)).rx ≠ RxState.up ∧ (t.lane (sel d l)).rx ≠ RxState.locked) ∧
      (∀ k : Nat, selDie k ≠ d → t.lane k = s.lane k) ∧ (∀ k : Nat, k ≠ d → t.fport k = s.fport k) ∧
      t = { s with fports := t.fports, lanes := t.lanes, regs := t.regs, later := t.later, linkChanged := t.linkChanged, dies := t.dies })
        ∧
  (∀ (d : Nat) (f : Flit) (ok : Bool) (s : State), s.domOn d domFerry = false →
    exec (.flitReceive d f ok) s = .next s) ∧
  (∀ (d n : Nat) (old rest : List HeldFlit) (h : HeldFlit) (s : State),
    (s.fport d).retry = old ++ h :: rest → h.flit.seq.toNat = n % 256 → (∀ g ∈ old, g.flit.seq.toNat ≠ n % 256) →
    exec (.ackReceive d n) s = .next (s.setFport d { s.fport d with
      retry := rest, replay := (s.fport d).replay.filter (fun f : Flit => rest.any (fun g : HeldFlit => g.flit.seq
        == f.seq)) })) ∧
  (∀ (d n : Nat) (s : State), (∀ g ∈ (s.fport d).retry, g.flit.seq.toNat ≠ n % 256) →
    exec (.ackReceive d n) s = .next s) ∧
  (∀ (d n : Nat) (old rest : List HeldFlit) (h : HeldFlit) (s : State),
    (s.fport d).retry = old ++ h :: rest → h.flit.seq.toNat = n % 256 → (∀ g ∈ old, g.flit.seq.toNat ≠ n % 256) →
    exec (.nakReceive d n) s = .next (s.setFport d
      { s.fport d with replay := h.flit :: rest.map (fun g : HeldFlit => g.flit) })) ∧
  (∀ (d n : Nat) (s : State), (∀ g ∈ (s.fport d).retry, g.flit.seq.toNat ≠ n % 256) →
    exec (.nakReceive d n) s = .next s) ∧
  (∀ (d ri : Nat) (new rest : List HeldFlit) (h : HeldFlit) (s : State),
    (s.fport d).retry = new ++ h :: rest → (s.fport d).replay = [] →
    ri = 2 * ((s.rdN Obj.LINK_DELAY (sel d 0) + 1023) / 1024) + 24 + 48 / max 1 (width (s.fport d).stripe) →
    h.sentAt + ri + 16 < s.cyc → (∀ g ∈ new, s.cyc ≤ g.sentAt + ri + 16) →
    exec (.ackTimeout d) s = .next ((s.setFport d { s.fport d with
      replay := h.flit :: rest.map (fun g : HeldFlit => g.flit) }).inc Obj.ACK_TIMEOUTS (sel d 0))) ∧
  (∀ (d ri : Nat) (s : State),
    ri = 2 * ((s.rdN Obj.LINK_DELAY (sel d 0) + 1023) / 1024) + 24 + 48 / max 1 (width (s.fport d).stripe) →
    (s.fport d).replay ≠ [] ∨ (∀ g ∈ (s.fport d).retry, s.cyc ≤ g.sentAt + ri + 16) →
    exec (.ackTimeout d) s = .next s)

/-- R432 to R437, R440 and R446; R73 for the average of a port's round trips. A direction that sends FERRYWAKE goes on
to its end (log 67). -/
def Obligations.FerryLinks : Prop :=
  (∀ (d l : Nat) (b : LaneSet) (s : State),
    s.domOn d domFerry = true →
    ∃ t, exec (.callOrderedSet d l b) s = .next t ∧
      SetHeard s t d b ((s.fport d).helloGood &&& b.rxGood) ∧ (t.fport d).partner = (s.fport d).partner ∧
      (b.txStripe = 0 → LinkFell s t d) ∧ (b.txStripe ≠ 0 → StripeLost s t d) ∧
      t = { s with fports := t.fports, lanes := t.lanes, regs := t.regs, linkChanged := t.linkChanged }) ∧
  (∀ (d l : Nat) (b : LaneSet) (s : State),
    s.domOn d domFerry = true →
    ∃ t, exec (.helloReceive d l b) s = .next t ∧
      SetHeard s t d b b.rxGood ∧ (t.fport d).partner = some (b.device, b.member, b.port) ∧
      t.link d = { s.link d with partner := some b.device } ∧ (∀ k : Nat, k ≠ d → t.link k = s.link k) ∧
      ((s.fport d).up = true → b.txStripe = 0 → LinkFell s t d) ∧
      ((s.fport d).up = true → b.txStripe ≠ 0 → StripeLost s t d) ∧
      ((s.fport d).up = false → LinkTried s t d) ∧
      ((s.fport d).up = false → t.linkReady d = false → LinkKept s t d) ∧
      t = { s with fports := t.fports, lanes := t.lanes, links := t.links, regs := t.regs, linkChanged := t.linkChanged })
        ∧
  (∀ (d l : Nat) (b : LaneSet) (s : State), s.domOn d domFerry = false → exec (.callOrderedSet d l b) s = .next s) ∧
  (∀ (d l : Nat) (b : LaneSet) (s : State), s.domOn d domFerry = false → exec (.helloReceive d l b) s = .next s) ∧
  (∀ (d c b : Nat) (s : State),
    (s.fport d).probeAt = some c → c + 65536 ≤ s.cyc → s.tattoo.sentAt = some b → (s.cyc - b) % 65536 = 32768 →
    (s.fport d).stripe ≠ 0 → s.domOn d domFerry = true →
    exec (.probeSend d) s = .next ((s.setFport d { s.fport d with probeAt := some s.cyc }).setLink d
      { s.link d with probeDue := true })) ∧
  (∀ (d c : Nat) (s : State), (s.fport d).probeAt = some c → s.cyc < c + 65536 → exec (.probeSend d) s = .next s) ∧
  (∀ (d sent : Nat) (s : State),
    s.domOn d domFerry = true →
    exec (.probeReceive d sent) s = .next (s.setLink d { s.link d with echoDue := some (sent, s.cyc) })) ∧
  (∀ (d sent : Nat) (s : State), s.domOn d domFerry = false → exec (.probeReceive d sent) s = .next s) ∧
  (∀ (d trip : Nat) (ts : List Nat) (s : State),
    s.domOn d domFerry = true → ts = (trip :: (s.fport d).trips).take 256 →
    ∃ t, exec (.echoReceive d trip) s = .next t ∧
      t.fport d = { s.fport d with trips := ts, up := (t.fport d).up } ∧
        t.link d = { s.link d with trip := some trip } ∧
      (ts.sum % (2 * ts.length) = 0 → t.rd Obj.LINK_DELAY (sel d 0) = word (ts.sum / (2 * ts.length))) ∧
      LinkTried s t d ∧
      ((s.fport d).up = true → t.linkChanged = (s.linkChanged || t.hopTime d != s.hopTime d)) ∧
      (∀ k : Nat, k ≠ d → t.fport k = s.fport k) ∧ (∀ k : Nat, k ≠ d → t.link k = s.link k) ∧
      (∀ id k : Nat, (id = Obj.LINK_DELAY ∨ id = Obj.PORT_STATUS) ∧ k = sel d 0 ∨ t.rd id k = s.rd id k) ∧
      t = { s with fports := t.fports, links := t.links, regs := t.regs, linkChanged := t.linkChanged }) ∧
  (∀ (d trip : Nat) (s : State), s.domOn d domFerry = false → exec (.echoReceive d trip) s = .next s) ∧
  (∀ (d : Nat) (m : BitVec 4) (s : State),
    ∃ t, exec (.lanesReceive d m) s = .next t ∧
      (t.fport d).good = m ∧ (t.fport d).helloGood = (s.fport d).helloGood &&& m ∧
      Narrowed s t d ((s.fport d).helloGood &&& m &&& laneMask (s.txSends d)) ∧ StripeLost s t d ∧ StripeOnly s t d ∧
      t = { s with fports := t.fports, regs := t.regs, linkChanged := t.linkChanged }) ∧
  (∀ (d : Nat) (g : BitVec 4) (s : State),
    s.cyc % 256 = 0 → s.domOn d domFerry = true → g = (s.fport d).helloGood &&& laneMask (s.txSends d) →
    width (s.fport d).stripe < (if g = 0 then 0 else if width g = 1 then 1 else if width g = 4 then 4 else 2) →
    ∃ t, exec (.stripeWiden d) s = .next t ∧
      t.fport d = { s.fport d with stripe := (t.fport d).stripe, rcLeft := 0, up := (t.fport d).up } ∧
      WidestOf (t.fport d).stripe g ∧ LinkTried s t d ∧
      (∀ k : Nat, k ≠ d → t.fport k = s.fport k) ∧
      (∀ id k : Nat, id = Obj.PORT_STATUS ∧ k = sel d 0 ∨ t.rd id k = s.rd id k) ∧
      t = { s with fports := t.fports, regs := t.regs, linkChanged := t.linkChanged }) ∧
  (∀ (d : Nat) (s : State), s.cyc % 256 ≠ 0 ∨ s.domOn d domFerry = false → exec (.stripeWiden d) s = .next s)

/-- R428, R435 and R438 to R448 for lanes, R450 and R451 for crossings, R248 for subscriptions that a record refuses.
The wire form of a flooded record is not in the source (log 1), and one flit to each device stands for the record (log
67). -/
def Obligations.LanesAndCrossings : Prop :=
  (∀ (d l : Nat) (pre skewed : Bool) (s : State),
    (s.lane (sel d l)).rx = RxState.search → s.domOn d domFerry = true → l < 4 → s.scanning = false →
    ∃ t, exec (.laneLock d l pre skewed) s = .next t ∧
      t.lane (sel d l) = (if !skewed && !(s.lane (sel d l)).known then
        { s.lane (sel d l) with rx := .up, precode := pre, cleanFrom := s.cyc, skewed := skewed, known := true, eyeAt := s.cyc }
        else { s.lane (sel d l) with rx := .locked, precode := pre, cleanFrom := s.cyc, skewed := skewed }) ∧
      t.regs = (if skewed then (s.setBit Obj.LANE_STATUS (sel d l) 13).regs else s.regs) ∧
      t.later = (if !skewed && !(s.lane (sel d l)).known then (s.raiseAcross d 387).later else s.later) ∧
      (∀ k : Nat, k ≠ sel d l → t.lane k = s.lane k) ∧
        t = { s with lanes := t.lanes, regs := t.regs, later := t.later }) ∧
  (∀ (d l : Nat) (pre skewed : Bool) (s : State),
    (s.lane (sel d l)).rx ≠ RxState.search ∨ s.domOn d domFerry = false ∨ 4 ≤ l ∨ s.scanning = true →
    exec (.laneLock d l pre skewed) s = .next s) ∧
  (∀ (d l : Nat) (s : State),
    (s.lane (sel d l)).rx = RxState.locked → (s.lane (sel d l)).skewed = false →
      (s.lane (sel d l)).cleanFrom + 1250000 ≤ s.cyc →
    s.domOn d domFerry = true →
    exec (.qualificationPass d l) s = .next ((s.setLane (sel d l)
      { s.lane (sel d l) with rx := .up, known := true, eyeAt := s.cyc }).raiseAcross d 387)) ∧
  (∀ (d l : Nat) (s : State),
    (s.lane (sel d l)).rx ≠ RxState.locked ∨ (s.lane (sel d l)).skewed = true ∨ s.cyc < (s.lane (sel d l)).cleanFrom
      + 1250000 →
    exec (.qualificationPass d l) s = .next s) ∧
  (∀ (d l : Nat) (recent : List Nat) (s : State),
    (s.lane (sel d l)).rx = RxState.up ∨ (s.lane (sel d l)).rx = RxState.locked → s.domOn d domFerry = true → l < 4 →
    recent = (s.lane (sel d l)).losses.filter (fun c : Nat => decide (s.cyc < c + 750000000000)) → recent.length < 7 →
    (s.fport d).naks < 15 →
    ∃ t, exec (.laneLockLoss d l) s = .next t ∧
      t.lane (sel d l) = { s.lane (sel d l) with rx := .search, losses := s.cyc :: recent, precode := false } ∧
      bit (t.rd Obj.LANE_STATUS (sel d l)) 14 = true ∧
      t.rd Obj.LANE_LOSSES (sel d l) = (s.inc Obj.LANE_LOSSES (sel d l)).rd Obj.LANE_LOSSES (sel d l) ∧
      t.later = (s.raiseAcross d 387).later ∧ (t.fport d).rcLanes = true ∧
      ((∃ k : Nat, k < 4 ∧ k ≠ l ∧ (s.lane (sel d k)).rx = RxState.up) →
        (t.fport d).theirStripe = (s.fport d).theirStripe ∧ (t.fport d).up = (s.fport d).up) ∧
      ((∀ k : Nat, k < 4 → k = l ∨ (s.lane (sel d k)).rx ≠ RxState.up) → (t.fport d).theirStripe = 0 ∧
        (t.fport d).up = false) ∧
      (bit (s.fport d).theirStripe l = true → (s.fport d).discarding = false →
        (t.fport d).discarding = true ∧ (t.fport d).rcNak = true ∧ (t.fport d).naks = (s.fport d).naks + 1) ∧
      (bit (s.fport d).theirStripe l = false ∨ (s.fport d).discarding = true →
        (t.fport d).discarding = (s.fport d).discarding ∧ (t.fport d).rcNak = (s.fport d).rcNak ∧
          (t.fport d).naks = (s.fport d).naks) ∧
      (∀ k : Nat, k ≠ sel d l → t.lane k = s.lane k) ∧ (∀ k : Nat, k ≠ d → t.fport k = s.fport k) ∧
      t = { s with lanes := t.lanes, fports := t.fports, regs := t.regs, later := t.later, linkChanged := t.linkChanged })
        ∧
  (∀ (d l : Nat) (recent : List Nat) (s : State),
    (s.lane (sel d l)).rx = RxState.up ∨ (s.lane (sel d l)).rx = RxState.locked → s.domOn d domFerry = true → l < 4 →
    recent = (s.lane (sel d l)).losses.filter (fun c : Nat => decide (s.cyc < c + 750000000000)) → 7 ≤ recent.length →
    (s.fport d).naks < 15 →
    ∃ t, exec (.laneLockLoss d l) s = .next t ∧
      t.lane (sel d l) = { s.lane (sel d l) with rx := .retired, losses := s.cyc :: recent, precode := false, txSleep := true, waking := none, sleepRx := false }
        ∧
      bit (t.rd Obj.LANE_STATUS (sel d l)) 14 = true ∧ (t.fport d).rcLanes = true ∧
      (bit (s.fport d).stripe l = true → bit (t.fport d).stripe l = false) ∧
      (∀ k : Nat, k ≠ sel d l → t.lane k = s.lane k) ∧ (∀ k : Nat, k ≠ d → t.fport k = s.fport k) ∧
      t = { s with lanes := t.lanes, fports := t.fports, regs := t.regs, later := t.later, linkChanged := t.linkChanged, dies := t.dies })
        ∧
  (∀ (d l : Nat) (s : State),
    (s.lane (sel d l)).rx ≠ RxState.up → (s.lane (sel d l)).rx ≠ RxState.locked →
      exec (.laneLockLoss d l) s = .next s) ∧
  (∀ (d l : Nat) (s : State),
    l < 4 →
    ∃ t, exec (.sleepTx d l) s = .next t ∧
      t.lane (sel d l) = { s.lane (sel d l) with txSleep := true, waking := none } ∧
      Narrowed s t d ((s.fport d).helloGood &&& laneMask (t.txSends d)) ∧ StripeLost s t d ∧ StripeOnly s t d ∧
      (t.fport d).good = (s.fport d).good ∧ (t.fport d).helloGood = (s.fport d).helloGood ∧
      (∀ k : Nat, k ≠ sel d l → t.lane k = s.lane k) ∧
      t = { s with lanes := t.lanes, fports := t.fports, regs := t.regs, linkChanged := t.linkChanged }) ∧
  (∀ (d l : Nat) (s : State),
    l < 4 → (s.lane (sel d l)).rx ≠ RxState.sleep → (s.lane (sel d l)).rx ≠ RxState.retired →
    exec (.sleepRx d l) s = .next ((s.setLane (sel d l) { s.lane (sel d l) with sleepRx := true }).setFport d
      { s.fport d with rcLanes := true })) ∧
  (∀ (d l : Nat) (s : State),
    (s.lane (sel d l)).rx = RxState.sleep ∨ (s.lane (sel d l)).rx = RxState.retired →
      exec (.sleepRx d l) s = .next s) ∧
  (∀ (d l : Nat) (s : State),
    l < 4 → s.domOn d domFerry = true → (s.lane (sel d l)).txSleep = true → (s.lane (sel d l)).rx ≠ RxState.retired →
    exec (.wakeTx d l) s = .next (s.setLane (sel d l)
      { s.lane (sel d l) with txSleep := false, waking := some s.cyc })) ∧
  (∀ (d l : Nat) (s : State),
    (s.lane (sel d l)).txSleep = false ∨ (s.lane (sel d l)).rx = RxState.retired ∨ s.domOn d domFerry = false →
    exec (.wakeTx d l) s = .next s) ∧
  (∀ (d l c : Nat) (s : State),
    (s.lane (sel d l)).waking = some c → c + 1250 ≤ s.cyc →
    exec (.ferrywakeEnd d l) s = .next (s.setLane (sel d l) { s.lane (sel d l) with waking := none })) ∧
  (∀ (d l c : Nat) (s : State),
    (s.lane (sel d l)).waking = some c → s.cyc < c + 1250 → exec (.ferrywakeEnd d l) s = .next s) ∧
  (∀ (d l : Nat) (s : State),
    (s.die d).s3 = false → l < 4 → s.domOn d domFerry = true → (s.lane (sel d l)).rx = RxState.sleep →
    (s.rdN Obj.FERRY_WAKE (sel d 0) % 2 = 1 → ∀ e ∈ s.sleep.entry.toList, (d, 1) ∉ e.domains) →
    exec (.ferryWakeSignal d l) s = .next (s.setLane (sel d l)
      { s.lane (sel d l) with rx := .search, sleepRx := false })) ∧
  (∀ (d l : Nat) (h w : BitVec 16) (s : State),
    (s.lane (sel d l)).rx = RxState.up → (s.lane (sel d l)).eyeAt + 125000000 ≤ s.cyc →
    exec (.eyePublish d l h w) s = .next ((s.setLane (sel d l) { s.lane (sel d l) with eyeAt := s.cyc }).wrN
      Obj.EYE_FIGURES
      (sel d l) (h.toNat * 65536 + w.toNat % 256))) ∧
  (∀ (d l : Nat) (h w : BitVec 16) (s : State),
    (s.lane (sel d l)).rx ≠ RxState.up ∨ s.cyc < (s.lane (sel d l)).eyeAt + 125000000 →
      exec (.eyePublish d l h w) s = .next s) ∧
  (∀ (d l b : Nat) (w : Word) (s : State),
    s.cyc % 256 = 0 → l < 4 → s.domOn d domFerry = true → w = s.rd Obj.LANE_CONFIG (sel d l) →
      laneConfigBad w = false →
    b = (s.appl (applKey 3 (d * 30 + 16 + l))).setting.toNat % 8 →
    exec (.laneConfigApply d l) s = .next (s.setLane (sel d l) { s.lane (sel d l) with
      config := w.setWidth 32, ctle := bits w (4 * b + 3) (4 * b) })) ∧
  (∀ (d l : Nat) (s : State),
    s.cyc % 256 = 0 → l < 4 → s.domOn d domFerry = true → laneConfigBad (s.rd Obj.LANE_CONFIG (sel d l)) = true →
    exec (.laneConfigApply d l) s = hostError) ∧
  (∀ (d l : Nat) (s : State),
    s.cyc % 256 ≠ 0 ∨ 4 ≤ l ∨ s.domOn d domFerry = false → exec (.laneConfigApply d l) s = .next s) ∧
  (∀ (s : State),
    s.linkChanged = true ∨ s.floodAt + 1250000000 ≤ s.cyc →
    ∃ t, exec .linkStateFlood s = .next t ∧
      (∀ d : Nat, s.portUp d = true →
        (t.fport d).bulk.map flitEnds = (s.fport d).bulk.map flitEnds ++
          ((List.range 256).filter (fun dev : Nat => dev != s.ownDevice && s.floodPort dev == some d)).map (fun dev
            : Nat => (dev, s.ownDevice)) ∧
        (t.fport d).bulk.take (s.fport d).bulk.length = (s.fport d).bulk) ∧
      (∀ d : Nat, t.fport d = { s.fport d with bulk := (t.fport d).bulk }) ∧
      (∀ d : Nat, s.portUp d = false → t.fport d = s.fport d) ∧
      t = { s with fports := t.fports, linkChanged := false, floodAt := s.cyc, free := t.free }) ∧
  (∀ (s : State), s.linkChanged = false → s.cyc < s.floodAt + 1250000000 → exec .linkStateFlood s = .next s) ∧
  (∀ (r : LinkStateRec) (s : State),
    r.device ≠ s.ownDevice →
    exec (.linkStateRecordReceive r) s = .next { s with
      devices := s.devices.filter (fun x : LinkStateRec => x.device != r.device) ++ [r],
      subs := s.subs.map (fun p : Nat × Sub => if 768 ≤ selUnit p.1 ∧ p.2.st = .pending ∧
        s.subDevice p.1 = r.device ∧
        r.member.dies ≤ s.subDie p.1 then (p.1, { p.2 with st := .refusedSource }) else p) }) ∧
  (∀ (r : LinkStateRec) (s : State), r.device = s.ownDevice → exec (.linkStateRecordReceive r) s = .next s) ∧
  (∀ (s : State),
    (∀ x ∈ s.devices, x.device < 256) →
    ∃ t, exec .routeUpdate s = .next t ∧
      (∀ x ∈ s.devices, ∀ d : Nat, d < s.member.dies →
        match s.computeRoute d x.device with
        | some (egress, hs, cost) => (t.fRoute (d * 256 + x.device)).valid = true ∧
            (t.fRoute (d * 256 + x.device)).egress = egress ∧ (t.fRoute (d * 256 + x.device)).hops = hs ∧
            (t.fRoute (d * 256 + x.device)).cost = cost
        | none => (t.fRoute (d * 256 + x.device)).valid = false) ∧
      t.devices = s.devices ∧ t.fports = s.fports ∧ t.lanes = s.lanes ∧ t.flight = s.flight)

/-- R22, its table and its last sentence. A hop is a die and the link that leaves it. -/
def Obligations.RoutesBetweenDies : Prop :=
  (∀ (i j : Nat), i < 8 → j < 8 →
    (route 8 i j).map (fun h => farDie 8 h.1 h.2) = (match (j + 8 - i) % 8 with
      | 0 => []
      | 1 => [(i + 1) % 8]
      | 2 => [(i + 1) % 8, (i + 2) % 8]
      | 3 => [(i + 4) % 8, (i + 3) % 8]
      | 4 => [(i + 4) % 8]
      | 5 => [(i + 4) % 8, (i + 5) % 8]
      | 6 => [(i + 7) % 8, (i + 6) % 8]
      | _ => [(i + 7) % 8]) ∧
    (route 8 i j).map (fun h => h.1) = (i :: (route 8 i j).map (fun h => farDie 8 h.1 h.2)).take (hops 8 i j)) ∧
  (∀ (n i j : Nat), n = 2 ∨ n = 4 → i < n → j < n →
    (i = j → route n i j = []) ∧
    (i ≠ j → (route n i j).map (fun h => h.1) = [i] ∧ (route n i j).map (fun h => farDie n h.1 h.2) = [j]))

/-- R69. That no sequencer may run is R70's. -/
def Obligations.TimeSetAcceptance : Prop :=
  (∀ (v : Time) (s : State),
    s.rdN Obj.TIME_SOURCE 0 ≠ 0 → s.isMaster = false →
    ∃ t, exec (.timeSet v) s = .next t ∧ bit (t.rd Obj.TIME_STATUS 0) 5 = true ∧
      (∀ n : Nat, n ≠ 5 → bit (t.rd Obj.TIME_STATUS 0) n = bit (s.rd Obj.TIME_STATUS 0) n) ∧
      (∀ id k : Nat, ¬ (id = Obj.TIME_STATUS ∧ k = 0) → t.rd id k = s.rd id k) ∧ t = { s with regs := t.regs }) ∧
  (∀ (v : Time) (s : State),
    s.rdN Obj.TIME_SOURCE 0 = 0 ∨ s.isMaster = true → s.anyRunning = false →
    ∃ t, exec (.timeSet v) s = .next t ∧ t.clock.now = v)

/-- R7, for the words that the device sends and those that it reads. -/
def Obligations.WordsOnTheWire : Prop :=
  (∀ (v : Word) (i : Nat), i < 9 → (wordBytes v).length = 9 ∧
    (wordBytes v)[i]? = some (v.extractLsb' (64 - 8 * i) 8)) ∧
  (∀ (ws : List Word), readWordsOf (ws.flatMap wordBytes) ws.length = ws)

/-- R470 to R478. The values of TAG and of a challenge are free (log 1); the statement holds for every value of them.
-/
def Obligations.SessionsOpen : Prop :=
  (∀ (port : Nat) (peer : Peer) (data : Datagram) (s : State),
    s.ethUp port = true → (s.source port peer).isSome = true → 16 ≤ data.bytes.length → s.landing.queue.length < 256 →
    exec (.landingRequestArrive port peer data) s =
      .next { s with landing := { s.landing with queue := s.landing.queue ++ [⟨port, peer, data⟩] } }) ∧
  (∀ (port : Nat) (peer : Peer) (data : Datagram) (s : State),
    s.ethUp port = true → (s.source port peer).isSome = true → data.bytes.length < 16 ∨ 256 ≤ s.landing.queue.length →
    exec (.landingRequestArrive port peer data) s = .next (s.inc Obj.REQUESTS_DISCARDED 0)) ∧
  (∀ (port : Nat) (peer : Peer) (data : Datagram) (s : State),
    s.ethUp port = false ∨ (s.source port peer).isNone = true →
      exec (.landingRequestArrive port peer data) s = .next s) ∧
  (∀ (q : Req) (n : Nat) (s : State),
    headIs s .open_ q = true → s.retried q = none → 1 ≤ q.field 0 1 → q.field 0 1 ≤ 64 → q.field 1 7 = 0 → n < 64 →
    (s.session n).live = false → (∀ m < n, (s.session m).live = true) →
    ∃ t, exec .openSession s = .next t ∧ Opened s t q n) ∧
  (∀ (q : Req) (s : State),
    headIs s .open_ q = true → s.retried q = none → (∀ m < 64, (s.session m).live = true) →
    ∃ t, exec .openSession s = .next t ∧ Replied s t q [q.frame stFull false []] ∧
      t = { s with sent := t.sent, landing := t.landing }) ∧
  (∀ (q : Req) (frame : List Byte) (s : State),
    headIs s .open_ q = true → s.retried q = some frame →
    ∃ t, exec .openSession s = .next t ∧ Replied s t q [frame] ∧
      t = { s with sent := t.sent, landing := t.landing }) ∧
  (∀ (q : Req) (n : Nat) (s : State),
    headIs s .open_ q = true → s.retried q = none → n < 64 → (s.session n).live = false →
    q.field 0 1 = 0 ∨ 64 < q.field 0 1 ∨ q.field 1 7 ≠ 0 → exec .openSession s = hostError) ∧
  (∀ (q : Req) (n : Nat) (s : State),
    headIs s .openChallenge q = true → s.locked q.peer.addr = false → s.retried q = none →
    s.rdN Obj.COMMISSIONED 0 % 2 = 0 → 1 ≤ q.field 0 1 → q.field 0 1 ≤ 64 → q.field 1 7 = 0 → n < 64 →
    (s.session n).live = false → (∀ m < n, (s.session m).live = true) →
    ∃ t, exec .openAdminChallenge s = .next t ∧ Opened s t q n ∧ (t.session n).admin = true) ∧
  (∀ (q : Req) (s : State),
    headIs s .openChallenge q = true → s.locked q.peer.addr = false → s.retried q = none →
    s.rdN Obj.COMMISSIONED 0 % 2 = 1 → 1 ≤ q.field 0 1 → q.field 0 1 ≤ 64 → q.field 1 7 = 0 →
    ∃ t, exec .openAdminChallenge s = .next t ∧
      (∃ c ∈ t.landing.challenges, c.at_ = s.cyc ∧
        t.landing = { s.landing with queue := s.landing.queue.tail, challenges := s.landing.challenges ++ [c] } ∧
        t.sent = s.sent ++ q.replies [q.frame stChallenge false (toBytes c.value.toNat 16)]) ∧
      t = { s with sent := t.sent, landing := t.landing, free := t.free }) ∧
  (∀ (q : Req) (s : State),
    headIs s .openChallenge q = true → s.locked q.peer.addr = true →
    ∃ t, exec .openAdminChallenge s = .next t ∧ AuthFailed s t q) ∧
  (∀ (q : Req) (n : Nat) (s : State),
    headIs s .openResponse q = true → s.locked q.peer.addr = false → s.retried q = none →
    s.rdN Obj.COMMISSIONED 0 % 2 = 1 →
    (∃ c ∈ s.landing.challenges, c.value = BitVec.ofNat 128 (q.field 8 16) ∧ s.cyc < c.at_ + 1250000000) →
    hmac s.secretBytes ((q.body.drop 8).take 32) = (q.body.drop 40).take 32 →
    1 ≤ q.field 0 1 → q.field 0 1 ≤ 64 → q.field 1 7 = 0 → n < 64 →
    (s.session n).live = false → (∀ m < n, (s.session m).live = true) →
    ∃ t, exec .openAdminResponse s = .next t ∧ Opened s t q n ∧ (t.session n).admin = true ∧
      (∀ c ∈ t.landing.challenges, c.value ≠ BitVec.ofNat 128 (q.field 8 16))) ∧
  (∀ (q : Req) (s : State),
    headIs s .openResponse q = true → s.retried q = none →
    s.locked q.peer.addr = true ∨ s.rdN Obj.COMMISSIONED 0 % 2 = 0 ∨
      (∀ c ∈ s.landing.challenges, c.value = BitVec.ofNat 128 (q.field 8 16) → c.at_ + 1250000000 ≤ s.cyc) ∨
      hmac s.secretBytes ((q.body.drop 8).take 32) ≠ (q.body.drop 40).take 32 →
    ∃ t, exec .openAdminResponse s = .next t ∧ AuthFailed s t q ∧
      (s.locked q.peer.addr = false → ∀ c ∈ t.landing.challenges, c.value ≠ BitVec.ofNat 128 (q.field 8 16)))

/-- R473 and R475 for the session check, R479 and R480 for the window, R481 for the end of a session, R476 to R478 for
the commands of an administrative opening. -/
def Obligations.SessionsServe : Prop :=
  (∀ (c : Instr) (kind : ReqKind) (q : Req) (s : State),
    (c, kind) ∈ sessionRows → headIs s kind q = true → sessionPasses s q = false →
    ∃ t, exec c s = .next t ∧ Replied s t q [q.frame stNoSession false []] ∧
      t = { s with sent := t.sent, landing := t.landing }) ∧
  (∀ (c : Instr) (kind : ReqKind) (q : Req) (s : State),
    (c, kind) ∈ sessionRows → headIs s kind q = true → sessionPasses s q = true →
    seqBeyond q.h.seq (s.session q.h.ses).smax = false → 32 ≤ ((s.session q.h.ses).smax - q.h.seq).toNat →
    ∃ t, exec c s = .next t ∧ Replied s t q [q.frame stStale false []] ∧
      OnlySession s t q { s.session q.h.ses with lastAt := s.cyc } ∧
      t = { s with sent := t.sent, landing := t.landing, sessions := t.sessions }) ∧
  (∀ (c : Instr) (kind : ReqKind) (q : Req) (frame : List Byte) (s : State),
    (c, kind) ∈ sessionRows → headIs s kind q = true → sessionPasses s q = true → readKind q.h.op = false →
    seqBeyond q.h.seq (s.session q.h.ses).smax = false → ((s.session q.h.ses).smax - q.h.seq).toNat < 32 →
    (s.session q.h.ses).done.find? (fun p => p.1 == q.h.seq) = some (q.h.seq, some frame) →
    ∃ t, exec c s = .next t ∧ Replied s t q [frame] ∧ OnlySession s t q { s.session q.h.ses with lastAt := s.cyc } ∧
      t = { s with sent := t.sent, landing := t.landing, sessions := t.sessions }) ∧
  (∀ (q : Req) (s : State),
    headIs s .keepalive q = true → newInSession s q = true →
    ∃ t, exec .keepalive s = .next t ∧ Served s t q (toBytes s.now 8) false ∧
      t = { s with sent := t.sent, landing := t.landing, sessions := t.sessions }) ∧
  (∀ (q : Req) (s : State),
    headIs s .close q = true → newInSession s q = true →
    ∃ t, exec .close s = .next t ∧ Replied s t q [q.frame stOk false []] ∧ SessionClosed s t q.h.ses) ∧
  (∀ (ses : Nat) (s : State),
    (s.session ses).live = true → (s.session ses).lastAt + s.rdN Obj.SESSION_TIMEOUT 0 * 1250000000 ≤ s.cyc →
    ∃ t, exec (.sessionTimeout ses) s = .next t ∧ SessionClosed s t ses ∧ t.sent = s.sent ∧ t.landing = s.landing) ∧
  (∀ (c : Instr) (kind : ReqKind) (s : State),
    (c, kind) ∈ sessionRows → s.serves = false ∨ s.landing.queue = [] → exec c s = .next s) ∧
  (∀ (c : Instr) (kind other : ReqKind) (q : Req) (s : State),
    (c, kind) ∈ sessionRows → headIs s other q = true → other ≠ kind → exec c s = .next s) ∧
  (∀ (c : Instr) (kind : ReqKind) (x : Request) (s : State),
    (c, kind) ∈ sessionRows → s.serves = true → s.landing.queue = [x] → s.kindOf (s.reqOf x) = none →
    ∃ t, exec c s = .next t ∧ Replied s t (s.reqOf x) [(s.reqOf x).frame stBadFrame false []] ∧
      t = { s with sent := t.sent, landing := t.landing }) ∧
  (∀ (ses : Nat) (s : State), (s.session ses).live = false → exec (.sessionClose ses) s = .next s) ∧
  (∀ (ses : Nat) (s : State),
    s.cyc < (s.session ses).lastAt + s.rdN Obj.SESSION_TIMEOUT 0 * 1250000000 →
    exec (.sessionTimeout ses) s = .next s) ∧
  (∀ (ses : Nat) (s : State),
    (s.session ses).live = true →
    ∃ t, exec (.sessionClose ses) s = .next t ∧ SessionClosed s t ses ∧ t.sent = s.sent ∧ t.landing = s.landing) ∧
  (∀ (s : State),
    ∃ t, exec .challengeExpiry s = .next t ∧
      t.landing.challenges = s.landing.challenges.filter (fun c : Challenge => decide (s.cyc < c.at_ + 1250000000)) ∧
      t = { s with landing := { s.landing with challenges := t.landing.challenges } }) ∧
  (∀ (a : BitVec 128) (s : State),
    ∃ t, exec (.authLockoutEnd a) s = .next t ∧
      t.landing.lockouts = s.landing.lockouts.filter (fun p : BitVec 128 × Nat => p.1 != a || decide (s.cyc < p.2)) ∧
      t = { s with landing := { s.landing with lockouts := t.landing.lockouts } }) ∧
  (∀ (v : Word) (vs : List Word) (s : State),
    bits v 71 40 = 0 → vs.length = 3 →
    ∃ t, exec (.commissionSecret (v :: vs)) s = .next t ∧ t.nv = { s.nv with secret := v :: vs } ∧
      t.rd Obj.COMMISSIONED 0 = 1 ∧ (∀ id k : Nat, ¬ (id = Obj.COMMISSIONED ∧ k = 0) → t.rd id k = s.rd id k) ∧
      t = { s with nv := t.nv, regs := t.regs }) ∧
  (∀ (v : Word) (vs : List Word) (s : State),
    bits v 71 40 ≠ 0 → exec (.commissionSecret (v :: vs)) s = .fault .hostError)

/-- R482 to R485 for objects, R487 to R489 for subscriptions and streams, R492 and R493 for FIRE and WAKE, R125 for
STATUS_CLEAR, R304 for the memory of a DSP engine, R517 for VENDOR_TEST_WRITE. -/
def Obligations.ObjectsAndStreams : Prop :=
  (∀ (q : Req) (r : ObjRow) (s : State),
    headIs s .read q = true → newInSession s q = true → s.object (q.objId 0) (q.objSel 0) = some r → r.ty ≠ .domain →
    (r.secure = true → s.isAdmin q.h.ses = true) → isVendor r.id = false →
    ∃ t, exec .landingRead s = .next t ∧
      Served s t q (q.body ++ wordBytes ((s.heard q).readObj r (q.objSel 0))) false ∧
      t = { s with sent := t.sent, landing := t.landing, sessions := t.sessions }) ∧
  (∀ (q : Req) (s : State),
    headIs s .read q = true → newInSession s q = true → s.object (q.objId 0) (q.objSel 0) = none →
    ∃ t, exec .landingRead s = .next t ∧ Replied s t q [q.frame stNoObject false []] ∧
      OnlySession s t q { s.session q.h.ses with lastAt := s.cyc } ∧
      t = { s with sent := t.sent, landing := t.landing, sessions := t.sessions }) ∧
  (∀ (q : Req) (r : ObjRow) (s : State),
    headIs s .read q = true → newInSession s q = true → s.object (q.objId 0) (q.objSel 0) = some r → r.ty = .domain →
    ∃ t, exec .landingRead s = .next t ∧ Replied s t q [q.frame stAccess false []] ∧
      OnlySession s t q { s.session q.h.ses with lastAt := s.cyc } ∧
      t = { s with sent := t.sent, landing := t.landing, sessions := t.sessions }) ∧
  (∀ (q : Req) (r : ObjRow) (s : State),
    headIs s .read q = true → newInSession s q = true → s.object (q.objId 0) (q.objSel 0) = some r → r.ty ≠ .domain →
    r.secure = true → s.isAdmin q.h.ses = false →
    ∃ t, exec .landingRead s = .next t ∧ Replied s t q [q.frame stSecurity false []] ∧
      OnlySession s t q { s.session q.h.ses with lastAt := s.cyc } ∧
      t = { s with sent := t.sent, landing := t.landing, sessions := t.sessions }) ∧
  (∀ (q : Req) (r : ObjRow) (w s : State),
    headIs s .write q = true → newInSession s q = true → s.object (q.objId 0) (q.objSel 0) = some r → r.ty ≠ .domain →
    r.acc ≠ .ro → (r.secure = true → s.isAdmin q.h.ses = true) →
    (s.heard q).writeObj q.h.ses r (q.objSel 0) (writeBits r.ty (word (q.field 5 9))) = (0, .next w) →
    ∃ t, exec .landingWrite s = .next t ∧ t = w.finish q stOk (q.body.take 5)) ∧
  (∀ (q : Req) (r : ObjRow) (s : State),
    headIs s .write q = true → newInSession s q = true → s.object (q.objId 0) (q.objSel 0) = some r →
      r.ty = .domain ∨ r.acc = .ro →
    ∃ t, exec .landingWrite s = .next t ∧ Replied s t q [q.frame stAccess false []] ∧
      OnlySession s t q { s.session q.h.ses with lastAt := s.cyc } ∧
      t = { s with sent := t.sent, landing := t.landing, sessions := t.sessions }) ∧
  (∀ (q : Req) (r : ObjRow) (v : Word) (s : State),
    headIs s .write q = true → newInSession s q = true → s.object (q.objId 0) (q.objSel 0) = some r → r.ty ≠ .domain →
    r.acc ≠ .ro → (r.secure = true → s.isAdmin q.h.ses = true) → v = writeBits r.ty (word (q.field 5 9)) →
    plainWrite s q.h.ses r.id (q.objSel 0) v = true →
    ∃ t, exec .landingWrite s = .next t ∧ Served s t q (q.body.take 5) true ∧ t.rd r.id (q.objSel 0) = v ∧
      (∀ id k : Nat, ¬ (id = r.id ∧ k = q.objSel 0) → t.rd id k = s.rd id k) ∧
      t = { s with sent := t.sent, landing := t.landing, sessions := t.sessions, regs := t.regs, recent := t.recent })
        ∧
  (∀ (q : Req) (r : ObjRow) (s : State),
    headIs s .readBlock q = true → newInSession s q = true → s.object (q.objId 0) (q.objSel 0) = some r →
      r.ty = .domain →
    (r.secure = true → s.isAdmin q.h.ses = true) → isVendor r.id = false → q.field 11 2 = 0 →
    (r.id ≠ Obj.DSP_PROGRAM ∧ r.id ≠ Obj.DSP_DATA) ∨ q.checks = [] →
    ∃ t, exec .readblock s = .next t ∧ Replied s t q (blockFrames (s.heard q) q r) ∧
      OnlySession s t q (sessionAfter s q none) ∧
      t = { s with sent := t.sent, landing := t.landing, sessions := t.sessions }) ∧
  (∀ (q : Req) (r : ObjRow) (n : Nat) (s : State),
    headIs s .readBlock q = true → newInSession s q = true → s.object (q.objId 0) (q.objSel 0) = some r →
      r.ty = .domain →
    (r.secure = true → s.isAdmin q.h.ses = true) → q.field 11 2 = 0 →
    r.id = Obj.DSP_PROGRAM ∨ r.id = Obj.DSP_DATA → (∀ c ∈ q.checks, c.2 ≠ Ecc.uncorrectable) →
    n = ((List.range q.count).filter (fun p : Nat => (q.checks.find? (fun c : Nat × Ecc => c.1 == p)).map Prod.snd
      == some Ecc.corrected)).length →
    s.rdN Obj.DSP_MEM_CORRECTED (q.objSel 0) + n < 2 ^ 32 →
    ∃ t, exec .readblock s = .next t ∧ Replied s t q (blockFrames (s.heard q) q r) ∧
      OnlySession s t q (sessionAfter s q none) ∧
        t.rdN Obj.DSP_MEM_CORRECTED (q.objSel 0) = s.rdN Obj.DSP_MEM_CORRECTED (q.objSel 0) + n ∧
      (∀ id k : Nat, (id = Obj.DSP_MEM_CORRECTED ∧ k = q.objSel 0) ∨ t.rd id k = s.rd id k) ∧
      t = { s with sent := t.sent, landing := t.landing, sessions := t.sessions, regs := t.regs }) ∧
  (∀ (q : Req) (r : ObjRow) (s : State),
    headIs s .readBlock q = true → newInSession s q = true → s.object (q.objId 0) (q.objSel 0) = some r →
      r.ty = .domain →
    (r.secure = true → s.isAdmin q.h.ses = true) → q.field 11 2 = 0 → r.id = Obj.DSP_DATA → q.count = 1 →
      q.checks = [(0, .uncorrectable)] →
    ∃ t, exec .readblock s = .next t ∧
      Replied s t q [q.frame stOk true (q.body.take 11 ++ toBytes 0 2 ++ List.replicate 9 0)] ∧
        OnlySession s t q (sessionAfter s q none)) ∧
  (∀ (q : Req) (r : ObjRow) (s : State),
    headIs s .readBlock q = true → newInSession s q = true → s.object (q.objId 0) (q.objSel 0) = some r →
      r.ty = .domain →
    (r.secure = true → s.isAdmin q.h.ses = true) → q.field 11 2 = 0 →
    ∃ t, exec .readblock s = .next t ∧ OnlySession s t q (sessionAfter s q none)) ∧
  (∀ (q : Req) (r : ObjRow) (s : State),
    headIs s .readBlock q = true → newInSession s q = true → s.object (q.objId 0) (q.objSel 0) = some r →
      r.ty = .domain →
    (r.secure = true → s.isAdmin q.h.ses = true) → q.field 11 2 ≠ 0 → exec .readblock s = hostError) ∧
  (∀ (q : Req) (r : ObjRow) (s : State),
    headIs s .writeBlock q = true → newInSession s q = true → s.object (q.objId 0) (q.objSel 0) = some r →
    r.id = Obj.ENV_DATA ∨ r.id = Obj.WEIGHT_DATA →
    ∃ t, exec .writeblock s = .next t ∧ Served s t q (q.body.take 13) true ∧
      (∀ i < (blockKept q).length, t.dw r.id (q.objSel 0) (blockPlace s q r i) = (blockKept q).getD i 0) ∧
      (∀ id k w : Nat, (id = r.id → k = q.objSel 0 → ∀ i < (blockKept q).length, w ≠ blockPlace s q r i) →
        t.dw id k w = s.dw id k w) ∧
      t = { s with sent := t.sent, landing := t.landing, sessions := t.sessions, doms := t.doms }) ∧
  (∀ (q : Req) (d : Nat) (mask : BitVec 16) (s : State),
    headIs s .subscribe q = true → newInSession s q = true → q.field 0 8 = d * 2 ^ 53 + mask.toNat →
      d < s.member.dies →
    ∃ t, exec .subscribe s = .next t ∧ Served s t q [] true ∧
      look [] t.recSubs q.h.ses = (look [] s.recSubs q.h.ses).filter (fun x : RecSub => x.die != d) ++
        (if mask = 0 then [] else [RecSub.mk d mask]) ∧
      (∀ n : Nat, n ≠ q.h.ses → look [] t.recSubs n = look [] s.recSubs n) ∧
      t = { s with sent := t.sent, landing := t.landing, sessions := t.sessions, recSubs := t.recSubs }) ∧
  (∀ (q : Req) (s : State),
    headIs s .subscribe q = true → newInSession s q = true → q.field 0 8 / 65536 % 2 ^ 37 ≠ 0 →
      exec .subscribe s = hostError) ∧
  (∀ (q : Req) (mask : BitVec 16) (s : State),
    headIs s .subscribe q = true → newInSession s q = true → q.field 0 8 = 2 ^ 56 + mask.toNat → mask &&& 0xFFC1 = 0 →
    ∃ t, exec .subscribe s = .next t ∧ Replied s t q [q.frame stOk false []] ∧
      OnlySession s t q { sessionAfter s q (some (q.frame stOk false [])) with notify := mask } ∧
      t = { s with sent := t.sent, landing := t.landing, sessions := t.sessions }) ∧
  (∀ (q : Req) (k : Nat) (r : ObjRow) (s : State),
    headIs s .fire q = true → newInSession s q = true → k = q.field 0 2 → s.object Obj.CHAN_FIRE k = some r →
    s.mayFire k q.h.ses = true → bits (word (q.field 2 9)) 71 64 = 0 → s.dieRuns (selDie k) = true →
    ∃ t, exec .fire s = .next t ∧ Served s t q [] true ∧
      (∃ e ∈ (t.chan k).events, e.raised = s.cyc ∧ bit e.cands 4 = true) ∧ (∀ j : Nat, j ≠ k → t.chan j = s.chan j) ∧
      t = { s with sent := t.sent, landing := t.landing, sessions := t.sessions, chans := t.chans, regs := t.regs }) ∧
  (∀ (q : Req) (k : Nat) (r : ObjRow) (v : Word) (s : State),
    headIs s .fire q = true → newInSession s q = true → k = q.field 0 2 → s.object Obj.CHAN_FIRE k = some r →
    s.mayFire k q.h.ses = true → v = word (q.field 2 9) → bits v 71 64 = 1 → s.now ≤ bits v 63 0 →
    (s.fires.filter (fun f => f.die == selDie k)).length < 64 →
    ∃ t, exec .fire s = .next t ∧ Served s t q [] true ∧ t.fires.length = s.fires.length + 1 ∧
      TimedFire.mk (selDie k) (selUnit k) (BitVec.ofNat 64 (bits v 63 0)) ∈ t.fires ∧ (∀ f ∈ s.fires, f ∈ t.fires) ∧
      t = { s with sent := t.sent, landing := t.landing, sessions := t.sessions, fires := t.fires }) ∧
  (∀ (q : Req) (k : Nat) (r : ObjRow) (v : Word) (s : State),
    headIs s .fire q = true → newInSession s q = true → k = q.field 0 2 → s.object Obj.CHAN_FIRE k = some r →
    s.mayFire k q.h.ses = true → v = word (q.field 2 9) → bits v 71 64 = 1 → s.now ≤ bits v 63 0 →
    64 ≤ (s.fires.filter (fun f => f.die == selDie k)).length →
    ∃ t, exec .fire s = .next t ∧ Replied s t q [q.frame stFull false []] ∧
      t.rd Obj.FIRE_REFUSED (sel (selDie k) 0) = (s.inc Obj.FIRE_REFUSED (sel (selDie k) 0)).rd Obj.FIRE_REFUSED
        (sel (selDie k) 0) ∧
      t = { s with sent := t.sent, landing := t.landing, sessions := t.sessions, regs := t.regs }) ∧
  (∀ (q : Req) (k : Nat) (r : ObjRow) (s : State),
    headIs s .fire q = true → newInSession s q = true → k = q.field 0 2 → s.object Obj.CHAN_FIRE k = some r →
    s.mayFire k q.h.ses = false →
    ∃ t, exec .fire s = .next t ∧ Replied s t q [q.frame stSecurity false []] ∧
      OnlySession s t q { s.session q.h.ses with lastAt := s.cyc } ∧
      t = { s with sent := t.sent, landing := t.landing, sessions := t.sessions }) ∧
  (∀ (q : Req) (s : State),
    headIs s .wake q = true →
    ∃ t, exec .wake s = .next t ∧ Replied s t q [q.frame stOk false []] ∧
      (∀ d < s.member.dies, (s.die d).s3 = true → (q.field 0 1).testBit d = true → s.isShut = false →
        ∃ w ∈ t.sleep.wakes, w.target = 0 ∧ w.selector = sel d 0) ∧
      (s.sleep.standby = false → ∀ w ∈ t.sleep.wakes, w ∈ s.sleep.wakes ∨
        (w.target = 0 ∧ w.due = s.cyc + 12500000 ∧ ∃ d < s.member.dies, w.selector = sel d 0 ∧
          (q.field 0 1).testBit d = true)) ∧
      t = { s with sent := t.sent, landing := t.landing, sleep := t.sleep }) ∧
  (∀ (obj target mask all k : Nat) (v : Word) (s : State),
    (obj, target, mask, all) ∈ clearObjects → v &&& ~~~(word all) = 0 →
    ∃ t, exec (.statusClear obj k v) s = .next t ∧ t.rd target k = s.rd target k &&& ~~~(v &&& word mask) ∧
      (∀ id j : Nat, ¬ (id = target ∧ j = k) → t.rd id j = s.rd id j) ∧ t = { s with regs := t.regs }) ∧
  (∀ (obj target mask all k : Nat) (v : Word) (s : State),
    (obj, target, mask, all) ∈ clearObjects → v &&& ~~~(word all) ≠ 0 → exec (.statusClear obj k v) s = hostError) ∧
  (∀ (obj k : Nat) (v : Word) (s : State), exec (.vendorTestWrite obj k v) s = hostError) ∧
  (∀ (ses : Nat) (f : DueFrame) (x : Session) (s : State),
    sendsNow s ses f = true → f.die = none → x = s.feedStreams.session ses →
    ∃ t, exec (.streamFrameSend ses) s = .next t ∧
      t.sent = s.sent ++ [Sent.landing x.port ((s.source x.port x.peer).getD 0) x.peer ((Head.mk 1 9 false false
        false 0 ses x.tag x.frames 0
        (8 + 27 * ((x.items.take (f.words / 3)).length))).bytes ++
        (toBytes (2 ^ 56 + 0xFFFF * 2 ^ 32 + x.itemsSent % 2 ^ 32) 8 ++
          ((x.items.take (f.words / 3)).flatMap Item.words).flatMap wordBytes))] ∧
      t.session ses = { x with frames := x.frames + 1, items := x.items.drop (f.words / 3),
                               itemsSent := x.itemsSent + f.words / 3 } ∧
      (∀ n : Nat, n ≠ ses → t.session n = s.feedStreams.session n)) ∧
  (∀ (ses d : Nat) (f : DueFrame) (x : Session) (s : State),
    sendsNow s ses f = true → f.die = some d → x = s.feedStreams.session ses →
    ∃ t, exec (.streamFrameSend ses) s = .next t ∧ t.sent.length = s.sent.length + 1 ∧
      (∃ first < 65536, t.sent.getLast? = some (Sent.landing x.port ((s.source x.port x.peer).getD 0) x.peer
        ((Head.mk 1 9 false false false 0 ses x.tag x.frames 0
        (8 + 9 * ((streamWords s.feedStreams ses d).take f.words).length)).bytes ++
        (toBytes (d * 2 ^ 53 + first * 2 ^ 32 + (look ({} : Stream) x.streams d).sent % 2 ^ 32) 8 ++
          ((streamWords s.feedStreams ses d).take f.words).flatMap wordBytes)))) ∧
      (t.session ses).frames = x.frames + 1 ∧
      (look ({} : Stream) (t.session ses).streams d).sent = ((look ({} : Stream) x.streams d).sent + f.words) % 2 ^
        32 ∧
      (∀ n : Nat, n ≠ ses → t.session n = s.feedStreams.session n) ∧
      t = { s with sent := t.sent, landing := t.landing, sessions := t.sessions, acqs := t.acqs }) ∧
  (∀ (ses : Nat) (s : State),
    (s.feedStreams.turn (s.feedStreams.session ses).port (look {} s.landing.egress (s.feedStreams.session ses).port)
      2048).any
      (fun x => x.1 == ses) = false →
    exec (.streamFrameSend ses) s = .next s.feedStreams)

/-- R572 to R574 and R576 for power-up, R577 to R582 and R494 for the resets, R84 for a lost REFCLK. The choice of
what stands in State.reset is the model's (log 9). -/
def Obligations.PowerUpAndResets : Prop :=
  (∀ (straps : BitVec 8) (store : StoreRead) (s : State),
    s.domSt 0 0 = .off →
    ∃ t, exec (.vinValid straps store) s = .next t ∧ Restarted s t 0 ∧
      t.rd Obj.CROSSING_DEVICE 0 = word straps.toNat ∧
      t.rd Obj.POWER_CYCLES 0 = ((s.restored.start 0 store).inc Obj.POWER_CYCLES 0).rd Obj.POWER_CYCLES 0) ∧
  (∀ (straps : BitVec 8) (store : StoreRead) (s : State),
    s.domSt 0 0 ≠ .off → s.shut.st = .running →
    exec (.vinValid straps store) s = .next s) ∧
  (∀ (d : Nat) (s : State),
    s.member.dies ≤ d ∨ (s.die d).stored = false ∨ (s.die d).booted = true → exec (.fredomBootEnd d) s = .next s) ∧
  (∀ (d : Nat) (dly : Int) (groups : List (Nat × Nat)) (badLinks : List Nat) (s : State),
    s.member.dies ≤ d ∨ (s.die d).plls = 0 ∨ (s.die d).trained = true →
    exec (.gangwayTrainingEnd d dly groups badLinks) s = .next s) ∧
  (∀ (q : Req) (k : Nat) (r : ObjRow) (s : State),
    headIs s .resetUnit q = true → newInSession s q = true → k = q.objSel 1 → s.object (q.objId 1) k = some r →
    (r.scope = 16 → s.mayConfigure k q.h.ses false = true) →
    q.field 0 1 ≠ 0 ∨ ¬ (r.scope = 4 ∨ (6 ≤ r.scope ∧ r.scope ≤ 18 ∧ r.scope ≠ 11 ∧ r.scope ≠ 12)) →
    exec .resetUnit s = hostError) ∧
  (∀ (q : Req) (k : Nat) (r : ObjRow) (s : State),
    headIs s .resetUnit q = true → newInSession s q = true → k = q.objSel 1 → s.object (q.objId 1) k = some r →
    r.scope = 16 → s.mayConfigure k q.h.ses false = false →
    ∃ t, exec .resetUnit s = .next t ∧ Replied s t q [q.frame stSecurity false []] ∧
      OnlySession s t q { s.session q.h.ses with lastAt := s.cyc } ∧
      t = { s with sent := t.sent, landing := t.landing, sessions := t.sessions }) ∧
  (∀ (straps : BitVec 8) (store : StoreRead) (s : State),
    s.landing.resetLow = false ∨ s.refclkHolds = false →
    exec (.resetNRelease straps store) s = .next { s with landing := { s.landing with resetLow := false } }) ∧
  (∀ (d : Nat) (s : State),
    s.member.dies ≤ d ∨ (s.die d).booted = false → exec (.watchdogExpiry d) s = .next s) ∧
  (∀ (d : Nat) (s : State),
    d < s.member.dies → (s.die d).stored = true → (s.die d).booted = false → s.shut.held = none →
    exec (.fredomBootEnd d) s = .next (s.setDie d { s.die d with booted := true })) ∧
  (∀ (c e : Nat) (s : State),
    (s.die 0).stored = true → (s.die 0).booted = false → s.shut.held = some (c, e) → s.shut.st = .running →
    (s.die e).logs.length < 64 →
    ∃ t, exec (.fredomBootEnd 0) s = .next t ∧ (t.die 0).booted = true ∧ t.shut.held = none ∧
      (∃ l ∈ (t.die e).logs, l.cls = 14 ∧ l.die = e ∧ l.detail.toNat = c % 2 ^ 32) ∧
      t = { s with dies := t.dies, shut := t.shut, regs := t.regs }) ∧
  (∀ (d : Nat) (dly : Int) (groups : List (Nat × Nat)) (badLinks : List Nat) (s : State),
    d < s.member.dies → (s.die d).plls ≠ 0 → (s.die d).trained = false →
    ∃ t, exec (.gangwayTrainingEnd d dly groups badLinks) s = .next t ∧ (t.die d).trained = true ∧
      (t.die d).dly = dly ∧
      (∀ n ∈ startDomains s.member.dies, t.domOn d n = true) ∧
      (∀ l ∈ badLinks, l < linkCount s.member.dies → (t.glink (d * 4 + l)).failed = true) ∧
      (∀ l w : Nat, groups = [(l, w)] → l < linkCount s.member.dies → (s.glink (d * 4 + l)).spared.length < 4 →
        ¬ w ∈ (s.glink (d * 4 + l)).spared → (t.glink (d * 4 + l)).spared = (s.glink (d * 4 + l)).spared ++ [w]) ∧
      (s.clock.counting = true → t.clock = s.clock) ∧
      (s.clock.counting = false → (∀ e < s.member.dies, e ≠ d → (s.die e).trained = true) →
        t.clock = { s.clock with counting := true, now := 0, phase := 0 }) ∧
      (∀ e < s.member.dies, e ≠ d → (s.die e).trained = false → t.clock = s.clock)) ∧
  (∀ (q : Req) (k : Nat) (r : ObjRow) (s : State),
    headIs s .resetUnit q = true → newInSession s q = true → q.field 0 1 = 0 → k = q.objSel 1 →
    s.object (q.objId 1) k = some r → r.scope = 4 ∨ (6 ≤ r.scope ∧ r.scope ≤ 18 ∧ r.scope ≠ 11 ∧ r.scope ≠ 12) →
    (r.scope = 16 → s.mayConfigure k q.h.ses false = true) →
      s.domKept (selDie k) (unitDomain r.scope (selUnit k)) = true →
    ∃ t, exec .resetUnit s = .next t ∧ Served s t q [] true ∧ UnitCleared t r.scope k ∧
      (∀ id : Nat, unitClears r.scope k id k = true → t.rd id k = objDefault id k) ∧
      (∀ id j w : Nat, isMemory id = true → id ≠ Obj.DSP_REGS → t.dw id j w = s.dw id j w) ∧
      t.clock = s.clock ∧ t.power = s.power ∧ t.nv = s.nv) ∧
  (∀ (q : Req) (k : Nat) (r : ObjRow) (s : State),
    headIs s .resetUnit q = true → newInSession s q = true → q.field 0 1 = 0 → k = q.objSel 1 →
    s.object (q.objId 1) k = some r → r.scope = 4 ∨ (6 ≤ r.scope ∧ r.scope ≤ 18 ∧ r.scope ≠ 11 ∧ r.scope ≠ 12) →
    (r.scope = 16 → s.mayConfigure k q.h.ses false = true) →
      s.domKept (selDie k) (unitDomain r.scope (selUnit k)) = false →
    ∃ t, exec .resetUnit s = .next t ∧ Served s t q [] true ∧
      t = { s with sent := t.sent, landing := t.landing, sessions := t.sessions }) ∧
  (∀ (q : Req) (r : ObjRow) (s : State),
    headIs s .resetDie q = true → newInSession s q = true → s.object (q.objId 1) (q.objSel 1) = some r →
    s.isAdmin q.h.ses = true → (selDie (q.objSel 1) = 0 → s.mayReset = true) →
    ∃ t, exec .resetDie s = .next t ∧ ResetAsked s t q (selDie (q.objSel 1))
      (if selDie (q.objSel 1) = 0 then StopKind.resetDevice else StopKind.resetDie (selDie (q.objSel 1)))) ∧
  (∀ (q : Req) (r : ObjRow) (s : State),
    headIs s .resetDevice q = true → newInSession s q = true → s.object (q.objId 1) (q.objSel 1) = some r →
    s.isAdmin q.h.ses = true → s.mayReset = true →
    ∃ t, exec .resetDevice s = .next t ∧ ResetAsked s t q 0 .resetDevice) ∧
  (∀ (c : Instr) (kind : ReqKind) (q : Req) (r : ObjRow) (s : State),
    (c = .resetDie ∧ kind = .resetDie) ∨ (c = .resetDevice ∧ kind = .resetDevice) →
    headIs s kind q = true → newInSession s q = true → s.object (q.objId 1) (q.objSel 1) = some r →
    s.isAdmin q.h.ses = false →
    ∃ t, exec c s = .next t ∧ Replied s t q [q.frame stSecurity false []] ∧
      OnlySession s t q { s.session q.h.ses with lastAt := s.cyc } ∧
      t = { s with sent := t.sent, landing := t.landing, sessions := t.sessions }) ∧
  (∀ (e : Nat) (s : State),
    s.shut.stop = some (e, .resetDevice) → e ≤ s.cyc →
    ∃ t, exec .resetStopWindowEnd s = .next t ∧ Restarted s t (s.resetCause 2)) ∧
  (∀ (e d : Nat) (s : State),
    s.shut.stop = some (e, .resetDie d) → e ≤ s.cyc → d < s.member.dies →
    ∃ t, exec .resetStopWindowEnd s = .next t ∧ (∀ n < 82, n ≠ 0 → n ≠ 2 → t.domSt d n = PState.off) ∧
      t.domOn d 2 = true ∧
      (t.die d).stored = true ∧ (t.die d).booted = false ∧ (t.die d).trained = false ∧
      (∀ cls < 4, (t.epochRec (d * 4 + cls)).last = 0) ∧
      t.rd Obj.RESET_CAUSE 0 = (s.rd Obj.RESET_CAUSE 0 &&& 0x80) ||| word (d * 16 + 5) ∧
      t.shut = { s.shut with stop := none, brown := false } ∧ t.clock = s.clock ∧
      (∀ e' n : Nat, e' ≠ d → n < 128 → t.domSt e' n = s.domSt e' n) ∧
      (d = 1 → ∀ n : Nat, (t.session n).live = true → (t.session n).port ≠ 1)) ∧
  (∀ (e : Nat) (kind : StopKind) (s : State),
    s.shut.stop = some (e, kind) → s.cyc < e → exec .resetStopWindowEnd s = .next s) ∧
  (∀ (s : State),
    ∃ t, exec .resetNAssert s = .next t ∧ (∀ d < s.member.dies, ∀ n < 82, n ≠ 0 → t.domSt d n = PState.off) ∧
      (∀ n : Nat, (t.session n).live = false) ∧ t.landing.resetLow = true ∧
        t.clock = { s.clock with counting := false } ∧
      t.shut.stop = none ∧ t.shut.waiting = [] ∧ t.nv = s.nv) ∧
  (∀ (straps : BitVec 8) (store : StoreRead) (s : State),
    s.landing.resetLow = true → s.shut.brown = false → s.refclkHolds = true →
    ∃ t, exec (.resetNRelease straps store) s = .next t ∧ Restarted s t (128 + s.resetCause 1) ∧
      t.rd Obj.CROSSING_DEVICE 0 = word straps.toNat) ∧
  (∀ (d : Nat) (s : State),
    d < s.member.dies → (s.die d).booted = true →
    ∃ t, exec (.watchdogExpiry d) s = .next t ∧ (t.die d).booted = false ∧
      t.rd Obj.WATCHDOG_RESETS (sel d 0) = (s.inc Obj.WATCHDOG_RESETS (sel d 0)).rd Obj.WATCHDOG_RESETS (sel d 0) ∧
      t.rd Obj.RESET_CAUSE 0 = (s.rd Obj.RESET_CAUSE 0 &&& 0x80) ||| word (d * 16 + 6) ∧
      (d = 0 → ∀ n : Nat, (t.session n).live = false) ∧
      (d = 1 → ∀ n : Nat, (t.session n).live = true → (t.session n).port ≠ 1) ∧ (2 ≤ d → t.sessions = s.sessions) ∧
      (∀ e : Nat, e ≠ d → t.die e = { s.die e with notifyBusy := (t.die e).notifyBusy }) ∧
      t = { s with dies := t.dies, regs := t.regs, sessions := t.sessions, recSubs := t.recSubs, chans := t.chans,
                   acqs := t.acqs })

/-- R462 to R469 for the ports, R498 to R500 for their objects. -/
def Obligations.NetworkLayer : Prop :=
  (∀ (port : Nat) (w : Word) (s : State),
    s.portPowered port = true → s.ethUp port = false → s.scanning = false → w = s.rd Obj.IPV4_CONFIG (sel port 0) →
    ∃ t, exec (.ethLinkUp port) s = .next t ∧ (t.eth port).up = true ∧
      (t.eth port).trained = decide (s.rdN Obj.PHY_MODE (sel port 0) < 2) ∧
      (t.eth port).anDone = decide (s.rdN Obj.PHY_MODE (sel port 0) < 2) ∧
      (bits w 71 70 = 0 → (t.eth port).ipv4 = none ∧ (t.eth port).dhcp = DhcpState.init) ∧
      (bits w 71 70 = 1 → (t.eth port).ipv4 = some (Ipv4.mk 1 (BitVec.ofNat 32 (bits w 69 38)) (bits w 37 32)
        (BitVec.ofNat 32 (bits w 31 0)))) ∧
      (bits w 71 70 = 2 → (t.eth port).ipv4 = none ∧ (t.eth port).dhcp = DhcpState.selecting) ∧
      t.sent = s.sent ++ ((if bits w 71 70 = 0 then [] else if bits w 71 70 = 1 then [Sent.arpAnnounce port
        (BitVec.ofNat 32 (bits w 69 38))]
        else [Sent.dhcp port DhcpKind.discover 0]) ++
        ((if s.rdN Obj.PTP_ENABLE 0 % 2 = 1 ∧ s.rdN Obj.PTP_PORT 0 = port then [Sent.igmpReport port] else []) ++
         (if (s.ipv6Addrs port).isEmpty then [] else [Sent.mldReport port ((s.ipv6Addrs port).map
           solicited).eraseDups]))) ∧
      PortOnly s t port) ∧
  (∀ (port : Nat) (s : State),
    s.portPowered port = false ∨ s.ethUp port = true ∨ s.scanning = true → exec (.ethLinkUp port) s = .next s) ∧
  (∀ (port : Nat) (f : EthFrame) (s : State), s.ethUp port = false → exec (.ethFrameReceive port f) s = .next s) ∧
  (∀ (port : Nat) (m : DhcpMsg) (s : State),
    (s.eth port).up = false ∨ s.ipv4Mode port ≠ 2 → exec (.dhcpMessageReceive port m) s = .next s) ∧
  (∀ (port : Nat) (s : State),
    (s.eth port).lease = none → exec (.dhcpRenew port) s = .next s) ∧
  (∀ (port : Nat) (s : State), (s.eth port).lease = none → exec (.dhcpRebind port) s = .next s) ∧
  (∀ (port : Nat) (s : State), (s.eth port).lease = none → exec (.dhcpExpiry port) s = .next s) ∧
  (∀ (port : Nat) (m : ArpMsg) (s : State),
    (s.eth port).ipv4 = none ∨ s.ethUp port = false → exec (.arpRequestReceive port m) s = .next s) ∧
  (∀ (port : Nat) (m : EchoMsg) (s : State),
    s.ethUp port = false ∨ s.rdN Obj.MTU (sel port 0) < m.len → exec (.icmpEchoRequest port m) s = .next s) ∧
  (∀ (port : Nat) (s : State),
    port < 2 →
    exec (.ethLinkDown port) s = .next (s.setEth port
      { s.eth port with up := false, trained := false, anDone := false })) ∧
  (∀ (port : Nat) (f : EthFrame) (s : State),
    s.ethUp port = true → f.uncorrected = 0 → 64 ≤ f.len → f.len ≤ 9216 → vlanFits s port f = true →
    f.body = .served ∨ f.body = .otherIcmp →
    ∃ t, exec (.ethFrameReceive port f) s = .next t ∧
      t.rd Obj.FEC_CORRECTED (sel port 0) = (s.count Obj.FEC_CORRECTED (sel port 0) f.corrected).rd
        Obj.FEC_CORRECTED (sel port 0) ∧
      (∀ id k : Nat, id ≠ Obj.FEC_CORRECTED → id ≠ Obj.FEC_UNCORRECTED → t.rd id k = s.rd id k) ∧
        t = { s with regs := t.regs }) ∧
  (∀ (port : Nat) (f : EthFrame) (s : State),
    s.ethUp port = true →
    0 < f.uncorrected ∨ f.len < 64 ∨ 9216 < f.len ∨ vlanFits s port f = false ∨
      f.body ∈ [FrameBody.macControl, .badChecksum false, .otherPort, .fragment, .otherEthertype] →
    ∃ t, exec (.ethFrameReceive port f) s = .next t ∧
      t.rd Obj.ETH_RX_DISCARDED (sel port 0) = (s.inc Obj.ETH_RX_DISCARDED (sel port 0)).rd Obj.ETH_RX_DISCARDED
        (sel port 0) ∧
      (0 < f.uncorrected → bit (t.rd Obj.ETH_STATUS (sel port 0)) 10 = true) ∧
      (f.uncorrected = 0 → 64 ≤ f.len → f.len ≤ 9216 → vlanFits s port f = true → f.body = FrameBody.macControl →
        bit (t.rd Obj.ETH_STATUS (sel port 0)) 11 = true) ∧
      t = { s with regs := t.regs }) ∧
  (∀ (port : Nat) (f : EthFrame) (s : State),
    s.ethUp port = true → f.uncorrected = 0 → 64 ≤ f.len → f.len ≤ 9216 → vlanFits s port f = true →
    f.body = .badChecksum true →
    ∃ t, exec (.ethFrameReceive port f) s = .next t ∧
      t.rd Obj.REQUESTS_DISCARDED 0 = (s.inc Obj.REQUESTS_DISCARDED 0).rd Obj.REQUESTS_DISCARDED 0 ∧
        t = { s with regs := t.regs }) ∧
  (∀ (port : Nat) (addr server : BitVec 32) (s : State),
    (s.eth port).up = true → s.ipv4Mode port = 2 → (s.eth port).dhcp = .selecting →
    ∃ t, exec (.dhcpMessageReceive port (.offer addr server)) s = .next t ∧
      t.eth port = { s.eth port with dhcp := .requesting, server := server } ∧
      t.sent = s.sent ++ [Sent.dhcp port DhcpKind.request addr] ∧ PortOnly s t port) ∧
  (∀ (port pfx lease : Nat) (addr gw server : BitVec 32) (s : State),
    (s.eth port).up = true → s.ipv4Mode port = 2 →
    (s.eth port).dhcp = .requesting ∨ (s.eth port).dhcp = .renewing ∨ (s.eth port).dhcp = .rebinding →
    ∃ t, exec (.dhcpMessageReceive port (.ack addr pfx gw server lease)) s = .next t ∧
      t.eth port = { s.eth port with dhcp := .bound, server := server, lease := some (s.cyc, lease),
                                     ipv4 := some (Ipv4.mk 2 addr pfx gw) } ∧
      t.sent = s.sent ++ (if (s.eth port).ipv4 = some (Ipv4.mk 2 addr pfx gw) then [] else [Sent.arpAnnounce port
        addr]) ∧
      PortOnly s t port) ∧
  (∀ (port : Nat) (s : State),
    (s.eth port).up = true → s.ipv4Mode port = 2 →
    (s.eth port).dhcp = .requesting ∨ (s.eth port).dhcp = .renewing ∨ (s.eth port).dhcp = .rebinding →
    ∃ t, exec (.dhcpMessageReceive port .nak) s = .next t ∧
      t.eth port = { s.eth port with dhcp := .selecting, lease := none, ipv4 := none } ∧
      t.sent = s.sent ++ [Sent.dhcp port DhcpKind.discover 0] ∧ PortOnly s t port) ∧
  (∀ (port c lease : Nat) (s : State),
    (s.eth port).up = true → (s.eth port).dhcp = .bound → (s.eth port).lease = some (c, lease) →
    c + lease * 625000000 ≤ s.cyc →
    ∃ t, exec (.dhcpRenew port) s = .next t ∧ t.eth port = { s.eth port with dhcp := .renewing } ∧
      t.sent = s.sent ++ [Sent.dhcp port DhcpKind.renew (s.eth port).server] ∧ PortOnly s t port) ∧
  (∀ (port c lease : Nat) (s : State),
    (s.eth port).up = true → (s.eth port).dhcp = .bound ∨ (s.eth port).dhcp = .renewing →
    (s.eth port).lease = some (c, lease) → c ≤ s.cyc → lease * 8750000000 ≤ (s.cyc - c) * 8 →
    ∃ t, exec (.dhcpRebind port) s = .next t ∧ t.eth port = { s.eth port with dhcp := .rebinding } ∧
      t.sent = s.sent ++ [Sent.dhcp port DhcpKind.rebind 0] ∧ PortOnly s t port) ∧
  (∀ (port c lease : Nat) (s : State),
    (s.eth port).lease = some (c, lease) → c + lease * 1250000000 ≤ s.cyc →
    ∃ t, exec (.dhcpExpiry port) s = .next t ∧
      t.eth port = { s.eth port with dhcp := .selecting, lease := none, ipv4 := none } ∧
      bit (t.rd Obj.ETH_STATUS (sel port 0)) 9 = true ∧
      t.sent = s.sent ++ (if (s.eth port).up then [Sent.dhcp port DhcpKind.discover 0] else []) ∧ PortOnly s t port) ∧
  (∀ (port : Nat) (m : ArpMsg) (a : Ipv4) (s : State),
    (s.eth port).ipv4 = some a → s.ethUp port = true →
    exec (.arpRequestReceive port m) s =
      .next (if m.target = a.addr then { s with sent := s.sent ++ [Sent.arpReply port m.sender] } else s)) ∧
  (∀ (port : Nat) (m : ArpMsg) (a : Ipv4) (s : State),
    (s.eth port).up = true → (s.eth port).ipv4 = some a → a.addr = m.sender →
    exec (.arpReplyReceive port m) s = .next (s.setBit Obj.ETH_STATUS (sel port 0) 8)) ∧
  (∀ (port : Nat) (m : ArpMsg) (s : State),
    (s.eth port).up = true → (∀ a ∈ (s.eth port).ipv4.toList, a.addr ≠ m.sender) →
      ((s.eth port).neighbours.filter (fun n : BitVec 32 × BitVec 48 × Nat => n.1 != m.sender)).length < 256 →
    ∃ t, exec (.arpReplyReceive port m) s = .next t ∧
      (t.eth port).neighbours = (m.sender, m.mac, s.cyc) :: (s.eth port).neighbours.filter (fun n => n.1 !=
        m.sender) ∧
      t.sent = s.sent ∧ t.regs = s.regs ∧ PortOnly s t port) ∧
  (∀ (port : Nat) (m : ArpMsg) (s : State),
    (∀ a ∈ (s.eth port).ipv4.toList, a.addr ≠ m.sender) →
    256 ≤ ((s.eth port).neighbours.filter (fun n : BitVec 32 × BitVec 48 × Nat => n.1 != m.sender)).length →
    exec (.arpReplyReceive port m) s = .next s) ∧
  (∀ (port : Nat) (s : State),
    ∃ t, exec (.arpAgeOut port) s = .next t ∧
      (t.eth port).neighbours = (s.eth port).neighbours.filter (fun n : BitVec 32 × BitVec 48 × Nat => decide (s.cyc
        < n.2.2 + 375000000000)) ∧
      t.eth port = { s.eth port with neighbours := (t.eth port).neighbours } ∧ t.sent = s.sent ∧ t.regs = s.regs ∧
      PortOnly s t port) ∧
  (∀ (port : Nat) (m : EchoMsg) (s : State),
    s.ethUp port = true → m.len ≤ s.rdN Obj.MTU (sel port 0) →
    (m.v6 = true ∧ m.dst ∈ s.ipv6Addrs port) ∨
      (m.v6 = false ∧ ∃ a ∈ (s.eth port).ipv4.toList, m.dst = (0xFFFF : BitVec 96) ++ a.addr) →
    exec (.icmpEchoRequest port m) s = .next { s with sent := s.sent ++ [Sent.echoReply port m] }) ∧
  (∀ (port : Nat) (m : NsMsg) (s : State),
    s.ethUp port = true →
    exec (.neighbourSolicitation port m) s =
      .next (if m.target ∈ s.ipv6Addrs port then { s with sent := s.sent ++ [Sent.advert port m] } else s)) ∧
  (∀ (port obj : Nat) (v : Word) (s : State),
    port < 2 → obj ∈ [Obj.PHY_MODE, Obj.VLAN, Obj.MTU] → netBad obj [v] = false →
    ∃ t, exec (.networkConfigWrite port obj [v]) s = .next t ∧ t.rd obj (sel port 0) = v ∧
      (∀ id k : Nat, ¬ (id = obj ∧ k = sel port 0) → t.rd id k = s.rd id k) ∧
      (obj = Obj.MTU ∨ s.rd obj (sel port 0) = v → t.eths = s.eths) ∧
      (obj ≠ Obj.MTU → s.rd obj (sel port 0) ≠ v →
        t.eth port = { s.eth port with up := false, trained := false, anDone := false }) ∧
      t = { s with regs := t.regs, eths := t.eths }) ∧
  (∀ (port : Nat) (v : Word) (s : State),
    port < 2 → bits v 71 70 ≤ 2 → bits v 37 32 ≤ 32 →
    ∃ t, exec (.networkConfigWrite port Obj.IPV4_CONFIG [v]) s = .next t ∧ t.rd Obj.IPV4_CONFIG (sel port 0) = v ∧
      (bits v 71 70 = 1 → ∃ a ∈ (t.eth port).ipv4.toList, a.addr = BitVec.ofNat 32 (bits v 69 38)) ∧
      (bits v 71 70 ≠ 1 → (t.eth port).ipv4 = none) ∧ (t.eth port).up = (s.eth port).up ∧
      t.sent = s.sent ++ (if s.ethUp port = false ∨ bits v 71 70 = 0 then [] else if bits v 71 70 = 1 then
        [Sent.arpAnnounce port (BitVec.ofNat 32 (bits v 69 38))]
        else [Sent.dhcp port DhcpKind.discover 0]) ∧
      PortOnly s t port) ∧
  (∀ (port : Nat) (v a b c : Word) (s : State),
    port < 2 → bits v 71 70 ≤ 2 → bits v 69 62 ≤ 128 → bits v 61 40 = 0 →
    ∃ t, exec (.networkConfigWrite port Obj.IPV6_CONFIG [v, a, b, c]) s = .next t ∧
      (List.range 4).map (t.dw Obj.IPV6_CONFIG (sel port 0)) = [v, a, b, c] ∧ t.eths = s.eths ∧
      t.sent = s.sent ++ (if s.ethUp port = false ∨ bits v 71 70 = 0 then [] else [Sent.mldReport port ((t.ipv6Addrs
        port).map solicited).eraseDups]) ∧
      (s.landing.reached = true → t.regs = s.regs) ∧
      t = { s with doms := t.doms, regs := t.regs, landing := { s.landing with reached := t.landing.reached }, sent := t.sent })
        ∧
  (∀ (port obj : Nat) (ws : List Word) (s : State),
    2 ≤ port ∨ netBad obj ws = true → exec (.networkConfigWrite port obj ws) s = hostError)

/-- R526 and R528 to R533 for sleep and wake, R545 for a device that has shut down, R550 and R603 for the request.
That die 0, named in Standby, comes up alone is the model's choice (log 39). -/
def Obligations.SleepAndWake : Prop :=
  (∀ (c : Instr) (want : Nat) (v : Word) (s : State),
    (c, want) ∈ [(.sleepS1 v, 1), (.sleepS2 v, 2), (.sleepS3 v, 3), (.sleepStandby v, 4)] →
    s.sleepBad want (sleepTarget v) (sleepUnit v) = false → s.sleep.result ≠ 1 →
    s.isShut = false → (want = 3 → selDie (sleepUnit v) ≠ 0) →
    ∃ t, exec c s = .next t ∧ ResultIs t 1 (sleepTarget v) (if want = 4 then 0 else sleepUnit v) ∧
      t.sleep.entry = some (SleepEntry.mk want (sleepTarget v) (if want = 4 then 0 else sleepUnit v)
        (s.sleepDomains want (sleepTarget v) (sleepUnit v)) 1 s.cyc false
        (if bit v 68 then some (BitVec.ofNat 48 (bits v 47 0)) else none)) ∧
      t.sleep.wakes = s.sleep.wakes ∧ t.sleep.timers = s.sleep.timers ∧ t = { s with sleep := t.sleep }) ∧
  (∀ (v : Word) (s : State),
    s.sleepBad 3 (sleepTarget v) (sleepUnit v) = false → s.sleep.result ≠ 1 → s.isShut = false →
    selDie (sleepUnit v) = 0 →
    ∃ t, exec (.sleepS3 v) s = .next t ∧ ResultIs t 3 0 0 ∧ t.sleep.entry = s.sleep.entry ∧
      t = { s with sleep := t.sleep }) ∧
  (∀ (c : Instr) (want : Nat) (v : Word) (s : State),
    (c, want) ∈ (.sleepS0 v, 0) :: sleepRows v → s.sleepBad want (sleepTarget v) (sleepUnit v) = false →
    s.sleep.result = 1 ∨ s.isShut = true →
    exec c s = .next s) ∧
  (∀ (c : Instr) (want : Nat) (v : Word) (s : State),
    (c, want) ∈ (.sleepS0 v, 0) :: sleepRows v → s.sleepBad want (sleepTarget v) (sleepUnit v) = true →
    exec c s = hostError) ∧
  (∀ (d n : Nat) (v : Word) (s : State),
    s.sleepBad 0 (sleepTarget v) (sleepUnit v) = false → s.sleep.result ≠ 1 → s.isShut = false → sleepTarget v ≠ 0 →
    d = selDie (sleepUnit v) → n = targetDomain (sleepTarget v) (selUnit (sleepUnit v)) → (s.die d).s3 = false →
    s.domOn d n = false → (∀ w ∈ s.sleep.wakes, ¬ (w.target = sleepTarget v ∧ w.selector = sleepUnit v)) →
    ∃ t, exec (.sleepS0 v) s = .next t ∧ ResultIs t 1 (sleepTarget v) (sleepUnit v) ∧
      t.sleep.wakes = s.sleep.wakes ++
        [WakeJob.mk (sleepTarget v) (sleepUnit v) (s.cyc + wakeTime (s.domSt d n) n) 2] ∧
          t = { s with sleep := t.sleep }) ∧
  (∀ (d n : Nat) (v : Word) (s : State),
    s.sleepBad 0 (sleepTarget v) (sleepUnit v) = false → s.sleep.result ≠ 1 → s.isShut = false → sleepTarget v ≠ 0 →
    d = selDie (sleepUnit v) → n = targetDomain (sleepTarget v) (selUnit (sleepUnit v)) →
    (s.die d).s3 = true ∨ s.domOn d n = true →
    ∃ t, exec (.sleepS0 v) s = .next t ∧
      ResultIs t (if (s.die d).s3 then 3 else 2) (sleepTarget v) (sleepUnit v) ∧ t.sleep.wakes = s.sleep.wakes ∧
      t = { s with sleep := t.sleep }) ∧
  (∀ (d : Nat) (v : Word) (s : State),
    s.sleepBad 0 (sleepTarget v) (sleepUnit v) = false → s.sleep.result ≠ 1 → s.isShut = false → sleepTarget v = 0 →
    d = selDie (sleepUnit v) → (d = 0 → s.sleep.standby = false) → (∀ w ∈ s.sleep.wakes, w.target ≠ 0) →
    ∃ t, exec (.sleepS0 v) s = .next t ∧ ResultIs t (if (s.die d).s3 then 1 else 2) 0 (sleepUnit v) ∧
      t.sleep.wakes = s.sleep.wakes ++ (if (s.die d).s3 then [WakeJob.mk 0 (sel d 0) (s.cyc + 12500000) 2] else []) ∧
      t = { s with sleep := t.sleep }) ∧
  (∀ (v : Word) (s : State),
    s.sleepBad 0 (sleepTarget v) (sleepUnit v) = false → s.sleep.result ≠ 1 → s.isShut = false → sleepTarget v = 0 →
    selDie (sleepUnit v) = 0 → (s.die 0).s3 = false → s.sleep.standby = true → (∀ w ∈ s.sleep.wakes, w.target ≠ 0) →
    ∃ t, exec (.sleepS0 v) s = .next t ∧ ResultIs t 1 0 (sleepUnit v) ∧
      t.sleep.wakes = s.sleep.wakes ++ [WakeJob.mk 0 0 (s.cyc + 12500000) 2] ∧ t = { s with sleep := t.sleep }) ∧
  (∀ (d l : Nat) (s : State),
    (s.die d).s3 = true → s.rdN Obj.FERRY_WAKE (sel d 0) % 2 = 1 → s.isShut = false →
    (∀ w ∈ s.sleep.wakes, w.target ≠ 0 ∨ w.selector ≠ sel d 0) →
    exec (.ferryWakeSignal d l) s = .next
      { s with sleep := { s.sleep with wakes := s.sleep.wakes ++ [WakeJob.mk 0 (sel d 0) (s.cyc + 12500000) 0] } }) ∧
  (∀ (d l : Nat) (s : State),
    (s.die d).s3 = true → s.rdN Obj.FERRY_WAKE (sel d 0) % 2 = 0 → exec (.ferryWakeSignal d l) s = .next s) ∧
  (∀ (d l : Nat) (e : SleepEntry) (s : State),
    (s.die d).s3 = false → l < 4 → s.domOn d domFerry = true → (s.lane (sel d l)).rx = RxState.sleep →
    s.rdN Obj.FERRY_WAKE (sel d 0) % 2 = 1 → s.sleep.entry = some e → (d, 1) ∈ e.domains →
    exec (.ferryWakeSignal d l) s = .next
      { s.setLane (sel d l) { s.lane (sel d l) with rx := .search, sleepRx := false } with
      sleep := { s.sleep with entry := some { e with woken := true } } }) ∧
  (∀ (d n : Nat) (w : WakeJob) (v : Word) (s : State),
    s.sleepBad 0 (sleepTarget v) (sleepUnit v) = false → s.sleep.result ≠ 1 → s.isShut = false → sleepTarget v ≠ 0 →
    d = selDie (sleepUnit v) → n = targetDomain (sleepTarget v) (selUnit (sleepUnit v)) → (s.die d).s3 = false →
    s.domOn d n = false → s.sleep.wakes = [w] → w.target = sleepTarget v → w.selector = sleepUnit v →
    ∃ t, exec (.sleepS0 v) s = .next t ∧ ResultIs t 1 (sleepTarget v) (sleepUnit v) ∧
      t.sleep.wakes = [{ w with result := 2 }] ∧ t = { s with sleep := t.sleep }) ∧
  (∀ (s : State),
    s.sleep.entry = none → exec .sleepEntryPoint s = .next s) ∧
  (∀ (e : SleepEntry) (s : State),
    s.sleep.entry = some e → s.cyc < e.due → exec .sleepEntryPoint s = .next s) ∧
  (∀ (e : SleepEntry) (s : State),
    s.sleep.entry = some e → e.due ≤ s.cyc → e.woken = true →
    ∃ t, exec .sleepEntryPoint s = .next t ∧ ResultIs t 4 e.target e.selector ∧ t.sleep.entry = none ∧
      t.sleep.wakes = s.sleep.wakes ∧
      (e.point = 1 ∨ e.timed = none → t.sleep.timers = s.sleep.timers) ∧
      (e.point ≠ 1 → ∀ w ∈ s.sleep.timers.getLast?, e.timed = some w.at48 → w.target = e.target →
        w.selector = e.selector →
        t.sleep.timers = s.sleep.timers.dropLast) ∧
      t = { s with sleep := t.sleep }) ∧
  (∀ (e : SleepEntry) (u : Nat × Nat) (s : State),
    entryAt s e 1 = true → (∃ p ∈ e.domains, s.refuser e.want p.1 p.2 = some u) →
    (∀ p ∈ e.domains, ∀ x ∈ (s.refuser e.want p.1 p.2).toList, u.1 < x.1 ∨ (u.1 = x.1 ∧ u.2 ≤ x.2)) →
    ∃ t, exec .sleepEntryPoint s = .next t ∧ ResultIs t 3 u.1 u.2 ∧ t.sleep.entry = none ∧
      t = { s with sleep := t.sleep }) ∧
  (∀ (e : SleepEntry) (s : State),
    entryAt s e 1 = true → (∀ p ∈ e.domains, s.refuser e.want p.1 p.2 = none) →
    ∃ t, exec .sleepEntryPoint s = .next t ∧ t.sleep.entry = some { e with point := 2, due := s.cyc + 64 } ∧
      t.sleep.timers = s.sleep.timers ++ e.timed.toList.map (fun a => TimedWake.mk a s.clock.now e.target
        e.selector) ∧
      t.sleep.result = s.sleep.result ∧ t = { s with sleep := t.sleep }) ∧
  (∀ (e : SleepEntry) (s : State),
    entryAt s e 2 = true →
    exec .sleepEntryPoint s =
      .next { s with sleep := { s.sleep with entry := some { e with point := 3, due := s.cyc + 16 } } }) ∧
  (∀ (e : SleepEntry) (s : State),
    entryAt s e 3 = true → e.want ≠ 1 →
    exec .sleepEntryPoint s =
      .next { s with sleep := { s.sleep with entry := some { e with point := 4, due := s.cyc + 1250 } } }) ∧
  (∀ (e : SleepEntry) (d n : Nat) (s : State),
    (entryAt s e 3 = true ∧ e.want = 1) ∨ (entryAt s e 4 = true ∧ e.want = 2) → e.domains = [(d, n)] → n < 128 →
    ∃ t, exec .sleepEntryPoint s = .next t ∧ ResultIs t 2 e.target e.selector ∧ t.sleep.entry = none ∧
      (s.domOn d n = true → t.domSt d n = if e.want = 1 then PState.s1 else PState.s2) ∧
      (s.domSt d n = PState.off → t.domSt d n = PState.off) ∧
      (∀ m j : Nat, j < 128 → ¬ (m = d ∧ j = n) → t.domSt m j = s.domSt m j) ∧
      (e.want = 1 → t.doms = s.doms) ∧ t.clock = s.clock ∧ t.nv = s.nv) ∧
  (∀ (e : SleepEntry) (d : Nat) (s : State),
    entryAt s e 4 = true → e.want = 3 → d = selDie e.selector →
    ∃ t, exec .sleepEntryPoint s = .next t ∧ ResultIs t 2 e.target e.selector ∧ t.sleep.entry = none ∧
      (t.die d).s3 = true ∧ (∀ n < 82, n ≠ 0 → t.domSt d n = PState.off) ∧
      (∀ l < linkCount s.member.dies, t.linkUp d l = false) ∧
      (∀ m j : Nat, j < 128 → m ≠ d → t.domSt m j = s.domSt m j) ∧ t.clock = s.clock ∧ t.nv = s.nv) ∧
  (∀ (e : SleepEntry) (s : State),
    entryAt s e 4 = true → e.want = 4 →
    ∃ t, exec .sleepEntryPoint s = .next t ∧ ResultIs t 2 e.target e.selector ∧ t.sleep.entry = none ∧
      t.sleep.standby = true ∧ (∀ d < s.member.dies, d ≠ 0 → (t.die d).s3 = true) ∧
      (∀ n < 82, 4 ≤ n → t.domSt 0 n = PState.off) ∧ (∀ n < 4, t.domSt 0 n = s.domSt 0 n) ∧ t.clock = s.clock ∧
        t.nv = s.nv) ∧
  (∀ (target k d n result : Nat) (rest : List WakeJob) (s : State),
    wakeDue s target k result rest → target ≠ 0 → d = selDie k → n = targetDomain target (selUnit k) → n < 128 →
    ∃ t, exec (.wakeComplete target k) s = .next t ∧ t.domOn d n = true ∧ t.sleep.wakes = rest ∧
      (result ≠ 0 → (result ≠ 5 ∨ s.sleep.result ≠ 1) → ResultIs t result target k) ∧
      (∀ m j : Nat, j < 128 → ¬ (m = d ∧ j = n) → t.domSt m j = s.domSt m j) ∧ t.clock = s.clock ∧ t.nv = s.nv) ∧
  (∀ (k d result : Nat) (rest : List WakeJob) (s : State),
    wakeDue s 0 k result rest → d = selDie k → d ≠ 0 →
    ∃ t, exec (.wakeComplete 0 k) s = .next t ∧ (t.die d).s3 = false ∧ (∀ n < 82, n ≠ 0 → t.domOn d n = true) ∧
      t.sleep.wakes = rest ∧ (result ≠ 0 → (result ≠ 5 ∨ s.sleep.result ≠ 1) → ResultIs t result 0 k) ∧ t.nv = s.nv) ∧
  (∀ (k result : Nat) (rest : List WakeJob) (s : State),
    wakeDue s 0 k result rest → selDie k = 0 →
    ∃ t, exec (.wakeComplete 0 k) s = .next t ∧ t.sleep.standby = false ∧ (∀ n < 82, 4 ≤ n → t.domOn 0 n = true) ∧
      t.sleep.wakes = rest ∧ (result ≠ 0 → (result ≠ 5 ∨ s.sleep.result ≠ 1) → ResultIs t result 0 k) ∧ t.nv = s.nv) ∧
  (∀ (target k : Nat) (s : State),
    (∀ w ∈ s.sleep.wakes, w.target = target → w.selector = k → s.cyc < w.due) →
    exec (.wakeComplete target k) s = .next s) ∧
  (∀ (x : TimedWake) (rest : List TimedWake) (d n : Nat) (s : State),
    s.sleep.timers = x :: rest → x.time ≤ s.now → x.target ≠ 0 → s.sleep.entry = none → s.isShut = false →
    d = selDie x.selector → n = targetDomain x.target (selUnit x.selector) → (s.die d).s3 = false →
    (∀ w ∈ s.sleep.wakes, ¬ (w.target = x.target ∧ w.selector = x.selector)) →
    ∃ t, exec .timedWake s = .next t ∧ t.sleep.timers = rest ∧
      t.sleep.wakes = s.sleep.wakes ++ (if s.domOn d n then [] else
        [WakeJob.mk x.target x.selector (s.cyc + wakeTime (s.domSt d n) n) 5]) ∧ t = { s with sleep := t.sleep }) ∧
  (∀ (s : State),
    (∀ x ∈ s.sleep.timers, s.now < x.time) → exec .timedWake s = .next s) ∧
  (∀ (port : Nat) (e : SleepEntry) (s : State),
    port < 2 → s.sleep.entry = some e → e.want = 4 → s.sleep.standby = false →
    exec (.ethernetActivityWake port) s =
      .next { s with sleep := { s.sleep with entry := some { e with woken := true } } }) ∧
  (∀ (port : Nat) (s : State),
    port < 2 → s.sleep.standby = true → s.isShut = false →
    ∃ t, exec (.ethernetActivityWake port) s = .next t ∧
      t.sleep.entry = s.sleep.entry.map (fun e : SleepEntry => if e.want = 4 then { e with woken := true } else e) ∧
      (∃ w ∈ t.sleep.wakes, w.target = 0 ∧ w.selector = 0) ∧
      (∀ d ∈ s.sleep.stood, (s.die d).s3 = true → ∃ w ∈ t.sleep.wakes, w.target = 0 ∧ w.selector = sel d 0) ∧
      t = { s with sleep := t.sleep }) ∧
  (∀ (port : Nat) (s : State),
    2 ≤ port ∨ ((∀ e ∈ s.sleep.entry.toList, e.want ≠ 4) ∧ s.sleep.standby = false) →
      exec (.ethernetActivityWake port) s = .next s)

/-- R523, R536 to R542, R544, R545, R547 and R548. The rounding of a mean that is not whole is free (log 11). -/
def Obligations.HousekeepingAndShutdown : Prop :=
  (∀ (d : Nat) (readings : List Int) (s : State),
    s.domOn d 4 = false ∨ s.cyc < (s.die d).hkEnd → exec (.hkRoundEnd d readings) s = .next s) ∧
  (∀ (d : Nat) (readings : List Int) (ys : List Sensor) (s : State),
    s.domOn d 4 = true → (s.die d).hkEnd ≤ s.cyc → ys = hkSensors s d readings → s.shut.st = .running →
    ∃ t, exec (.hkRoundEnd d readings) s = .next t ∧
      (∀ w < 26, t.dw Obj.HK_READINGS (sel d 0) w =
        word (readingBits (readings.getD (2 * w) 0) * 2 ^ 32 + readingBits (readings.getD (2 * w + 1) 0))) ∧
      t.rd Obj.DIE_TEMP (sel d 0) = (BitVec.ofInt 16 (mean (dieTemp ys) 2)).setWidth 72 ∧ (t.die d).sensors = ys ∧
      (t.die d).hkEnd = (s.die d).hkEnd + 1280000 ∧ (t.die d).band = nextBand (dieTemp ys) (s.die d).band ∧
      (t.die d).warning = threshold 20000 (dieTemp ys) (s.die d).warning ∧
      (nextBand (dieTemp ys) (s.die d).band ≠ (s.die d).band →
        (t.epochRec (d * 4 + 3)).last = (s.epochRec (d * 4 + 3)).last + 1) ∧
      (nextBand (dieTemp ys) (s.die d).band = (s.die d).band → t.epochs = s.epochs) ∧
      ((s.die d).beyond = false → 22000 ≤ dieTemp ys →
        StopCause.mk (s.cyc + 64) 1 d 62500000 StopKind.shutdown ∈ t.shut.waiting) ∧
      ((∃ y ∈ ys, 2 ≤ y.hot) → StopCause.mk (s.cyc + 64) 2 d 62500000 StopKind.shutdown ∈ t.shut.waiting ∧
        bit (t.rd Obj.THERMAL_STATUS (sel d 0)) 7 = true) ∧
      (dieTemp ys < 22000 ∨ (s.die d).beyond = true → (∀ y ∈ ys, y.hot < 2) → t.shut = s.shut) ∧
      (t.die d).warmAt = (if ys.any (fun y : Sensor => !y.broken && decide (17000 ≤ y.hist.headD 0)) then some s.cyc
        else (s.die d).warmAt) ∧
      t.later = (if threshold 20000 (dieTemp ys) (s.die d).warning && !(s.die d).warning then (s.raiseAcross d
        382).later else s.later) ∧
      (∀ e : Nat, e ≠ d → t.die e = s.die e) ∧
      t = { s with doms := t.doms, regs := t.regs, dies := t.dies, epochs := t.epochs, sessions := t.sessions,
                   later := t.later, shut := t.shut }) ∧
  (∀ (d : Nat) (s : State),
    s.railNow d ≠ (s.die d).railTo → exec (.railSettled d) s = .next s) ∧
  (∀ (d u : Nat) (r : EpochReq) (s : State),
    s.railNow d = (s.die d).railTo → d < s.member.dies → u < 9 → s.pendingEpoch d 2 (d * 9 + u) = some r →
    s.unitRetired 2 (d * 9 + u) = false → s.atBoundary 2 d u = true → s.railAllows 2 d u r = true →
    (∀ v < 9, v ≠ u → s.pendingEpoch d 2 (d * 9 + v) = none) →
      (∀ v < 9, s.pendingEpoch d 3 (d * 30 + 20 + v) = none) →
    ∃ t, exec (.railSettled d) s = .next t ∧ t.appliedEpoch 2 (d * 9 + u) = r.epoch ∧
      (∀ k : Nat, k ≠ applKey 2 (d * 9 + u) → t.appl k = s.appl k) ∧
      t = { s with applied := t.applied, dies := t.dies, dsps := t.dsps, ports := t.ports }) ∧
  (∀ (d : Nat) (s : State),
    (∀ v < 9, s.pendingEpoch d 2 (d * 9 + v) = none) → (∀ v < 9, s.pendingEpoch d 3 (d * 30 + 20 + v) = none) →
    exec (.railSettled d) s = .next s) ∧
  (∀ (d sensor : Nat) (s : State),
    sensor < 6 → d < s.member.dies → ((s.die d).sensors.getD sensor {}).broken = false → s.isShut = false →
    ∃ t, exec (.tempComparatorTrip d sensor) s = .next t ∧ Immediate s t 6 d) ∧
  (∀ (d sensor : Nat) (s : State),
    ((s.die d).sensors.getD sensor {}).broken = true ∨ s.isShut = true →
      exec (.tempComparatorTrip d sensor) s = .next s) ∧
  (∀ (d : Nat) (s : State),
    s.isShut = false → ∃ t, exec (.brownoutImmediate d) s = .next t ∧ Immediate s t 7 d ∧ t.shut.brown = true) ∧
  (∀ (d : Nat) (s : State),
    ∃ t, exec (.brownoutOrderly d) s = .next t ∧ CauseFound s t 3 d 1250000) ∧
  (∀ (d : Nat) (s : State),
    s.isShut = true → ∃ t, exec (.brownoutImmediate d) s = .next t ∧ AllOff t ∧
      (∀ n : Nat, (t.session n).live = false) ∧
      t.shut = { s.shut with st := ShutState.shutdown, brown := true, held := some (s.shut.held.getD (7, d)), stop := none, waiting := [] }
        ∧
      t.nv = s.nv ∧ t.clock = s.clock) ∧
  (∀ (s : State),
    s.isShut = false → s.shut.stop = none → (∀ c ∈ s.shut.waiting, c.kind ≠ StopKind.shutdown) →
    ∃ t, exec .shutdownCommand s = .next t ∧ CauseFound s t 5 0 62500000) ∧
  (∀ (s : State),
    s.isShut = true ∨ s.shut.stop.isSome = true ∨ (∃ c ∈ s.shut.waiting, c.kind = .shutdown) →
    exec .shutdownCommand s = .next s) ∧
  (∀ (s : State),
    (∀ c ∈ s.shut.waiting, s.cyc < c.signal) → exec .shutdownSignal s = .next s) ∧
  (∀ (c : StopCause) (s : State),
    s.shut.waiting = [c] → c.signal ≤ s.cyc → c.kind = .shutdown → s.shut.stop = none →
    ∃ t, exec .shutdownSignal s = .next t ∧ t.shut.stop = some (c.signal + c.window, StopKind.shutdown) ∧
      t.shut.st = ShutState.window ∧ t.shut.cause = c.cause ∧ t.shut.die = c.die ∧ t.shut.waiting = [] ∧
      (∀ d < s.member.dies, ∀ g < 128, t.gen (sel d g) = { s.gen (sel d g) with
        pulse := if (s.gen (sel d g)).holding s.cyc then none else (s.gen (sel d g)).pulse.map (fun p : Pulse =>
          { p with hold := false }) }) ∧
      (∀ e ∈ s.sleep.entry.toList, t.sleep.entry = some { e with woken := true }) ∧ t.clock = s.clock ∧ t.nv = s.nv) ∧
  (∀ (c : StopCause) (e : Nat) (s : State),
    s.shut.waiting = [c] → c.signal ≤ s.cyc → c.kind = .shutdown → s.shut.stop = some (e, .shutdown) →
    ∃ t, exec .shutdownSignal s = .next t ∧
      t = { s with shut := { s.shut with waiting := [], stop := some (min e (c.signal + c.window), StopKind.shutdown),
                                         brown := s.shut.brown || c.cause == 3 } }) ∧
  (∀ (e : Nat) (s : State),
    s.shut.stop = some (e, .shutdown) → e ≤ s.cyc →
    ∃ t, exec .shutdownWindowEnd s = .next t ∧ t.shut.st = ShutState.shutdown ∧ t.shut.stop = none ∧
      t.shut.waiting = [] ∧
      t.rd Obj.SHUTDOWNS 0 = (s.inc Obj.SHUTDOWNS 0).rd Obj.SHUTDOWNS 0 ∧ t.shut.cause = s.shut.cause ∧
        t.nv.lifeAt = s.cyc ∧ t.clock = s.clock ∧
      (∀ d < s.member.dies, d ≠ 0 → (t.die d).s3 = true) ∧ (∀ n < 82, 4 ≤ n → t.domSt 0 n = PState.off) ∧
      (s.shut.brown = true → AllOff t ∧ ∀ n : Nat, (t.session n).live = false) ∧
      (s.shut.brown = false → t.sleep.standby = true ∧ ∀ n < 4, t.domSt 0 n = s.domSt 0 n)) ∧
  (∀ (s : State),
    (∀ e ∈ s.shut.stop.toList, e.2 = StopKind.shutdown → s.cyc < e.1) → exec .shutdownWindowEnd s = .next s) ∧
  (∀ (s : State),
    s.shut.st = .ready ∨ (s.shut.st = .shutdown ∧ s.shut.cause = 5 ∧ s.shut.held = none) →
    ∃ t, exec .shutdownResume s = .next t ∧ Resumed s t) ∧
  (∀ (s : State),
    s.shut.st ≠ .ready → s.shut.st ≠ .shutdown ∨ s.shut.cause ≠ 5 ∨ s.shut.held ≠ none →
    exec .shutdownResume s = .next s) ∧
  (∀ (s : State),
    s.shut.st = .shutdown → s.shut.cause = 1 ∨ s.shut.cause = 2 → s.shut.held = none → s.shut.brown = false →
    (∀ d < s.member.dies, ∀ c ∈ (s.die d).warmAt.toList, c + 12500000000 ≤ s.cyc) → (s.die 0).s3 = false →
      s.rdN Obj.AUTO_RESUME 0 % 2 = 0 →
    exec .shutdownReady s = .next { s with shut := { s.shut with st := ShutState.ready } }) ∧
  (∀ (s : State),
    s.shut.st = .shutdown → s.shut.cause = 1 ∨ s.shut.cause = 2 → s.shut.held = none → s.shut.brown = false →
    (∀ d < s.member.dies, ∀ c ∈ (s.die d).warmAt.toList, c + 12500000000 ≤ s.cyc) → (s.die 0).s3 = false →
      s.rdN Obj.AUTO_RESUME 0 % 2 = 1 →
    ∃ t, exec .shutdownReady s = .next t ∧ Resumed s t) ∧
  (∀ (d : Nat) (s : State),
    s.shut.st = .shutdown → s.shut.held = some (6, d) → s.shut.brown = false →
    (∀ e < s.member.dies, ∀ c ∈ (s.die e).warmAt.toList, c + 12500000000 ≤ s.cyc) → (s.die 0).s3 = true →
      s.rdN Obj.AUTO_RESUME 0 % 2 = 0 →
    ∃ t, exec .shutdownReady s = .next t ∧ t.shut = { s.shut with st := ShutState.ready } ∧ (t.die 0).s3 = false ∧
      t.sleep.standby = true ∧ (∀ n < 4, n ≠ 0 → t.domOn 0 n = true)) ∧
  (∀ (s : State),
    s.shut.st ≠ .shutdown ∨ s.shut.brown = true ∨
      (∃ d < s.member.dies, ∃ c ∈ (s.die d).warmAt.toList, s.cyc < c + 12500000000) ∨
      (s.shut.cause ≠ 1 ∧ s.shut.cause ≠ 2 ∧ ∀ h ∈ s.shut.held.toList, h.1 ≠ 6) →
    exec .shutdownReady s = .next s)

/-- R557, R561 to R566, R568, R569 and R571. Where a table is read back, its canonical form is the premise. -/
def Obligations.TrimsVerifiesAndRecords : Prop :=
  (∀ (s : State),
    s.nv.busy = none → exec .trimSave s = .next { s with nv := { s.nv with busy := some s.cyc, savedValid := [] } }) ∧
  (∀ (s : State), s.nv.busy.isSome = true → exec .trimSave s = .next s) ∧
  (∀ (s : State), s.nv.busy.isSome = true → exec .trimLoadSaved s = .next s) ∧
  (∀ (s : State), s.nv.busy.isSome = true → exec .trimLoadFactory s = .next s) ∧
  (∀ (s : State),
    s.nv.busy.isSome = true →
    ∃ t, exec .trimSaveComplete s = .next t ∧ t.nv.busy = none ∧ t.nv.savedValid = List.range s.member.dies ∧
      (∀ id k w : Nat, id ∈ trimObjects →
        look (domDefault id k w) (look [] (look [] t.nv.saved id) k) w = s.dw id k w) ∧ t = { s with nv := t.nv }) ∧
  (∀ (s : State), s.nv.busy = none → exec .trimSaveComplete s = .next s) ∧
  (∀ (s : State),
    s.nv.busy = none → s.nv.savedValid ≠ [] → Canonical s →
    ∃ t, exec .trimLoadSaved s = .next t ∧
      (∀ id k w : Nat, id ∈ trimObjects → t.dw id k w =
        look (domDefault id k w) (look [] (look [] s.nv.saved id) k) w) ∧
      (∀ id k w : Nat, ¬ id ∈ trimObjects → t.dw id k w = s.dw id k w) ∧
      (∀ id k : Nat, id ≠ Obj.LANE_CONFIG → t.rd id k = s.rd id k) ∧
      (∀ k : Nat, (t.sns k).written = ((s.sns k).written || (s.sns k).run)) ∧
      (∀ d : Nat, d < s.member.dies → ∀ i : Nat, i < 8 → ∀ w : Nat, w < 17 → w ∈ (t.rfIn (sel d i)).rot.fresh) ∧
      t = { s with doms := t.doms, regs := t.regs, inputs := t.inputs, outs := t.outs, channels := t.channels }) ∧
  (∀ (s : State), s.nv.savedValid = [] → exec .trimLoadSaved s = .next s) ∧
  (∀ (s : State),
    s.nv.busy = none →
    ∃ t, exec .trimLoadFactory s = .next t ∧
      (∀ id k w : Nat, id ∈ trimObjects → t.dw id k w = domDefault id k w) ∧
      (∀ id k w : Nat, ¬ id ∈ trimObjects → t.dw id k w = s.dw id k w) ∧
      (∀ id k : Nat, id ≠ Obj.LANE_CONFIG → t.rd id k = s.rd id k) ∧
      (∀ k : Nat, (t.sns k).written = ((s.sns k).written || (s.sns k).run)) ∧
      (∀ d : Nat, d < s.member.dies → ∀ i : Nat, i < 8 → ∀ w : Nat, w < 17 → w ∈ (t.rfIn (sel d i)).rot.fresh) ∧
      t = { s with doms := t.doms, regs := t.regs, inputs := t.inputs, outs := t.outs, channels := t.channels }) ∧
  (∀ (k : Nat) (s : State),
    k ∈ s.nv.outs → ¬ k ∈ s.nv.dsps → (s.die (selDie k)).logs.length < 64 →
    ∃ t, exec (.restoreUnit k) s = .next t ∧ (6, k) ∈ t.nv.restore ∧ look 0 t.nv.fails k = 0 ∧ t.nv.outs = s.nv.outs ∧
      (∃ e ∈ (t.die (selDie k)).logs, e.cls = 10 ∧ e.action = 4 ∧ e.unit = k) ∧
        t = { s with nv := t.nv, dies := t.dies }) ∧
  (∀ (k : Nat) (s : State),
    k ∈ s.nv.dsps → ¬ k ∈ s.nv.outs → (s.die (selDie k)).logs.length < 64 →
    ∃ t, exec (.restoreUnit k) s = .next t ∧ (13, k) ∈ t.nv.restore ∧ (t.dsp k).errs = [] ∧ t.nv.dsps = s.nv.dsps ∧
      (∃ e ∈ (t.die (selDie k)).logs, e.cls = 6 ∧ e.action = 4 ∧ e.unit = k) ∧
      t = { s with nv := t.nv, dies := t.dies, dsps := t.dsps }) ∧
  (∀ (k : Nat) (s : State),
    ¬ k ∈ s.nv.outs → ¬ k ∈ s.nv.dsps → exec (.restoreUnit k) s = .next s) ∧
  (∀ (v : Word) (kind d u : Nat) (s : State),
    bits v 71 66 = 0 → bits v 47 0 = 0 → kind = bits v 65 64 → d = selDie (bits v 63 48) →
      u = selUnit (bits v 63 48) →
    d < s.member.dies → u < verifyUnits kind → (s.die d).verify.st ≠ 1 → s.verifyOk kind d u = true →
    ∃ t, exec (.verifyRequest v) s = .next t ∧
      (t.die d).verify = Verify.mk 1 kind u 0 (s.cyc + verifyTime kind) ∧
      (kind = 0 → (t.out (sel d u)).verify = true) ∧ (∀ e : Nat, e ≠ d → (t.die e).verify = (s.die e).verify) ∧
      (kind = 1 → ∀ i : Nat, i < 256 → (t.tone (sel d (256 * u + i))).on = false) ∧
      (kind = 0 → t = { s with dies := t.dies, outs := t.outs }) ∧ (2 ≤ kind → t = { s with dies := t.dies })) ∧
  (∀ (v : Word) (kind d u : Nat) (s : State),
    bits v 71 66 = 0 → bits v 47 0 = 0 → kind = bits v 65 64 → d = selDie (bits v 63 48) →
      u = selUnit (bits v 63 48) →
    d < s.member.dies → u < verifyUnits kind → (s.die d).verify.st ≠ 1 → s.verifyOk kind d u = false →
    exec (.verifyRequest v) s = .next (s.setDie d { s.die d with verify := { st := 3, kind := kind, unit := u } })) ∧
  (∀ (v : Word) (d u : Nat) (s : State),
    bits v 71 66 = 0 → bits v 47 0 = 0 → d = selDie (bits v 63 48) → u = selUnit (bits v 63 48) →
    d < s.member.dies → u < verifyUnits (bits v 65 64) → (s.die d).verify.st = 1 →
      exec (.verifyRequest v) s = .next s) ∧
  (∀ (v : Word) (s : State),
    bits v 71 66 ≠ 0 ∨ bits v 47 0 ≠ 0 ∨ s.member.dies ≤ selDie (bits v 63 48) ∨
      verifyUnits (bits v 65 64) ≤ selUnit (bits v 63 48) →
    exec (.verifyRequest v) s = hostError) ∧
  (∀ (d u : Nat) (figure offset : BitVec 16) (s : State),
    (s.die d).verify.st = 1 → (s.die d).verify.due ≤ s.cyc → (s.die d).verify.unit = u → (s.die d).verify.kind = 1 →
    ∃ t, exec (.verifyComplete d figure offset) s = .next t ∧
      (t.die d).verify = { (s.die d).verify with st := 2, figure := figure } ∧
      t.rd Obj.SPUR_IMAGE (sel d u) = figure.setWidth 72 ∧ t.rd Obj.SPUR_OFFSET (sel d u) = offset.setWidth 72 ∧
      t = { s with dies := t.dies, regs := t.regs }) ∧
  (∀ (d u : Nat) (figure offset : BitVec 16) (s : State),
    (s.die d).verify.st = 1 → (s.die d).verify.due ≤ s.cyc → (s.die d).verify.unit = u → (s.die d).verify.kind = 0 →
    (s.die d).logs.length < 64 →
    ∃ t, exec (.verifyComplete d figure offset) s = .next t ∧
      (t.die d).verify = { (s.die d).verify with st := 2, figure := figure } ∧ (t.out (sel d u)).verify = false ∧
      look 0 t.nv.fails (sel d u) = (if -300 < figure.toInt then look 0 s.nv.fails (sel d u) + 1 else 0) ∧
      (-300 < figure.toInt → 1 ≤ look 0 s.nv.fails (sel d u) → sel d u ∈ t.nv.outs) ∧
      (-300 < figure.toInt → 1 ≤ look 0 s.nv.fails (sel d u) → ¬ sel d u ∈ s.nv.outs →
        ∃ e ∈ (t.die d).logs, e.cls = 10 ∧ e.action = 3 ∧ e.unit = sel d u) ∧
      (figure.toInt ≤ -300 ∨ look 0 s.nv.fails (sel d u) = 0 → t.nv.outs = s.nv.outs) ∧
      t = { s with dies := t.dies, outs := t.outs, nv := t.nv }) ∧
  (∀ (d : Nat) (figure offset : BitVec 16) (s : State),
    (s.die d).verify.st = 1 → (s.die d).verify.due ≤ s.cyc → 2 ≤ (s.die d).verify.kind →
    exec (.verifyComplete d figure offset) s =
      .next (s.setDie d { s.die d with verify := { (s.die d).verify with st := 2, figure := figure } })) ∧
  (∀ (d : Nat) (figure offset : BitVec 16) (s : State),
    (s.die d).verify.st ≠ 1 ∨ s.cyc < (s.die d).verify.due → exec (.verifyComplete d figure offset) s = .next s) ∧
  (∀ (e : LogEntry) (p v : Nat) (s : State),
    (s.die 0).booted = true → s.nextEntry = some e → (s.die e.die).logsLost = 0 →
    p = s.rdN Obj.FAULT_LOG_TOTAL 0 % 4096 → v = e.value (s.rdN Obj.FAULT_LOG_TOTAL 0) →
    ∃ t, exec .faultLogWrite s = .next t ∧ t.dw Obj.FAULT_LOG 0 (2 * p) = word (v / 2 ^ 72) ∧
      t.dw Obj.FAULT_LOG 0 (2 * p + 1) = word v ∧
      (∀ id k w : Nat, ¬ (id = Obj.FAULT_LOG ∧ k = 0 ∧ w / 2 = p) → t.dw id k w = s.dw id k w) ∧
      t.rd Obj.FAULT_LOG_TOTAL 0 = (s.inc Obj.FAULT_LOG_TOTAL 0).rd Obj.FAULT_LOG_TOTAL 0 ∧
      (t.die e.die).logs = (s.die e.die).logs.erase e ∧ (∀ d : Nat, d ≠ e.die → t.die d = s.die d) ∧
      t = { s with dies := t.dies, doms := t.doms, regs := t.regs, sessions := t.sessions }) ∧
  (∀ (e : LogEntry) (s : State),
    (s.die 0).booted = true → s.nextEntry = some e → (s.die e.die).logsLost ≠ 0 → (s.die e.die).logs.length ≤ 64 →
    e ∈ (s.die e.die).logs →
    ∃ t, exec .faultLogWrite s = .next t ∧ (t.die e.die).logsLost = 0 ∧
      t.rd Obj.FAULT_LOG_TOTAL 0 = (s.inc Obj.FAULT_LOG_TOTAL 0).rd Obj.FAULT_LOG_TOTAL 0 ∧
      (∃ l ∈ (t.die e.die).logs, l.cls = 17 ∧ l.detail = BitVec.ofNat 32 (s.die e.die).logsLost) ∧
      (∀ d : Nat, d ≠ e.die → t.die d = s.die d) ∧
      t = { s with dies := t.dies, doms := t.doms, regs := t.regs, sessions := t.sessions }) ∧
  (∀ (s : State),
    (s.die 0).booted = false ∨ (∀ d < s.member.dies, (s.die d).logs = []) → exec .faultLogWrite s = .next s) ∧
  (∀ (s : State),
    (s.die 0).booted = true → s.nv.lifeAt + 75000000000 ≤ s.cyc → Registers.wf s.regs = true →
    ∃ t, exec .lifetimeWrite s = .next t ∧ t.nv.lifeAt = s.cyc ∧
      (∀ id k : Nat, lifeObject id = true → (s.die (selDie k)).booted = true →
        look 0 (look [] t.nv.lifetime id) k = s.rd id k) ∧
      t = { s with nv := { s.nv with lifetime := t.nv.lifetime, lifeAt := t.nv.lifeAt } }) ∧
  (∀ (s : State),
    (s.die 0).booted = false ∨ s.cyc < s.nv.lifeAt + 75000000000 → exec .lifetimeWrite s = .next s)

/-- R600 and R601; R517 for a reserved code. The manufacturer identity is a constant of the configuration. -/
def Obligations.TestAccessPort : Prop :=
  (∀ (c : Instr) (s : State),
    c ∈ [.jtagIdcode, .jtagBypass] → s.tapWorks = true →
    ∃ t, exec c s = .next t ∧ t = { s with jtag := { s.jtag with ir := if c = Instr.jtagIdcode then 2 else 255 } }) ∧
  (∀ (cells : List Bool) (s : State),
    s.tapWorks = true → exec (.jtagSamplePreload cells) s = .next { s with jtag := { ir := 1, cells := cells } }) ∧
  (∀ (c : Instr) (ir : BitVec 8) (s : State),
    (c, ir) ∈ [(.jtagExtest, 0), (.jtagHighz, 3), (.jtagClamp, 4), (.jtagExtestPulse, 5), (.jtagExtestTrain, 6)] →
    s.tapWorks = true → s.scanning = false →
    ∃ t, exec c s = .next t ∧ t.jtag = { s.jtag with ir := ir } ∧ t.scanning = true ∧
      (∀ k : Nat, (t.lane k).rx ≠ RxState.up ∧ (t.lane k).rx ≠ RxState.locked) ∧ (∀ p : Nat, (t.eth p).up = false) ∧
      t.clock = s.clock ∧ t.seqs = s.seqs ∧ t.nv = s.nv ∧
      t = { s with jtag := t.jtag, lanes := t.lanes, fports := t.fports, eths := t.eths, regs := t.regs,
                   later := t.later, dies := t.dies, linkChanged := t.linkChanged }) ∧
  (∀ (c : Instr) (ir : BitVec 8) (s : State),
    (c, ir) ∈ [(.jtagExtest, 0), (.jtagHighz, 3), (.jtagClamp, 4), (.jtagExtestPulse, 5), (.jtagExtestTrain, 6)] →
    s.tapWorks = true → s.scanning = true →
    ∃ t, exec c s = .next t ∧ t = { s with jtag := { s.jtag with ir := ir } }) ∧
  (∀ (c : Instr) (ir : BitVec 8) (cells : List Bool) (s : State),
    c ∈ [.jtagExtest, .jtagSamplePreload cells, .jtagIdcode, .jtagHighz, .jtagClamp, .jtagExtestPulse,
      .jtagExtestTrain,
      .jtagBypass, .jtagReserved ir] →
    s.tapWorks = false → exec c s = .next s) ∧
  (∀ (ir : BitVec 8) (s : State),
    7 ≤ ir.toNat → ir.toNat ≤ 254 → s.tapWorks = true → exec (.jtagReserved ir) s = hostError) ∧
  (∀ (ir : BitVec 8) (s : State), ir.toNat < 7 ∨ ir.toNat = 255 → exec (.jtagReserved ir) s = .next s) ∧
  (∀ (s : State),
    s.idcode.toNat % 2 = 1 ∧ s.idcode.toNat / 4096 % 65536 = (match s.member with
      | .pw8 => 0xD208
      | .pw4 => 0xD204
      | .pw2 => 0xD202))

/-- The model's canonical form of the memories (R8, R510) and the saved trims (R566) holds after every step from any
state in which it holds. -/
def Obligations.StepKeepsCanonical : Prop :=
  ∀ s t : State, Canonical s → step s = .next t → Canonical t

/-- R474: "Up to 256 requests may wait." -/
def Obligations.StepKeepsQueueBounded : Prop :=
  ∀ s t : State, QueueBounded s → step s = .next t → QueueBounded t
end

