-- ==== Sys2Proof/Laws/Tab.lean ====
section
/-!
SUPPORT. Laws of sparse tables: reading after writing, and the canonical form.
-/

namespace Sys2Proof.Machine

variable {α : Type}

/-- A dropped key reads the default. -/
@[simp] theorem look_dropKey_same (d : α) (t : Tab α) (i : Nat) : look d (dropKey i t) i = d := by
  induction t with
  | nil => rfl
  | cons p t ih =>
    obtain ⟨k, v⟩ := p
    by_cases h : k = i <;> simp [dropKey, look, h, ih]

/-- Dropping a key leaves the others. -/
theorem look_dropKey_other (d : α) (t : Tab α) {i j : Nat} (h : j ≠ i) : look d (dropKey i t) j = look d t j := by
  induction t with
  | nil => rfl
  | cons p t ih =>
    obtain ⟨k, v⟩ := p
    by_cases hk : k = i
    · subst hk
      simp [dropKey, look, ih, Ne.symm h]
    · simp [dropKey, look, hk, ih]

/-- An inserted pair does not hide other keys. -/
theorem look_insKey_other (d : α) (t : Tab α) (v : α) {i j : Nat} (h : j ≠ i) : look d (insKey i v t) j = look d t j := by
  induction t with
  | nil => simp [insKey, look, Ne.symm h]
  | cons p t ih =>
    obtain ⟨k, w⟩ := p
    by_cases hk : i < k
    · simp [insKey, look, hk, Ne.symm h]
    · simp [insKey, look, hk, ih]

/-- An inserted pair is found where its key was not listed. -/
theorem look_insKey_dropKey (d : α) (t : Tab α) (v : α) (i : Nat) : look d (insKey i v (dropKey i t)) i = v := by
  induction t with
  | nil => simp [dropKey, insKey, look]
  | cons p t ih =>
    obtain ⟨k, w⟩ := p
    by_cases hk : k = i
    · simp [dropKey, hk, ih]
    · by_cases hl : i < k
      · simp [dropKey, hk, insKey, hl, look]
      · simp [dropKey, hk, insKey, hl, look, ih]

variable [DecidableEq α]

/-- A value put at a key is read there. -/
@[simp] theorem look_put_same (d : α) (t : Tab α) (i : Nat) (v : α) : look d (put d t i v) i = v := by
  by_cases h : v = d
  · simp [put, h]
  · simp [put, h, look_insKey_dropKey]

/-- A value put at a key leaves the other keys, whatever their default. -/
theorem look_put_other {d e : α} (t : Tab α) (v : α) {i j : Nat} (h : j ≠ i) : look e (put d t i v) j = look e t j := by
  by_cases hv : v = d
  · simp [put, hv, look_dropKey_other e t h]
  · simp [put, hv, look_insKey_other _ _ _ h, look_dropKey_other e t h]

/-- What a table reads after a value has been put at a key. -/
theorem look_put (d : α) (t : Tab α) (i j : Nat) (v : α) : look d (put d t i v) j = if j = i then v else look d t j := by
  by_cases h : j = i
  · simp [h]
  · simp [h, look_put_other t v h]

/-- A table in canonical form from a bound is so from any lower bound. -/
theorem wfFrom_mono (d : α) {t : Tab α} {a b : Nat} (hab : a ≤ b) (h : Tab.wfFrom d b t = true) : Tab.wfFrom d a t = true := by
  cases t with
  | nil => rfl
  | cons p t =>
    obtain ⟨k, v⟩ := p
    simp only [Tab.wfFrom, Bool.and_eq_true, decide_eq_true_eq] at h ⊢
    exact ⟨⟨by omega, h.1.2⟩, h.2⟩

/-- Dropping a key keeps the canonical form. -/
theorem wfFrom_dropKey (d : α) (i : Nat) {t : Tab α} : ∀ {b : Nat}, Tab.wfFrom d b t = true → Tab.wfFrom d b (dropKey i t) = true := by
  induction t with
  | nil => intro b h; exact h
  | cons p t ih =>
    obtain ⟨k, v⟩ := p
    intro b h
    simp only [Tab.wfFrom, Bool.and_eq_true, decide_eq_true_eq] at h
    by_cases hk : k = i
    · simp only [dropKey, hk, if_true]
      exact wfFrom_mono d (by omega) (ih h.2)
    · simp only [dropKey, hk, if_false, Tab.wfFrom, Bool.and_eq_true, decide_eq_true_eq]
      exact ⟨h.1, ih h.2⟩

/-- Inserting a value that is not the default at a key that is not listed keeps the canonical form. -/
theorem wfFrom_insKey (d : α) (i : Nat) {v : α} (hv : v ≠ d) {t : Tab α} :
    ∀ {b : Nat}, b ≤ i → Tab.wfFrom d b t = true → Tab.wfFrom d b (insKey i v (dropKey i t)) = true := by
  induction t with
  | nil => intro b hb _; simp [dropKey, insKey, Tab.wfFrom, hb, hv]
  | cons p t ih =>
    obtain ⟨k, w⟩ := p
    intro b hb h
    simp only [Tab.wfFrom, Bool.and_eq_true, decide_eq_true_eq] at h
    by_cases hk : k = i
    · simp only [dropKey, hk, if_true]
      exact ih hb (wfFrom_mono d (by omega) h.2)
    · by_cases hl : i < k
      · have hd := wfFrom_dropKey d i h.2
        simp only [dropKey, hk, if_false, insKey, hl, if_true, Tab.wfFrom, Bool.and_eq_true, decide_eq_true_eq]
        exact ⟨⟨hb, hv⟩, ⟨by omega, h.1.2⟩, hd⟩
      · have hi := ih (b := k + 1) (by omega) h.2
        simp only [dropKey, hk, if_false, insKey, hl, Tab.wfFrom, Bool.and_eq_true, decide_eq_true_eq]
        exact ⟨h.1, hi⟩

/-- Putting a value keeps the canonical form. -/
theorem wf_put (d : α) {t : Tab α} (i : Nat) (v : α) (h : Tab.wf d t = true) : Tab.wf d (put d t i v) = true := by
  unfold Tab.wf at *
  by_cases hv : v = d
  · simp only [put, hv, if_true]
    exact wfFrom_dropKey d i h
  · simp only [put, hv, if_false]
    exact wfFrom_insKey d i hv (Nat.zero_le _) h

/-- Keeping some of the pairs keeps the canonical form. -/
theorem wfFrom_filter (d : α) (p : Nat × α → Bool) {t : Tab α} :
    ∀ {b : Nat}, Tab.wfFrom d b t = true → Tab.wfFrom d b (t.filter p) = true := by
  induction t with
  | nil => intro b h; exact h
  | cons q t ih =>
    obtain ⟨k, v⟩ := q
    intro b h
    simp only [Tab.wfFrom, Bool.and_eq_true, decide_eq_true_eq] at h
    by_cases hp : p (k, v) = true
    · simp only [List.filter_cons, hp, if_true, Tab.wfFrom, Bool.and_eq_true, decide_eq_true_eq]
      exact ⟨h.1, ih h.2⟩
    · simp only [List.filter_cons, hp]
      exact wfFrom_mono d (by omega) (ih h.2)

/-- In a table in canonical form from a bound, keys below the bound read the default. -/
theorem look_below (d : α) {t : Tab α} : ∀ {b i : Nat}, Tab.wfFrom d b t = true → i < b → look d t i = d := by
  induction t with
  | nil => intro b i _ _; rfl
  | cons q t ih =>
    obtain ⟨k, v⟩ := q
    intro b i h hi
    simp only [Tab.wfFrom, Bool.and_eq_true, decide_eq_true_eq] at h
    have hk : k ≠ i := by omega
    simp only [look, hk, if_false]
    exact ih h.2 (by omega)

/-- Two tables in canonical form that read alike at every key are equal data. -/
theorem wfFrom_ext (d : α) : ∀ {t u : Tab α} {b : Nat}, Tab.wfFrom d b t = true → Tab.wfFrom d b u = true →
    (∀ i, look d t i = look d u i) → t = u := by
  intro t
  induction t with
  | nil =>
    intro u b _ hu h
    cases u with
    | nil => rfl
    | cons q u =>
      obtain ⟨k, v⟩ := q
      simp only [Tab.wfFrom, Bool.and_eq_true, decide_eq_true_eq] at hu
      have := h k
      simp only [look, if_true] at this
      exact absurd this.symm hu.1.2
  | cons p t ih =>
    obtain ⟨k, v⟩ := p
    intro u b ht hu h
    simp only [Tab.wfFrom, Bool.and_eq_true, decide_eq_true_eq] at ht
    cases u with
    | nil =>
      have := h k
      simp only [look, if_true] at this
      exact absurd this ht.1.2
    | cons q u =>
      obtain ⟨l, w⟩ := q
      simp only [Tab.wfFrom, Bool.and_eq_true, decide_eq_true_eq] at hu
      have hkl : k = l := by
        rcases Nat.lt_trichotomy k l with hlt | heq | hgt
        · have := h k
          have hne : l ≠ k := by omega
          simp only [look, if_true, hne, if_false] at this
          rw [look_below d hu.2 (by omega)] at this
          exact absurd this ht.1.2
        · exact heq
        · have := h l
          have hne : k ≠ l := by omega
          simp only [look, if_true, hne, if_false] at this
          rw [look_below d ht.2 (by omega)] at this
          exact absurd this.symm hu.1.2
      subst hkl
      have hv : v = w := by
        have := h k
        simpa [look] using this
      subst hv
      congr 1
      refine ih ht.2 hu.2 (fun i => ?_)
      by_cases hi : k = i
      · subst hi
        rw [look_below d ht.2 (by omega), look_below d hu.2 (by omega)]
      · have := h i
        simpa [look, hi] using this

omit [DecidableEq α] in
/-- Removing a pair removes what an insertion at its key has put in. -/
theorem dropKey_insKey (i : Nat) (v : α) (t : Tab α) : dropKey i (insKey i v t) = dropKey i t := by
  induction t with
  | nil => simp [insKey, dropKey]
  | cons p t ih =>
    obtain ⟨k, w⟩ := p
    simp only [insKey]
    split
    · simp [dropKey]
    · simp only [dropKey, ih]

omit [DecidableEq α] in
/-- Removing twice is removing once. -/
theorem dropKey_dropKey (i : Nat) (t : Tab α) : dropKey i (dropKey i t) = dropKey i t := by
  induction t with
  | nil => rfl
  | cons p t ih =>
    obtain ⟨k, w⟩ := p
    simp only [dropKey]
    split
    · exact ih
    · rename_i h; simp only [dropKey, if_neg h, ih]

/-- Of two replacements at one key the second stands. -/
@[simp] theorem put_put (d : α) (t : Tab α) (i : Nat) (a b : α) : put d (put d t i a) i b = put d t i b := by
  have h : dropKey i (put d t i a) = dropKey i t := by
    simp only [put]; split
    · exact dropKey_dropKey i t
    · rw [dropKey_insKey, dropKey_dropKey]
  simp only [put] at h ⊢
  rw [h]

end Sys2Proof.Machine
end

