-- ==== Sys2Proof/Laws/State.lean ====
section
/-!
SUPPORT. What the setters of State change: for every setter, every other field is unchanged, and the part that it sets reads
as set.
-/

namespace Sys2Proof.Machine

/-- State.setLink changes links only. -/
@[simp] theorem setLink_frame (s : State) (k : Nat) (x : LinkAvg) :
    (s.setLink k x).pending = s.pending ∧ (s.setLink k x).free = s.free ∧ (s.setLink k x).member = s.member ∧
    (s.setLink k x).regs = s.regs ∧ (s.setLink k x).doms = s.doms ∧ (s.setLink k x).recent = s.recent ∧
    (s.setLink k x).clock = s.clock ∧ (s.setLink k x).tattoo = s.tattoo ∧ (s.setLink k x).cal = s.cal ∧
    (s.setLink k x).ptp = s.ptp ∧ (s.setLink k x).epochs = s.epochs ∧ (s.setLink k x).applied = s.applied ∧
    (s.setLink k x).glinks = s.glinks ∧ (s.setLink k x).flight = s.flight ∧ (s.setLink k x).issued = s.issued ∧
    (s.setLink k x).gens = s.gens ∧ (s.setLink k x).outs = s.outs ∧ (s.setLink k x).seqs = s.seqs ∧
    (s.setLink k x).stores = s.stores ∧ (s.setLink k x).chans = s.chans ∧ (s.setLink k x).fires = s.fires ∧
    (s.setLink k x).power = s.power ∧ (s.setLink k x).sleep = s.sleep ∧ (s.setLink k x).shut = s.shut ∧
    (s.setLink k x).dies = s.dies ∧ (s.setLink k x).nv = s.nv ∧ (s.setLink k x).slots = s.slots ∧
    (s.setLink k x).ports = s.ports ∧ (s.setLink k x).subs = s.subs ∧ (s.setLink k x).forwards = s.forwards ∧
    (s.setLink k x).removals = s.removals ∧ (s.setLink k x).demods = s.demods ∧ (s.setLink k x).inputs = s.inputs ∧
    (s.setLink k x).lanes = s.lanes ∧ (s.setLink k x).fports = s.fports ∧ (s.setLink k x).routes = s.routes ∧
    (s.setLink k x).devices = s.devices ∧ (s.setLink k x).floodAt = s.floodAt ∧ (s.setLink k x).linkChanged = s.linkChanged ∧
    (s.setLink k x).marks = s.marks ∧ (s.setLink k x).dsps = s.dsps ∧ (s.setLink k x).tones = s.tones ∧
    (s.setLink k x).majs = s.majs ∧ (s.setLink k x).acqs = s.acqs ∧ (s.setLink k x).later = s.later ∧
    (s.setLink k x).recSubs = s.recSubs ∧ (s.setLink k x).sessions = s.sessions ∧ (s.setLink k x).biases = s.biases ∧
    (s.setLink k x).biasTurns = s.biasTurns ∧ (s.setLink k x).channels = s.channels ∧ (s.setLink k x).eths = s.eths ∧
    (s.setLink k x).landing = s.landing ∧ (s.setLink k x).sent = s.sent ∧ (s.setLink k x).jtag = s.jtag := by
  refine ⟨rfl, rfl, rfl, rfl, rfl, rfl, rfl, rfl, rfl, rfl, rfl, rfl, rfl, rfl, rfl, rfl, rfl, rfl, rfl, rfl, rfl, rfl, rfl, rfl, rfl, rfl, rfl, rfl, rfl, rfl, rfl, rfl, rfl, rfl, rfl, rfl, rfl, rfl, rfl, rfl, rfl, rfl, rfl, rfl, rfl, rfl, rfl, rfl, rfl, rfl, rfl, rfl, rfl, rfl⟩

/-- What State.setLink sets is read. -/
@[simp] theorem link_setLink (s : State) (k j : Nat) (x : LinkAvg) :
    (s.setLink k x).link j = if j = k then x else s.link j := by
  simp only [State.setLink, State.link, look_put]

/-- State.setEpochRec changes epochs only. -/
@[simp] theorem setEpochRec_frame (s : State) (k : Nat) (x : EpochRec) :
    (s.setEpochRec k x).pending = s.pending ∧ (s.setEpochRec k x).free = s.free ∧ (s.setEpochRec k x).member = s.member ∧
    (s.setEpochRec k x).regs = s.regs ∧ (s.setEpochRec k x).doms = s.doms ∧ (s.setEpochRec k x).recent = s.recent ∧
    (s.setEpochRec k x).clock = s.clock ∧ (s.setEpochRec k x).tattoo = s.tattoo ∧ (s.setEpochRec k x).links = s.links ∧
    (s.setEpochRec k x).cal = s.cal ∧ (s.setEpochRec k x).ptp = s.ptp ∧ (s.setEpochRec k x).applied = s.applied ∧
    (s.setEpochRec k x).glinks = s.glinks ∧ (s.setEpochRec k x).flight = s.flight ∧ (s.setEpochRec k x).issued = s.issued ∧
    (s.setEpochRec k x).gens = s.gens ∧ (s.setEpochRec k x).outs = s.outs ∧ (s.setEpochRec k x).seqs = s.seqs ∧
    (s.setEpochRec k x).stores = s.stores ∧ (s.setEpochRec k x).chans = s.chans ∧ (s.setEpochRec k x).fires = s.fires ∧
    (s.setEpochRec k x).power = s.power ∧ (s.setEpochRec k x).sleep = s.sleep ∧ (s.setEpochRec k x).shut = s.shut ∧
    (s.setEpochRec k x).dies = s.dies ∧ (s.setEpochRec k x).nv = s.nv ∧ (s.setEpochRec k x).slots = s.slots ∧
    (s.setEpochRec k x).ports = s.ports ∧ (s.setEpochRec k x).subs = s.subs ∧ (s.setEpochRec k x).forwards = s.forwards ∧
    (s.setEpochRec k x).removals = s.removals ∧ (s.setEpochRec k x).demods = s.demods ∧ (s.setEpochRec k x).inputs = s.inputs ∧
    (s.setEpochRec k x).lanes = s.lanes ∧ (s.setEpochRec k x).fports = s.fports ∧ (s.setEpochRec k x).routes = s.routes ∧
    (s.setEpochRec k x).devices = s.devices ∧ (s.setEpochRec k x).floodAt = s.floodAt ∧ (s.setEpochRec k x).linkChanged = s.linkChanged ∧
    (s.setEpochRec k x).marks = s.marks ∧ (s.setEpochRec k x).dsps = s.dsps ∧ (s.setEpochRec k x).tones = s.tones ∧
    (s.setEpochRec k x).majs = s.majs ∧ (s.setEpochRec k x).acqs = s.acqs ∧ (s.setEpochRec k x).later = s.later ∧
    (s.setEpochRec k x).recSubs = s.recSubs ∧ (s.setEpochRec k x).sessions = s.sessions ∧ (s.setEpochRec k x).biases = s.biases ∧
    (s.setEpochRec k x).biasTurns = s.biasTurns ∧ (s.setEpochRec k x).channels = s.channels ∧ (s.setEpochRec k x).eths = s.eths ∧
    (s.setEpochRec k x).landing = s.landing ∧ (s.setEpochRec k x).sent = s.sent ∧ (s.setEpochRec k x).jtag = s.jtag := by
  refine ⟨rfl, rfl, rfl, rfl, rfl, rfl, rfl, rfl, rfl, rfl, rfl, rfl, rfl, rfl, rfl, rfl, rfl, rfl, rfl, rfl, rfl, rfl, rfl, rfl, rfl, rfl, rfl, rfl, rfl, rfl, rfl, rfl, rfl, rfl, rfl, rfl, rfl, rfl, rfl, rfl, rfl, rfl, rfl, rfl, rfl, rfl, rfl, rfl, rfl, rfl, rfl, rfl, rfl, rfl⟩

/-- What State.setEpochRec sets is read. -/
@[simp] theorem epochRec_setEpochRec (s : State) (k j : Nat) (x : EpochRec) :
    (s.setEpochRec k x).epochRec j = if j = k then x else s.epochRec j := by
  simp only [State.setEpochRec, State.epochRec, look_put]

/-- State.setAppl changes applied only. -/
@[simp] theorem setAppl_frame (s : State) (k : Nat) (x : Applied) :
    (s.setAppl k x).pending = s.pending ∧ (s.setAppl k x).free = s.free ∧ (s.setAppl k x).member = s.member ∧
    (s.setAppl k x).regs = s.regs ∧ (s.setAppl k x).doms = s.doms ∧ (s.setAppl k x).recent = s.recent ∧
    (s.setAppl k x).clock = s.clock ∧ (s.setAppl k x).tattoo = s.tattoo ∧ (s.setAppl k x).links = s.links ∧
    (s.setAppl k x).cal = s.cal ∧ (s.setAppl k x).ptp = s.ptp ∧ (s.setAppl k x).epochs = s.epochs ∧
    (s.setAppl k x).glinks = s.glinks ∧ (s.setAppl k x).flight = s.flight ∧ (s.setAppl k x).issued = s.issued ∧
    (s.setAppl k x).gens = s.gens ∧ (s.setAppl k x).outs = s.outs ∧ (s.setAppl k x).seqs = s.seqs ∧
    (s.setAppl k x).stores = s.stores ∧ (s.setAppl k x).chans = s.chans ∧ (s.setAppl k x).fires = s.fires ∧
    (s.setAppl k x).power = s.power ∧ (s.setAppl k x).sleep = s.sleep ∧ (s.setAppl k x).shut = s.shut ∧
    (s.setAppl k x).dies = s.dies ∧ (s.setAppl k x).nv = s.nv ∧ (s.setAppl k x).slots = s.slots ∧
    (s.setAppl k x).ports = s.ports ∧ (s.setAppl k x).subs = s.subs ∧ (s.setAppl k x).forwards = s.forwards ∧
    (s.setAppl k x).removals = s.removals ∧ (s.setAppl k x).demods = s.demods ∧ (s.setAppl k x).inputs = s.inputs ∧
    (s.setAppl k x).lanes = s.lanes ∧ (s.setAppl k x).fports = s.fports ∧ (s.setAppl k x).routes = s.routes ∧
    (s.setAppl k x).devices = s.devices ∧ (s.setAppl k x).floodAt = s.floodAt ∧ (s.setAppl k x).linkChanged = s.linkChanged ∧
    (s.setAppl k x).marks = s.marks ∧ (s.setAppl k x).dsps = s.dsps ∧ (s.setAppl k x).tones = s.tones ∧
    (s.setAppl k x).majs = s.majs ∧ (s.setAppl k x).acqs = s.acqs ∧ (s.setAppl k x).later = s.later ∧
    (s.setAppl k x).recSubs = s.recSubs ∧ (s.setAppl k x).sessions = s.sessions ∧ (s.setAppl k x).biases = s.biases ∧
    (s.setAppl k x).biasTurns = s.biasTurns ∧ (s.setAppl k x).channels = s.channels ∧ (s.setAppl k x).eths = s.eths ∧
    (s.setAppl k x).landing = s.landing ∧ (s.setAppl k x).sent = s.sent ∧ (s.setAppl k x).jtag = s.jtag := by
  refine ⟨rfl, rfl, rfl, rfl, rfl, rfl, rfl, rfl, rfl, rfl, rfl, rfl, rfl, rfl, rfl, rfl, rfl, rfl, rfl, rfl, rfl, rfl, rfl, rfl, rfl, rfl, rfl, rfl, rfl, rfl, rfl, rfl, rfl, rfl, rfl, rfl, rfl, rfl, rfl, rfl, rfl, rfl, rfl, rfl, rfl, rfl, rfl, rfl, rfl, rfl, rfl, rfl, rfl, rfl⟩

/-- What State.setAppl sets is read. -/
@[simp] theorem appl_setAppl (s : State) (k j : Nat) (x : Applied) :
    (s.setAppl k x).appl j = if j = k then x else s.appl j := by
  simp only [State.setAppl, State.appl, look_put]

/-- State.setGlink changes glinks only. -/
@[simp] theorem setGlink_frame (s : State) (k : Nat) (x : GLink) :
    (s.setGlink k x).pending = s.pending ∧ (s.setGlink k x).free = s.free ∧ (s.setGlink k x).member = s.member ∧
    (s.setGlink k x).regs = s.regs ∧ (s.setGlink k x).doms = s.doms ∧ (s.setGlink k x).recent = s.recent ∧
    (s.setGlink k x).clock = s.clock ∧ (s.setGlink k x).tattoo = s.tattoo ∧ (s.setGlink k x).links = s.links ∧
    (s.setGlink k x).cal = s.cal ∧ (s.setGlink k x).ptp = s.ptp ∧ (s.setGlink k x).epochs = s.epochs ∧
    (s.setGlink k x).applied = s.applied ∧ (s.setGlink k x).flight = s.flight ∧ (s.setGlink k x).issued = s.issued ∧
    (s.setGlink k x).gens = s.gens ∧ (s.setGlink k x).outs = s.outs ∧ (s.setGlink k x).seqs = s.seqs ∧
    (s.setGlink k x).stores = s.stores ∧ (s.setGlink k x).chans = s.chans ∧ (s.setGlink k x).fires = s.fires ∧
    (s.setGlink k x).power = s.power ∧ (s.setGlink k x).sleep = s.sleep ∧ (s.setGlink k x).shut = s.shut ∧
    (s.setGlink k x).dies = s.dies ∧ (s.setGlink k x).nv = s.nv ∧ (s.setGlink k x).slots = s.slots ∧
    (s.setGlink k x).ports = s.ports ∧ (s.setGlink k x).subs = s.subs ∧ (s.setGlink k x).forwards = s.forwards ∧
    (s.setGlink k x).removals = s.removals ∧ (s.setGlink k x).demods = s.demods ∧ (s.setGlink k x).inputs = s.inputs ∧
    (s.setGlink k x).lanes = s.lanes ∧ (s.setGlink k x).fports = s.fports ∧ (s.setGlink k x).routes = s.routes ∧
    (s.setGlink k x).devices = s.devices ∧ (s.setGlink k x).floodAt = s.floodAt ∧ (s.setGlink k x).linkChanged = s.linkChanged ∧
    (s.setGlink k x).marks = s.marks ∧ (s.setGlink k x).dsps = s.dsps ∧ (s.setGlink k x).tones = s.tones ∧
    (s.setGlink k x).majs = s.majs ∧ (s.setGlink k x).acqs = s.acqs ∧ (s.setGlink k x).later = s.later ∧
    (s.setGlink k x).recSubs = s.recSubs ∧ (s.setGlink k x).sessions = s.sessions ∧ (s.setGlink k x).biases = s.biases ∧
    (s.setGlink k x).biasTurns = s.biasTurns ∧ (s.setGlink k x).channels = s.channels ∧ (s.setGlink k x).eths = s.eths ∧
    (s.setGlink k x).landing = s.landing ∧ (s.setGlink k x).sent = s.sent ∧ (s.setGlink k x).jtag = s.jtag := by
  refine ⟨rfl, rfl, rfl, rfl, rfl, rfl, rfl, rfl, rfl, rfl, rfl, rfl, rfl, rfl, rfl, rfl, rfl, rfl, rfl, rfl, rfl, rfl, rfl, rfl, rfl, rfl, rfl, rfl, rfl, rfl, rfl, rfl, rfl, rfl, rfl, rfl, rfl, rfl, rfl, rfl, rfl, rfl, rfl, rfl, rfl, rfl, rfl, rfl, rfl, rfl, rfl, rfl, rfl, rfl⟩

/-- What State.setGlink sets is read. -/
@[simp] theorem glink_setGlink (s : State) (k j : Nat) (x : GLink) :
    (s.setGlink k x).glink j = if j = k then x else s.glink j := by
  simp only [State.setGlink, State.glink, look_put]

/-- State.setGen changes gens only. -/
@[simp] theorem setGen_frame (s : State) (k : Nat) (x : Gen) :
    (s.setGen k x).pending = s.pending ∧ (s.setGen k x).free = s.free ∧ (s.setGen k x).member = s.member ∧
    (s.setGen k x).regs = s.regs ∧ (s.setGen k x).doms = s.doms ∧ (s.setGen k x).recent = s.recent ∧
    (s.setGen k x).clock = s.clock ∧ (s.setGen k x).tattoo = s.tattoo ∧ (s.setGen k x).links = s.links ∧
    (s.setGen k x).cal = s.cal ∧ (s.setGen k x).ptp = s.ptp ∧ (s.setGen k x).epochs = s.epochs ∧
    (s.setGen k x).applied = s.applied ∧ (s.setGen k x).glinks = s.glinks ∧ (s.setGen k x).flight = s.flight ∧
    (s.setGen k x).issued = s.issued ∧ (s.setGen k x).outs = s.outs ∧ (s.setGen k x).seqs = s.seqs ∧
    (s.setGen k x).stores = s.stores ∧ (s.setGen k x).chans = s.chans ∧ (s.setGen k x).fires = s.fires ∧
    (s.setGen k x).power = s.power ∧ (s.setGen k x).sleep = s.sleep ∧ (s.setGen k x).shut = s.shut ∧
    (s.setGen k x).dies = s.dies ∧ (s.setGen k x).nv = s.nv ∧ (s.setGen k x).slots = s.slots ∧
    (s.setGen k x).ports = s.ports ∧ (s.setGen k x).subs = s.subs ∧ (s.setGen k x).forwards = s.forwards ∧
    (s.setGen k x).removals = s.removals ∧ (s.setGen k x).demods = s.demods ∧ (s.setGen k x).inputs = s.inputs ∧
    (s.setGen k x).lanes = s.lanes ∧ (s.setGen k x).fports = s.fports ∧ (s.setGen k x).routes = s.routes ∧
    (s.setGen k x).devices = s.devices ∧ (s.setGen k x).floodAt = s.floodAt ∧ (s.setGen k x).linkChanged = s.linkChanged ∧
    (s.setGen k x).marks = s.marks ∧ (s.setGen k x).dsps = s.dsps ∧ (s.setGen k x).tones = s.tones ∧
    (s.setGen k x).majs = s.majs ∧ (s.setGen k x).acqs = s.acqs ∧ (s.setGen k x).later = s.later ∧
    (s.setGen k x).recSubs = s.recSubs ∧ (s.setGen k x).sessions = s.sessions ∧ (s.setGen k x).biases = s.biases ∧
    (s.setGen k x).biasTurns = s.biasTurns ∧ (s.setGen k x).channels = s.channels ∧ (s.setGen k x).eths = s.eths ∧
    (s.setGen k x).landing = s.landing ∧ (s.setGen k x).sent = s.sent ∧ (s.setGen k x).jtag = s.jtag := by
  refine ⟨rfl, rfl, rfl, rfl, rfl, rfl, rfl, rfl, rfl, rfl, rfl, rfl, rfl, rfl, rfl, rfl, rfl, rfl, rfl, rfl, rfl, rfl, rfl, rfl, rfl, rfl, rfl, rfl, rfl, rfl, rfl, rfl, rfl, rfl, rfl, rfl, rfl, rfl, rfl, rfl, rfl, rfl, rfl, rfl, rfl, rfl, rfl, rfl, rfl, rfl, rfl, rfl, rfl, rfl⟩

/-- What State.setGen sets is read. -/
@[simp] theorem gen_setGen (s : State) (k j : Nat) (x : Gen) :
    (s.setGen k x).gen j = if j = k then x else s.gen j := by
  simp only [State.setGen, State.gen, look_put]

/-- State.setOut changes outs only. -/
@[simp] theorem setOut_frame (s : State) (k : Nat) (x : RfOut) :
    (s.setOut k x).pending = s.pending ∧ (s.setOut k x).free = s.free ∧ (s.setOut k x).member = s.member ∧
    (s.setOut k x).regs = s.regs ∧ (s.setOut k x).doms = s.doms ∧ (s.setOut k x).recent = s.recent ∧
    (s.setOut k x).clock = s.clock ∧ (s.setOut k x).tattoo = s.tattoo ∧ (s.setOut k x).links = s.links ∧
    (s.setOut k x).cal = s.cal ∧ (s.setOut k x).ptp = s.ptp ∧ (s.setOut k x).epochs = s.epochs ∧
    (s.setOut k x).applied = s.applied ∧ (s.setOut k x).glinks = s.glinks ∧ (s.setOut k x).flight = s.flight ∧
    (s.setOut k x).issued = s.issued ∧ (s.setOut k x).gens = s.gens ∧ (s.setOut k x).seqs = s.seqs ∧
    (s.setOut k x).stores = s.stores ∧ (s.setOut k x).chans = s.chans ∧ (s.setOut k x).fires = s.fires ∧
    (s.setOut k x).power = s.power ∧ (s.setOut k x).sleep = s.sleep ∧ (s.setOut k x).shut = s.shut ∧
    (s.setOut k x).dies = s.dies ∧ (s.setOut k x).nv = s.nv ∧ (s.setOut k x).slots = s.slots ∧
    (s.setOut k x).ports = s.ports ∧ (s.setOut k x).subs = s.subs ∧ (s.setOut k x).forwards = s.forwards ∧
    (s.setOut k x).removals = s.removals ∧ (s.setOut k x).demods = s.demods ∧ (s.setOut k x).inputs = s.inputs ∧
    (s.setOut k x).lanes = s.lanes ∧ (s.setOut k x).fports = s.fports ∧ (s.setOut k x).routes = s.routes ∧
    (s.setOut k x).devices = s.devices ∧ (s.setOut k x).floodAt = s.floodAt ∧ (s.setOut k x).linkChanged = s.linkChanged ∧
    (s.setOut k x).marks = s.marks ∧ (s.setOut k x).dsps = s.dsps ∧ (s.setOut k x).tones = s.tones ∧
    (s.setOut k x).majs = s.majs ∧ (s.setOut k x).acqs = s.acqs ∧ (s.setOut k x).later = s.later ∧
    (s.setOut k x).recSubs = s.recSubs ∧ (s.setOut k x).sessions = s.sessions ∧ (s.setOut k x).biases = s.biases ∧
    (s.setOut k x).biasTurns = s.biasTurns ∧ (s.setOut k x).channels = s.channels ∧ (s.setOut k x).eths = s.eths ∧
    (s.setOut k x).landing = s.landing ∧ (s.setOut k x).sent = s.sent ∧ (s.setOut k x).jtag = s.jtag := by
  refine ⟨rfl, rfl, rfl, rfl, rfl, rfl, rfl, rfl, rfl, rfl, rfl, rfl, rfl, rfl, rfl, rfl, rfl, rfl, rfl, rfl, rfl, rfl, rfl, rfl, rfl, rfl, rfl, rfl, rfl, rfl, rfl, rfl, rfl, rfl, rfl, rfl, rfl, rfl, rfl, rfl, rfl, rfl, rfl, rfl, rfl, rfl, rfl, rfl, rfl, rfl, rfl, rfl, rfl, rfl⟩

/-- What State.setOut sets is read. -/
@[simp] theorem out_setOut (s : State) (k j : Nat) (x : RfOut) :
    (s.setOut k x).out j = if j = k then x else s.out j := by
  simp only [State.setOut, State.out, look_put]

/-- State.setSeq changes seqs only. -/
@[simp] theorem setSeq_frame (s : State) (k : Nat) (x : Seq) :
    (s.setSeq k x).pending = s.pending ∧ (s.setSeq k x).free = s.free ∧ (s.setSeq k x).member = s.member ∧
    (s.setSeq k x).regs = s.regs ∧ (s.setSeq k x).doms = s.doms ∧ (s.setSeq k x).recent = s.recent ∧
    (s.setSeq k x).clock = s.clock ∧ (s.setSeq k x).tattoo = s.tattoo ∧ (s.setSeq k x).links = s.links ∧
    (s.setSeq k x).cal = s.cal ∧ (s.setSeq k x).ptp = s.ptp ∧ (s.setSeq k x).epochs = s.epochs ∧
    (s.setSeq k x).applied = s.applied ∧ (s.setSeq k x).glinks = s.glinks ∧ (s.setSeq k x).flight = s.flight ∧
    (s.setSeq k x).issued = s.issued ∧ (s.setSeq k x).gens = s.gens ∧ (s.setSeq k x).outs = s.outs ∧
    (s.setSeq k x).stores = s.stores ∧ (s.setSeq k x).chans = s.chans ∧ (s.setSeq k x).fires = s.fires ∧
    (s.setSeq k x).power = s.power ∧ (s.setSeq k x).sleep = s.sleep ∧ (s.setSeq k x).shut = s.shut ∧
    (s.setSeq k x).dies = s.dies ∧ (s.setSeq k x).nv = s.nv ∧ (s.setSeq k x).slots = s.slots ∧
    (s.setSeq k x).ports = s.ports ∧ (s.setSeq k x).subs = s.subs ∧ (s.setSeq k x).forwards = s.forwards ∧
    (s.setSeq k x).removals = s.removals ∧ (s.setSeq k x).demods = s.demods ∧ (s.setSeq k x).inputs = s.inputs ∧
    (s.setSeq k x).lanes = s.lanes ∧ (s.setSeq k x).fports = s.fports ∧ (s.setSeq k x).routes = s.routes ∧
    (s.setSeq k x).devices = s.devices ∧ (s.setSeq k x).floodAt = s.floodAt ∧ (s.setSeq k x).linkChanged = s.linkChanged ∧
    (s.setSeq k x).marks = s.marks ∧ (s.setSeq k x).dsps = s.dsps ∧ (s.setSeq k x).tones = s.tones ∧
    (s.setSeq k x).majs = s.majs ∧ (s.setSeq k x).acqs = s.acqs ∧ (s.setSeq k x).later = s.later ∧
    (s.setSeq k x).recSubs = s.recSubs ∧ (s.setSeq k x).sessions = s.sessions ∧ (s.setSeq k x).biases = s.biases ∧
    (s.setSeq k x).biasTurns = s.biasTurns ∧ (s.setSeq k x).channels = s.channels ∧ (s.setSeq k x).eths = s.eths ∧
    (s.setSeq k x).landing = s.landing ∧ (s.setSeq k x).sent = s.sent ∧ (s.setSeq k x).jtag = s.jtag := by
  refine ⟨rfl, rfl, rfl, rfl, rfl, rfl, rfl, rfl, rfl, rfl, rfl, rfl, rfl, rfl, rfl, rfl, rfl, rfl, rfl, rfl, rfl, rfl, rfl, rfl, rfl, rfl, rfl, rfl, rfl, rfl, rfl, rfl, rfl, rfl, rfl, rfl, rfl, rfl, rfl, rfl, rfl, rfl, rfl, rfl, rfl, rfl, rfl, rfl, rfl, rfl, rfl, rfl, rfl, rfl⟩

/-- What State.setSeq sets is read. -/
@[simp] theorem seq_setSeq (s : State) (k j : Nat) (x : Seq) :
    (s.setSeq k x).seq j = if j = k then x else s.seq j := by
  simp only [State.setSeq, State.seq, look_put]

/-- State.setStore changes stores only. -/
@[simp] theorem setStore_frame (s : State) (k : Nat) (x : StoreProt) :
    (s.setStore k x).pending = s.pending ∧ (s.setStore k x).free = s.free ∧ (s.setStore k x).member = s.member ∧
    (s.setStore k x).regs = s.regs ∧ (s.setStore k x).doms = s.doms ∧ (s.setStore k x).recent = s.recent ∧
    (s.setStore k x).clock = s.clock ∧ (s.setStore k x).tattoo = s.tattoo ∧ (s.setStore k x).links = s.links ∧
    (s.setStore k x).cal = s.cal ∧ (s.setStore k x).ptp = s.ptp ∧ (s.setStore k x).epochs = s.epochs ∧
    (s.setStore k x).applied = s.applied ∧ (s.setStore k x).glinks = s.glinks ∧ (s.setStore k x).flight = s.flight ∧
    (s.setStore k x).issued = s.issued ∧ (s.setStore k x).gens = s.gens ∧ (s.setStore k x).outs = s.outs ∧
    (s.setStore k x).seqs = s.seqs ∧ (s.setStore k x).chans = s.chans ∧ (s.setStore k x).fires = s.fires ∧
    (s.setStore k x).power = s.power ∧ (s.setStore k x).sleep = s.sleep ∧ (s.setStore k x).shut = s.shut ∧
    (s.setStore k x).dies = s.dies ∧ (s.setStore k x).nv = s.nv ∧ (s.setStore k x).slots = s.slots ∧
    (s.setStore k x).ports = s.ports ∧ (s.setStore k x).subs = s.subs ∧ (s.setStore k x).forwards = s.forwards ∧
    (s.setStore k x).removals = s.removals ∧ (s.setStore k x).demods = s.demods ∧ (s.setStore k x).inputs = s.inputs ∧
    (s.setStore k x).lanes = s.lanes ∧ (s.setStore k x).fports = s.fports ∧ (s.setStore k x).routes = s.routes ∧
    (s.setStore k x).devices = s.devices ∧ (s.setStore k x).floodAt = s.floodAt ∧ (s.setStore k x).linkChanged = s.linkChanged ∧
    (s.setStore k x).marks = s.marks ∧ (s.setStore k x).dsps = s.dsps ∧ (s.setStore k x).tones = s.tones ∧
    (s.setStore k x).majs = s.majs ∧ (s.setStore k x).acqs = s.acqs ∧ (s.setStore k x).later = s.later ∧
    (s.setStore k x).recSubs = s.recSubs ∧ (s.setStore k x).sessions = s.sessions ∧ (s.setStore k x).biases = s.biases ∧
    (s.setStore k x).biasTurns = s.biasTurns ∧ (s.setStore k x).channels = s.channels ∧ (s.setStore k x).eths = s.eths ∧
    (s.setStore k x).landing = s.landing ∧ (s.setStore k x).sent = s.sent ∧ (s.setStore k x).jtag = s.jtag := by
  refine ⟨rfl, rfl, rfl, rfl, rfl, rfl, rfl, rfl, rfl, rfl, rfl, rfl, rfl, rfl, rfl, rfl, rfl, rfl, rfl, rfl, rfl, rfl, rfl, rfl, rfl, rfl, rfl, rfl, rfl, rfl, rfl, rfl, rfl, rfl, rfl, rfl, rfl, rfl, rfl, rfl, rfl, rfl, rfl, rfl, rfl, rfl, rfl, rfl, rfl, rfl, rfl, rfl, rfl, rfl⟩

/-- What State.setStore sets is read. -/
@[simp] theorem store_setStore (s : State) (k j : Nat) (x : StoreProt) :
    (s.setStore k x).store j = if j = k then x else s.store j := by
  simp only [State.setStore, State.store, look_put]

/-- State.setChan changes chans only. -/
@[simp] theorem setChan_frame (s : State) (k : Nat) (x : Chan) :
    (s.setChan k x).pending = s.pending ∧ (s.setChan k x).free = s.free ∧ (s.setChan k x).member = s.member ∧
    (s.setChan k x).regs = s.regs ∧ (s.setChan k x).doms = s.doms ∧ (s.setChan k x).recent = s.recent ∧
    (s.setChan k x).clock = s.clock ∧ (s.setChan k x).tattoo = s.tattoo ∧ (s.setChan k x).links = s.links ∧
    (s.setChan k x).cal = s.cal ∧ (s.setChan k x).ptp = s.ptp ∧ (s.setChan k x).epochs = s.epochs ∧
    (s.setChan k x).applied = s.applied ∧ (s.setChan k x).glinks = s.glinks ∧ (s.setChan k x).flight = s.flight ∧
    (s.setChan k x).issued = s.issued ∧ (s.setChan k x).gens = s.gens ∧ (s.setChan k x).outs = s.outs ∧
    (s.setChan k x).seqs = s.seqs ∧ (s.setChan k x).stores = s.stores ∧ (s.setChan k x).fires = s.fires ∧
    (s.setChan k x).power = s.power ∧ (s.setChan k x).sleep = s.sleep ∧ (s.setChan k x).shut = s.shut ∧
    (s.setChan k x).dies = s.dies ∧ (s.setChan k x).nv = s.nv ∧ (s.setChan k x).slots = s.slots ∧
    (s.setChan k x).ports = s.ports ∧ (s.setChan k x).subs = s.subs ∧ (s.setChan k x).forwards = s.forwards ∧
    (s.setChan k x).removals = s.removals ∧ (s.setChan k x).demods = s.demods ∧ (s.setChan k x).inputs = s.inputs ∧
    (s.setChan k x).lanes = s.lanes ∧ (s.setChan k x).fports = s.fports ∧ (s.setChan k x).routes = s.routes ∧
    (s.setChan k x).devices = s.devices ∧ (s.setChan k x).floodAt = s.floodAt ∧ (s.setChan k x).linkChanged = s.linkChanged ∧
    (s.setChan k x).marks = s.marks ∧ (s.setChan k x).dsps = s.dsps ∧ (s.setChan k x).tones = s.tones ∧
    (s.setChan k x).majs = s.majs ∧ (s.setChan k x).acqs = s.acqs ∧ (s.setChan k x).later = s.later ∧
    (s.setChan k x).recSubs = s.recSubs ∧ (s.setChan k x).sessions = s.sessions ∧ (s.setChan k x).biases = s.biases ∧
    (s.setChan k x).biasTurns = s.biasTurns ∧ (s.setChan k x).channels = s.channels ∧ (s.setChan k x).eths = s.eths ∧
    (s.setChan k x).landing = s.landing ∧ (s.setChan k x).sent = s.sent ∧ (s.setChan k x).jtag = s.jtag := by
  refine ⟨rfl, rfl, rfl, rfl, rfl, rfl, rfl, rfl, rfl, rfl, rfl, rfl, rfl, rfl, rfl, rfl, rfl, rfl, rfl, rfl, rfl, rfl, rfl, rfl, rfl, rfl, rfl, rfl, rfl, rfl, rfl, rfl, rfl, rfl, rfl, rfl, rfl, rfl, rfl, rfl, rfl, rfl, rfl, rfl, rfl, rfl, rfl, rfl, rfl, rfl, rfl, rfl, rfl, rfl⟩

/-- What State.setChan sets is read. -/
@[simp] theorem chan_setChan (s : State) (k j : Nat) (x : Chan) :
    (s.setChan k x).chan j = if j = k then x else s.chan j := by
  simp only [State.setChan, State.chan, look_put]

/-- State.setDom changes power only. -/
@[simp] theorem setDom_frame (s : State) (k : Nat) (x : PDom) :
    (s.setDom k x).pending = s.pending ∧ (s.setDom k x).free = s.free ∧ (s.setDom k x).member = s.member ∧
    (s.setDom k x).regs = s.regs ∧ (s.setDom k x).doms = s.doms ∧ (s.setDom k x).recent = s.recent ∧
    (s.setDom k x).clock = s.clock ∧ (s.setDom k x).tattoo = s.tattoo ∧ (s.setDom k x).links = s.links ∧
    (s.setDom k x).cal = s.cal ∧ (s.setDom k x).ptp = s.ptp ∧ (s.setDom k x).epochs = s.epochs ∧
    (s.setDom k x).applied = s.applied ∧ (s.setDom k x).glinks = s.glinks ∧ (s.setDom k x).flight = s.flight ∧
    (s.setDom k x).issued = s.issued ∧ (s.setDom k x).gens = s.gens ∧ (s.setDom k x).outs = s.outs ∧
    (s.setDom k x).seqs = s.seqs ∧ (s.setDom k x).stores = s.stores ∧ (s.setDom k x).chans = s.chans ∧
    (s.setDom k x).fires = s.fires ∧ (s.setDom k x).sleep = s.sleep ∧ (s.setDom k x).shut = s.shut ∧
    (s.setDom k x).dies = s.dies ∧ (s.setDom k x).nv = s.nv ∧ (s.setDom k x).slots = s.slots ∧
    (s.setDom k x).ports = s.ports ∧ (s.setDom k x).subs = s.subs ∧ (s.setDom k x).forwards = s.forwards ∧
    (s.setDom k x).removals = s.removals ∧ (s.setDom k x).demods = s.demods ∧ (s.setDom k x).inputs = s.inputs ∧
    (s.setDom k x).lanes = s.lanes ∧ (s.setDom k x).fports = s.fports ∧ (s.setDom k x).routes = s.routes ∧
    (s.setDom k x).devices = s.devices ∧ (s.setDom k x).floodAt = s.floodAt ∧ (s.setDom k x).linkChanged = s.linkChanged ∧
    (s.setDom k x).marks = s.marks ∧ (s.setDom k x).dsps = s.dsps ∧ (s.setDom k x).tones = s.tones ∧
    (s.setDom k x).majs = s.majs ∧ (s.setDom k x).acqs = s.acqs ∧ (s.setDom k x).later = s.later ∧
    (s.setDom k x).recSubs = s.recSubs ∧ (s.setDom k x).sessions = s.sessions ∧ (s.setDom k x).biases = s.biases ∧
    (s.setDom k x).biasTurns = s.biasTurns ∧ (s.setDom k x).channels = s.channels ∧ (s.setDom k x).eths = s.eths ∧
    (s.setDom k x).landing = s.landing ∧ (s.setDom k x).sent = s.sent ∧ (s.setDom k x).jtag = s.jtag := by
  refine ⟨rfl, rfl, rfl, rfl, rfl, rfl, rfl, rfl, rfl, rfl, rfl, rfl, rfl, rfl, rfl, rfl, rfl, rfl, rfl, rfl, rfl, rfl, rfl, rfl, rfl, rfl, rfl, rfl, rfl, rfl, rfl, rfl, rfl, rfl, rfl, rfl, rfl, rfl, rfl, rfl, rfl, rfl, rfl, rfl, rfl, rfl, rfl, rfl, rfl, rfl, rfl, rfl, rfl, rfl⟩

/-- What State.setDom sets is read. -/
@[simp] theorem dom_setDom (s : State) (k j : Nat) (x : PDom) :
    (s.setDom k x).dom j = if j = k then x else s.dom j := by
  simp only [State.setDom, State.dom, look_put]

/-- State.setDie changes dies only. -/
@[simp] theorem setDie_frame (s : State) (k : Nat) (x : DieSt) :
    (s.setDie k x).pending = s.pending ∧ (s.setDie k x).free = s.free ∧ (s.setDie k x).member = s.member ∧
    (s.setDie k x).regs = s.regs ∧ (s.setDie k x).doms = s.doms ∧ (s.setDie k x).recent = s.recent ∧
    (s.setDie k x).clock = s.clock ∧ (s.setDie k x).tattoo = s.tattoo ∧ (s.setDie k x).links = s.links ∧
    (s.setDie k x).cal = s.cal ∧ (s.setDie k x).ptp = s.ptp ∧ (s.setDie k x).epochs = s.epochs ∧
    (s.setDie k x).applied = s.applied ∧ (s.setDie k x).glinks = s.glinks ∧ (s.setDie k x).flight = s.flight ∧
    (s.setDie k x).issued = s.issued ∧ (s.setDie k x).gens = s.gens ∧ (s.setDie k x).outs = s.outs ∧
    (s.setDie k x).seqs = s.seqs ∧ (s.setDie k x).stores = s.stores ∧ (s.setDie k x).chans = s.chans ∧
    (s.setDie k x).fires = s.fires ∧ (s.setDie k x).power = s.power ∧ (s.setDie k x).sleep = s.sleep ∧
    (s.setDie k x).shut = s.shut ∧ (s.setDie k x).nv = s.nv ∧ (s.setDie k x).slots = s.slots ∧
    (s.setDie k x).ports = s.ports ∧ (s.setDie k x).subs = s.subs ∧ (s.setDie k x).forwards = s.forwards ∧
    (s.setDie k x).removals = s.removals ∧ (s.setDie k x).demods = s.demods ∧ (s.setDie k x).inputs = s.inputs ∧
    (s.setDie k x).lanes = s.lanes ∧ (s.setDie k x).fports = s.fports ∧ (s.setDie k x).routes = s.routes ∧
    (s.setDie k x).devices = s.devices ∧ (s.setDie k x).floodAt = s.floodAt ∧ (s.setDie k x).linkChanged = s.linkChanged ∧
    (s.setDie k x).marks = s.marks ∧ (s.setDie k x).dsps = s.dsps ∧ (s.setDie k x).tones = s.tones ∧
    (s.setDie k x).majs = s.majs ∧ (s.setDie k x).acqs = s.acqs ∧ (s.setDie k x).later = s.later ∧
    (s.setDie k x).recSubs = s.recSubs ∧ (s.setDie k x).sessions = s.sessions ∧ (s.setDie k x).biases = s.biases ∧
    (s.setDie k x).biasTurns = s.biasTurns ∧ (s.setDie k x).channels = s.channels ∧ (s.setDie k x).eths = s.eths ∧
    (s.setDie k x).landing = s.landing ∧ (s.setDie k x).sent = s.sent ∧ (s.setDie k x).jtag = s.jtag := by
  refine ⟨rfl, rfl, rfl, rfl, rfl, rfl, rfl, rfl, rfl, rfl, rfl, rfl, rfl, rfl, rfl, rfl, rfl, rfl, rfl, rfl, rfl, rfl, rfl, rfl, rfl, rfl, rfl, rfl, rfl, rfl, rfl, rfl, rfl, rfl, rfl, rfl, rfl, rfl, rfl, rfl, rfl, rfl, rfl, rfl, rfl, rfl, rfl, rfl, rfl, rfl, rfl, rfl, rfl, rfl⟩

/-- What State.setDie sets is read. -/
@[simp] theorem die_setDie (s : State) (k j : Nat) (x : DieSt) :
    (s.setDie k x).die j = if j = k then x else s.die j := by
  simp only [State.setDie, State.die, look_put]

/-- State.setSlot changes slots only. -/
@[simp] theorem setSlot_frame (s : State) (k : Nat) (x : Slot) :
    (s.setSlot k x).pending = s.pending ∧ (s.setSlot k x).free = s.free ∧ (s.setSlot k x).member = s.member ∧
    (s.setSlot k x).regs = s.regs ∧ (s.setSlot k x).doms = s.doms ∧ (s.setSlot k x).recent = s.recent ∧
    (s.setSlot k x).clock = s.clock ∧ (s.setSlot k x).tattoo = s.tattoo ∧ (s.setSlot k x).links = s.links ∧
    (s.setSlot k x).cal = s.cal ∧ (s.setSlot k x).ptp = s.ptp ∧ (s.setSlot k x).epochs = s.epochs ∧
    (s.setSlot k x).applied = s.applied ∧ (s.setSlot k x).glinks = s.glinks ∧ (s.setSlot k x).flight = s.flight ∧
    (s.setSlot k x).issued = s.issued ∧ (s.setSlot k x).gens = s.gens ∧ (s.setSlot k x).outs = s.outs ∧
    (s.setSlot k x).seqs = s.seqs ∧ (s.setSlot k x).stores = s.stores ∧ (s.setSlot k x).chans = s.chans ∧
    (s.setSlot k x).fires = s.fires ∧ (s.setSlot k x).power = s.power ∧ (s.setSlot k x).sleep = s.sleep ∧
    (s.setSlot k x).shut = s.shut ∧ (s.setSlot k x).dies = s.dies ∧ (s.setSlot k x).nv = s.nv ∧
    (s.setSlot k x).ports = s.ports ∧ (s.setSlot k x).subs = s.subs ∧ (s.setSlot k x).forwards = s.forwards ∧
    (s.setSlot k x).removals = s.removals ∧ (s.setSlot k x).demods = s.demods ∧ (s.setSlot k x).inputs = s.inputs ∧
    (s.setSlot k x).lanes = s.lanes ∧ (s.setSlot k x).fports = s.fports ∧ (s.setSlot k x).routes = s.routes ∧
    (s.setSlot k x).devices = s.devices ∧ (s.setSlot k x).floodAt = s.floodAt ∧ (s.setSlot k x).linkChanged = s.linkChanged ∧
    (s.setSlot k x).marks = s.marks ∧ (s.setSlot k x).dsps = s.dsps ∧ (s.setSlot k x).tones = s.tones ∧
    (s.setSlot k x).majs = s.majs ∧ (s.setSlot k x).acqs = s.acqs ∧ (s.setSlot k x).later = s.later ∧
    (s.setSlot k x).recSubs = s.recSubs ∧ (s.setSlot k x).sessions = s.sessions ∧ (s.setSlot k x).biases = s.biases ∧
    (s.setSlot k x).biasTurns = s.biasTurns ∧ (s.setSlot k x).channels = s.channels ∧ (s.setSlot k x).eths = s.eths ∧
    (s.setSlot k x).landing = s.landing ∧ (s.setSlot k x).sent = s.sent ∧ (s.setSlot k x).jtag = s.jtag := by
  refine ⟨rfl, rfl, rfl, rfl, rfl, rfl, rfl, rfl, rfl, rfl, rfl, rfl, rfl, rfl, rfl, rfl, rfl, rfl, rfl, rfl, rfl, rfl, rfl, rfl, rfl, rfl, rfl, rfl, rfl, rfl, rfl, rfl, rfl, rfl, rfl, rfl, rfl, rfl, rfl, rfl, rfl, rfl, rfl, rfl, rfl, rfl, rfl, rfl, rfl, rfl, rfl, rfl, rfl, rfl⟩

/-- What State.setSlot sets is read. -/
@[simp] theorem slot_setSlot (s : State) (k j : Nat) (x : Slot) :
    (s.setSlot k x).slot j = if j = k then x else s.slot j := by
  simp only [State.setSlot, State.slot, look_put]

/-- State.setPort changes ports only. -/
@[simp] theorem setPort_frame (s : State) (k : Nat) (x : WPort) :
    (s.setPort k x).pending = s.pending ∧ (s.setPort k x).free = s.free ∧ (s.setPort k x).member = s.member ∧
    (s.setPort k x).regs = s.regs ∧ (s.setPort k x).doms = s.doms ∧ (s.setPort k x).recent = s.recent ∧
    (s.setPort k x).clock = s.clock ∧ (s.setPort k x).tattoo = s.tattoo ∧ (s.setPort k x).links = s.links ∧
    (s.setPort k x).cal = s.cal ∧ (s.setPort k x).ptp = s.ptp ∧ (s.setPort k x).epochs = s.epochs ∧
    (s.setPort k x).applied = s.applied ∧ (s.setPort k x).glinks = s.glinks ∧ (s.setPort k x).flight = s.flight ∧
    (s.setPort k x).issued = s.issued ∧ (s.setPort k x).gens = s.gens ∧ (s.setPort k x).outs = s.outs ∧
    (s.setPort k x).seqs = s.seqs ∧ (s.setPort k x).stores = s.stores ∧ (s.setPort k x).chans = s.chans ∧
    (s.setPort k x).fires = s.fires ∧ (s.setPort k x).power = s.power ∧ (s.setPort k x).sleep = s.sleep ∧
    (s.setPort k x).shut = s.shut ∧ (s.setPort k x).dies = s.dies ∧ (s.setPort k x).nv = s.nv ∧
    (s.setPort k x).slots = s.slots ∧ (s.setPort k x).subs = s.subs ∧ (s.setPort k x).forwards = s.forwards ∧
    (s.setPort k x).removals = s.removals ∧ (s.setPort k x).demods = s.demods ∧ (s.setPort k x).inputs = s.inputs ∧
    (s.setPort k x).lanes = s.lanes ∧ (s.setPort k x).fports = s.fports ∧ (s.setPort k x).routes = s.routes ∧
    (s.setPort k x).devices = s.devices ∧ (s.setPort k x).floodAt = s.floodAt ∧ (s.setPort k x).linkChanged = s.linkChanged ∧
    (s.setPort k x).marks = s.marks ∧ (s.setPort k x).dsps = s.dsps ∧ (s.setPort k x).tones = s.tones ∧
    (s.setPort k x).majs = s.majs ∧ (s.setPort k x).acqs = s.acqs ∧ (s.setPort k x).later = s.later ∧
    (s.setPort k x).recSubs = s.recSubs ∧ (s.setPort k x).sessions = s.sessions ∧ (s.setPort k x).biases = s.biases ∧
    (s.setPort k x).biasTurns = s.biasTurns ∧ (s.setPort k x).channels = s.channels ∧ (s.setPort k x).eths = s.eths ∧
    (s.setPort k x).landing = s.landing ∧ (s.setPort k x).sent = s.sent ∧ (s.setPort k x).jtag = s.jtag := by
  refine ⟨rfl, rfl, rfl, rfl, rfl, rfl, rfl, rfl, rfl, rfl, rfl, rfl, rfl, rfl, rfl, rfl, rfl, rfl, rfl, rfl, rfl, rfl, rfl, rfl, rfl, rfl, rfl, rfl, rfl, rfl, rfl, rfl, rfl, rfl, rfl, rfl, rfl, rfl, rfl, rfl, rfl, rfl, rfl, rfl, rfl, rfl, rfl, rfl, rfl, rfl, rfl, rfl, rfl, rfl⟩

/-- What State.setPort sets is read. -/
@[simp] theorem port_setPort (s : State) (k j : Nat) (x : WPort) :
    (s.setPort k x).port j = if j = k then x else s.port j := by
  simp only [State.setPort, State.port, look_put]

/-- State.setSub changes subs only. -/
@[simp] theorem setSub_frame (s : State) (k : Nat) (x : Sub) :
    (s.setSub k x).pending = s.pending ∧ (s.setSub k x).free = s.free ∧ (s.setSub k x).member = s.member ∧
    (s.setSub k x).regs = s.regs ∧ (s.setSub k x).doms = s.doms ∧ (s.setSub k x).recent = s.recent ∧
    (s.setSub k x).clock = s.clock ∧ (s.setSub k x).tattoo = s.tattoo ∧ (s.setSub k x).links = s.links ∧
    (s.setSub k x).cal = s.cal ∧ (s.setSub k x).ptp = s.ptp ∧ (s.setSub k x).epochs = s.epochs ∧
    (s.setSub k x).applied = s.applied ∧ (s.setSub k x).glinks = s.glinks ∧ (s.setSub k x).flight = s.flight ∧
    (s.setSub k x).issued = s.issued ∧ (s.setSub k x).gens = s.gens ∧ (s.setSub k x).outs = s.outs ∧
    (s.setSub k x).seqs = s.seqs ∧ (s.setSub k x).stores = s.stores ∧ (s.setSub k x).chans = s.chans ∧
    (s.setSub k x).fires = s.fires ∧ (s.setSub k x).power = s.power ∧ (s.setSub k x).sleep = s.sleep ∧
    (s.setSub k x).shut = s.shut ∧ (s.setSub k x).dies = s.dies ∧ (s.setSub k x).nv = s.nv ∧
    (s.setSub k x).slots = s.slots ∧ (s.setSub k x).ports = s.ports ∧ (s.setSub k x).forwards = s.forwards ∧
    (s.setSub k x).removals = s.removals ∧ (s.setSub k x).demods = s.demods ∧ (s.setSub k x).inputs = s.inputs ∧
    (s.setSub k x).lanes = s.lanes ∧ (s.setSub k x).fports = s.fports ∧ (s.setSub k x).routes = s.routes ∧
    (s.setSub k x).devices = s.devices ∧ (s.setSub k x).floodAt = s.floodAt ∧ (s.setSub k x).linkChanged = s.linkChanged ∧
    (s.setSub k x).marks = s.marks ∧ (s.setSub k x).dsps = s.dsps ∧ (s.setSub k x).tones = s.tones ∧
    (s.setSub k x).majs = s.majs ∧ (s.setSub k x).acqs = s.acqs ∧ (s.setSub k x).later = s.later ∧
    (s.setSub k x).recSubs = s.recSubs ∧ (s.setSub k x).sessions = s.sessions ∧ (s.setSub k x).biases = s.biases ∧
    (s.setSub k x).biasTurns = s.biasTurns ∧ (s.setSub k x).channels = s.channels ∧ (s.setSub k x).eths = s.eths ∧
    (s.setSub k x).landing = s.landing ∧ (s.setSub k x).sent = s.sent ∧ (s.setSub k x).jtag = s.jtag := by
  refine ⟨rfl, rfl, rfl, rfl, rfl, rfl, rfl, rfl, rfl, rfl, rfl, rfl, rfl, rfl, rfl, rfl, rfl, rfl, rfl, rfl, rfl, rfl, rfl, rfl, rfl, rfl, rfl, rfl, rfl, rfl, rfl, rfl, rfl, rfl, rfl, rfl, rfl, rfl, rfl, rfl, rfl, rfl, rfl, rfl, rfl, rfl, rfl, rfl, rfl, rfl, rfl, rfl, rfl, rfl⟩

/-- What State.setSub sets is read. -/
@[simp] theorem sub_setSub (s : State) (k j : Nat) (x : Sub) :
    (s.setSub k x).sub j = if j = k then x else s.sub j := by
  simp only [State.setSub, State.sub, look_put]

/-- State.setDemod changes demods only. -/
@[simp] theorem setDemod_frame (s : State) (k : Nat) (x : Demod) :
    (s.setDemod k x).pending = s.pending ∧ (s.setDemod k x).free = s.free ∧ (s.setDemod k x).member = s.member ∧
    (s.setDemod k x).regs = s.regs ∧ (s.setDemod k x).doms = s.doms ∧ (s.setDemod k x).recent = s.recent ∧
    (s.setDemod k x).clock = s.clock ∧ (s.setDemod k x).tattoo = s.tattoo ∧ (s.setDemod k x).links = s.links ∧
    (s.setDemod k x).cal = s.cal ∧ (s.setDemod k x).ptp = s.ptp ∧ (s.setDemod k x).epochs = s.epochs ∧
    (s.setDemod k x).applied = s.applied ∧ (s.setDemod k x).glinks = s.glinks ∧ (s.setDemod k x).flight = s.flight ∧
    (s.setDemod k x).issued = s.issued ∧ (s.setDemod k x).gens = s.gens ∧ (s.setDemod k x).outs = s.outs ∧
    (s.setDemod k x).seqs = s.seqs ∧ (s.setDemod k x).stores = s.stores ∧ (s.setDemod k x).chans = s.chans ∧
    (s.setDemod k x).fires = s.fires ∧ (s.setDemod k x).power = s.power ∧ (s.setDemod k x).sleep = s.sleep ∧
    (s.setDemod k x).shut = s.shut ∧ (s.setDemod k x).dies = s.dies ∧ (s.setDemod k x).nv = s.nv ∧
    (s.setDemod k x).slots = s.slots ∧ (s.setDemod k x).ports = s.ports ∧ (s.setDemod k x).subs = s.subs ∧
    (s.setDemod k x).forwards = s.forwards ∧ (s.setDemod k x).removals = s.removals ∧ (s.setDemod k x).inputs = s.inputs ∧
    (s.setDemod k x).lanes = s.lanes ∧ (s.setDemod k x).fports = s.fports ∧ (s.setDemod k x).routes = s.routes ∧
    (s.setDemod k x).devices = s.devices ∧ (s.setDemod k x).floodAt = s.floodAt ∧ (s.setDemod k x).linkChanged = s.linkChanged ∧
    (s.setDemod k x).marks = s.marks ∧ (s.setDemod k x).dsps = s.dsps ∧ (s.setDemod k x).tones = s.tones ∧
    (s.setDemod k x).majs = s.majs ∧ (s.setDemod k x).acqs = s.acqs ∧ (s.setDemod k x).later = s.later ∧
    (s.setDemod k x).recSubs = s.recSubs ∧ (s.setDemod k x).sessions = s.sessions ∧ (s.setDemod k x).biases = s.biases ∧
    (s.setDemod k x).biasTurns = s.biasTurns ∧ (s.setDemod k x).channels = s.channels ∧ (s.setDemod k x).eths = s.eths ∧
    (s.setDemod k x).landing = s.landing ∧ (s.setDemod k x).sent = s.sent ∧ (s.setDemod k x).jtag = s.jtag := by
  refine ⟨rfl, rfl, rfl, rfl, rfl, rfl, rfl, rfl, rfl, rfl, rfl, rfl, rfl, rfl, rfl, rfl, rfl, rfl, rfl, rfl, rfl, rfl, rfl, rfl, rfl, rfl, rfl, rfl, rfl, rfl, rfl, rfl, rfl, rfl, rfl, rfl, rfl, rfl, rfl, rfl, rfl, rfl, rfl, rfl, rfl, rfl, rfl, rfl, rfl, rfl, rfl, rfl, rfl, rfl⟩

/-- What State.setDemod sets is read. -/
@[simp] theorem demod_setDemod (s : State) (k j : Nat) (x : Demod) :
    (s.setDemod k x).demod j = if j = k then x else s.demod j := by
  simp only [State.setDemod, State.demod, look_put]

/-- State.setRfIn changes inputs only. -/
@[simp] theorem setRfIn_frame (s : State) (k : Nat) (x : RfIn) :
    (s.setRfIn k x).pending = s.pending ∧ (s.setRfIn k x).free = s.free ∧ (s.setRfIn k x).member = s.member ∧
    (s.setRfIn k x).regs = s.regs ∧ (s.setRfIn k x).doms = s.doms ∧ (s.setRfIn k x).recent = s.recent ∧
    (s.setRfIn k x).clock = s.clock ∧ (s.setRfIn k x).tattoo = s.tattoo ∧ (s.setRfIn k x).links = s.links ∧
    (s.setRfIn k x).cal = s.cal ∧ (s.setRfIn k x).ptp = s.ptp ∧ (s.setRfIn k x).epochs = s.epochs ∧
    (s.setRfIn k x).applied = s.applied ∧ (s.setRfIn k x).glinks = s.glinks ∧ (s.setRfIn k x).flight = s.flight ∧
    (s.setRfIn k x).issued = s.issued ∧ (s.setRfIn k x).gens = s.gens ∧ (s.setRfIn k x).outs = s.outs ∧
    (s.setRfIn k x).seqs = s.seqs ∧ (s.setRfIn k x).stores = s.stores ∧ (s.setRfIn k x).chans = s.chans ∧
    (s.setRfIn k x).fires = s.fires ∧ (s.setRfIn k x).power = s.power ∧ (s.setRfIn k x).sleep = s.sleep ∧
    (s.setRfIn k x).shut = s.shut ∧ (s.setRfIn k x).dies = s.dies ∧ (s.setRfIn k x).nv = s.nv ∧
    (s.setRfIn k x).slots = s.slots ∧ (s.setRfIn k x).ports = s.ports ∧ (s.setRfIn k x).subs = s.subs ∧
    (s.setRfIn k x).forwards = s.forwards ∧ (s.setRfIn k x).removals = s.removals ∧ (s.setRfIn k x).demods = s.demods ∧
    (s.setRfIn k x).lanes = s.lanes ∧ (s.setRfIn k x).fports = s.fports ∧ (s.setRfIn k x).routes = s.routes ∧
    (s.setRfIn k x).devices = s.devices ∧ (s.setRfIn k x).floodAt = s.floodAt ∧ (s.setRfIn k x).linkChanged = s.linkChanged ∧
    (s.setRfIn k x).marks = s.marks ∧ (s.setRfIn k x).dsps = s.dsps ∧ (s.setRfIn k x).tones = s.tones ∧
    (s.setRfIn k x).majs = s.majs ∧ (s.setRfIn k x).acqs = s.acqs ∧ (s.setRfIn k x).later = s.later ∧
    (s.setRfIn k x).recSubs = s.recSubs ∧ (s.setRfIn k x).sessions = s.sessions ∧ (s.setRfIn k x).biases = s.biases ∧
    (s.setRfIn k x).biasTurns = s.biasTurns ∧ (s.setRfIn k x).channels = s.channels ∧ (s.setRfIn k x).eths = s.eths ∧
    (s.setRfIn k x).landing = s.landing ∧ (s.setRfIn k x).sent = s.sent ∧ (s.setRfIn k x).jtag = s.jtag := by
  refine ⟨rfl, rfl, rfl, rfl, rfl, rfl, rfl, rfl, rfl, rfl, rfl, rfl, rfl, rfl, rfl, rfl, rfl, rfl, rfl, rfl, rfl, rfl, rfl, rfl, rfl, rfl, rfl, rfl, rfl, rfl, rfl, rfl, rfl, rfl, rfl, rfl, rfl, rfl, rfl, rfl, rfl, rfl, rfl, rfl, rfl, rfl, rfl, rfl, rfl, rfl, rfl, rfl, rfl, rfl⟩

/-- What State.setRfIn sets is read. -/
@[simp] theorem rfIn_setRfIn (s : State) (k j : Nat) (x : RfIn) :
    (s.setRfIn k x).rfIn j = if j = k then x else s.rfIn j := by
  simp only [State.setRfIn, State.rfIn, look_put]

/-- State.setLane changes lanes only. -/
@[simp] theorem setLane_frame (s : State) (k : Nat) (x : Lane) :
    (s.setLane k x).pending = s.pending ∧ (s.setLane k x).free = s.free ∧ (s.setLane k x).member = s.member ∧
    (s.setLane k x).regs = s.regs ∧ (s.setLane k x).doms = s.doms ∧ (s.setLane k x).recent = s.recent ∧
    (s.setLane k x).clock = s.clock ∧ (s.setLane k x).tattoo = s.tattoo ∧ (s.setLane k x).links = s.links ∧
    (s.setLane k x).cal = s.cal ∧ (s.setLane k x).ptp = s.ptp ∧ (s.setLane k x).epochs = s.epochs ∧
    (s.setLane k x).applied = s.applied ∧ (s.setLane k x).glinks = s.glinks ∧ (s.setLane k x).flight = s.flight ∧
    (s.setLane k x).issued = s.issued ∧ (s.setLane k x).gens = s.gens ∧ (s.setLane k x).outs = s.outs ∧
    (s.setLane k x).seqs = s.seqs ∧ (s.setLane k x).stores = s.stores ∧ (s.setLane k x).chans = s.chans ∧
    (s.setLane k x).fires = s.fires ∧ (s.setLane k x).power = s.power ∧ (s.setLane k x).sleep = s.sleep ∧
    (s.setLane k x).shut = s.shut ∧ (s.setLane k x).dies = s.dies ∧ (s.setLane k x).nv = s.nv ∧
    (s.setLane k x).slots = s.slots ∧ (s.setLane k x).ports = s.ports ∧ (s.setLane k x).subs = s.subs ∧
    (s.setLane k x).forwards = s.forwards ∧ (s.setLane k x).removals = s.removals ∧ (s.setLane k x).demods = s.demods ∧
    (s.setLane k x).inputs = s.inputs ∧ (s.setLane k x).fports = s.fports ∧ (s.setLane k x).routes = s.routes ∧
    (s.setLane k x).devices = s.devices ∧ (s.setLane k x).floodAt = s.floodAt ∧ (s.setLane k x).linkChanged = s.linkChanged ∧
    (s.setLane k x).marks = s.marks ∧ (s.setLane k x).dsps = s.dsps ∧ (s.setLane k x).tones = s.tones ∧
    (s.setLane k x).majs = s.majs ∧ (s.setLane k x).acqs = s.acqs ∧ (s.setLane k x).later = s.later ∧
    (s.setLane k x).recSubs = s.recSubs ∧ (s.setLane k x).sessions = s.sessions ∧ (s.setLane k x).biases = s.biases ∧
    (s.setLane k x).biasTurns = s.biasTurns ∧ (s.setLane k x).channels = s.channels ∧ (s.setLane k x).eths = s.eths ∧
    (s.setLane k x).landing = s.landing ∧ (s.setLane k x).sent = s.sent ∧ (s.setLane k x).jtag = s.jtag := by
  refine ⟨rfl, rfl, rfl, rfl, rfl, rfl, rfl, rfl, rfl, rfl, rfl, rfl, rfl, rfl, rfl, rfl, rfl, rfl, rfl, rfl, rfl, rfl, rfl, rfl, rfl, rfl, rfl, rfl, rfl, rfl, rfl, rfl, rfl, rfl, rfl, rfl, rfl, rfl, rfl, rfl, rfl, rfl, rfl, rfl, rfl, rfl, rfl, rfl, rfl, rfl, rfl, rfl, rfl, rfl⟩

/-- What State.setLane sets is read. -/
@[simp] theorem lane_setLane (s : State) (k j : Nat) (x : Lane) :
    (s.setLane k x).lane j = if j = k then x else s.lane j := by
  simp only [State.setLane, State.lane, look_put]

/-- State.setFport changes fports only. -/
@[simp] theorem setFport_frame (s : State) (k : Nat) (x : FPort) :
    (s.setFport k x).pending = s.pending ∧ (s.setFport k x).free = s.free ∧ (s.setFport k x).member = s.member ∧
    (s.setFport k x).regs = s.regs ∧ (s.setFport k x).doms = s.doms ∧ (s.setFport k x).recent = s.recent ∧
    (s.setFport k x).clock = s.clock ∧ (s.setFport k x).tattoo = s.tattoo ∧ (s.setFport k x).links = s.links ∧
    (s.setFport k x).cal = s.cal ∧ (s.setFport k x).ptp = s.ptp ∧ (s.setFport k x).epochs = s.epochs ∧
    (s.setFport k x).applied = s.applied ∧ (s.setFport k x).glinks = s.glinks ∧ (s.setFport k x).flight = s.flight ∧
    (s.setFport k x).issued = s.issued ∧ (s.setFport k x).gens = s.gens ∧ (s.setFport k x).outs = s.outs ∧
    (s.setFport k x).seqs = s.seqs ∧ (s.setFport k x).stores = s.stores ∧ (s.setFport k x).chans = s.chans ∧
    (s.setFport k x).fires = s.fires ∧ (s.setFport k x).power = s.power ∧ (s.setFport k x).sleep = s.sleep ∧
    (s.setFport k x).shut = s.shut ∧ (s.setFport k x).dies = s.dies ∧ (s.setFport k x).nv = s.nv ∧
    (s.setFport k x).slots = s.slots ∧ (s.setFport k x).ports = s.ports ∧ (s.setFport k x).subs = s.subs ∧
    (s.setFport k x).forwards = s.forwards ∧ (s.setFport k x).removals = s.removals ∧ (s.setFport k x).demods = s.demods ∧
    (s.setFport k x).inputs = s.inputs ∧ (s.setFport k x).lanes = s.lanes ∧ (s.setFport k x).routes = s.routes ∧
    (s.setFport k x).devices = s.devices ∧ (s.setFport k x).floodAt = s.floodAt ∧ (s.setFport k x).linkChanged = s.linkChanged ∧
    (s.setFport k x).marks = s.marks ∧ (s.setFport k x).dsps = s.dsps ∧ (s.setFport k x).tones = s.tones ∧
    (s.setFport k x).majs = s.majs ∧ (s.setFport k x).acqs = s.acqs ∧ (s.setFport k x).later = s.later ∧
    (s.setFport k x).recSubs = s.recSubs ∧ (s.setFport k x).sessions = s.sessions ∧ (s.setFport k x).biases = s.biases ∧
    (s.setFport k x).biasTurns = s.biasTurns ∧ (s.setFport k x).channels = s.channels ∧ (s.setFport k x).eths = s.eths ∧
    (s.setFport k x).landing = s.landing ∧ (s.setFport k x).sent = s.sent ∧ (s.setFport k x).jtag = s.jtag := by
  refine ⟨rfl, rfl, rfl, rfl, rfl, rfl, rfl, rfl, rfl, rfl, rfl, rfl, rfl, rfl, rfl, rfl, rfl, rfl, rfl, rfl, rfl, rfl, rfl, rfl, rfl, rfl, rfl, rfl, rfl, rfl, rfl, rfl, rfl, rfl, rfl, rfl, rfl, rfl, rfl, rfl, rfl, rfl, rfl, rfl, rfl, rfl, rfl, rfl, rfl, rfl, rfl, rfl, rfl, rfl⟩

/-- What State.setFport sets is read. -/
@[simp] theorem fport_setFport (s : State) (k j : Nat) (x : FPort) :
    (s.setFport k x).fport j = if j = k then x else s.fport j := by
  simp only [State.setFport, State.fport, look_put]

/-- State.setFRoute changes routes only. -/
@[simp] theorem setFRoute_frame (s : State) (k : Nat) (x : Route) :
    (s.setFRoute k x).pending = s.pending ∧ (s.setFRoute k x).free = s.free ∧ (s.setFRoute k x).member = s.member ∧
    (s.setFRoute k x).regs = s.regs ∧ (s.setFRoute k x).doms = s.doms ∧ (s.setFRoute k x).recent = s.recent ∧
    (s.setFRoute k x).clock = s.clock ∧ (s.setFRoute k x).tattoo = s.tattoo ∧ (s.setFRoute k x).links = s.links ∧
    (s.setFRoute k x).cal = s.cal ∧ (s.setFRoute k x).ptp = s.ptp ∧ (s.setFRoute k x).epochs = s.epochs ∧
    (s.setFRoute k x).applied = s.applied ∧ (s.setFRoute k x).glinks = s.glinks ∧ (s.setFRoute k x).flight = s.flight ∧
    (s.setFRoute k x).issued = s.issued ∧ (s.setFRoute k x).gens = s.gens ∧ (s.setFRoute k x).outs = s.outs ∧
    (s.setFRoute k x).seqs = s.seqs ∧ (s.setFRoute k x).stores = s.stores ∧ (s.setFRoute k x).chans = s.chans ∧
    (s.setFRoute k x).fires = s.fires ∧ (s.setFRoute k x).power = s.power ∧ (s.setFRoute k x).sleep = s.sleep ∧
    (s.setFRoute k x).shut = s.shut ∧ (s.setFRoute k x).dies = s.dies ∧ (s.setFRoute k x).nv = s.nv ∧
    (s.setFRoute k x).slots = s.slots ∧ (s.setFRoute k x).ports = s.ports ∧ (s.setFRoute k x).subs = s.subs ∧
    (s.setFRoute k x).forwards = s.forwards ∧ (s.setFRoute k x).removals = s.removals ∧ (s.setFRoute k x).demods = s.demods ∧
    (s.setFRoute k x).inputs = s.inputs ∧ (s.setFRoute k x).lanes = s.lanes ∧ (s.setFRoute k x).fports = s.fports ∧
    (s.setFRoute k x).devices = s.devices ∧ (s.setFRoute k x).floodAt = s.floodAt ∧ (s.setFRoute k x).linkChanged = s.linkChanged ∧
    (s.setFRoute k x).marks = s.marks ∧ (s.setFRoute k x).dsps = s.dsps ∧ (s.setFRoute k x).tones = s.tones ∧
    (s.setFRoute k x).majs = s.majs ∧ (s.setFRoute k x).acqs = s.acqs ∧ (s.setFRoute k x).later = s.later ∧
    (s.setFRoute k x).recSubs = s.recSubs ∧ (s.setFRoute k x).sessions = s.sessions ∧ (s.setFRoute k x).biases = s.biases ∧
    (s.setFRoute k x).biasTurns = s.biasTurns ∧ (s.setFRoute k x).channels = s.channels ∧ (s.setFRoute k x).eths = s.eths ∧
    (s.setFRoute k x).landing = s.landing ∧ (s.setFRoute k x).sent = s.sent ∧ (s.setFRoute k x).jtag = s.jtag := by
  refine ⟨rfl, rfl, rfl, rfl, rfl, rfl, rfl, rfl, rfl, rfl, rfl, rfl, rfl, rfl, rfl, rfl, rfl, rfl, rfl, rfl, rfl, rfl, rfl, rfl, rfl, rfl, rfl, rfl, rfl, rfl, rfl, rfl, rfl, rfl, rfl, rfl, rfl, rfl, rfl, rfl, rfl, rfl, rfl, rfl, rfl, rfl, rfl, rfl, rfl, rfl, rfl, rfl, rfl, rfl⟩

/-- What State.setFRoute sets is read. -/
@[simp] theorem fRoute_setFRoute (s : State) (k j : Nat) (x : Route) :
    (s.setFRoute k x).fRoute j = if j = k then x else s.fRoute j := by
  simp only [State.setFRoute, State.fRoute, look_put]

/-- State.setDsp changes dsps only. -/
@[simp] theorem setDsp_frame (s : State) (k : Nat) (x : Dsp) :
    (s.setDsp k x).pending = s.pending ∧ (s.setDsp k x).free = s.free ∧ (s.setDsp k x).member = s.member ∧
    (s.setDsp k x).regs = s.regs ∧ (s.setDsp k x).doms = s.doms ∧ (s.setDsp k x).recent = s.recent ∧
    (s.setDsp k x).clock = s.clock ∧ (s.setDsp k x).tattoo = s.tattoo ∧ (s.setDsp k x).links = s.links ∧
    (s.setDsp k x).cal = s.cal ∧ (s.setDsp k x).ptp = s.ptp ∧ (s.setDsp k x).epochs = s.epochs ∧
    (s.setDsp k x).applied = s.applied ∧ (s.setDsp k x).glinks = s.glinks ∧ (s.setDsp k x).flight = s.flight ∧
    (s.setDsp k x).issued = s.issued ∧ (s.setDsp k x).gens = s.gens ∧ (s.setDsp k x).outs = s.outs ∧
    (s.setDsp k x).seqs = s.seqs ∧ (s.setDsp k x).stores = s.stores ∧ (s.setDsp k x).chans = s.chans ∧
    (s.setDsp k x).fires = s.fires ∧ (s.setDsp k x).power = s.power ∧ (s.setDsp k x).sleep = s.sleep ∧
    (s.setDsp k x).shut = s.shut ∧ (s.setDsp k x).dies = s.dies ∧ (s.setDsp k x).nv = s.nv ∧
    (s.setDsp k x).slots = s.slots ∧ (s.setDsp k x).ports = s.ports ∧ (s.setDsp k x).subs = s.subs ∧
    (s.setDsp k x).forwards = s.forwards ∧ (s.setDsp k x).removals = s.removals ∧ (s.setDsp k x).demods = s.demods ∧
    (s.setDsp k x).inputs = s.inputs ∧ (s.setDsp k x).lanes = s.lanes ∧ (s.setDsp k x).fports = s.fports ∧
    (s.setDsp k x).routes = s.routes ∧ (s.setDsp k x).devices = s.devices ∧ (s.setDsp k x).floodAt = s.floodAt ∧
    (s.setDsp k x).linkChanged = s.linkChanged ∧ (s.setDsp k x).marks = s.marks ∧ (s.setDsp k x).tones = s.tones ∧
    (s.setDsp k x).majs = s.majs ∧ (s.setDsp k x).acqs = s.acqs ∧ (s.setDsp k x).later = s.later ∧
    (s.setDsp k x).recSubs = s.recSubs ∧ (s.setDsp k x).sessions = s.sessions ∧ (s.setDsp k x).biases = s.biases ∧
    (s.setDsp k x).biasTurns = s.biasTurns ∧ (s.setDsp k x).channels = s.channels ∧ (s.setDsp k x).eths = s.eths ∧
    (s.setDsp k x).landing = s.landing ∧ (s.setDsp k x).sent = s.sent ∧ (s.setDsp k x).jtag = s.jtag := by
  refine ⟨rfl, rfl, rfl, rfl, rfl, rfl, rfl, rfl, rfl, rfl, rfl, rfl, rfl, rfl, rfl, rfl, rfl, rfl, rfl, rfl, rfl, rfl, rfl, rfl, rfl, rfl, rfl, rfl, rfl, rfl, rfl, rfl, rfl, rfl, rfl, rfl, rfl, rfl, rfl, rfl, rfl, rfl, rfl, rfl, rfl, rfl, rfl, rfl, rfl, rfl, rfl, rfl, rfl, rfl⟩

/-- What State.setDsp sets is read. -/
@[simp] theorem dsp_setDsp (s : State) (k j : Nat) (x : Dsp) :
    (s.setDsp k x).dsp j = if j = k then x else s.dsp j := by
  simp only [State.setDsp, State.dsp, look_put]

/-- State.setTone changes tones only. -/
@[simp] theorem setTone_frame (s : State) (k : Nat) (x : Tone) :
    (s.setTone k x).pending = s.pending ∧ (s.setTone k x).free = s.free ∧ (s.setTone k x).member = s.member ∧
    (s.setTone k x).regs = s.regs ∧ (s.setTone k x).doms = s.doms ∧ (s.setTone k x).recent = s.recent ∧
    (s.setTone k x).clock = s.clock ∧ (s.setTone k x).tattoo = s.tattoo ∧ (s.setTone k x).links = s.links ∧
    (s.setTone k x).cal = s.cal ∧ (s.setTone k x).ptp = s.ptp ∧ (s.setTone k x).epochs = s.epochs ∧
    (s.setTone k x).applied = s.applied ∧ (s.setTone k x).glinks = s.glinks ∧ (s.setTone k x).flight = s.flight ∧
    (s.setTone k x).issued = s.issued ∧ (s.setTone k x).gens = s.gens ∧ (s.setTone k x).outs = s.outs ∧
    (s.setTone k x).seqs = s.seqs ∧ (s.setTone k x).stores = s.stores ∧ (s.setTone k x).chans = s.chans ∧
    (s.setTone k x).fires = s.fires ∧ (s.setTone k x).power = s.power ∧ (s.setTone k x).sleep = s.sleep ∧
    (s.setTone k x).shut = s.shut ∧ (s.setTone k x).dies = s.dies ∧ (s.setTone k x).nv = s.nv ∧
    (s.setTone k x).slots = s.slots ∧ (s.setTone k x).ports = s.ports ∧ (s.setTone k x).subs = s.subs ∧
    (s.setTone k x).forwards = s.forwards ∧ (s.setTone k x).removals = s.removals ∧ (s.setTone k x).demods = s.demods ∧
    (s.setTone k x).inputs = s.inputs ∧ (s.setTone k x).lanes = s.lanes ∧ (s.setTone k x).fports = s.fports ∧
    (s.setTone k x).routes = s.routes ∧ (s.setTone k x).devices = s.devices ∧ (s.setTone k x).floodAt = s.floodAt ∧
    (s.setTone k x).linkChanged = s.linkChanged ∧ (s.setTone k x).marks = s.marks ∧ (s.setTone k x).dsps = s.dsps ∧
    (s.setTone k x).majs = s.majs ∧ (s.setTone k x).acqs = s.acqs ∧ (s.setTone k x).later = s.later ∧
    (s.setTone k x).recSubs = s.recSubs ∧ (s.setTone k x).sessions = s.sessions ∧ (s.setTone k x).biases = s.biases ∧
    (s.setTone k x).biasTurns = s.biasTurns ∧ (s.setTone k x).channels = s.channels ∧ (s.setTone k x).eths = s.eths ∧
    (s.setTone k x).landing = s.landing ∧ (s.setTone k x).sent = s.sent ∧ (s.setTone k x).jtag = s.jtag := by
  refine ⟨rfl, rfl, rfl, rfl, rfl, rfl, rfl, rfl, rfl, rfl, rfl, rfl, rfl, rfl, rfl, rfl, rfl, rfl, rfl, rfl, rfl, rfl, rfl, rfl, rfl, rfl, rfl, rfl, rfl, rfl, rfl, rfl, rfl, rfl, rfl, rfl, rfl, rfl, rfl, rfl, rfl, rfl, rfl, rfl, rfl, rfl, rfl, rfl, rfl, rfl, rfl, rfl, rfl, rfl⟩

/-- What State.setTone sets is read. -/
@[simp] theorem tone_setTone (s : State) (k j : Nat) (x : Tone) :
    (s.setTone k x).tone j = if j = k then x else s.tone j := by
  simp only [State.setTone, State.tone, look_put]

/-- State.setMaj changes majs only. -/
@[simp] theorem setMaj_frame (s : State) (k : Nat) (x : Maj) :
    (s.setMaj k x).pending = s.pending ∧ (s.setMaj k x).free = s.free ∧ (s.setMaj k x).member = s.member ∧
    (s.setMaj k x).regs = s.regs ∧ (s.setMaj k x).doms = s.doms ∧ (s.setMaj k x).recent = s.recent ∧
    (s.setMaj k x).clock = s.clock ∧ (s.setMaj k x).tattoo = s.tattoo ∧ (s.setMaj k x).links = s.links ∧
    (s.setMaj k x).cal = s.cal ∧ (s.setMaj k x).ptp = s.ptp ∧ (s.setMaj k x).epochs = s.epochs ∧
    (s.setMaj k x).applied = s.applied ∧ (s.setMaj k x).glinks = s.glinks ∧ (s.setMaj k x).flight = s.flight ∧
    (s.setMaj k x).issued = s.issued ∧ (s.setMaj k x).gens = s.gens ∧ (s.setMaj k x).outs = s.outs ∧
    (s.setMaj k x).seqs = s.seqs ∧ (s.setMaj k x).stores = s.stores ∧ (s.setMaj k x).chans = s.chans ∧
    (s.setMaj k x).fires = s.fires ∧ (s.setMaj k x).power = s.power ∧ (s.setMaj k x).sleep = s.sleep ∧
    (s.setMaj k x).shut = s.shut ∧ (s.setMaj k x).dies = s.dies ∧ (s.setMaj k x).nv = s.nv ∧
    (s.setMaj k x).slots = s.slots ∧ (s.setMaj k x).ports = s.ports ∧ (s.setMaj k x).subs = s.subs ∧
    (s.setMaj k x).forwards = s.forwards ∧ (s.setMaj k x).removals = s.removals ∧ (s.setMaj k x).demods = s.demods ∧
    (s.setMaj k x).inputs = s.inputs ∧ (s.setMaj k x).lanes = s.lanes ∧ (s.setMaj k x).fports = s.fports ∧
    (s.setMaj k x).routes = s.routes ∧ (s.setMaj k x).devices = s.devices ∧ (s.setMaj k x).floodAt = s.floodAt ∧
    (s.setMaj k x).linkChanged = s.linkChanged ∧ (s.setMaj k x).marks = s.marks ∧ (s.setMaj k x).dsps = s.dsps ∧
    (s.setMaj k x).tones = s.tones ∧ (s.setMaj k x).acqs = s.acqs ∧ (s.setMaj k x).later = s.later ∧
    (s.setMaj k x).recSubs = s.recSubs ∧ (s.setMaj k x).sessions = s.sessions ∧ (s.setMaj k x).biases = s.biases ∧
    (s.setMaj k x).biasTurns = s.biasTurns ∧ (s.setMaj k x).channels = s.channels ∧ (s.setMaj k x).eths = s.eths ∧
    (s.setMaj k x).landing = s.landing ∧ (s.setMaj k x).sent = s.sent ∧ (s.setMaj k x).jtag = s.jtag := by
  refine ⟨rfl, rfl, rfl, rfl, rfl, rfl, rfl, rfl, rfl, rfl, rfl, rfl, rfl, rfl, rfl, rfl, rfl, rfl, rfl, rfl, rfl, rfl, rfl, rfl, rfl, rfl, rfl, rfl, rfl, rfl, rfl, rfl, rfl, rfl, rfl, rfl, rfl, rfl, rfl, rfl, rfl, rfl, rfl, rfl, rfl, rfl, rfl, rfl, rfl, rfl, rfl, rfl, rfl, rfl⟩

/-- What State.setMaj sets is read. -/
@[simp] theorem maj_setMaj (s : State) (k j : Nat) (x : Maj) :
    (s.setMaj k x).maj j = if j = k then x else s.maj j := by
  simp only [State.setMaj, State.maj, look_put]

/-- State.setAcq changes acqs only. -/
@[simp] theorem setAcq_frame (s : State) (k : Nat) (x : Acq) :
    (s.setAcq k x).pending = s.pending ∧ (s.setAcq k x).free = s.free ∧ (s.setAcq k x).member = s.member ∧
    (s.setAcq k x).regs = s.regs ∧ (s.setAcq k x).doms = s.doms ∧ (s.setAcq k x).recent = s.recent ∧
    (s.setAcq k x).clock = s.clock ∧ (s.setAcq k x).tattoo = s.tattoo ∧ (s.setAcq k x).links = s.links ∧
    (s.setAcq k x).cal = s.cal ∧ (s.setAcq k x).ptp = s.ptp ∧ (s.setAcq k x).epochs = s.epochs ∧
    (s.setAcq k x).applied = s.applied ∧ (s.setAcq k x).glinks = s.glinks ∧ (s.setAcq k x).flight = s.flight ∧
    (s.setAcq k x).issued = s.issued ∧ (s.setAcq k x).gens = s.gens ∧ (s.setAcq k x).outs = s.outs ∧
    (s.setAcq k x).seqs = s.seqs ∧ (s.setAcq k x).stores = s.stores ∧ (s.setAcq k x).chans = s.chans ∧
    (s.setAcq k x).fires = s.fires ∧ (s.setAcq k x).power = s.power ∧ (s.setAcq k x).sleep = s.sleep ∧
    (s.setAcq k x).shut = s.shut ∧ (s.setAcq k x).dies = s.dies ∧ (s.setAcq k x).nv = s.nv ∧
    (s.setAcq k x).slots = s.slots ∧ (s.setAcq k x).ports = s.ports ∧ (s.setAcq k x).subs = s.subs ∧
    (s.setAcq k x).forwards = s.forwards ∧ (s.setAcq k x).removals = s.removals ∧ (s.setAcq k x).demods = s.demods ∧
    (s.setAcq k x).inputs = s.inputs ∧ (s.setAcq k x).lanes = s.lanes ∧ (s.setAcq k x).fports = s.fports ∧
    (s.setAcq k x).routes = s.routes ∧ (s.setAcq k x).devices = s.devices ∧ (s.setAcq k x).floodAt = s.floodAt ∧
    (s.setAcq k x).linkChanged = s.linkChanged ∧ (s.setAcq k x).marks = s.marks ∧ (s.setAcq k x).dsps = s.dsps ∧
    (s.setAcq k x).tones = s.tones ∧ (s.setAcq k x).majs = s.majs ∧ (s.setAcq k x).later = s.later ∧
    (s.setAcq k x).recSubs = s.recSubs ∧ (s.setAcq k x).sessions = s.sessions ∧ (s.setAcq k x).biases = s.biases ∧
    (s.setAcq k x).biasTurns = s.biasTurns ∧ (s.setAcq k x).channels = s.channels ∧ (s.setAcq k x).eths = s.eths ∧
    (s.setAcq k x).landing = s.landing ∧ (s.setAcq k x).sent = s.sent ∧ (s.setAcq k x).jtag = s.jtag := by
  refine ⟨rfl, rfl, rfl, rfl, rfl, rfl, rfl, rfl, rfl, rfl, rfl, rfl, rfl, rfl, rfl, rfl, rfl, rfl, rfl, rfl, rfl, rfl, rfl, rfl, rfl, rfl, rfl, rfl, rfl, rfl, rfl, rfl, rfl, rfl, rfl, rfl, rfl, rfl, rfl, rfl, rfl, rfl, rfl, rfl, rfl, rfl, rfl, rfl, rfl, rfl, rfl, rfl, rfl, rfl⟩

/-- What State.setAcq sets is read. -/
@[simp] theorem acq_setAcq (s : State) (k j : Nat) (x : Acq) :
    (s.setAcq k x).acq j = if j = k then x else s.acq j := by
  simp only [State.setAcq, State.acq, look_put]

/-- State.setSession changes sessions only. -/
@[simp] theorem setSession_frame (s : State) (k : Nat) (x : Session) :
    (s.setSession k x).pending = s.pending ∧ (s.setSession k x).free = s.free ∧ (s.setSession k x).member = s.member ∧
    (s.setSession k x).regs = s.regs ∧ (s.setSession k x).doms = s.doms ∧ (s.setSession k x).recent = s.recent ∧
    (s.setSession k x).clock = s.clock ∧ (s.setSession k x).tattoo = s.tattoo ∧ (s.setSession k x).links = s.links ∧
    (s.setSession k x).cal = s.cal ∧ (s.setSession k x).ptp = s.ptp ∧ (s.setSession k x).epochs = s.epochs ∧
    (s.setSession k x).applied = s.applied ∧ (s.setSession k x).glinks = s.glinks ∧ (s.setSession k x).flight = s.flight ∧
    (s.setSession k x).issued = s.issued ∧ (s.setSession k x).gens = s.gens ∧ (s.setSession k x).outs = s.outs ∧
    (s.setSession k x).seqs = s.seqs ∧ (s.setSession k x).stores = s.stores ∧ (s.setSession k x).chans = s.chans ∧
    (s.setSession k x).fires = s.fires ∧ (s.setSession k x).power = s.power ∧ (s.setSession k x).sleep = s.sleep ∧
    (s.setSession k x).shut = s.shut ∧ (s.setSession k x).dies = s.dies ∧ (s.setSession k x).nv = s.nv ∧
    (s.setSession k x).slots = s.slots ∧ (s.setSession k x).ports = s.ports ∧ (s.setSession k x).subs = s.subs ∧
    (s.setSession k x).forwards = s.forwards ∧ (s.setSession k x).removals = s.removals ∧ (s.setSession k x).demods = s.demods ∧
    (s.setSession k x).inputs = s.inputs ∧ (s.setSession k x).lanes = s.lanes ∧ (s.setSession k x).fports = s.fports ∧
    (s.setSession k x).routes = s.routes ∧ (s.setSession k x).devices = s.devices ∧ (s.setSession k x).floodAt = s.floodAt ∧
    (s.setSession k x).linkChanged = s.linkChanged ∧ (s.setSession k x).marks = s.marks ∧ (s.setSession k x).dsps = s.dsps ∧
    (s.setSession k x).tones = s.tones ∧ (s.setSession k x).majs = s.majs ∧ (s.setSession k x).acqs = s.acqs ∧
    (s.setSession k x).later = s.later ∧ (s.setSession k x).recSubs = s.recSubs ∧ (s.setSession k x).biases = s.biases ∧
    (s.setSession k x).biasTurns = s.biasTurns ∧ (s.setSession k x).channels = s.channels ∧ (s.setSession k x).eths = s.eths ∧
    (s.setSession k x).landing = s.landing ∧ (s.setSession k x).sent = s.sent ∧ (s.setSession k x).jtag = s.jtag := by
  refine ⟨rfl, rfl, rfl, rfl, rfl, rfl, rfl, rfl, rfl, rfl, rfl, rfl, rfl, rfl, rfl, rfl, rfl, rfl, rfl, rfl, rfl, rfl, rfl, rfl, rfl, rfl, rfl, rfl, rfl, rfl, rfl, rfl, rfl, rfl, rfl, rfl, rfl, rfl, rfl, rfl, rfl, rfl, rfl, rfl, rfl, rfl, rfl, rfl, rfl, rfl, rfl, rfl, rfl, rfl⟩

/-- What State.setSession sets is read. -/
@[simp] theorem session_setSession (s : State) (k j : Nat) (x : Session) :
    (s.setSession k x).session j = if j = k then x else s.session j := by
  simp only [State.setSession, State.session, look_put]

/-- State.setBias changes biases only. -/
@[simp] theorem setBias_frame (s : State) (k : Nat) (x : Bias) :
    (s.setBias k x).pending = s.pending ∧ (s.setBias k x).free = s.free ∧ (s.setBias k x).member = s.member ∧
    (s.setBias k x).regs = s.regs ∧ (s.setBias k x).doms = s.doms ∧ (s.setBias k x).recent = s.recent ∧
    (s.setBias k x).clock = s.clock ∧ (s.setBias k x).tattoo = s.tattoo ∧ (s.setBias k x).links = s.links ∧
    (s.setBias k x).cal = s.cal ∧ (s.setBias k x).ptp = s.ptp ∧ (s.setBias k x).epochs = s.epochs ∧
    (s.setBias k x).applied = s.applied ∧ (s.setBias k x).glinks = s.glinks ∧ (s.setBias k x).flight = s.flight ∧
    (s.setBias k x).issued = s.issued ∧ (s.setBias k x).gens = s.gens ∧ (s.setBias k x).outs = s.outs ∧
    (s.setBias k x).seqs = s.seqs ∧ (s.setBias k x).stores = s.stores ∧ (s.setBias k x).chans = s.chans ∧
    (s.setBias k x).fires = s.fires ∧ (s.setBias k x).power = s.power ∧ (s.setBias k x).sleep = s.sleep ∧
    (s.setBias k x).shut = s.shut ∧ (s.setBias k x).dies = s.dies ∧ (s.setBias k x).nv = s.nv ∧
    (s.setBias k x).slots = s.slots ∧ (s.setBias k x).ports = s.ports ∧ (s.setBias k x).subs = s.subs ∧
    (s.setBias k x).forwards = s.forwards ∧ (s.setBias k x).removals = s.removals ∧ (s.setBias k x).demods = s.demods ∧
    (s.setBias k x).inputs = s.inputs ∧ (s.setBias k x).lanes = s.lanes ∧ (s.setBias k x).fports = s.fports ∧
    (s.setBias k x).routes = s.routes ∧ (s.setBias k x).devices = s.devices ∧ (s.setBias k x).floodAt = s.floodAt ∧
    (s.setBias k x).linkChanged = s.linkChanged ∧ (s.setBias k x).marks = s.marks ∧ (s.setBias k x).dsps = s.dsps ∧
    (s.setBias k x).tones = s.tones ∧ (s.setBias k x).majs = s.majs ∧ (s.setBias k x).acqs = s.acqs ∧
    (s.setBias k x).later = s.later ∧ (s.setBias k x).recSubs = s.recSubs ∧ (s.setBias k x).sessions = s.sessions ∧
    (s.setBias k x).biasTurns = s.biasTurns ∧ (s.setBias k x).channels = s.channels ∧ (s.setBias k x).eths = s.eths ∧
    (s.setBias k x).landing = s.landing ∧ (s.setBias k x).sent = s.sent ∧ (s.setBias k x).jtag = s.jtag := by
  refine ⟨rfl, rfl, rfl, rfl, rfl, rfl, rfl, rfl, rfl, rfl, rfl, rfl, rfl, rfl, rfl, rfl, rfl, rfl, rfl, rfl, rfl, rfl, rfl, rfl, rfl, rfl, rfl, rfl, rfl, rfl, rfl, rfl, rfl, rfl, rfl, rfl, rfl, rfl, rfl, rfl, rfl, rfl, rfl, rfl, rfl, rfl, rfl, rfl, rfl, rfl, rfl, rfl, rfl, rfl⟩

/-- What State.setBias sets is read. -/
@[simp] theorem bias_setBias (s : State) (k j : Nat) (x : Bias) :
    (s.setBias k x).bias j = if j = k then x else s.bias j := by
  simp only [State.setBias, State.bias, look_put]

/-- State.setBiasTurn changes biasTurns only. -/
@[simp] theorem setBiasTurn_frame (s : State) (k : Nat) (x : BiasTurn) :
    (s.setBiasTurn k x).pending = s.pending ∧ (s.setBiasTurn k x).free = s.free ∧ (s.setBiasTurn k x).member = s.member ∧
    (s.setBiasTurn k x).regs = s.regs ∧ (s.setBiasTurn k x).doms = s.doms ∧ (s.setBiasTurn k x).recent = s.recent ∧
    (s.setBiasTurn k x).clock = s.clock ∧ (s.setBiasTurn k x).tattoo = s.tattoo ∧ (s.setBiasTurn k x).links = s.links ∧
    (s.setBiasTurn k x).cal = s.cal ∧ (s.setBiasTurn k x).ptp = s.ptp ∧ (s.setBiasTurn k x).epochs = s.epochs ∧
    (s.setBiasTurn k x).applied = s.applied ∧ (s.setBiasTurn k x).glinks = s.glinks ∧ (s.setBiasTurn k x).flight = s.flight ∧
    (s.setBiasTurn k x).issued = s.issued ∧ (s.setBiasTurn k x).gens = s.gens ∧ (s.setBiasTurn k x).outs = s.outs ∧
    (s.setBiasTurn k x).seqs = s.seqs ∧ (s.setBiasTurn k x).stores = s.stores ∧ (s.setBiasTurn k x).chans = s.chans ∧
    (s.setBiasTurn k x).fires = s.fires ∧ (s.setBiasTurn k x).power = s.power ∧ (s.setBiasTurn k x).sleep = s.sleep ∧
    (s.setBiasTurn k x).shut = s.shut ∧ (s.setBiasTurn k x).dies = s.dies ∧ (s.setBiasTurn k x).nv = s.nv ∧
    (s.setBiasTurn k x).slots = s.slots ∧ (s.setBiasTurn k x).ports = s.ports ∧ (s.setBiasTurn k x).subs = s.subs ∧
    (s.setBiasTurn k x).forwards = s.forwards ∧ (s.setBiasTurn k x).removals = s.removals ∧ (s.setBiasTurn k x).demods = s.demods ∧
    (s.setBiasTurn k x).inputs = s.inputs ∧ (s.setBiasTurn k x).lanes = s.lanes ∧ (s.setBiasTurn k x).fports = s.fports ∧
    (s.setBiasTurn k x).routes = s.routes ∧ (s.setBiasTurn k x).devices = s.devices ∧ (s.setBiasTurn k x).floodAt = s.floodAt ∧
    (s.setBiasTurn k x).linkChanged = s.linkChanged ∧ (s.setBiasTurn k x).marks = s.marks ∧ (s.setBiasTurn k x).dsps = s.dsps ∧
    (s.setBiasTurn k x).tones = s.tones ∧ (s.setBiasTurn k x).majs = s.majs ∧ (s.setBiasTurn k x).acqs = s.acqs ∧
    (s.setBiasTurn k x).later = s.later ∧ (s.setBiasTurn k x).recSubs = s.recSubs ∧ (s.setBiasTurn k x).sessions = s.sessions ∧
    (s.setBiasTurn k x).biases = s.biases ∧ (s.setBiasTurn k x).channels = s.channels ∧ (s.setBiasTurn k x).eths = s.eths ∧
    (s.setBiasTurn k x).landing = s.landing ∧ (s.setBiasTurn k x).sent = s.sent ∧ (s.setBiasTurn k x).jtag = s.jtag := by
  refine ⟨rfl, rfl, rfl, rfl, rfl, rfl, rfl, rfl, rfl, rfl, rfl, rfl, rfl, rfl, rfl, rfl, rfl, rfl, rfl, rfl, rfl, rfl, rfl, rfl, rfl, rfl, rfl, rfl, rfl, rfl, rfl, rfl, rfl, rfl, rfl, rfl, rfl, rfl, rfl, rfl, rfl, rfl, rfl, rfl, rfl, rfl, rfl, rfl, rfl, rfl, rfl, rfl, rfl, rfl⟩

/-- What State.setBiasTurn sets is read. -/
@[simp] theorem biasTurn_setBiasTurn (s : State) (k j : Nat) (x : BiasTurn) :
    (s.setBiasTurn k x).biasTurn j = if j = k then x else s.biasTurn j := by
  simp only [State.setBiasTurn, State.biasTurn, look_put]

/-- State.setSns changes channels only. -/
@[simp] theorem setSns_frame (s : State) (k : Nat) (x : Sns) :
    (s.setSns k x).pending = s.pending ∧ (s.setSns k x).free = s.free ∧ (s.setSns k x).member = s.member ∧
    (s.setSns k x).regs = s.regs ∧ (s.setSns k x).doms = s.doms ∧ (s.setSns k x).recent = s.recent ∧
    (s.setSns k x).clock = s.clock ∧ (s.setSns k x).tattoo = s.tattoo ∧ (s.setSns k x).links = s.links ∧
    (s.setSns k x).cal = s.cal ∧ (s.setSns k x).ptp = s.ptp ∧ (s.setSns k x).epochs = s.epochs ∧
    (s.setSns k x).applied = s.applied ∧ (s.setSns k x).glinks = s.glinks ∧ (s.setSns k x).flight = s.flight ∧
    (s.setSns k x).issued = s.issued ∧ (s.setSns k x).gens = s.gens ∧ (s.setSns k x).outs = s.outs ∧
    (s.setSns k x).seqs = s.seqs ∧ (s.setSns k x).stores = s.stores ∧ (s.setSns k x).chans = s.chans ∧
    (s.setSns k x).fires = s.fires ∧ (s.setSns k x).power = s.power ∧ (s.setSns k x).sleep = s.sleep ∧
    (s.setSns k x).shut = s.shut ∧ (s.setSns k x).dies = s.dies ∧ (s.setSns k x).nv = s.nv ∧
    (s.setSns k x).slots = s.slots ∧ (s.setSns k x).ports = s.ports ∧ (s.setSns k x).subs = s.subs ∧
    (s.setSns k x).forwards = s.forwards ∧ (s.setSns k x).removals = s.removals ∧ (s.setSns k x).demods = s.demods ∧
    (s.setSns k x).inputs = s.inputs ∧ (s.setSns k x).lanes = s.lanes ∧ (s.setSns k x).fports = s.fports ∧
    (s.setSns k x).routes = s.routes ∧ (s.setSns k x).devices = s.devices ∧ (s.setSns k x).floodAt = s.floodAt ∧
    (s.setSns k x).linkChanged = s.linkChanged ∧ (s.setSns k x).marks = s.marks ∧ (s.setSns k x).dsps = s.dsps ∧
    (s.setSns k x).tones = s.tones ∧ (s.setSns k x).majs = s.majs ∧ (s.setSns k x).acqs = s.acqs ∧
    (s.setSns k x).later = s.later ∧ (s.setSns k x).recSubs = s.recSubs ∧ (s.setSns k x).sessions = s.sessions ∧
    (s.setSns k x).biases = s.biases ∧ (s.setSns k x).biasTurns = s.biasTurns ∧ (s.setSns k x).eths = s.eths ∧
    (s.setSns k x).landing = s.landing ∧ (s.setSns k x).sent = s.sent ∧ (s.setSns k x).jtag = s.jtag := by
  refine ⟨rfl, rfl, rfl, rfl, rfl, rfl, rfl, rfl, rfl, rfl, rfl, rfl, rfl, rfl, rfl, rfl, rfl, rfl, rfl, rfl, rfl, rfl, rfl, rfl, rfl, rfl, rfl, rfl, rfl, rfl, rfl, rfl, rfl, rfl, rfl, rfl, rfl, rfl, rfl, rfl, rfl, rfl, rfl, rfl, rfl, rfl, rfl, rfl, rfl, rfl, rfl, rfl, rfl, rfl⟩

/-- What State.setSns sets is read. -/
@[simp] theorem sns_setSns (s : State) (k j : Nat) (x : Sns) :
    (s.setSns k x).sns j = if j = k then x else s.sns j := by
  simp only [State.setSns, State.sns, look_put]

/-- State.setEth changes eths only. -/
@[simp] theorem setEth_frame (s : State) (k : Nat) (x : EthPort) :
    (s.setEth k x).pending = s.pending ∧ (s.setEth k x).free = s.free ∧ (s.setEth k x).member = s.member ∧
    (s.setEth k x).regs = s.regs ∧ (s.setEth k x).doms = s.doms ∧ (s.setEth k x).recent = s.recent ∧
    (s.setEth k x).clock = s.clock ∧ (s.setEth k x).tattoo = s.tattoo ∧ (s.setEth k x).links = s.links ∧
    (s.setEth k x).cal = s.cal ∧ (s.setEth k x).ptp = s.ptp ∧ (s.setEth k x).epochs = s.epochs ∧
    (s.setEth k x).applied = s.applied ∧ (s.setEth k x).glinks = s.glinks ∧ (s.setEth k x).flight = s.flight ∧
    (s.setEth k x).issued = s.issued ∧ (s.setEth k x).gens = s.gens ∧ (s.setEth k x).outs = s.outs ∧
    (s.setEth k x).seqs = s.seqs ∧ (s.setEth k x).stores = s.stores ∧ (s.setEth k x).chans = s.chans ∧
    (s.setEth k x).fires = s.fires ∧ (s.setEth k x).power = s.power ∧ (s.setEth k x).sleep = s.sleep ∧
    (s.setEth k x).shut = s.shut ∧ (s.setEth k x).dies = s.dies ∧ (s.setEth k x).nv = s.nv ∧
    (s.setEth k x).slots = s.slots ∧ (s.setEth k x).ports = s.ports ∧ (s.setEth k x).subs = s.subs ∧
    (s.setEth k x).forwards = s.forwards ∧ (s.setEth k x).removals = s.removals ∧ (s.setEth k x).demods = s.demods ∧
    (s.setEth k x).inputs = s.inputs ∧ (s.setEth k x).lanes = s.lanes ∧ (s.setEth k x).fports = s.fports ∧
    (s.setEth k x).routes = s.routes ∧ (s.setEth k x).devices = s.devices ∧ (s.setEth k x).floodAt = s.floodAt ∧
    (s.setEth k x).linkChanged = s.linkChanged ∧ (s.setEth k x).marks = s.marks ∧ (s.setEth k x).dsps = s.dsps ∧
    (s.setEth k x).tones = s.tones ∧ (s.setEth k x).majs = s.majs ∧ (s.setEth k x).acqs = s.acqs ∧
    (s.setEth k x).later = s.later ∧ (s.setEth k x).recSubs = s.recSubs ∧ (s.setEth k x).sessions = s.sessions ∧
    (s.setEth k x).biases = s.biases ∧ (s.setEth k x).biasTurns = s.biasTurns ∧ (s.setEth k x).channels = s.channels ∧
    (s.setEth k x).landing = s.landing ∧ (s.setEth k x).sent = s.sent ∧ (s.setEth k x).jtag = s.jtag := by
  refine ⟨rfl, rfl, rfl, rfl, rfl, rfl, rfl, rfl, rfl, rfl, rfl, rfl, rfl, rfl, rfl, rfl, rfl, rfl, rfl, rfl, rfl, rfl, rfl, rfl, rfl, rfl, rfl, rfl, rfl, rfl, rfl, rfl, rfl, rfl, rfl, rfl, rfl, rfl, rfl, rfl, rfl, rfl, rfl, rfl, rfl, rfl, rfl, rfl, rfl, rfl, rfl, rfl, rfl, rfl⟩

/-- What State.setEth sets is read. -/
@[simp] theorem eth_setEth (s : State) (k j : Nat) (x : EthPort) :
    (s.setEth k x).eth j = if j = k then x else s.eth j := by
  simp only [State.setEth, State.eth, look_put]

/-- State.wr changes the object values only. -/
@[simp] theorem wr_frame (s : State) (id k : Nat) (v : Word) :
    (s.wr id k v).pending = s.pending ∧ (s.wr id k v).free = s.free ∧ (s.wr id k v).member = s.member ∧
    (s.wr id k v).doms = s.doms ∧ (s.wr id k v).recent = s.recent ∧ (s.wr id k v).clock = s.clock ∧
    (s.wr id k v).tattoo = s.tattoo ∧ (s.wr id k v).links = s.links ∧ (s.wr id k v).cal = s.cal ∧
    (s.wr id k v).ptp = s.ptp ∧ (s.wr id k v).epochs = s.epochs ∧ (s.wr id k v).applied = s.applied ∧
    (s.wr id k v).glinks = s.glinks ∧ (s.wr id k v).flight = s.flight ∧ (s.wr id k v).issued = s.issued ∧
    (s.wr id k v).gens = s.gens ∧ (s.wr id k v).outs = s.outs ∧ (s.wr id k v).seqs = s.seqs ∧
    (s.wr id k v).stores = s.stores ∧ (s.wr id k v).chans = s.chans ∧ (s.wr id k v).fires = s.fires ∧
    (s.wr id k v).power = s.power ∧ (s.wr id k v).sleep = s.sleep ∧ (s.wr id k v).shut = s.shut ∧
    (s.wr id k v).dies = s.dies ∧ (s.wr id k v).nv = s.nv ∧ (s.wr id k v).slots = s.slots ∧
    (s.wr id k v).ports = s.ports ∧ (s.wr id k v).subs = s.subs ∧ (s.wr id k v).forwards = s.forwards ∧
    (s.wr id k v).removals = s.removals ∧ (s.wr id k v).demods = s.demods ∧ (s.wr id k v).inputs = s.inputs ∧
    (s.wr id k v).lanes = s.lanes ∧ (s.wr id k v).fports = s.fports ∧ (s.wr id k v).routes = s.routes ∧
    (s.wr id k v).devices = s.devices ∧ (s.wr id k v).floodAt = s.floodAt ∧ (s.wr id k v).linkChanged = s.linkChanged ∧
    (s.wr id k v).marks = s.marks ∧ (s.wr id k v).dsps = s.dsps ∧ (s.wr id k v).tones = s.tones ∧
    (s.wr id k v).majs = s.majs ∧ (s.wr id k v).acqs = s.acqs ∧ (s.wr id k v).later = s.later ∧
    (s.wr id k v).recSubs = s.recSubs ∧ (s.wr id k v).sessions = s.sessions ∧ (s.wr id k v).biases = s.biases ∧
    (s.wr id k v).biasTurns = s.biasTurns ∧ (s.wr id k v).channels = s.channels ∧ (s.wr id k v).eths = s.eths ∧
    (s.wr id k v).landing = s.landing ∧ (s.wr id k v).sent = s.sent ∧ (s.wr id k v).jtag = s.jtag := by
  refine ⟨rfl, rfl, rfl, rfl, rfl, rfl, rfl, rfl, rfl, rfl, rfl, rfl, rfl, rfl, rfl, rfl, rfl, rfl, rfl, rfl, rfl, rfl, rfl, rfl, rfl, rfl, rfl, rfl, rfl, rfl, rfl, rfl, rfl, rfl, rfl, rfl, rfl, rfl, rfl, rfl, rfl, rfl, rfl, rfl, rfl, rfl, rfl, rfl, rfl, rfl, rfl, rfl, rfl, rfl⟩

/-- State.setDw changes the words of DOMAIN objects only. -/
@[simp] theorem setDw_frame (s : State) (id k w : Nat) (v : Word) :
    (s.setDw id k w v).pending = s.pending ∧ (s.setDw id k w v).free = s.free ∧ (s.setDw id k w v).member = s.member ∧
    (s.setDw id k w v).regs = s.regs ∧ (s.setDw id k w v).recent = s.recent ∧ (s.setDw id k w v).clock = s.clock ∧
    (s.setDw id k w v).tattoo = s.tattoo ∧ (s.setDw id k w v).links = s.links ∧ (s.setDw id k w v).cal = s.cal ∧
    (s.setDw id k w v).ptp = s.ptp ∧ (s.setDw id k w v).epochs = s.epochs ∧ (s.setDw id k w v).applied = s.applied ∧
    (s.setDw id k w v).glinks = s.glinks ∧ (s.setDw id k w v).flight = s.flight ∧ (s.setDw id k w v).issued = s.issued ∧
    (s.setDw id k w v).gens = s.gens ∧ (s.setDw id k w v).outs = s.outs ∧ (s.setDw id k w v).seqs = s.seqs ∧
    (s.setDw id k w v).stores = s.stores ∧ (s.setDw id k w v).chans = s.chans ∧ (s.setDw id k w v).fires = s.fires ∧
    (s.setDw id k w v).power = s.power ∧ (s.setDw id k w v).sleep = s.sleep ∧ (s.setDw id k w v).shut = s.shut ∧
    (s.setDw id k w v).dies = s.dies ∧ (s.setDw id k w v).nv = s.nv ∧ (s.setDw id k w v).slots = s.slots ∧
    (s.setDw id k w v).ports = s.ports ∧ (s.setDw id k w v).subs = s.subs ∧ (s.setDw id k w v).forwards = s.forwards ∧
    (s.setDw id k w v).removals = s.removals ∧ (s.setDw id k w v).demods = s.demods ∧ (s.setDw id k w v).inputs = s.inputs ∧
    (s.setDw id k w v).lanes = s.lanes ∧ (s.setDw id k w v).fports = s.fports ∧ (s.setDw id k w v).routes = s.routes ∧
    (s.setDw id k w v).devices = s.devices ∧ (s.setDw id k w v).floodAt = s.floodAt ∧ (s.setDw id k w v).linkChanged = s.linkChanged ∧
    (s.setDw id k w v).marks = s.marks ∧ (s.setDw id k w v).dsps = s.dsps ∧ (s.setDw id k w v).tones = s.tones ∧
    (s.setDw id k w v).majs = s.majs ∧ (s.setDw id k w v).acqs = s.acqs ∧ (s.setDw id k w v).later = s.later ∧
    (s.setDw id k w v).recSubs = s.recSubs ∧ (s.setDw id k w v).sessions = s.sessions ∧ (s.setDw id k w v).biases = s.biases ∧
    (s.setDw id k w v).biasTurns = s.biasTurns ∧ (s.setDw id k w v).channels = s.channels ∧ (s.setDw id k w v).eths = s.eths ∧
    (s.setDw id k w v).landing = s.landing ∧ (s.setDw id k w v).sent = s.sent ∧ (s.setDw id k w v).jtag = s.jtag := by
  refine ⟨rfl, rfl, rfl, rfl, rfl, rfl, rfl, rfl, rfl, rfl, rfl, rfl, rfl, rfl, rfl, rfl, rfl, rfl, rfl, rfl, rfl, rfl, rfl, rfl, rfl, rfl, rfl, rfl, rfl, rfl, rfl, rfl, rfl, rfl, rfl, rfl, rfl, rfl, rfl, rfl, rfl, rfl, rfl, rfl, rfl, rfl, rfl, rfl, rfl, rfl, rfl, rfl, rfl, rfl⟩

/-- State.note changes the record of recent writes only. -/
@[simp] theorem note_frame (s : State) (id k w : Nat) (v : Word) :
    (s.note id k w v).pending = s.pending ∧ (s.note id k w v).free = s.free ∧ (s.note id k w v).member = s.member ∧
    (s.note id k w v).regs = s.regs ∧ (s.note id k w v).doms = s.doms ∧ (s.note id k w v).clock = s.clock ∧
    (s.note id k w v).tattoo = s.tattoo ∧ (s.note id k w v).links = s.links ∧ (s.note id k w v).cal = s.cal ∧
    (s.note id k w v).ptp = s.ptp ∧ (s.note id k w v).epochs = s.epochs ∧ (s.note id k w v).applied = s.applied ∧
    (s.note id k w v).glinks = s.glinks ∧ (s.note id k w v).flight = s.flight ∧ (s.note id k w v).issued = s.issued ∧
    (s.note id k w v).gens = s.gens ∧ (s.note id k w v).outs = s.outs ∧ (s.note id k w v).seqs = s.seqs ∧
    (s.note id k w v).stores = s.stores ∧ (s.note id k w v).chans = s.chans ∧ (s.note id k w v).fires = s.fires ∧
    (s.note id k w v).power = s.power ∧ (s.note id k w v).sleep = s.sleep ∧ (s.note id k w v).shut = s.shut ∧
    (s.note id k w v).dies = s.dies ∧ (s.note id k w v).nv = s.nv ∧ (s.note id k w v).slots = s.slots ∧
    (s.note id k w v).ports = s.ports ∧ (s.note id k w v).subs = s.subs ∧ (s.note id k w v).forwards = s.forwards ∧
    (s.note id k w v).removals = s.removals ∧ (s.note id k w v).demods = s.demods ∧ (s.note id k w v).inputs = s.inputs ∧
    (s.note id k w v).lanes = s.lanes ∧ (s.note id k w v).fports = s.fports ∧ (s.note id k w v).routes = s.routes ∧
    (s.note id k w v).devices = s.devices ∧ (s.note id k w v).floodAt = s.floodAt ∧ (s.note id k w v).linkChanged = s.linkChanged ∧
    (s.note id k w v).marks = s.marks ∧ (s.note id k w v).dsps = s.dsps ∧ (s.note id k w v).tones = s.tones ∧
    (s.note id k w v).majs = s.majs ∧ (s.note id k w v).acqs = s.acqs ∧ (s.note id k w v).later = s.later ∧
    (s.note id k w v).recSubs = s.recSubs ∧ (s.note id k w v).sessions = s.sessions ∧ (s.note id k w v).biases = s.biases ∧
    (s.note id k w v).biasTurns = s.biasTurns ∧ (s.note id k w v).channels = s.channels ∧ (s.note id k w v).eths = s.eths ∧
    (s.note id k w v).landing = s.landing ∧ (s.note id k w v).sent = s.sent ∧ (s.note id k w v).jtag = s.jtag := by
  refine ⟨rfl, rfl, rfl, rfl, rfl, rfl, rfl, rfl, rfl, rfl, rfl, rfl, rfl, rfl, rfl, rfl, rfl, rfl, rfl, rfl, rfl, rfl, rfl, rfl, rfl, rfl, rfl, rfl, rfl, rfl, rfl, rfl, rfl, rfl, rfl, rfl, rfl, rfl, rfl, rfl, rfl, rfl, rfl, rfl, rfl, rfl, rfl, rfl, rfl, rfl, rfl, rfl, rfl, rfl⟩

/-- State.take changes the counter of free values only. -/
@[simp] theorem take_frame (s : State)  :
    (s.take.2).pending = s.pending ∧ (s.take.2).member = s.member ∧ (s.take.2).regs = s.regs ∧
    (s.take.2).doms = s.doms ∧ (s.take.2).recent = s.recent ∧ (s.take.2).clock = s.clock ∧
    (s.take.2).tattoo = s.tattoo ∧ (s.take.2).links = s.links ∧ (s.take.2).cal = s.cal ∧
    (s.take.2).ptp = s.ptp ∧ (s.take.2).epochs = s.epochs ∧ (s.take.2).applied = s.applied ∧
    (s.take.2).glinks = s.glinks ∧ (s.take.2).flight = s.flight ∧ (s.take.2).issued = s.issued ∧
    (s.take.2).gens = s.gens ∧ (s.take.2).outs = s.outs ∧ (s.take.2).seqs = s.seqs ∧
    (s.take.2).stores = s.stores ∧ (s.take.2).chans = s.chans ∧ (s.take.2).fires = s.fires ∧
    (s.take.2).power = s.power ∧ (s.take.2).sleep = s.sleep ∧ (s.take.2).shut = s.shut ∧
    (s.take.2).dies = s.dies ∧ (s.take.2).nv = s.nv ∧ (s.take.2).slots = s.slots ∧
    (s.take.2).ports = s.ports ∧ (s.take.2).subs = s.subs ∧ (s.take.2).forwards = s.forwards ∧
    (s.take.2).removals = s.removals ∧ (s.take.2).demods = s.demods ∧ (s.take.2).inputs = s.inputs ∧
    (s.take.2).lanes = s.lanes ∧ (s.take.2).fports = s.fports ∧ (s.take.2).routes = s.routes ∧
    (s.take.2).devices = s.devices ∧ (s.take.2).floodAt = s.floodAt ∧ (s.take.2).linkChanged = s.linkChanged ∧
    (s.take.2).marks = s.marks ∧ (s.take.2).dsps = s.dsps ∧ (s.take.2).tones = s.tones ∧
    (s.take.2).majs = s.majs ∧ (s.take.2).acqs = s.acqs ∧ (s.take.2).later = s.later ∧
    (s.take.2).recSubs = s.recSubs ∧ (s.take.2).sessions = s.sessions ∧ (s.take.2).biases = s.biases ∧
    (s.take.2).biasTurns = s.biasTurns ∧ (s.take.2).channels = s.channels ∧ (s.take.2).eths = s.eths ∧
    (s.take.2).landing = s.landing ∧ (s.take.2).sent = s.sent ∧ (s.take.2).jtag = s.jtag := by
  refine ⟨rfl, rfl, rfl, rfl, rfl, rfl, rfl, rfl, rfl, rfl, rfl, rfl, rfl, rfl, rfl, rfl, rfl, rfl, rfl, rfl, rfl, rfl, rfl, rfl, rfl, rfl, rfl, rfl, rfl, rfl, rfl, rfl, rfl, rfl, rfl, rfl, rfl, rfl, rfl, rfl, rfl, rfl, rfl, rfl, rfl, rfl, rfl, rfl, rfl, rfl, rfl, rfl, rfl, rfl⟩

end Sys2Proof.Machine
end

