-- ==== Sys2Proof/Laws/Dsp.lean ====
section
/-!
SUPPORT. What the registers of a DSP engine read after its instructions (R279): the lemmas that statements about its rows
rest on.
-/

namespace Sys2Proof.Machine

theorem commitWrites_sees (m n r : Nat) (h : m ≤ n) (ws : List DspWrite) (regs : Tab Nat) :
    ((commitWrites m regs ws).2.filter (fun w => w.reg == r && decide (w.vis ≤ n))).foldl (fun v w => w.beyond v)
        (look 0 (commitWrites m regs ws).1 r) =
      (ws.filter (fun w => w.reg == r && decide (w.vis ≤ n))).foldl (fun v w => w.beyond v) (look 0 regs r) := by
  induction ws generalizing regs with
  | nil => simp [commitWrites]
  | cons w ws ih =>
    by_cases hv : w.vis ≤ m
    · simp only [commitWrites, hv, if_true]
      rw [ih]
      have hn : w.vis ≤ n := Nat.le_trans hv h
      by_cases hr : w.reg = r
      · subst hr; simp [hn, look_put_same]
      · have h2 : r ≠ w.reg := fun e => hr e.symm
        simp [hr, look_put, h2]
    · simp [commitWrites, hv]

/-- Moving writes that every later instruction sees into the registers changes no value that one of them sees. -/
theorem Dsp.sees_commit (x : Dsp) (m n r : Nat) (h : m ≤ n) (hr : r ≠ DspReg.LC) : (x.commit m).sees n r = x.sees n r := by
  have := commitWrites_sees m n r h x.pend (Sys2Proof.Machine.put 0 x.regs DspReg.LC x.flow.lc)
  rw [look_put, if_neg hr] at this
  simp only [Dsp.sees, Dsp.commit, look_put, if_neg hr]
  exact this

/-- Nor does it change what one of them sees of LC. -/
theorem Dsp.lcSeen_commit (x : Dsp) (m n : Nat) (h : m ≤ n) : (x.commit m).lcSeen n = x.lcSeen n := by
  have := commitWrites_sees m n DspReg.LC h x.pend (Sys2Proof.Machine.put 0 x.regs DspReg.LC x.flow.lc)
  rw [look_put_same] at this
  exact this

/-- A write as an engine keeps it whose instruction is numbered `num`. -/
def later (num : Nat) (w : DspWrite) : DspWrite := { w with vis := num + w.vis }

/-- Values laid over by writes on their way to which `ws` have been added. -/
theorem seen_append (num : Nat) (ps ws : List DspWrite) (n r v : Nat) :
    ((ps ++ ws.map (later num)).filter (fun w => w.reg == r && decide (w.vis ≤ n))).foldl (fun u w => w.beyond u) v =
      seenAfter num ws n r ((ps.filter (fun w => w.reg == r && decide (w.vis ≤ n))).foldl (fun u w => w.beyond u) v) := by
  simp only [seenAfter, List.filter_append, List.foldl_append, List.filter_map, List.foldl_map]
  rfl

/-- An engine that is not stepping, once its instruction with the register writes `ws` has issued. -/
theorem dspDone_ran (u : State) (d k : Nat) (y : Dsp) (ws : List DspWrite) (h : y.stepping = false) :
    DspRan u (u.dspDone d k { y with pend := y.pend ++ ws.map (later y.num) }) d k y ws := by
  have hd : u.dspDone d k { y with pend := y.pend ++ ws.map (later y.num) } =
      u.setDsp (sel d k) (({ y with
        pend := y.pend ++ ws.map (later y.num), num := y.num + 1,
        issueAt := y.issueAt + u.dspQ d k, doneAt := y.issueAt + 6 * u.dspQ d k - 1,
        flow := y.flow.next } : Dsp).commit (y.num + 1)) := by
    simp [State.dspDone, Dsp.commit, h]
  rw [hd]
  refine ⟨⟨fun n r hn hr => ?_, fun n hn => ?_, ?_⟩, fun j hj => ?_, rfl⟩
  · rw [dsp_setDsp, if_pos rfl, Dsp.sees_commit _ _ _ _ hn hr]
    exact seen_append y.num y.pend ws n r _
  · rw [dsp_setDsp, if_pos rfl, Dsp.lcSeen_commit _ _ _ hn]
    exact seen_append y.num y.pend ws n DspReg.LC _
  · rw [dsp_setDsp, if_pos rfl]; rfl
  · rw [dsp_setDsp, if_neg hj]

end Sys2Proof.Machine
end

