-- ==== Sys2Proof/Laws/Memory.lean ====
section
/-!
SUPPORT. Laws of the objects: a word or a value reads as written, other words and objects stay, and every operation keeps the
canonical form.
-/

namespace Sys2Proof.Machine

/-! Reading after writing. -/

/-- A value written is read. -/
@[simp] theorem rd_wr_same (s : State) (id k : Nat) (v : Word) : (s.wr id k v).rd id k = v := by
  simp [State.wr, State.rd]

/-- A write leaves every other object and selector. -/
theorem rd_wr_other (s : State) {id k id' k' : Nat} (v : Word) (h : ¬(id' = id ∧ k' = k)) :
    (s.wr id k v).rd id' k' = s.rd id' k' := by
  by_cases hi : id' = id
  · subst hi
    have hk : k' ≠ k := fun e => h ⟨rfl, e⟩
    simp [State.wr, State.rd, look_put_other _ _ hk]
  · simp [State.wr, State.rd, look_put_other _ _ hi]

/-- A word written is read. -/
@[simp] theorem dw_setDw_same (s : State) (id k w : Nat) (v : Word) : (s.setDw id k w v).dw id k w = v := by
  simp [State.setDw, State.dw]

/-- A write leaves every other word. -/
theorem dw_setDw_other (s : State) {id k w id' k' w' : Nat} (v : Word) (h : ¬(id' = id ∧ k' = k ∧ w' = w)) :
    (s.setDw id k w v).dw id' k' w' = s.dw id' k' w' := by
  by_cases hi : id' = id
  · subst hi
    by_cases hk : k' = k
    · subst hk
      have hw : w' ≠ w := fun e => h ⟨rfl, rfl, e⟩
      simp [State.setDw, State.dw, look_put_other _ _ hw]
    · simp [State.setDw, State.dw, look_put_other _ _ hk]
  · simp [State.setDw, State.dw, look_put_other _ _ hi]

/-! The canonical form. -/

/-- A lower bound does as well. -/
theorem wordsWf_mono {id k : Nat} {t : Tab Word} {a b : Nat} (hab : a ≤ b) (h : wordsWf id k b t = true) :
    wordsWf id k a t = true := by
  cases t with
  | nil => rfl
  | cons p t =>
    obtain ⟨w, v⟩ := p
    simp only [wordsWf, Bool.and_eq_true, decide_eq_true_eq] at h ⊢
    exact ⟨⟨by omega, h.1.2⟩, h.2⟩

/-- Dropping a word keeps the form. -/
theorem wordsWf_dropKey {id k : Nat} (i : Nat) {t : Tab Word} :
    ∀ {b : Nat}, wordsWf id k b t = true → wordsWf id k b (dropKey i t) = true := by
  induction t with
  | nil => intro b h; exact h
  | cons p t ih =>
    obtain ⟨w, v⟩ := p
    intro b h
    simp only [wordsWf, Bool.and_eq_true, decide_eq_true_eq] at h
    by_cases hk : w = i
    · simp only [dropKey, hk, if_true]
      exact wordsWf_mono (by omega) (ih h.2)
    · simp only [dropKey, hk, if_false, wordsWf, Bool.and_eq_true, decide_eq_true_eq]
      exact ⟨h.1, ih h.2⟩

/-- Inserting a word that is not the default keeps the form. -/
theorem wordsWf_insKey {id k : Nat} (i : Nat) {v : Word} (hv : v ≠ domDefault id k i) {t : Tab Word} :
    ∀ {b : Nat}, b ≤ i → wordsWf id k b t = true → wordsWf id k b (insKey i v (dropKey i t)) = true := by
  induction t with
  | nil => intro b hb _; simp [dropKey, insKey, wordsWf, hb, hv]
  | cons p t ih =>
    obtain ⟨w, u⟩ := p
    intro b hb h
    simp only [wordsWf, Bool.and_eq_true, decide_eq_true_eq] at h
    by_cases hk : w = i
    · simp only [dropKey, hk, if_true]
      exact ih hb (wordsWf_mono (by omega) h.2)
    · by_cases hl : i < w
      · have hd := wordsWf_dropKey (id := id) (k := k) i h.2
        simp only [dropKey, hk, if_false, insKey, hl, if_true, wordsWf, Bool.and_eq_true, decide_eq_true_eq]
        exact ⟨⟨hb, hv⟩, ⟨by omega, h.1.2⟩, hd⟩
      · have hi := ih (b := w + 1) (by omega) h.2
        simp only [dropKey, hk, if_false, insKey, hl, wordsWf, Bool.and_eq_true, decide_eq_true_eq]
        exact ⟨h.1, hi⟩

/-- Putting a word keeps the form. -/
theorem wordsWf_put {id k : Nat} {t : Tab Word} (w : Nat) (v : Word) (h : wordsWf id k 0 t = true) :
    wordsWf id k 0 (put (domDefault id k w) t w v) = true := by
  by_cases hv : v = domDefault id k w
  · simp only [put, hv, if_true]
    exact wordsWf_dropKey w h
  · simp only [put, hv, if_false]
    exact wordsWf_insKey w hv (Nat.zero_le _) h

/-- A lower bound does as well. -/
theorem instancesWf_mono {id : Nat} {t : Tab (Tab Word)} {a b : Nat} (hab : a ≤ b) (h : instancesWf id b t = true) :
    instancesWf id a t = true := by
  cases t with
  | nil => rfl
  | cons p t =>
    obtain ⟨k, v⟩ := p
    simp only [instancesWf, Bool.and_eq_true, decide_eq_true_eq] at h ⊢
    exact ⟨⟨⟨by omega, h.1.1.2⟩, h.1.2⟩, h.2⟩

/-- Dropping an instance keeps the form. -/
theorem instancesWf_dropKey {id : Nat} (i : Nat) {t : Tab (Tab Word)} :
    ∀ {b : Nat}, instancesWf id b t = true → instancesWf id b (dropKey i t) = true := by
  induction t with
  | nil => intro b h; exact h
  | cons p t ih =>
    obtain ⟨k, v⟩ := p
    intro b h
    simp only [instancesWf, Bool.and_eq_true, decide_eq_true_eq] at h
    by_cases hk : k = i
    · simp only [dropKey, hk, if_true]
      exact instancesWf_mono (by omega) (ih h.2)
    · simp only [dropKey, hk, if_false, instancesWf, Bool.and_eq_true, decide_eq_true_eq]
      exact ⟨h.1, ih h.2⟩

/-- Inserting an instance with words in canonical form keeps the form. -/
theorem instancesWf_insKey {id : Nat} (i : Nat) {v : Tab Word} (he : v.isEmpty = false) (hv : wordsWf id i 0 v = true)
    {t : Tab (Tab Word)} :
    ∀ {b : Nat}, b ≤ i → instancesWf id b t = true → instancesWf id b (insKey i v (dropKey i t)) = true := by
  induction t with
  | nil => intro b hb _; simp [dropKey, insKey, instancesWf, hb, hv, he]
  | cons p t ih =>
    obtain ⟨k, u⟩ := p
    intro b hb h
    simp only [instancesWf, Bool.and_eq_true, decide_eq_true_eq] at h
    by_cases hk : k = i
    · simp only [dropKey, hk, if_true]
      exact ih hb (instancesWf_mono (by omega) h.2)
    · by_cases hl : i < k
      · have hd := instancesWf_dropKey (id := id) i h.2
        simp only [dropKey, hk, if_false, insKey, hl, if_true, instancesWf, Bool.and_eq_true, decide_eq_true_eq]
        exact ⟨⟨⟨hb, by simp [he]⟩, hv⟩, ⟨⟨by omega, h.1.1.2⟩, h.1.2⟩, hd⟩
      · have hi := ih (b := k + 1) (by omega) h.2
        simp only [dropKey, hk, if_false, insKey, hl, instancesWf, Bool.and_eq_true, decide_eq_true_eq]
        exact ⟨h.1, hi⟩

/-- Putting an instance with words in canonical form keeps the form. -/
theorem instancesWf_put {id : Nat} {t : Tab (Tab Word)} (k : Nat) {v : Tab Word} (hv : wordsWf id k 0 v = true)
    (h : instancesWf id 0 t = true) : instancesWf id 0 (put [] t k v) = true := by
  by_cases he : v = []
  · simp only [put, he, if_true]
    exact instancesWf_dropKey k h
  · simp only [put, he, if_false]
    exact instancesWf_insKey k (by simpa using he) hv (Nat.zero_le _) h

/-- A lower bound does as well. -/
theorem domainsWf_mono {t : Tab (Tab (Tab Word))} {a b : Nat} (hab : a ≤ b) (h : domainsWf b t = true) : domainsWf a t = true := by
  cases t with
  | nil => rfl
  | cons p t =>
    obtain ⟨k, v⟩ := p
    simp only [domainsWf, Bool.and_eq_true, decide_eq_true_eq] at h ⊢
    exact ⟨⟨⟨by omega, h.1.1.2⟩, h.1.2⟩, h.2⟩

/-- Dropping an object keeps the form. -/
theorem domainsWf_dropKey (i : Nat) {t : Tab (Tab (Tab Word))} :
    ∀ {b : Nat}, domainsWf b t = true → domainsWf b (dropKey i t) = true := by
  induction t with
  | nil => intro b h; exact h
  | cons p t ih =>
    obtain ⟨k, v⟩ := p
    intro b h
    simp only [domainsWf, Bool.and_eq_true, decide_eq_true_eq] at h
    by_cases hk : k = i
    · simp only [dropKey, hk, if_true]
      exact domainsWf_mono (by omega) (ih h.2)
    · simp only [dropKey, hk, if_false, domainsWf, Bool.and_eq_true, decide_eq_true_eq]
      exact ⟨h.1, ih h.2⟩

/-- Inserting an object with instances in canonical form keeps the form. -/
theorem domainsWf_insKey (i : Nat) {v : Tab (Tab Word)} (he : v.isEmpty = false) (hv : instancesWf i 0 v = true)
    {t : Tab (Tab (Tab Word))} :
    ∀ {b : Nat}, b ≤ i → domainsWf b t = true → domainsWf b (insKey i v (dropKey i t)) = true := by
  induction t with
  | nil => intro b hb _; simp [dropKey, insKey, domainsWf, hb, hv, he]
  | cons p t ih =>
    obtain ⟨k, u⟩ := p
    intro b hb h
    simp only [domainsWf, Bool.and_eq_true, decide_eq_true_eq] at h
    by_cases hk : k = i
    · simp only [dropKey, hk, if_true]
      exact ih hb (domainsWf_mono (by omega) h.2)
    · by_cases hl : i < k
      · have hd := domainsWf_dropKey i h.2
        simp only [dropKey, hk, if_false, insKey, hl, if_true, domainsWf, Bool.and_eq_true, decide_eq_true_eq]
        exact ⟨⟨⟨hb, by simp [he]⟩, hv⟩, ⟨⟨by omega, h.1.1.2⟩, h.1.2⟩, hd⟩
      · have hi := ih (b := k + 1) (by omega) h.2
        simp only [dropKey, hk, if_false, insKey, hl, domainsWf, Bool.and_eq_true, decide_eq_true_eq]
        exact ⟨h.1, hi⟩

/-- Putting an object with instances in canonical form keeps the form. -/
theorem domainsWf_put {t : Tab (Tab (Tab Word))} (id : Nat) {v : Tab (Tab Word)} (hv : instancesWf id 0 v = true)
    (h : domainsWf 0 t = true) : domainsWf 0 (put [] t id v) = true := by
  by_cases he : v = []
  · simp only [put, he, if_true]
    exact domainsWf_dropKey id h
  · simp only [put, he, if_false]
    exact domainsWf_insKey id (by simpa using he) hv (Nat.zero_le _) h

/-- An instance looked up in canonical form is in canonical form. -/
theorem wordsWf_look {id : Nat} {t : Tab (Tab Word)} (k : Nat) : ∀ {b : Nat}, instancesWf id b t = true → wordsWf id k 0 (look [] t k) = true := by
  induction t with
  | nil => intro b _; rfl
  | cons p t ih =>
    obtain ⟨l, v⟩ := p
    intro b h
    simp only [instancesWf, Bool.and_eq_true, decide_eq_true_eq] at h
    by_cases hk : l = k
    · subst hk
      simpa [look] using h.1.2
    · simpa [look, hk] using ih h.2

/-- An object looked up in canonical form is in canonical form. -/
theorem instancesWf_look {t : Tab (Tab (Tab Word))} (id : Nat) : ∀ {b : Nat}, domainsWf b t = true → instancesWf id 0 (look [] t id) = true := by
  induction t with
  | nil => intro b _; rfl
  | cons p t ih =>
    obtain ⟨l, v⟩ := p
    intro b h
    simp only [domainsWf, Bool.and_eq_true, decide_eq_true_eq] at h
    by_cases hk : l = id
    · subst hk
      simpa [look] using h.1.2
    · simpa [look, hk] using ih h.2

/-- A word written keeps the memories in canonical form. -/
theorem setDw_wf (s : State) (id k w : Nat) (v : Word) (h : Memory.wf s.doms = true) : Memory.wf (s.setDw id k w v).doms = true := by
  unfold Memory.wf at *
  have hi := instancesWf_look id h
  exact domainsWf_put id (instancesWf_put k (wordsWf_put w v (wordsWf_look k hi)) hi) h

/-- The memories of the reset state are in canonical form. -/
theorem reset_memory_wf : Memory.wf State.reset.doms = true := rfl

/-- The object values of the reset state are in canonical form. -/
theorem reset_registers_wf : Registers.wf State.reset.regs = true := rfl

/-! The same for the values of the other objects. -/

/-- A lower bound does as well. -/
theorem valuesWf_mono {id : Nat} {t : Tab Word} {a b : Nat} (hab : a ≤ b) (h : valuesWf id b t = true) :
    valuesWf id a t = true := by
  cases t with
  | nil => rfl
  | cons p t =>
    obtain ⟨w, v⟩ := p
    simp only [valuesWf, Bool.and_eq_true, decide_eq_true_eq] at h ⊢
    exact ⟨⟨by omega, h.1.2⟩, h.2⟩

/-- Dropping a value keeps the form. -/
theorem valuesWf_dropKey {id : Nat} (i : Nat) {t : Tab Word} :
    ∀ {b : Nat}, valuesWf id b t = true → valuesWf id b (dropKey i t) = true := by
  induction t with
  | nil => intro b h; exact h
  | cons p t ih =>
    obtain ⟨w, v⟩ := p
    intro b h
    simp only [valuesWf, Bool.and_eq_true, decide_eq_true_eq] at h
    by_cases hk : w = i
    · simp only [dropKey, hk, if_true]
      exact valuesWf_mono (by omega) (ih h.2)
    · simp only [dropKey, hk, if_false, valuesWf, Bool.and_eq_true, decide_eq_true_eq]
      exact ⟨h.1, ih h.2⟩

/-- Inserting a value that is not the default keeps the form. -/
theorem valuesWf_insKey {id : Nat} (i : Nat) {v : Word} (hv : v ≠ objDefault id i) {t : Tab Word} :
    ∀ {b : Nat}, b ≤ i → valuesWf id b t = true → valuesWf id b (insKey i v (dropKey i t)) = true := by
  induction t with
  | nil => intro b hb _; simp [dropKey, insKey, valuesWf, hb, hv]
  | cons p t ih =>
    obtain ⟨w, u⟩ := p
    intro b hb h
    simp only [valuesWf, Bool.and_eq_true, decide_eq_true_eq] at h
    by_cases hk : w = i
    · simp only [dropKey, hk, if_true]
      exact ih hb (valuesWf_mono (by omega) h.2)
    · by_cases hl : i < w
      · have hd := valuesWf_dropKey (id := id) i h.2
        simp only [dropKey, hk, if_false, insKey, hl, if_true, valuesWf, Bool.and_eq_true, decide_eq_true_eq]
        exact ⟨⟨hb, hv⟩, ⟨by omega, h.1.2⟩, hd⟩
      · have hi := ih (b := w + 1) (by omega) h.2
        simp only [dropKey, hk, if_false, insKey, hl, valuesWf, Bool.and_eq_true, decide_eq_true_eq]
        exact ⟨h.1, hi⟩

/-- Putting a value keeps the form. -/
theorem valuesWf_put {id : Nat} {t : Tab Word} (k : Nat) (v : Word) (h : valuesWf id 0 t = true) :
    valuesWf id 0 (put (objDefault id k) t k v) = true := by
  by_cases hv : v = objDefault id k
  · simp only [put, hv, if_true]
    exact valuesWf_dropKey k h
  · simp only [put, hv, if_false]
    exact valuesWf_insKey k hv (Nat.zero_le _) h

/-- A lower bound does as well. -/
theorem objectsWf_mono {t : Tab (Tab Word)} {a b : Nat} (hab : a ≤ b) (h : objectsWf b t = true) : objectsWf a t = true := by
  cases t with
  | nil => rfl
  | cons p t =>
    obtain ⟨k, v⟩ := p
    simp only [objectsWf, Bool.and_eq_true, decide_eq_true_eq] at h ⊢
    exact ⟨⟨⟨by omega, h.1.1.2⟩, h.1.2⟩, h.2⟩

/-- Dropping an object keeps the form. -/
theorem objectsWf_dropKey (i : Nat) {t : Tab (Tab Word)} :
    ∀ {b : Nat}, objectsWf b t = true → objectsWf b (dropKey i t) = true := by
  induction t with
  | nil => intro b h; exact h
  | cons p t ih =>
    obtain ⟨k, v⟩ := p
    intro b h
    simp only [objectsWf, Bool.and_eq_true, decide_eq_true_eq] at h
    by_cases hk : k = i
    · simp only [dropKey, hk, if_true]
      exact objectsWf_mono (by omega) (ih h.2)
    · simp only [dropKey, hk, if_false, objectsWf, Bool.and_eq_true, decide_eq_true_eq]
      exact ⟨h.1, ih h.2⟩

/-- Inserting an object with values in canonical form keeps the form. -/
theorem objectsWf_insKey (i : Nat) {v : Tab Word} (he : v.isEmpty = false) (hv : valuesWf i 0 v = true) {t : Tab (Tab Word)} :
    ∀ {b : Nat}, b ≤ i → objectsWf b t = true → objectsWf b (insKey i v (dropKey i t)) = true := by
  induction t with
  | nil => intro b hb _; simp [dropKey, insKey, objectsWf, hb, hv, he]
  | cons p t ih =>
    obtain ⟨k, u⟩ := p
    intro b hb h
    simp only [objectsWf, Bool.and_eq_true, decide_eq_true_eq] at h
    by_cases hk : k = i
    · simp only [dropKey, hk, if_true]
      exact ih hb (objectsWf_mono (by omega) h.2)
    · by_cases hl : i < k
      · have hd := objectsWf_dropKey i h.2
        simp only [dropKey, hk, if_false, insKey, hl, if_true, objectsWf, Bool.and_eq_true, decide_eq_true_eq]
        exact ⟨⟨⟨hb, by simp [he]⟩, hv⟩, ⟨⟨by omega, h.1.1.2⟩, h.1.2⟩, hd⟩
      · have hi := ih (b := k + 1) (by omega) h.2
        simp only [dropKey, hk, if_false, insKey, hl, objectsWf, Bool.and_eq_true, decide_eq_true_eq]
        exact ⟨h.1, hi⟩

/-- An object looked up in canonical form is in canonical form. -/
theorem valuesWf_look {t : Tab (Tab Word)} (id : Nat) : ∀ {b : Nat}, objectsWf b t = true → valuesWf id 0 (look [] t id) = true := by
  induction t with
  | nil => intro b _; rfl
  | cons p t ih =>
    obtain ⟨l, v⟩ := p
    intro b h
    simp only [objectsWf, Bool.and_eq_true, decide_eq_true_eq] at h
    by_cases hk : l = id
    · subst hk
      simpa [look] using h.1.2
    · simpa [look, hk] using ih h.2

/-- A value written keeps the object values in canonical form. -/
theorem wr_wf (s : State) (id k : Nat) (v : Word) (h : Registers.wf s.regs = true) : Registers.wf (s.wr id k v).regs = true := by
  unfold Registers.wf at *
  have hv := valuesWf_put k v (valuesWf_look id h)
  by_cases he : put (objDefault id k) (look [] s.regs id) k v = []
  · simp only [State.wr, put] at he ⊢
    simp only [he, if_true]
    exact objectsWf_dropKey id h
  · have hne : (put (objDefault id k) (look [] s.regs id) k v).isEmpty = false := by simpa using he
    simp only [State.wr]
    rw [put, if_neg he]
    exact objectsWf_insKey id hne hv (Nat.zero_le _) h

end Sys2Proof.Machine
end

