-- ==== Sys2Proof/Laws/Ops.lean ====
section
/-!
SUPPORT. What the shared operations can do: which parts of the state each can change.
-/

namespace Sys2Proof.Machine

/-- Raising a counter changes the objects only. -/
theorem count_frame (s : State) (id k n : Nat) : s.count id k n = { s with regs := (s.count id k n).regs } := by
  simp only [State.count]; split <;> rfl

/-- Raising a counter by one changes the objects only. -/
theorem inc_frame (s : State) (id k : Nat) : s.inc id k = { s with regs := (s.inc id k).regs } := count_frame s id k 1

/-- Setting sticky bits changes the objects only. -/
theorem setBit_frame (s : State) (id k i : Nat) : s.setBit id k i = { s with regs := (s.setBit id k i).regs } := rfl

/-- Taking a message out of flight changes nothing else. -/
theorem arrived_frame {s s1 : State} {d : Nat} {p : MsgBody → Bool} {m : Msg} (h : s.arrived d p = some (m, s1)) :
    s1 = { s with flight := s1.flight } := by
  simp only [State.arrived] at h
  split at h
  · cases h; rfl
  · cases h

/-- The check of a request that is beyond the record (R46). -/
theorem receiveEpoch_beyond {s : State} {d : Nat} {r : EpochReq}
    (h : epochBeyond r.epoch (s.epochRec (d * 4 + r.cls)).last = true) :
    s.receiveEpoch d r = (true, s.setEpochRec (d * 4 + r.cls)
      { last := r.epoch, reqs := (s.cyc + 2, r) :: trimTrail s.cyc (s.epochRec (d * 4 + r.cls)).reqs }) := by
  simp [State.receiveEpoch, h]

/-- The check of a stale request (R46). -/
theorem receiveEpoch_stale {s : State} {d : Nat} {r : EpochReq}
    (h : epochBeyond r.epoch (s.epochRec (d * 4 + r.cls)).last = false) :
    s.receiveEpoch d r = (false, s.inc Obj.STALE_REQUESTS 0) := by
  simp [State.receiveEpoch, h]

/-- REMOTE_FAULT falls due at one sequencer, and nothing else changes (R25). -/
theorem issuerFault_frame (s : State) (d : Nat) (q : Option Nat) :
    s.issuerFault d q = { s with seqs := (s.issuerFault d q).seqs } := by
  cases q <;> rfl

/-- A message sent over the Gangway: where its fixed route carries it, it is put last in flight (R22, R24). -/
theorem send_up {s : State} {src dst unit : Nat} {issuer : Option Nat} {b : MsgBody}
    (h : (route s.member.dies src dst).all (s.hopOpen dst b) = true) :
    s.send src dst unit issuer b = { s with flight := s.flight ++
      [{ due := s.cyc, src := src, dst := dst, body := b, unit := unit, left := route s.member.dies src dst,
         issuer := issuer }] } := by
  simp [State.send, h, State.launch]

/-- A message sent over the Gangway: where its fixed route does not carry it, it is counted as dropped, and its issuer is to
take REMOTE_FAULT (R25). -/
theorem send_down {s : State} {src dst unit : Nat} {issuer : Option Nat} {b : MsgBody}
    (h : (route s.member.dies src dst).all (s.hopOpen dst b) = false) :
    s.send src dst unit issuer b = (s.inc Obj.DECISION_DROPPED (sel src 0)).issuerFault src issuer := by
  simp [State.send, h]

/-- Sending changes objects, sequencers and the messages in flight only. -/
theorem send_frame (s : State) (src dst unit : Nat) (issuer : Option Nat) (b : MsgBody) :
    s.send src dst unit issuer b =
      { s with regs := (s.send src dst unit issuer b).regs, seqs := (s.send src dst unit issuer b).seqs,
               flight := (s.send src dst unit issuer b).flight } := by
  rcases h : (route s.member.dies src dst).all (s.hopOpen dst b)
  · rw [send_down h, issuerFault_frame, inc_frame]
  · rw [send_up h]

/-- A request sent to a list of dies: the messages put in flight are the request's, from its die to others of the list
(R47). -/
theorem sendEpochs_cases (src : Nat) (issuer : Option Nat) (r : EpochReq) (ds : List Nat) : ∀ s : State,
    (∃ sent, (s.sendEpochs src issuer r ds).flight = s.flight ++ sent ∧
      ∀ m ∈ sent, m.src = src ∧ m.dst ≠ src ∧ m.dst ∈ ds ∧ m.body = .epoch r) ∧
    s.sendEpochs src issuer r ds =
      { s with regs := (s.sendEpochs src issuer r ds).regs, seqs := (s.sendEpochs src issuer r ds).seqs,
               flight := (s.sendEpochs src issuer r ds).flight } := by
  induction ds with
  | nil => intro s; exact ⟨⟨[], by simp [State.sendEpochs], by simp⟩, rfl⟩
  | cons d ds ih =>
    intro s
    simp only [State.sendEpochs]
    split
    · obtain ⟨⟨l, h1, h2⟩, h3⟩ := ih s
      exact ⟨⟨l, h1, fun m hm => by obtain ⟨a, b, c, e⟩ := h2 m hm; exact ⟨a, b, List.mem_cons_of_mem _ c, e⟩⟩, h3⟩
    · rename_i hd
      obtain ⟨⟨l, h1, h2⟩, h3⟩ := ih (s.send src d (issuer.getD 0) issuer (.epoch r))
      constructor
      · rcases h : (route s.member.dies src d).all (s.hopOpen d (.epoch r))
        · refine ⟨l, ?_, ?_⟩
          · rw [h1, send_down h, issuerFault_frame, inc_frame]
          · intro m hm
            obtain ⟨a, b, c, e⟩ := h2 m hm; exact ⟨a, b, List.mem_cons_of_mem _ c, e⟩
        · refine ⟨{ due := s.cyc, src := src, dst := d, body := .epoch r, unit := issuer.getD 0,
                     left := route s.member.dies src d, issuer := issuer } :: l, ?_, ?_⟩
          · rw [h1, send_up h]; simp
          · intro m hm
            rcases List.mem_cons.1 hm with rfl | hm
            · exact ⟨rfl, hd, List.mem_cons_self, rfl⟩
            · obtain ⟨a, b, c, e⟩ := h2 m hm; exact ⟨a, b, List.mem_cons_of_mem _ c, e⟩
      · rw [h3, send_frame]

/-- An event added to a channel changes the channels and CHAN_STATUS only (R359, R363). -/
theorem addEvent_frame (s : State) (d c : Nat) (m : BitVec 5) :
    s.addEvent d c m = { s with chans := (s.addEvent d c m).chans, regs := (s.addEvent d c m).regs } := by
  simp only [State.addEvent]
  split
  · split
    · rfl
    · simp only [State.chanBit]; split <;> rfl
  · rfl

/-- An event offered to channels changes the channels and CHAN_STATUS only. -/
theorem offer_frame (d p : Nat) (cs : List Nat) : ∀ s : State,
    s.offer d p cs = { s with chans := (s.offer d p cs).chans, regs := (s.offer d p cs).regs } := by
  induction cs with
  | nil => intro s; rfl
  | cons c cs ih =>
    intro s
    simp only [State.offer]
    split
    · exact ih s
    · rw [ih, addEvent_frame]

/-- A producer's event changes the channels and CHAN_STATUS only (R353–R363). -/
theorem raise_frame (s : State) (d p : Nat) :
    s.raise d p = { s with chans := (s.raise d p).chans, regs := (s.raise d p).regs } := by
  simp only [State.raise]
  split
  · split
    · rw [addEvent_frame, addEvent_frame, offer_frame]
    · exact offer_frame d p _ s
  · rfl

/-- A log entry changes its die and FAULT_LOG_LOST only (R563). -/
theorem log_frame (s : State) (d cls action unit detail : Nat) :
    s.log d cls action unit detail =
      { s with dies := (s.log d cls action unit detail).dies, regs := (s.log d cls action unit detail).regs } := by
  simp only [State.log]
  split
  · rfl
  · rw [inc_frame]; rfl

end Sys2Proof.Machine
end

