-- ==== Sys2Proof/WellFormed.lean ====
section
/-!
DEFINITION. Which commands name units that the PW8 has (R3, R4, R13, R507). A command that names another unit stands for
nothing that can happen (log 15).
-/

namespace Sys2Proof

/-- Entries of an applied-epoch vector by class (R55). -/
def epochEntries (cls : Nat) : Nat := if cls < 2 then 1024 else if cls = 2 then 72 else 240

/-- The operands of a command that number something, each with how many of it there are. -/
def Instr.bounds : Instr → List (Nat × Nat)
  | .epochRequest _ | .timeSet _ | .tattooMarkerSend | .markerLoss | .syncInCapture | .syncLoadApply
  | .syncOutPulse | .calSet _ _ | .ptpAnnounceReceive _ | .ptpSyncReceive _ | .ptpFollowUpReceive _
  | .ptpDelayReqSend | .ptpDelayRespReceive _ | .ptpAnnounceTimeout | .anchorRefresh | .forwardEntryInstall _
  | .linkStateFlood | .linkStateRecordReceive _ | .routeUpdate | .openSession | .openAdminChallenge
  | .openAdminResponse | .challengeExpiry | .authLockoutEnd _ | .close | .keepalive | .landingRead
  | .landingWrite | .readblock | .writeblock | .subscribe | .fire | .wake | .resetUnit | .resetDie
  | .resetDevice | .resetStopWindowEnd | .commissionSecret _ | .sleepS0 _ | .sleepS1 _ | .sleepS2 _ | .sleepS3 _
  | .sleepStandby _ | .sleepEntryPoint | .timedWake | .vinValid _ _ | .shutdownSignal | .shutdownWindowEnd
  | .shutdownCommand | .shutdownResume | .shutdownReady | .trimSave | .trimSaveComplete | .trimLoadSaved
  | .trimLoadFactory | .verifyRequest _ | .faultLogWrite | .lifetimeWrite | .resetNAssert | .resetNRelease _ _
  | .jtagExtest | .jtagSamplePreload _ | .jtagIdcode | .jtagHighz | .jtagClamp | .jtagExtestPulse
  | .jtagExtestTrain | .jtagBypass | .jtagReserved _ | .refclkReturn | .syncInRise => []
  | .epochRequestArrive d | .remoteCommandArrive d | .pllLock d | .markerReceive d _ _ | .markerAverage d
  | .refclkLoss d | .mirrorUpdateReceive d | .preSegmentCopy d | .rawStartTask d | .rawCaptureEnd d _
  | .rawCopyEnd d | .acqFlush d | .timedFireExpire d | .bridgeEventArrive d | .alertTask d | .alertClear d
  | .hostNotifyTask d | .snsEdgeTask d _ | .flitReceive d _ _ | .probeSend d | .probeReceive d _
  | .echoReceive d _ | .lanesReceive d _ | .ackTimeout d | .stripeWiden d | .hkRoundEnd d _ | .railSettled d
  | .brownoutOrderly d | .brownoutImmediate d | .verifyComplete d _ _ | .watchdogExpiry d
  | .gangwayTrainingEnd d _ _ _ | .fredomBootEnd d => [(d, 8)]
  | .epochApply cls entry => [(cls, 4), (entry, epochEntries cls)]
  | .gangwayLinkFail d link => [(d, 8), (link, 3)]
  | .gangwaySpareSwap d link group => [(d, 8), (link, 3), (group, 40)]
  | .remoteRefusalReturn d q | .seqNop d q _ | .play d q _ | .freq d q _ | .phase d q _ | .mark d q _
  | .event d q _ | .seqPost d q _ | .read d q _ | .acqArm d q _ | .acqForce d q _ | .acqStop d q _
  | .biasActEnqueue d q _ | .biasActStart d q _ | .biasActStop d q _ | .biasActFlush d q _ | .msg d q _
  | .remotePlay d q _ | .remoteFreq d q _ | .remotePhase d q _ | .cntld d q _ | .epoch d q _ | .tret d q _
  | .brNext d q | .brCondalt d q | .brCondnext d q | .brTable d q | .brCall d q | .brReturn d q | .brLoop d q
  | .brHalt d q | .cntopSel d q _ | .cntopDec d q _ | .cntopInc d q _ | .cntopClr d q _ | .cntopReload d q _
  | .seqConditionMet d q | .seqWaitTimeout d q | .stampedActionDeliver d q | .seqStart d q | .seqHalt d q
  | .seqAbort d q | .seqArm d q | .seqDisarm d q | .seqStartTask d q | .seqStopTask d q | .csScrub d q _ => [(d, 8), (q, 16)]
  | .commandIssue d g _ _ | .pulseEnd d g | .genFreqWrite d g _ | .genPhaseOffsetWrite d g _ => [(d, 8), (g, 128)]
  | .outcomePortWrite d p => [(d, 8), (p, 9)]
  | .dlyApply d o | .pdCommit d o _ | .pdCommitApply d o | .outputModeApply d o | .outputSettlingEnd d o => [(d, 8), (o, 16)]
  | .seqEvcTask d q n | .seqEvtTask d q n => [(d, 8), (q, 16), (n, 4)]
  | .windowOpen d m | .windowClose d m _ _ _ _ => [(d, 8), (m, 128)]
  | .inputModeApply d i | .inputSettlingEnd d i | .rotationStep d i | .sliceCalibrationEnd d i _
  | .qualityFigures d i _ _ | .sliceRestore d i _ | .calHoldSet d i | .calHoldClear d i | .wireStart d i
  | .wireCancel d i | .wireCheckAuto d i | .wireCheckBegin d i | .wireCheckRound d i _ | .wireCheckResult d i => [(d, 8), (i, 8)]
  | .slotClear d n | .subConfig d n _ => [(d, 8), (n, 1024)]
  | .forwardRemoval _ mDie mSlot stag => [(mDie, 8), (mSlot, 1024), (stag, 8)]
  | .dspNop d k _ | .dspBr d k _ | .dspCall d k _ | .dspRet d k _ | .dspReti d k _ | .dspRepeat d k _
  | .dspHalt d k _ | .dspWait d k _ | .dspFlag d k _ | .dspSig d k _ | .dspLdi d k _ | .dspMov d k _
  | .dspMvr d k _ | .dspLdsi d k _ | .dspLd d k _ _ | .dspSt d k _ _ | .dspAdd d k _ | .dspSub d k _
  | .dspAnd d k _ | .dspOr d k _ | .dspXor d k _ | .dspShl d k _ | .dspShr d k _ | .dspAsr d k _ | .dspCmp d k _
  | .dspPar d k _ | .dspAddi d k _ | .dspAndi d k _ | .dspOri d k _ | .dspXori d k _ | .dspAdd32 d k _
  | .dspSub32 d k _ | .dspMpy d k _ | .dspMac d k _ | .dspMsu d k _ | .dspMacm d k _ _ _ | .dspClra d k _
  | .dspSha d k _ | .dspSta d k _ | .dspLdac d k _ | .dspAdda d k _ | .dspSuba d k _ | .dspStap d k _
  | .dspRdw d k _ | .dspRds d k _ | .dspRdc d k _ | .dspRdm d k _ | .dspPost d k _ | .dspSmsg d k _
  | .dspInterruptTake d k | .dspWaitEnd d k | .dspCmdStart d k | .dspCmdHalt d k | .dspCmdResume d k
  | .dspCmdStep d k => [(d, 8), (k, 8)]
  | .dspEventInput d k i => [(d, 8), (k, 8), (i, 16)]
  | .toneSample d t _ _ | .toneRestart d t | .trigArm d t | .trigDisarm d t | .trigForce d t => [(d, 8), (t, 2048)]
  | .majorityDecide d u | .majForceTask d u | .majConfigWrite d u _ => [(d, 8), (u, 16)]
  | .tick d n => [(d, 8), (n, 4)]
  | .chanConfig d c ses _ | .chanFireImmediate d c ses | .chanFireTimed d c ses _ | .chanFireCancel d c ses
  | .chanRelease d c ses => [(d, 8), (c, 256), (ses, 64)]
  | .rememberedEventDeliver d c => [(d, 8), (c, 640)]
  | .biasStartTask d g | .biasStopTask d g | .biasFlushTask d g => [(d, 8), (g, 4)]
  | .biasTick d o | .deglitchHoldEnd d o | .biasStart d o | .biasStop d o | .biasFlush d o | .biasSafe d o
  | .biasEnqueue d o _ | .complianceDetect d o | .complianceClear d o | .safeRampStep d o => [(d, 8), (o, 64)]
  | .sensorEdge d c _ | .conversionWindowOpen d c | .conversionWindowClose d c _ | .burstResult d c
  | .snsStart d c | .snsStop d c | .snsOneshot d c | .snsAbort d c => [(d, 8), (c, 4)]
  | .frameSend d l | .callOrderedSet d l _ | .helloReceive d l _ | .laneLock d l _ _ | .laneLockLoss d l
  | .qualificationPass d l | .sleepTx d l | .sleepRx d l | .wakeTx d l | .ferryWakeSignal d l
  | .ferrywakeEnd d l | .eyePublish d l _ _ | .laneConfigApply d l => [(d, 8), (l, 4)]
  | .ackReceive d n | .nakReceive d n => [(d, 8), (n, 256)]
  | .landingRequestArrive port _ _ | .networkConfigWrite port _ _ | .ethLinkUp port | .ethLinkDown port
  | .ethFrameReceive port _ | .dhcpMessageReceive port _ | .dhcpRenew port | .dhcpRebind port | .dhcpExpiry port
  | .arpRequestReceive port _ | .arpReplyReceive port _ | .arpAgeOut port | .icmpEchoRequest port _
  | .neighbourSolicitation port _ | .ethernetActivityWake port => [(port, 2)]
  | .streamFrameSend ses | .sessionTimeout ses | .sessionClose ses => [(ses, 64)]
  | .statusClear _ sel _ | .vendorTestWrite _ sel _ => [(sel, 65536)]
  | .wakeComplete _ selector | .restoreUnit selector => [(selector, 65536)]
  | .tempComparatorTrip d sensor => [(d, 8), (sensor, 6)]

/-- The command names units that exist. -/
def WellFormed (i : Instr) : Bool := i.bounds.all (fun p => decide (p.1 < p.2))

end Sys2Proof
end

