-- ==== Sys2Proof/Tests/Slice0.lean ====
section
/-!
SUPPORT. The model's own tests, and for every statement with hypotheses a state and operands that meet them. The expected
values of the tests are the manual's worked examples, but for SHA-256's, whose digest is FIPS 180-4's own example.
-/

namespace Sys2Proof.Machine

set_option Elab.async false
set_option linter.unusedVariables false

/-! Ill-formed commands: for each kind of bound of `Instr.bounds`, the last unit that exists and the first that does not. -/

/-- R3, R4, R6: the unit named must be one that the die has; here for the units of R4 and their inputs, ports and groups. -/
theorem test_ill_formed_units :
    [.acqFlush 8, .seqHalt 0 16, .pulseEnd 0 128, .dlyApply 0 16, .windowOpen 0 128, .rotationStep 0 8,
      .slotClear 0 1024, .dspCmdHalt 0 8, .toneRestart 0 2048, .majorityDecide 0 16, .biasStop 0 64,
      .snsAbort 0 4, .sleepTx 0 4].all (fun c : Instr => !WellFormed c) = true := by decide

/-- The last unit of each kind is well formed. -/
theorem test_well_formed_units :
    [.acqFlush 7, .seqHalt 0 15, .pulseEnd 0 127, .dlyApply 0 15, .windowOpen 0 127, .rotationStep 0 7,
      .slotClear 0 1023, .dspCmdHalt 0 7, .toneRestart 0 2047, .majorityDecide 0 15, .biasStop 0 63,
      .snsAbort 0 3, .sleepTx 0 3].all (fun c : Instr => WellFormed c) = true := by decide

/-- R55, R150, R295, R353, R354, R382: entries of a vector, task inputs, event inputs, channels, ticks, bias groups. -/
theorem test_ill_formed_inputs :
    [.epochApply 4 0, .epochApply 2 72, .seqEvcTask 0 15 4, .dspEventInput 0 7 16, .outcomePortWrite 0 9,
      .tick 0 4, .chanRelease 0 256 63, .chanRelease 0 255 64, .rememberedEventDeliver 0 640,
      .biasStartTask 0 4].all (fun c : Instr => !WellFormed c) = true := by decide

/-- The last unit of each kind is well formed. -/
theorem test_well_formed_inputs :
    [.epochApply 3 239, .epochApply 2 71, .seqEvcTask 0 15 3, .dspEventInput 0 7 15, .outcomePortWrite 0 8,
      .tick 0 3, .chanRelease 0 255 63, .chanRelease 0 255 62, .rememberedEventDeliver 0 639,
      .biasStartTask 0 3].all (fun c : Instr => WellFormed c) = true := by decide

/-- R13, R20, R431, R470, R555: links and wire groups of Gangway, flit numbers, sessions, selectors, ports, sensors. -/
theorem test_ill_formed_links :
    [.gangwayLinkFail 7 3, .gangwaySpareSwap 0 2 40, .ackReceive 0 256, .ethLinkUp 2, .sessionClose 64,
      .restoreUnit 65536, .tempComparatorTrip 0 6].all (fun c : Instr => !WellFormed c) = true := by decide

/-- The last unit of each kind is well formed. -/
theorem test_well_formed_links :
    [.gangwayLinkFail 7 2, .gangwaySpareSwap 0 2 39, .ackReceive 0 255, .ethLinkUp 1, .sessionClose 63,
      .restoreUnit 65535, .tempComparatorTrip 0 5].all (fun c : Instr => WellFormed c) = true := by decide

/-- The reset state with some power domains on (key die × 128 + number). -/
def withDomains (ks : List Nat) : State := { State.reset with power := ks.map (fun k => (k, ⟨.s0⟩)) }

/-- The same with device time at a count. -/
def withTime (ks : List Nat) (t : Nat) : State :=
  { withDomains ks with clock := { now := BitVec.ofNat 64 t, cyc := t, counting := true } }

/-- A foreign master of domain 0, and a device that has chosen it and measured a path. -/
def ann1 : Announce := ⟨0, 7, 0, 0, 0, 0, 0, 0, 0, 0, 37, 0⟩
def ptp1 : State :=
  { (State.reset.wrN Obj.PTP_ENABLE 0 1) with
    ptp := { foreign := [(ann1, 0)], master := some ann1, ms := some 2, havePath := true } }

/-- A window of two samples, and what its closing forms: the sum, the point, SUSPECT and the value. -/
def win0 : Window := ⟨0, 0, 1, none, false, 0, 0, 0, false, [], []⟩
def sum0 : Int × Int := sumProducts win0 win0.weights.reverse [] 0 (decimatedFrom 0 (5 / 16) win0.start win0.phase win0.freq 2)
def point0 : Int × Int := (roundHalfUp sum0.1, roundHalfUp sum0.2)
def suspect0 : Bool := clippedOver 0 (5 / 16) win0.start 2 || win0.settling || !([] : List Nat).isEmpty
def value0 : BitVec 8 :=
  BitVec.ofNat 8 (win0.kset * 16 + b2n suspect0 * 8 + b2n (discriminate win0.set point0.1 point0.2).2 * 4 +
    (discriminate win0.set point0.1 point0.2).1)

/-- Sequencer 0 of die 0 runs, at cycle 100, its word 0 due now and holding `w`. -/
def seqAt (w : MW) : State :=
  ((withTime [6, 34] 100).setSeq 0 { run := .running, t := 200, ready := 100 }).setDw Obj.CS_DATA 0 0 (w.extractLsb' 72 72)
    |>.setDw Obj.CS_DATA 0 1 (w.extractLsb' 0 72)

/-- Sequencer 0 of die 0 has done the counter operation of its word `w`. -/
def seqActs (w : MW) : State := (withTime [6, 34] 100).setSeq 0 { run := .running, t := 200, phase := .counted, exec := 100, mw := w }

/-- Sequencer 0 of die 0 has done the action of a word with branch `n` and no wait; its wait is over. -/
def seqBranches (n : Nat) : State :=
  (withTime [6, 34] 200).setSeq 0 { run := .running, t := 200, phase := .acted, exec := 100, mw := BitVec.ofNat 144 (n * 2 ^ 113) }
def seqWaited (n : Nat) : State :=
  (withTime [6, 34] 200).setSeq 0
    { run := .running, t := 200, phase := .sampled, exec := 100, cond := true, mw := BitVec.ofNat 144 (n * 2 ^ 113 + 2 * 2 ^ 105) }

/-- Sequencer 0 of die 0 waits at s0 with WAIT `w` and TIME `time` for a condition that is always true. -/
def seqWaits (w time : Nat) : State :=
  let mw : MW := BitVec.ofNat 144 (w * 2 ^ 105 + time * 2 ^ 81)
  ((withTime [34] 162).setSeq 0 { run := .running, t := 200, phase := .acted, exec := 100, mw := mw }).setDw Obj.COND_MAP 0 0 (1 <<< 32)

/-- An event raised in cycle `c`, due at once. -/
def bell (c : Nat) : BellEvent := ⟨c, c, c, false, 1, 0⟩

/-- Sequencer 0 of die 0 in a state, with an event due at channel `c`. -/
def seqTask (c : Nat) (r : SeqRun) : State :=
  (withDomains [34]).setSeq 0 { run := r } |>.setChan c { events := [bell 0] }

/-- Sequencer 0 of die 0, whose word at address 0 is due and stands at an enabled breakpoint; EVT1 has an event due. -/
def atBreak : State :=
  ((seqTask 7 .running).wrN Obj.TRAP_ENABLE 0 66).wrN Obj.BREAK_ADDR 0 32768

/-- Engine 0 of die 0 stands before instruction `w` at address 0, with D registers holding the values of `ds` and `x` for
the rest of it. -/
def dspWith (w : Nat) (x : Dsp) : State :=
  ((withTime [50] 100).setDsp 0 { x with run := true }).setDw Obj.DSP_PROGRAM 0 0 (word (w * 2 ^ 36))
def dspAt (w : Nat) (ds : Tab Nat) : State := dspWith w { regs := ds }

/-- Engine 0 of die 0 with pending inputs, and an event due at channel `c`. -/
def dspBusy (c : Nat) (ip : Tab Nat) : State := (dspWith 0 { ip := ip }).setChan c { events := [bell 0] }

/-- Engine 0 of die 0 with input 3 pending and enabled, GIE 1, before its next instruction or in a WAIT. -/
def dspInt (w : Option DspWaiting) : State :=
  dspWith 0 { ip := [(3, 9)], regs := [(33, 0x8005), (36, 8)], issueAt := 20, wait := w }

/-- Engine 0 of die 0 at an instruction boundary, with two instructions short of their stage 3 and input 3 pending and
enabled, or taken. -/
def dspAhead (t : Option (Nat × Nat)) : State :=
  dspWith 0 { ip := [(3, 99)], regs := [(33, 0x8005), (36, 8)], issueAt := 98, taking := t }

/-- Engine 0 of die 0, halted. -/
def dspHalted : State := (withTime [50] 100).setDsp 0 { regs := [(3, 7), (33, 5)], rs := [(0, 4)], sp := 1, ip := [(2, 5)], mbox := [⟨7, 1, 2⟩] }

/-- Die tone 3 of an input in array mode, at an instant at which a sample with k = 2 is due, with words of its TRIG_CONFIG. -/
def toneAt (x : Tone) (ws : Tab Word) : State :=
  ws.foldl (fun s p => s.setDw Obj.TRIG_CONFIG 3 p.1 p.2)
    ({ (withTime [23] 7744) with inputs := [(0, { mode := 1 })] }.setTone 3 x)

/-- A record in progress, number 7; a tone that is armed with C0 armed, and a C0 that fires on any sample: I rising through
the least value. -/
def rec7 : Rec := { id := 7, typ := .trigger, unit := 3, at_ := 1, len := 5, count := 3, samples := [9], open_ := true }
def trigTone : Tone := { on := true, armed := true, arm := [true, false, false, false] }
def levelUp : Word := word (24 * 2 ^ 66 + 131072 * 2 ^ 36)

/-- Record 7 of die tone 3 whose pre segment of two samples is queued; the ring holds the first. -/
def copyAt : State :=
  { State.reset with
    tones := [(3, { ring := [⟨⟨1, 2⟩, false⟩], n := 1 })],
    acqs := [(0, { recs := [⟨7, .trigger, 3, 0, 0, 5, 0, 0, 2, 1, 0, [], [9], false, true, 0, [], false⟩], copies := [⟨7, 3, 0, 0, 0⟩] })] }

/-- Majority unit 2 of die 0 with two counted tones in its window, Λ 50, at cycle 150. -/
def majX : Maj := { lambda := 50, fires := [(3, 95), (4, 100), (3, 99), (5, 120)] }
def majAt (c : Nat) : State := ((withTime [32] 150).wr Obj.MAJ_CONFIG 2 (word c)).setMaj 2 majX

/-- Die 0 with an event due at RAW_START. -/
def rawAt (r : Raw) : State := ({ State.reset with acqs := [(0, { raw := r })] }).setChan 240 { events := [bell 0] }

/-- Die 0 at cycle 40 with record 7 in its buffer. -/
def rawWith (r : Raw) : State :=
  { State.reset with
    clock := { cyc := 40 }, acqs := [(0, { recs := [{ rec7 with typ := .raw, copying := true }], raw := r })] }

/-- Die 0 with its fabric trained and a live session 3. -/
def liveSession : State :=
  { withDomains [0] with dies := [(0, { trained := true }), (1, { trained := true })], sessions := [(3, { live := true })] }

/-- Bias output 2 of die 0, powered, at a tick of its grid. -/
def biasAt (x : Bias) : State := (withTime [58] 1250).setBias 2 x

/-- A sensor channel in the first half-period of a burst that began at cycle 0, its window open, and one on die 0. -/
def snsIn (g : Nat) : Sns := { run := true, exciting := true, opened := true, gain := g }
def snsAt (x : Sns) : State := (withTime [75] 20000000).setSns 1 x

/-- Channel 1 of die 0 runs with EDGE_SRC EVENT and an event is due at SNS_EDGE. -/
def snsEvents : State := (snsAt { snsIn 3 with config := 0x02080879030B }).setChan 253 { events := [bell 0] }

/-- Update number 1 of slot 5 of die 0 to mirror 512 of die 1 with STAG 3, arrived, and a subscription that it meets. -/
def updateMsg : Msg := { due := 0, src := 0, dst := 1, body := .update ⟨0, none, 0, 5, 1, 512, 3, ⟨7, true, 1⟩⟩ }
def arriving (x : Sub) : State := { State.reset with flight := [updateMsg], subs := [(8704, x)] }

/-- Lane 1 and the port of die 0, powered, at cycle 100, and a device with one neighbour that has one of its own. -/
def ferryAt (x : Lane) (p : FPort) : State := ((withTime [78] 100).setLane 1 x).setFport 0 p
def crossingAt : State :=
  { (ferryAt {} { up := true, partner := some (5, .pw2, 1) }).wrN Obj.LINK_DELAY 0 5000 with
    devices := [⟨5, .pw2, [⟨1, 0, 0, 5⟩, ⟨0, 6, 0, 7⟩]⟩, ⟨6, .pw8, [⟨0, 5, 0, 7⟩]⟩, ⟨9, .pw8, []⟩] }

/-- A Landing header of session 3 with TAG 9, and a request with it from the peer of that session on port A. -/
def headOf (op seq len : Nat) : Head := ⟨1, op, false, false, false, 0, 3, 9, BitVec.ofNat 32 seq, 0, len⟩
def openHead (admin : Bool) (len : Nat) : Head := ⟨1, 1, false, false, admin, 0, 255, 0, 77, 0, len⟩
def reqOfHead (h : Head) (body : List Byte) : Req := ⟨0, ⟨1, 7⟩, h, body, true, some 5, []⟩
def checkedReq (h : Head) (body : List Byte) (checks : List (Nat × Ecc)) : Req := { reqOfHead h body with checks := checks }
def bytes0 (n : Nat) : List Byte := List.replicate n 0

/-- Die 0 booted, port A up with the static IPv6 address 5, session `x` as number 3, and one request waiting. -/
def landWith (x : Session) (h : Head) (body : List Byte) : State :=
  { liveSession with
    dies := [(0, { trained := true, booted := true, plls := 1 }), (1, { trained := true })], sessions := [(3, x)],
    eths := [(0, { up := true })], doms := [(Obj.IPV6_CONFIG, [(0, [(0, 2#72 <<< 70), (2, 5#72 <<< 56)])])],
    landing := { queue := [⟨0, ⟨1, 7⟩, ⟨h.bytes ++ body, []⟩⟩] } }
def boundSession (admin : Bool) : Session := { live := true, admin := admin, port := 0, peer := ⟨1, 7⟩, tag := 9, smax := 5 }
def landAt (h : Head) (body : List Byte) : State := landWith (boundSession false) h body
def landChecked (h : Head) (body : List Byte) (checks : List (Nat × Ecc)) : State :=
  { landAt h body with landing := { queue := [⟨0, ⟨1, 7⟩, ⟨h.bytes ++ body, checks⟩⟩] } }
def lockedOut (s : State) : State := { s with landing := { s.landing with lockouts := [(1, 9)] } }

/-- A commissioned device with a secret of zeros and challenge 5 outstanding, and the second step that answers it. -/
def responseBody : List Byte :=
  64 :: bytes0 7 ++ (toBytes 5 16 ++ bytes0 16) ++ hmac (bytes0 32) (toBytes 5 16 ++ bytes0 16)
def failing (s : State) : State := { s with landing := { s.landing with failures := List.replicate 7 (1, 0) } }
def challenged (s : State) : State :=
  { (s.wrN Obj.COMMISSIONED 0 1) with landing := { s.landing with challenges := [⟨5, 0⟩] } }

/-- Session 3 owns channel 9, subscribes to records of die 0, and is owed one. -/
def holding (s : State) : State :=
  { s with
    chans := [(9, { owner := some 3 })], recSubs := [(3, [⟨0, 1⟩])],
    acqs := [(0, { recs := [⟨7, .trigger, 3, 0, 0, 5, 0, 0, 2, 1, 0, [], [], false, false, 0, [3], true⟩] })] }

/-- Payloads on TONE_DEADBAND of tone 3, ENV_DATA of die 0 from its last word but one, and CHAN_FIRE of channel 9 at time 7. -/
def readBody : List Byte := [0x3C, 0, 2, 0, 3]
def writeBody : List Byte := readBody ++ bytes0 8 ++ [5]
def blockBody (count part : Nat) : List Byte := [0x32, 0, 1, 0, 0, 0, 15, 255, 254] ++ toBytes count 2 ++ toBytes part 2
def dspBody (count part : Nat) : List Byte := toBytes Obj.DSP_DATA 3 ++ [0, 1, 0, 0, 0, 5] ++ toBytes count 2 ++ toBytes part 2
def fireBody : List Byte := [0, 9, 1] ++ bytes0 7 ++ [7]

/-- At cycle 20,000 session `x` is number 3, and a record of die 0 is owed to it. -/
def streaming (x : Session) : State :=
  { landWith x (headOf 3 6 0) [] with
    clock := { cyc := 20000 },
    acqs := [(0, { recs := [⟨7, .mark, 3, 0, 0, 3, 0, 0, 2, 1, 0, [], [], false, false, 0, [3], true⟩] })] }

/-- A RESET that names SEQ_COMMAND of sequencer 2 of die 0, or of a die by the selector's upper byte. -/
def resetSeq : List Byte := [0, 0x34, 0, 1, 0, 2]
def resetChan : List Byte := 0 :: toBytes Obj.CHAN_CONFIG 3 ++ [0, 2]
def resetAt (scope die : Nat) : List Byte := [BitVec.ofNat 8 scope, 0x34, 0, 1, BitVec.ofNat 8 die, 0]

/-- Port A up; with DHCP in a state; and with a lease of 2 s taken at cycle 0. -/
def portUp (x : EthPort) : State := { State.reset with eths := [(0, { x with up := true })] }
def dhcpAt (st : DhcpState) : State := (portUp { dhcp := st }).wr Obj.IPV4_CONFIG 0 ((2 : Word) <<< 70)
def leased (st : DhcpState) (c : Nat) : State :=
  { portUp { dhcp := st, lease := some (0, 2), ipv4 := some ⟨2, 9, 24, 1⟩ } with clock := { cyc := c } }

/-- A SLEEP_REQUEST; an entry due at cycle 5 and a state at a cycle that holds it; and wakes at cycle 100. -/
def sleepWord (want target k : Nat) : Word := BitVec.ofNat 72 (want * 2 ^ 69 + target * 2 ^ 64 + k * 2 ^ 48)
def entryOf (want point target : Nat) (ds : List (Nat × Nat)) (woken : Bool) : SleepEntry :=
  { want := want, target := target, selector := 2, domains := ds, point := point, due := 5, woken := woken }
def entering (e : SleepEntry) (c : Nat) : State := { withTime [0, 36] c with sleep := { result := 1, entry := some e } }
def waking (ws : List WakeJob) : State :=
  { withTime [0, 128] 100 with sleep := { wakes := ws }, dies := [(0, { trained := true }), (1, { s3 := true, trained := true })] }

/-- A housekeeping round at its end, with sensors that have risen in `n` rounds; and readings of 120 °C. -/
def hkAt (n : Nat) : State :=
  { withTime [0, 4] 100 with dies := [(0, { trained := true, sensors := List.replicate 6 { hist := List.replicate 64 0, hot := n } })] }
def hotReadings : List Int := List.replicate 58 12000

/-- Cycle 100 with a generator that holds and an entry in progress; and a device that cooled down after a shutdown. -/
def stopping (x : Shutdown) : State :=
  { withTime [0, 2, 3, 6] 100 with
    shut := x, sleep := { result := 1, entry := some (entryOf 2 1 5 [] false) },
    gens := [(0, { pulse := some ⟨0, 0, 4, 0, 0, true, false, 0, [], [], 0, 0, []⟩ })] }
def cooled (x : Shutdown) (c : Nat) : State := { withTime [0] (12500000005 + c) with shut := x }

/-- Trims with a save in progress or a valid set; retired units; a running verify; an entry that waits; counters due. -/
def trimsAt (busy : Option Nat) (valid : List Nat) : State :=
  { State.reset with
    doms := [(Obj.BIAS_TRIM, [(3, [(0, 0)])])],
    nv := { busy := busy, savedValid := valid, saved := [(Obj.OUT_TRIM, [(3, [(0, 5)])])] } }
def retiredUnits : State := { State.reset with nv := { outs := [3], dsps := [2], fails := [(3, 2)] } }
def verifying (kind : Nat) : State :=
  { withTime [6, 59] 100 with dies := [(0, { verify := { st := 1, kind := kind, unit := 3, due := 100 } })] }
def logWaiting : State :=
  { (State.reset.wrN Obj.FAULT_LOG_TOTAL 0 2) with dies := [(0, { booted := true }), (1, { logs := [⟨5, 7, 1, 1, 9, 3, 4, 5⟩] })] }
def lifeDue : State :=
  { (State.reset.wrN Obj.POWER_CYCLES 0 2) with clock := { cyc := 75000000000 }, dies := [(0, { booted := true })] }

/-- The test access port works and holds an instruction; a lane has lock and port A is up. -/
def tapAt (ir : BitVec 8) : State :=
  { withTime [0, 78] 1250000 with
    jtag := { ir := ir }, lanes := [(1, { rx := .up })], eths := [(0, { up := true, trained := true })] }

/-- A command of generator, without lateness. -/
def cmdOf (op : GenOp) (stamp : Time) (die seq ord : Nat) : GenCmd := { op := op, stamp := stamp, die := die, seq := seq, ord := ord }

theorem witness_epoch_request_issues_1 : ∃ (v : Word) (s : State), bits v 71 70 = 0 ∧ bits v 43 32 = 0 ∧ epochBad
    s.member (epochReqOf v) = false ∧ (epochReqOf v).cls < 3 ∧ epochBeyond (epochReqOf v).epoch (s.epochRec
    (epochReqOf v).cls).last = true :=
  ⟨(1 : Word) <<< 52, State.reset, by decide⟩

theorem witness_epoch_request_issues_2 : ∃ (v : Word) (s : State), bits v 71 70 = 0 ∧ bits v 43 32 = 0 ∧ epochBad
    s.member (epochReqOf v) = false ∧ ((epochReqOf v).cls = 3 ∨ epochBeyond (epochReqOf v).epoch (s.epochRec
    (epochReqOf v).cls).last = false) :=
  ⟨(3 : Word) <<< 68, State.reset, by decide⟩

theorem witness_epoch_request_issues_3 : ∃ (v : Word) (s : State), (bits v 71 70 ≠ 0 ∨ bits v 43 32 ≠ 0) :=
  ⟨(1 : Word) <<< 70, State.reset, by decide⟩

theorem witness_epochs_arrive_and_apply_1 : ∃ (d : Nat) (s s1 : State) (m : Msg) (r : EpochReq), s.arrived d
    MsgBody.isEpoch = some (m, s1) ∧ m.body = .epoch r ∧ epochBeyond r.epoch (s.epochRec (d * 4 + r.cls)).last = true
    :=
  ⟨1,
    { State.reset with flight := [{ due := 0, src := 0, dst := 1, body := .epoch ⟨0, 1, 0, 0⟩ }] },
    State.reset,
    { due := 0, src := 0, dst := 1, body := .epoch ⟨0, 1, 0, 0⟩ },
    ⟨0, 1, 0, 0⟩, by decide⟩

theorem witness_epochs_arrive_and_apply_2 : ∃ (d : Nat) (s s1 : State) (m : Msg) (r : EpochReq), s.arrived d
    MsgBody.isEpoch = some (m, s1) ∧ m.body = .epoch r ∧ epochBeyond r.epoch (s.epochRec (d * 4 + r.cls)).last = false
    :=
  ⟨1,
    { State.reset with flight := [{ due := 0, src := 0, dst := 1, body := .epoch ⟨0, 0, 0, 0⟩ }] },
    State.reset,
    { due := 0, src := 0, dst := 1, body := .epoch ⟨0, 0, 0, 0⟩ },
    ⟨0, 0, 0, 0⟩, by decide⟩

theorem witness_epochs_arrive_and_apply_3 : ∃ (cls entry : Nat) (r : EpochReq) (s : State), cls < 4 ∧ entryDie cls
    entry < s.member.dies ∧ s.unitRetired cls entry = false ∧ s.pendingEpoch (entryDie cls entry) cls entry = some r ∧
    s.atBoundary cls (entryDie cls entry) (entryUnit cls entry) = true ∧ s.railAllows cls (entryDie cls entry)
    (entryUnit cls entry) r = true :=
  ⟨0, 0, ⟨0, 1, 1, 5⟩, { State.reset with epochs := [(0, ⟨1, [(0, ⟨0, 1, 1, 5⟩)]⟩)] }, by decide⟩

/-- The premise of AppliedEpochNeverGoesBack is met. -/
theorem witness_applied_epoch_never_goes_back : ∃ t, exec (.epochApply 0 0) State.reset = .next t := ⟨_, rfl⟩

theorem witness_remote_commands_arrive_1 : ∃ (d g : Nat) (c : GenCmd) (s s1 : State) (m : Msg), s.arrived d
    MsgBody.isRemote = some (m, s1) ∧ m.body = .remote g c ∧ m.doomed = false ∧ s.domOn d (domOut (g / 8)) = true ∧
    (s.gen (sel d g)).queue.length < 32 ∧ s.clock.stepCyc ≠ some s.cyc ∧ s.now + 34 ≤ c.stamp.toNat :=
  ⟨1,
    0,
    { op := .freq 5, stamp := 40, die := 0, seq := 0, ord := 0 },
    { State.reset with flight := [{ due := 0, src := 0, dst := 1, body := .remote 0 { op := .freq 5, stamp := 40, die := 0, seq := 0, ord := 0 } }], power := [(134, ⟨.s0⟩)] },
    { State.reset with power := [(134, ⟨.s0⟩)] },
    { due := 0, src := 0, dst := 1, body := .remote 0 { op := .freq 5, stamp := 40, die := 0, seq := 0, ord := 0 } }, by decide⟩

theorem witness_remote_commands_arrive_2 : ∃ (d g : Nat) (c : GenCmd) (s s1 : State) (m : Msg), s.arrived d
    MsgBody.isRemote = some (m, s1) ∧ m.body = .remote g c ∧ m.doomed = true :=
  ⟨1,
    0,
    { op := .freq 5, stamp := 40, die := 0, seq := 0, ord := 0 },
    { State.reset with flight := [{ due := 0, src := 0, dst := 1, body := .remote 0 { op := .freq 5, stamp := 40, die := 0, seq := 0, ord := 0 }, doomed := true }] },
    State.reset,
    { due := 0, src := 0, dst := 1, body := .remote 0 { op := .freq 5, stamp := 40, die := 0, seq := 0, ord := 0 }, doomed := true }, by decide⟩

theorem witness_remote_commands_arrive_3 : ∃ (d q e g : Nat) (s s1 : State) (m : Msg), s.arrived d (MsgBody.isFor q) =
    some (m, s1) ∧ m.body = .refusal q e g :=
  ⟨0,
    2,
    1,
    7,
    { State.reset with flight := [{ due := 0, src := 1, dst := 0, body := .refusal 2 1 7 }] },
    State.reset,
    { due := 0, src := 1, dst := 0, body := .refusal 2 1 7 }, by decide⟩

theorem witness_remote_commands_arrive_4 : ∃ (d q e g : Nat) (s s1 : State) (m : Msg), s.arrived d (MsgBody.isFor q) =
    some (m, s1) ∧ m.body = .freed q e g ∧ (s.seq (sel d q)).refusedBy = some (e, g) :=
  ⟨0,
    2,
    1,
    7,
    { State.reset with flight := [{ due := 0, src := 1, dst := 0, body := .freed 2 1 7 }], seqs := [(2, { refusedBy := some (1, 7) })] },
    { State.reset with seqs := [(2, { refusedBy := some (1, 7) })] },
    { due := 0, src := 1, dst := 0, body := .freed 2 1 7 }, by decide⟩

theorem witness_generator_commands_1 : ∃ (d g : Nat) (v : BitVec 64) (s : State), bits v 63 48 = 0 :=
  ⟨7, 127, 0xFFFFFFFFFFFF, State.reset, by decide⟩

theorem witness_generator_commands_2 : ∃ (d g : Nat) (v : BitVec 64) (s : State), bits v 63 48 ≠ 0 :=
  ⟨0, 0, 0x1000000000000, State.reset, by decide⟩

theorem witness_generator_commands_4 : ∃ (d g : Nat) (p : Pulse) (s : State), (s.gen (sel d g)).pulse = some p ∧
    p.start + p.len ≤ s.cyc ∧ p.hold = false :=
  ⟨0,
    0,
    ⟨0, 0, 0, 0, 0, false, false, 0, [], [], 0, 0, []⟩,
    { State.reset with gens := [(0, { pulse := some ⟨0, 0, 0, 0, 0, false, false, 0, [], [], 0, 0, []⟩ })] }, by decide⟩

theorem witness_generator_commands_5 : ∃ (d g : Nat) (p : Pulse) (s : State), (s.gen (sel d g)).pulse = some p ∧
    p.start + p.len ≤ s.cyc ∧ p.hold = true :=
  ⟨0,
    0,
    ⟨0, 0, 0, 0, 0, true, false, 0, [], [], 0, 0, []⟩,
    { State.reset with gens := [(0, { pulse := some ⟨0, 0, 0, 0, 0, true, false, 0, [], [], 0, 0, []⟩ })] }, by decide⟩

theorem witness_generator_commands_6 : ∃ (d g : Nat) (fixed bad : List Nat) (c : GenCmd) (cs : List GenCmd) (s :
    State), (s.gen (sel d g)).queue = c :: cs ∧ c.stamp.toNat ≤ s.now + 34 :=
  ⟨0,
    0,
    [],
    [],
    cmdOf (.freq 5) 34 0 0 0,
    [cmdOf (.freq 6) 34 0 1 1, cmdOf (.freq 7) 35 0 1 2],
    { State.reset with gens := [(0, { queue := [cmdOf (.freq 5) 34 0 0 0, cmdOf (.freq 6) 34 0 1 1, cmdOf (.freq 7) 35 0 1 2] })] }, by decide⟩

theorem witness_generator_commands_7 : ∃ (d g : Nat) (fixed bad : List Nat) (c : GenCmd) (cs : List GenCmd) (s :
    State), (s.gen (sel d g)).queue = c :: cs ∧ s.now + 34 < c.stamp.toNat :=
  ⟨0,
    0,
    [],
    [],
    cmdOf (.freq 5) 35 0 0 0,
    [],
    { State.reset with gens := [(0, { queue := [cmdOf (.freq 5) 35 0 0 0] })] }, by decide⟩

theorem witness_predistortion_and_output_modes_2 : ∃ (d o : Nat) (s : State), (s.out (sel d o)).commit = true ∧
    s.outIdle d o = true ∧ (∀ i < 4, iirBad (s.dw (Obj.IIR_SHADOW_0 + i) (sel d o) 1) = false) :=
  ⟨1, 3, { State.reset with outs := [(8195, { commit := true })] }, by decide⟩

theorem witness_predistortion_and_output_modes_3 : ∃ (d o i : Nat) (s : State), (s.out (sel d o)).commit = true ∧
    s.outIdle d o = true ∧ i < 4 ∧ iirBad (s.dw (Obj.IIR_SHADOW_0 + i) (sel d o) 1) = true :=
  ⟨1,
    3,
    2,
    { State.reset with outs := [(8195, { commit := true })] }.setDw (Obj.IIR_SHADOW_0 + 2) 8195 1 0x40000000, by decide⟩

theorem witness_predistortion_and_output_modes_4 : ∃ (d o : Nat) (s : State), s.modePending (sel d o) = true ∧
    s.outIdle d o = true ∧ s.domKept d (domOut o) = true :=
  ⟨0, 0, { (withDomains [6]) with outs := [(0, { mode := 1, written := true })] }, by decide⟩

theorem witness_predistortion_and_output_modes_5 : ∃ (d o : Nat) (s : State), (s.out (sel d o)).settling = true ∧
    (s.out (sel d o)).settle ≤ s.cyc :=
  ⟨0, 0, { State.reset with outs := [(0, { settling := true })] }, by decide⟩

theorem witness_predistortion_and_output_modes_6 : ∃ (d o : Nat) (s : State), s.outIdle d o = true :=
  ⟨0, 0, State.reset, by decide⟩

theorem witness_clocks_time_and_sync_pins_1 : ∃ (d : Nat) (s : State), (s.die d).booted = true ∧ s.clock.refclk = true
    ∧ (∀ c ∈ s.clock.refBack, c + 12500000 ≤ s.cyc) ∧ (s.die d).plls = 0 :=
  ⟨0, { State.reset with dies := [(0, { booted := true })] }, by decide⟩

theorem witness_clocks_time_and_sync_pins_4 : ∃ (v : Time) (s : State), (s.rdN Obj.TIME_SOURCE 0 = 0 ∨ s.isMaster =
    true) ∧ s.anyRunning = false :=
  ⟨1000, State.reset, by decide⟩

theorem witness_clocks_time_and_sync_pins_6 : ∃ (v : Time) (s : State), (s.rdN Obj.TIME_SOURCE 0 = 0 ∨ s.isMaster =
    true) ∧ s.anyRunning = false ∧ s.rdN Obj.TIME_STEPS 0 + 1 < 2 ^ 32 ∧ s.skipped s.now v.toNat = [] :=
  ⟨1000, { State.reset with gens := [(0, { queue := [cmdOf (.freq 5) 34 0 0 0] })] }, by decide⟩

theorem witness_clocks_time_and_sync_pins_7 : ∃ (v : Time) (s : State), ((s.rdN Obj.TIME_SOURCE 0 ≠ 0 ∧ s.isMaster =
    false) ∨ s.anyRunning = true) :=
  ⟨1000, { State.reset with seqs := [(0, { run := .running })] }, by decide⟩

theorem witness_clocks_time_and_sync_pins_8 : ∃ s : State, s.rdN Obj.TIME_SOURCE 0 = 2 ∧ s.rdN Obj.SYNC_ARM 0 = 1 ∧
    s.clock.syncLoadAt = none ∧ s.refEdge = true :=
  ⟨(State.reset.wrN Obj.TIME_SOURCE 0 2).wrN Obj.SYNC_ARM 0 1, by decide⟩

theorem witness_clocks_time_and_sync_pins_9 : ∃ (c : Nat) (s : State), s.clock.syncLoadAt = some c ∧ c ≤ s.cyc ∧
    s.anyRunning = false ∧ s.skipped s.now (bits (s.rd Obj.SYNC_LOAD 0) 63 0) = [] :=
  ⟨0, { State.reset with clock := { syncLoadAt := some 0 } }, by decide⟩

theorem witness_clocks_time_and_sync_pins_10 : ∃ (c : Nat) (s : State), s.clock.syncLoadAt = some c ∧ c ≤ s.cyc ∧
    s.anyRunning = true :=
  ⟨0, { State.reset with clock := { syncLoadAt := some 0 }, seqs := [(0, { run := .running })] }, by decide⟩

theorem witness_clocks_time_and_sync_pins_11 : ∃ (a : Time) (s : State), s.clock.syncOutNext = some a ∧ s.rdN
    Obj.SYNC_OUT_ENABLE 0 = 1 ∧ a.toNat ≤ s.now ∧ s.refEdge = true :=
  ⟨0, { (State.reset.wrN Obj.SYNC_OUT_ENABLE 0 1) with clock := { syncOutNext := some 0 } }, by decide⟩

theorem witness_clocks_time_and_sync_pins_12 : ∃ s : State, s.refEdge = true :=
  ⟨State.reset, by decide⟩

theorem witness_tattoo_1 : ∃ s : State, (∀ c ∈ s.tattoo.sentAt, c + 65536 ≤ s.cyc) ∧ s.isMaster = true :=
  ⟨(State.reset.wrN Obj.TIME_SOURCE 0 1).wrN Obj.TATTOO_ROLE 0 2, by decide⟩

theorem witness_tattoo_2 : ∃ (m h p : Nat) (s : State), (∀ c ∈ s.tattoo.sentAt, c + 65536 ≤ s.cyc) ∧ s.isFollower =
    true ∧ s.tattoo.align = Align.aligned ∧ s.tattoo.follow = some (m, h, p) :=
  ⟨3,
    1,
    0,
    { ((State.reset.wrN Obj.TIME_SOURCE 0 1).wrN Obj.TATTOO_ROLE 0 1) with tattoo := { align := .aligned, follow := some (3, 1, 0) } }, by decide⟩

theorem witness_tattoo_4 : ∃ (d : Nat) (s : State), 256 ≤ (s.link d).count :=
  ⟨0, { State.reset with links := [(0, { count := 256, sumTrip := 512000 })] }, by decide⟩

theorem witness_tattoo_5 : ∃ (d m h : Nat) (s : State), 256 ≤ (s.link d).count ∧ s.isFollower = true ∧ s.tattoo.follow
    = some (m, h, d) ∧ s.tattoo.once = false ∧ s.clock.holdover = false ∧ s.anyRunning = false ∧ s.skipped s.now
    (BitVec.ofInt 64 ((s.now : Int) + (alignStep (mean (s.link d).sumOff2 512)).1)).toNat = [] :=
  ⟨0,
    3,
    1,
    { ((State.reset.wrN Obj.TIME_SOURCE 0 1).wrN Obj.TATTOO_ROLE 0 1) with links := [(0, { count := 256, sumTrip := 512000, sumOff2 := 512000 })], tattoo := { follow := some (3, 1, 0) } }, by decide⟩

theorem witness_tattoo_6 : ∃ (d m h : Nat) (s : State), 256 ≤ (s.link d).count ∧ s.isFollower = true ∧ s.tattoo.follow
    = some (m, h, d) ∧ s.tattoo.once = true ∧ s.tattoo.lost = false ∧ s.tattoo.align = Align.aligned ∧
    s.clock.holdover = false ∧ 0 ≤ 1024 - mean (s.link d).sumOff2 512 ∧ 1024 - mean (s.link d).sumOff2 512 ≤ 2047 :=
  ⟨0,
    3,
    1,
    { ((State.reset.wrN Obj.TIME_SOURCE 0 1).wrN Obj.TATTOO_ROLE 0 1) with links := [(0, { count := 256, sumTrip := 512000, sumOff2 := -512 })], tattoo := { follow := some (3, 1, 0), once := true, align := .aligned } }, by decide⟩

theorem witness_tattoo_7 : ∃ s : State, s.isFollower = true ∧ s.tattoo.lost = false ∧ s.tattoo.follow.isSome = true ∧
    s.tattoo.heardAt + 1048576 ≤ s.cyc :=
  ⟨{ ((State.reset.wrN Obj.TIME_SOURCE 0 1).wrN Obj.TATTOO_ROLE 0 1) with tattoo := { align := .aligned, follow := some (3, 1, 0) }, clock := { cyc := 1048576 } }, by decide⟩

theorem witness_calendar_and_ptp_1 : ∃ (w0 w1 : Word) (s : State), bits w0 71 64 = 0 ∧ bits w1 55 0 = 0 ∧ s.rdN
    Obj.PTP_ENABLE 0 ≠ 1 :=
  ⟨0x10000, 0, State.reset, by decide⟩

theorem witness_calendar_and_ptp_2 : ∃ (w0 w1 : Word) (s : State), bits w0 71 64 = 0 ∧ bits w1 55 0 = 0 ∧ s.rdN
    Obj.PTP_ENABLE 0 = 1 :=
  ⟨0, 0, State.reset.wrN Obj.PTP_ENABLE 0 1, by decide⟩

theorem witness_calendar_and_ptp_3 : ∃ (w0 w1 : Word) (s : State), (bits w0 71 64 ≠ 0 ∨ bits w1 55 0 ≠ 0) :=
  ⟨(1 : Word) <<< 64, 0, State.reset, by decide⟩

theorem witness_calendar_and_ptp_4 : ∃ (b : Time) (f : Nat) (s : State), s.cal.due = some (b, f) ∧ s.cal.st.anchored =
    true :=
  ⟨5, 0, { State.reset with cal := { st := .host, due := some (5, 0) } }, by decide⟩

theorem witness_calendar_and_ptp_5 : ∃ (a : Announce) (s : State), s.ptpHears a.port a.domain = true :=
  ⟨ann1, State.reset.wrN Obj.PTP_ENABLE 0 1, by decide⟩

theorem witness_calendar_and_ptp_6 : ∃ (m : PtpSync) (s : State), s.fromMaster m.port m.domain m.master = true ∧
    m.twoStep = true :=
  ⟨⟨0, 0, 7, 1, true, 5⟩, ptp1, by decide⟩

theorem witness_calendar_and_ptp_7 : ∃ (m : PtpSync) (s : State), s.fromMaster m.port m.domain m.master = true ∧
    m.twoStep = false ∧ s.ptp.havePath = true :=
  ⟨⟨0, 0, 7, 1, false, 2000000000⟩, ptp1, by decide⟩

theorem witness_calendar_and_ptp_8 : ∃ (m : PtpFollowUp) (t2 : Int) (s : State), s.ptp.sync = some (m.seq, t2) ∧
    s.fromMaster m.port m.domain m.master = true ∧ s.ptp.havePath = true :=
  ⟨⟨0, 0, 7, 1, 3⟩, 9, { ptp1 with ptp := { ptp1.ptp with sync := some (1, 9) } }, by decide⟩

theorem witness_calendar_and_ptp_9 : ∃ s : State, s.rdN Obj.PTP_ENABLE 0 = 1 ∧ s.ptp.master.isSome = true ∧
    s.ptp.ms.isSome = true :=
  ⟨ptp1, by decide⟩

theorem witness_calendar_and_ptp_10 : ∃ (m : PtpDelayResp) (t3 ms : Int) (s : State), s.ptp.req = some (m.seq, t3) ∧
    s.ptp.ms = some ms ∧ s.fromMaster m.port m.domain m.master = true :=
  ⟨⟨0, 0, 7, 0, 3⟩, 1, 2, { ptp1 with ptp := { ptp1.ptp with req := some (0, 1) } }, by decide⟩

theorem witness_calendar_and_ptp_11 : ∃ (m : Announce) (h : Nat) (s : State), s.rdN Obj.PTP_ENABLE 0 = 1 ∧
    s.ptp.master = some m ∧ s.ptp.foreign.find? (fun p => p.1.master == m.master) = some (m, h) ∧ h + s.rdN
    Obj.PTP_ANNOUNCE_TIMEOUT 0 * m.interval ≤ s.cyc :=
  ⟨ann1, 0, ptp1, by decide⟩

theorem witness_words_begin_with_their_action_1 : ∃ (d q : Nat) (e : MwEcc) (w : MW) (s : State), beginsWord s d q e w
    = true ∧ w.cntOp = 0 :=
  ⟨0, 0, {}, 0, seqAt 0, by decide⟩

theorem witness_generator_actions_1 : ∃ (d q : Nat) (e : MwEcc) (w : MW) (s : State), actsNow s d q w = true ∧ w.act =
    0x01 ∧ w.op 2 0 = 0 ∧ admits s d (w.op 67 61) (s.seq (sel d q)).t = true :=
  ⟨0, 0, {}, 1 <<< 68, seqActs (1 <<< 68), by decide⟩

theorem witness_generator_actions_2 : ∃ (d q : Nat) (e : MwEcc) (w : MW) (s : State), actsNow s d q w = true ∧ w.act =
    0x02 ∧ w.op 12 0 = 0 ∧ admits s d (w.op 67 61) (s.seq (sel d q)).t = true :=
  ⟨0, 0, {}, 2 <<< 68, seqActs (2 <<< 68), by decide⟩

theorem witness_generator_actions_3 : ∃ (d q : Nat) (e : MwEcc) (w : MW) (s : State), actsNow s d q w = true ∧ w.act =
    0x03 ∧ w.op 27 0 = 0 ∧ admits s d (w.op 67 61) (s.seq (sel d q)).t = true :=
  ⟨0, 0, {}, 3 <<< 68, seqActs (3 <<< 68), by decide⟩

theorem witness_generator_actions_4 : ∃ (d q : Nat) (e : MwEcc) (w : MW) (s : State), actsNow s d q w = true ∧ w.act =
    0x0B ∧ w.op 64 63 = 0 :=
  ⟨0, 0, {}, 11 <<< 68, seqActs (11 <<< 68), by decide⟩

theorem witness_generator_actions_4b : ∃ (d q : Nat) (e : MwEcc) (w : MW) (s : State), actsNow s d q w = true ∧ w.act
    = 0x0B ∧ w.op 64 63 = 0 :=
  ⟨0, 0, {}, (11 <<< 68) ||| (1 <<< 65), seqActs ((11 <<< 68) ||| (1 <<< 65)), by decide⟩

theorem witness_generator_actions_4c : ∃ (d q : Nat) (e : MwEcc) (w : MW) (s : State), actsNow s d q w = true ∧ w.act
    = 0x0B ∧ w.op 64 63 = 0 :=
  ⟨0,
    0,
    {},
    (11 <<< 68) ||| (1 <<< 65),
    { (seqActs ((11 <<< 68) ||| (1 <<< 65))) with glinks := [(0, { up := true }), (5, { up := true })] }, by decide⟩

theorem witness_generator_actions_5 : ∃ (d q : Nat) (e : MwEcc) (w : MW) (s : State), actsNow s d q w = true ∧ w.act =
    0x0B ∧ w.op 64 63 = 1 ∧ w.op 7 0 = 0 :=
  ⟨0, 0, {}, (11 <<< 68) ||| (1 <<< 63), seqActs ((11 <<< 68) ||| (1 <<< 63)), by decide⟩

theorem witness_generator_actions_6 : ∃ (d q : Nat) (e : MwEcc) (w : MW) (s : State), actsNow s d q w = true ∧ w.act =
    0x0B ∧ w.op 64 63 = 2 ∧ w.op 22 0 = 0 :=
  ⟨0, 0, {}, (11 <<< 68) ||| (2 <<< 63), seqActs ((11 <<< 68) ||| (2 <<< 63)), by decide⟩

theorem witness_stamped_actions_1 : ∃ (d q : Nat) (e : MwEcc) (w : MW) (s : State), actsNow s d q w = true ∧ w.act =
    0x04 ∧ w.op 33 0 = 0 :=
  ⟨0, 0, {}, 4 <<< 68, seqActs (4 <<< 68), by decide⟩

theorem witness_stamped_actions_2 : ∃ (d q : Nat) (e : MwEcc) (w : MW) (s : State), actsNow s d q w = true ∧ w.act =
    0x05 ∧ w.op 65 0 = 0 :=
  ⟨0, 0, {}, 5 <<< 68, seqActs (5 <<< 68), by decide⟩

theorem witness_stamped_actions_3 : ∃ (d q : Nat) (e : MwEcc) (w : MW) (s : State), actsNow s d q w = true ∧ w.act =
    0x06 ∧ w.op 49 0 = 0 :=
  ⟨0, 0, {}, 6 <<< 68, seqActs (6 <<< 68), by decide⟩

theorem witness_stamped_actions_4 : ∃ (d q : Nat) (e : MwEcc) (w : MW) (s : State), actsNow s d q w = true ∧ w.act =
    0x08 ∧ w.op 67 66 = 0 ∧ acqBad w = false :=
  ⟨0, 0, {}, 8 <<< 68, seqActs (8 <<< 68), by decide⟩

theorem witness_stamped_actions_5 : ∃ (d q : Nat) (e : MwEcc) (w : MW) (s : State), actsNow s d q w = true ∧ w.act =
    0x08 ∧ w.op 67 66 = 1 ∧ acqBad w = false :=
  ⟨0, 0, {}, (8 <<< 68) ||| (1 <<< 66), seqActs ((8 <<< 68) ||| (1 <<< 66)), by decide⟩

theorem witness_stamped_actions_6 : ∃ (d q : Nat) (e : MwEcc) (w : MW) (s : State), actsNow s d q w = true ∧ w.act =
    0x08 ∧ w.op 67 66 = 2 ∧ acqBad w = false :=
  ⟨0, 0, {}, (8 <<< 68) ||| (2 <<< 66), seqActs ((8 <<< 68) ||| (2 <<< 66)), by decide⟩

theorem witness_stamped_actions_7 : ∃ (d q : Nat) (e : MwEcc) (w : MW) (s : State), actsNow s d q w = true ∧ w.act =
    0x09 ∧ w.op 41 40 = 0 ∧ w.op 39 0 = 0 :=
  ⟨0, 0, {}, 9 <<< 68, seqActs (9 <<< 68), by decide⟩

theorem witness_stamped_actions_8 : ∃ (d q : Nat) (e : MwEcc) (w : MW) (s : State), actsNow s d q w = true ∧ w.act =
    0x09 ∧ w.op 41 40 = 1 ∧ w.op 39 0 = 0 :=
  ⟨0, 0, {}, (9 <<< 68) ||| (1 <<< 40), seqActs ((9 <<< 68) ||| (1 <<< 40)), by decide⟩

theorem witness_stamped_actions_9 : ∃ (d q : Nat) (e : MwEcc) (w : MW) (s : State), actsNow s d q w = true ∧ w.act =
    0x09 ∧ w.op 41 40 = 2 ∧ w.op 39 0 = 0 :=
  ⟨0, 0, {}, (9 <<< 68) ||| (2 <<< 40), seqActs ((9 <<< 68) ||| (2 <<< 40)), by decide⟩

theorem witness_stamped_actions_10 : ∃ (d q : Nat) (e : MwEcc) (w : MW) (s : State), actsNow s d q w = true ∧ w.act =
    0x09 ∧ w.op 41 40 = 3 ∧ w.op 39 0 = 0 :=
  ⟨0, 0, {}, (9 <<< 68) ||| (3 <<< 40), seqActs ((9 <<< 68) ||| (3 <<< 40)), by decide⟩

theorem witness_stamped_actions_11 : ∃ (d q : Nat) (e : MwEcc) (w : MW) (s : State), actsNow s d q w = true ∧ w.act =
    0x0A ∧ w.op 32 0 = 0 :=
  ⟨0, 0, {}, 10 <<< 68, seqActs (10 <<< 68), by decide⟩

theorem witness_stamped_actions_12 : ∃ (d q : Nat) (e : MwEcc) (w : MW) (s : State), actsNow s d q w = true ∧ w.act =
    0x0D ∧ w.op 41 32 = 0 ∧ epochBad s.member w.epochReq = false :=
  ⟨0, 0, {}, 13 <<< 68, seqActs (13 <<< 68), by decide⟩

theorem witness_immediate_actions_and_counters_1 : ∃ (d q : Nat) (e : MwEcc) (w : MW) (s : State), actsNow s d q w =
    true ∧ w.act = 0x00 ∧ w.op 67 0 = 0 :=
  ⟨0, 0, {}, 0, seqActs 0, by decide⟩

theorem witness_immediate_actions_and_counters_2 : ∃ (d q : Nat) (e : MwEcc) (w : MW) (s : State), actsLate s d q w =
    true ∧ w.act = 0x00 ∧ w.op 67 0 = 0 :=
  ⟨0, 0, {}, 1 <<< 80, (seqActs (1 <<< 80)).setSeq 0 { (seqActs (1 <<< 80)).seq 0 with t := 99 }, by decide⟩

theorem witness_immediate_actions_and_counters_3 : ∃ (d q : Nat) (e : MwEcc) (w : MW) (s : State), actsNow s d q w =
    true ∧ w.act = 0x07 ∧ w.op 42 0 = 0 :=
  ⟨0, 0, {}, 7 <<< 68, seqActs (7 <<< 68), by decide⟩

theorem witness_immediate_actions_and_counters_4 : ∃ (d q : Nat) (e : MwEcc) (w : MW) (s : State), actsNow s d q w =
    true ∧ w.act = 0x0C ∧ w.op 39 0 = 0 :=
  ⟨0,
    0,
    {},
    (12 <<< 68) ||| (5 <<< 65) ||| (77 <<< 41) ||| (1 <<< 40),
    seqActs ((12 <<< 68) ||| (5 <<< 65) ||| (77 <<< 41) ||| (1 <<< 40)), by decide⟩

theorem witness_immediate_actions_and_counters_5 : ∃ (d q : Nat) (e : MwEcc) (w : MW) (s : State), actsNow s d q w =
    true ∧ w.act = 0x0E ∧ w.op 67 0 = 0 ∧ (s.seq (sel d q)).inHandler = true ∧ (s.seq (sel d q)).frame.resumable =
    true ∧ (s.seq (sel d q)).frame.waiting = false ∧ (s.seq (sel d q)).pend = 0 :=
  ⟨0,
    0,
    {},
    14 <<< 68,
    (seqActs (14 <<< 68)).setSeq 0 { (seqActs (14 <<< 68)).seq 0 with inHandler := true, frame := { resumable := true, addr := 9, t := 44 } }, by decide⟩

theorem witness_immediate_actions_and_counters_6 : ∃ (d q : Nat) (e : MwEcc) (w : MW) (s : State), actsNow s d q w =
    true ∧ w.act = 0x0E ∧ w.op 67 0 = 0 ∧ (s.seq (sel d q)).inHandler = true ∧ (s.seq (sel d q)).frame.resumable =
    true ∧ (s.seq (sel d q)).frame.waiting = true ∧ (s.seq (sel d q)).pend = 0 :=
  ⟨0,
    0,
    {},
    14 <<< 68,
    (seqActs (14 <<< 68)).setSeq 0 { (seqActs (14 <<< 68)).seq 0 with inHandler := true, frame := { resumable := true, waiting := true, addr := 9, wait := 3, cond := 33, time := 70000, t := 44 } }, by decide⟩

theorem witness_immediate_actions_and_counters_7 : ∃ (d q : Nat) (e : MwEcc) (w : MW) (s : State), actsNow s d q w =
    true ∧ w.act = 0x0E ∧ w.op 67 0 = 0 ∧ (s.seq (sel d q)).inHandler = false :=
  ⟨0, 0, {}, 14 <<< 68, seqActs (14 <<< 68), by decide⟩

theorem witness_immediate_actions_and_counters_8 : ∃ (d q : Nat) (e : MwEcc) (w : MW) (s : State), beginsWord s d q e
    w = true ∧ w.cntOp = 1 :=
  ⟨0, 0, {}, 1 <<< 76, seqAt (1 <<< 76), by decide⟩

theorem witness_immediate_actions_and_counters_9 : ∃ (d q : Nat) (e : MwEcc) (w : MW) (s : State), beginsWord s d q e
    w = true ∧ w.cntOp = 2 :=
  ⟨0, 0, {}, 2 <<< 76, seqAt (2 <<< 76), by decide⟩

theorem witness_immediate_actions_and_counters_10 : ∃ (d q : Nat) (e : MwEcc) (w : MW) (s : State), beginsWord s d q e
    w = true ∧ w.cntOp = 3 :=
  ⟨0, 0, { hi := .corrected }, 3 <<< 76, seqAt (3 <<< 76), by decide⟩

theorem witness_immediate_actions_and_counters_11 : ∃ (d q : Nat) (e : MwEcc) (w : MW) (s : State), beginsWord s d q e
    w = true ∧ w.cntOp = 4 :=
  ⟨0, 0, {}, 4 <<< 76, seqAt (4 <<< 76), by decide⟩

theorem witness_immediate_actions_and_counters_12 : ∃ (d q : Nat) (e : MwEcc) (w : MW) (s : State), beginsWord s d q e
    w = true ∧ w.cntOp = 5 :=
  ⟨0, 0, {}, 5 <<< 76, seqAt (5 <<< 76), by decide⟩

theorem witness_branches_1 : ∃ (d q : Nat) (s : State), branchesNow s d q 0 = true :=
  ⟨0, 0, seqBranches 0, by decide⟩

theorem witness_branches_2 : ∃ (d q : Nat) (s : State), branchesNow s d q 1 = true ∧ 2 ≤ (s.seq (sel d q)).mw.wait :=
  ⟨0, 0, seqWaited 1, by decide⟩

theorem witness_branches_3 : ∃ (d q : Nat) (s : State), branchesNow s d q 1 = true ∧ (s.seq (sel d q)).mw.wait < 2 :=
  ⟨0, 0, seqBranches 1, by decide⟩

theorem witness_branches_4 : ∃ (d q : Nat) (s : State), branchesNow s d q 2 = true ∧ 2 ≤ (s.seq (sel d q)).mw.wait :=
  ⟨0, 0, seqWaited 2, by decide⟩

theorem witness_branches_5 : ∃ (d q : Nat) (s : State), branchesNow s d q 2 = true ∧ (s.seq (sel d q)).mw.wait < 2 :=
  ⟨0, 0, seqBranches 2, by decide⟩

theorem witness_branches_6 : ∃ (d q : Nat) (s : State), branchesNow s d q 3 = true ∧ 2 ≤ (s.seq (sel d q)).mw.wait :=
  ⟨0, 0, seqWaited 3, by decide⟩

theorem witness_branches_7 : ∃ (d q : Nat) (s : State), branchesNow s d q 3 = true ∧ (s.seq (sel d q)).mw.wait < 2 :=
  ⟨0, 0, seqBranches 3, by decide⟩

theorem witness_branches_8 : ∃ (d q : Nat) (s : State), branchesNow s d q 4 = true ∧ (s.seq (sel d q)).sp < 8 :=
  ⟨0, 0, seqBranches 4, by decide⟩

theorem witness_branches_9 : ∃ (d q : Nat) (s : State), branchesNow s d q 4 = true ∧ 8 ≤ (s.seq (sel d q)).sp :=
  ⟨0, 0, (seqBranches 4).setSeq 0 { (seqBranches 4).seq 0 with sp := 8 }, by decide⟩

theorem witness_branches_10 : ∃ (d q : Nat) (s : State), branchesNow s d q 5 = true ∧ 0 < (s.seq (sel d q)).sp :=
  ⟨0, 0, (seqBranches 5).setSeq 0 { (seqBranches 5).seq 0 with sp := 8 }, by decide⟩

theorem witness_branches_11 : ∃ (d q : Nat) (s : State), branchesNow s d q 5 = true ∧ (s.seq (sel d q)).sp = 0 :=
  ⟨0, 0, seqBranches 5, by decide⟩

theorem witness_branches_12 : ∃ (d q : Nat) (s : State), branchesNow s d q 6 = true ∧ s.counter (sel d q) (s.seq (sel
    d q)).latch = 0 :=
  ⟨0, 0, seqBranches 6, by decide⟩

theorem witness_branches_13 : ∃ (d q : Nat) (s : State), branchesNow s d q 6 = true ∧ 0 < s.counter (sel d q) (s.seq
    (sel d q)).latch :=
  ⟨0, 0, (seqBranches 6).wrN Obj.SEQ_COUNTER_0 0 3, by decide⟩

theorem witness_branches_14 : ∃ (d q : Nat) (s : State), s.seqRuns d q = true ∧ (s.seq (sel d q)).phase = .acted ∧
    (s.seq (sel d q)).mw.br = 7 ∧ (s.seq (sel d q)).exec ≤ s.now :=
  ⟨0, 0, seqBranches 7, by decide⟩

theorem witness_waits_and_deliveries_1 : ∃ (d q : Nat) (s : State), s.inWait d q = true ∧ s.condValue d q (s.seq (sel
    d q)).mw.cond = true ∧ s.sampleBad (sel d q) (s.seq (sel d q)).mw = false ∧ (s.seq (sel d q)).mw.wait = 2 :=
  ⟨0, 0, seqWaits 2 7, by decide⟩

theorem witness_waits_and_deliveries_2 : ∃ (d q : Nat) (s : State), s.inWait d q = true ∧ s.condValue d q (s.seq (sel
    d q)).mw.cond = true ∧ s.sampleBad (sel d q) (s.seq (sel d q)).mw = false ∧ (s.seq (sel d q)).mw.wait = 3 ∧ (s.now
    ≤ (s.seq (sel d q)).deadline - 38 ∨ s.now = (s.seq (sel d q)).s0) :=
  ⟨0, 0, seqWaits 3 900, by decide⟩

theorem witness_waits_and_deliveries_3 : ∃ (d q : Nat) (s : State), s.inWait d q = true ∧ s.sampleBad (sel d q) (s.seq
    (sel d q)).mw = false ∧ (s.seq (sel d q)).mw.wait = 3 ∧ (max (s.seq (sel d q)).s0 ((s.seq (sel d q)).deadline -
    38) < s.now ∨ (max (s.seq (sel d q)).s0 ((s.seq (sel d q)).deadline - 38) = s.now ∧ s.condValue d q (s.seq (sel d
    q)).mw.cond = false)) :=
  ⟨0, 0, (seqWaits 3 0).setDw Obj.COND_MAP 0 0 0, by decide⟩

theorem witness_waits_and_deliveries_4 : ∃ (d q due : Nat) (stamp : Nat) (a : StampAct) (rest : List Stamped) (s u :
    State), (s.seq (sel d q)).buf = ⟨due, stamp, a⟩ :: rest ∧ due ≤ s.now ∧ s.domOn d (domSeq q) = true ∧ u = s.setSeq
    (sel d q) { s.seq (sel d q) with buf := rest } :=
  ⟨0,
    0,
    90,
    80,
    .event 2,
    [],
    (withTime [34] 100).setSeq 0 { buf := [⟨90, 80, .event 2⟩] },
    ((withTime [34] 100).setSeq 0 { buf := [⟨90, 80, .event 2⟩] }).setSeq 0 { ((withTime [34] 100).setSeq 0 { buf := [⟨90, 80, .event 2⟩] }).seq 0 with buf := [] }, by decide⟩

theorem witness_sequencer_commands_1 : ∃ (d q : Nat) (s : State), (s.seq (sel d q)).run ≠ .running ∧ s.domOn d (domSeq
    q) = true ∧ s.rdN Obj.SEQ_START_ADDR (sel d q) < 2 ^ 14 :=
  ⟨0, 0, withDomains [34], by decide⟩

theorem witness_sequencer_commands_2 : ∃ (d q : Nat) (s : State), ((s.seq (sel d q)).run = .running ∨ s.domOn d
    (domSeq q) = false) :=
  ⟨0, 0, (withDomains [34]).setSeq 0 { run := .running }, by decide⟩

theorem witness_sequencer_commands_3 : ∃ (d q : Nat) (s : State), (s.seq (sel d q)).run = .running :=
  ⟨0, 0, (withDomains [34]).setSeq 0 { run := .running, cntWrites := [(2, 7)] }, by decide⟩

theorem witness_sequencer_commands_4 : ∃ (d q : Nat) (s : State), (s.seq (sel d q)).run = .armed :=
  ⟨0, 0, (withDomains [34]).setSeq 0 { run := .armed }, by decide⟩

theorem witness_sequencer_commands_5 : ∃ (d q : Nat) (s : State), (s.seq (sel d q)).run = .halted :=
  ⟨0, 0, withDomains [34], by decide⟩

theorem witness_sequencer_commands_7 : ∃ (d q : Nat) (s : State), (s.seq (sel d q)).run = .halted ∧ s.domOn d (domSeq
    q) = true :=
  ⟨0, 0, withDomains [34], by decide⟩

theorem witness_sequencer_commands_8 : ∃ (d q : Nat) (s : State), (s.seq (sel d q)).run = .armed :=
  ⟨0, 0, (withDomains [34]).setSeq 0 { run := .armed }, by decide⟩

theorem witness_sequencer_commands_9 : ∃ (d q : Nat) (s : State), ((s.seq (sel d q)).run ≠ .halted ∨ s.domOn d (domSeq
    q) = false) :=
  ⟨0, 0, (withDomains [34]).setSeq 0 { run := .armed }, by decide⟩

theorem witness_sequencer_commands_10 : ∃ (d q : Nat) (s : State), (s.seq (sel d q)).run ≠ .armed :=
  ⟨0, 0, withDomains [34], by decide⟩

theorem witness_sequencer_tasks_and_scrub_1 : ∃ (d q : Nat) (v : BellEvent) (s s1 : State), s.domOn d (domSeq q) =
    true ∧ s.deliver d (10 * q) false = (some v, s1) ∧ (s.seq (sel d q)).run = .armed :=
  ⟨0, 0, bell 0, seqTask 0 .armed, ((seqTask 0 .armed).deliver 0 0 false).2, by decide⟩

theorem witness_sequencer_tasks_and_scrub_2 : ∃ (d q : Nat) (v : BellEvent) (s s1 : State), s.domOn d (domSeq q) =
    true ∧ s.deliver d (10 * q + 1) false = (some v, s1) ∧ (s.seq (sel d q)).run ≠ .halted :=
  ⟨0, 0, bell 0, seqTask 1 .running, ((seqTask 1 .running).deliver 0 1 false).2, by decide⟩

theorem witness_sequencer_tasks_and_scrub_3 : ∃ (d q n : Nat) (v : BellEvent) (s s1 : State), n < 4 ∧ s.domOn d
    (domSeq q) = true ∧ (s.seq (sel d q)).evc.getLsbD n = false ∧ s.deliver d (10 * q + 2 + n) false = (some v, s1) :=
  ⟨0, 0, 2, bell 0, seqTask 4 .running, ((seqTask 4 .running).deliver 0 4 false).2, by decide⟩

theorem witness_sequencer_tasks_and_scrub_4 : ∃ (d q n : Nat) (v : BellEvent) (s s1 : State), n < 4 ∧ s.seqRuns d q =
    true ∧ s.deliver d (10 * q + 6 + n) false = (some v, s1) ∧ bit (s.rd Obj.TRAP_ENABLE (sel d q)) n = true ∧ (s.seq
    (sel d q)).inHandler = false ∧ (s.seq (sel d q)).phase = .ready ∧ (s.wordDue d q = false ∨ s.breakHere (sel d q) =
    false) :=
  ⟨0,
    0,
    1,
    bell 0,
    (seqTask 7 .running).wrN Obj.TRAP_ENABLE 0 2,
    (((seqTask 7 .running).wrN Obj.TRAP_ENABLE 0 2).deliver 0 7 false).2, by decide⟩

theorem witness_sequencer_tasks_and_scrub_5 : ∃ (d q : Nat) (e : Ecc) (s : State), (s.store (sel d q)).due ≤ s.cyc ∧
    s.domOn d (domSeq q) = true :=
  ⟨0, 0, .uncorrectable, withDomains [34], by decide⟩

theorem witness_sequencer_tasks_and_scrub_5b : ∃ (d q : Nat) (e : Ecc) (s : State), (s.store (sel d q)).due ≤ s.cyc ∧
    s.domOn d (domSeq q) = true :=
  ⟨0, 0, .corrected, withDomains [34], by decide⟩

theorem witness_sequencer_tasks_and_scrub_6 : ∃ (d q n : Nat) (v : BellEvent) (s s1 : State), n < 4 ∧ s.deliver d (10
    * q + 6 + n) false = (some v, s1) ∧ bit (s.rd Obj.TRAP_ENABLE (sel d q)) n = true ∧ (s.seq (sel d q)).inHandler =
    false ∧ s.wordDue d q = true ∧ s.breakHere (sel d q) = true ∧ (s.seq (sel d q)).pend = 0 :=
  ⟨0, 0, 1, bell 0, atBreak, (atBreak.deliver 0 7 false).2, by decide⟩

theorem witness_inputs_and_windows_1 : ∃ (d i c mode range : Nat) (s : State), (s.rfIn (sel d i)).written = some c ∧
    (((s.rfIn (sel d i)).mode = 1 → c < s.cyc)) ∧ (((s.rfIn (sel d i)).mode ≠ 1 → s.wireRuns (sel d i) = false ∧ ∀ j :
    Nat, j < 16 → s.demodOpen d (16 * i + j) = false)) ∧ mode = s.rdN Obj.INPUT_MODE (sel d i) ∧ mode ≤ 1 ∧ range =
    s.rdN Obj.INPUT_RANGE (sel d i) ∧ range ≤ 3 :=
  ⟨1,
    2,
    0,
    0,
    3,
    { ((withDomains [153]).wrN Obj.INPUT_RANGE 8194 3) with inputs := [(8194, { written := some 0 })] }, by decide⟩

theorem witness_inputs_and_windows_2 : ∃ (d i : Nat) (s : State), (s.rfIn (sel d i)).settling = true ∧ (s.rfIn (sel d
    i)).settle ≤ s.cyc :=
  ⟨0, 0, { State.reset with inputs := [(0, { settling := true })] }, by decide⟩

theorem witness_inputs_and_windows_3 : ∃ (d m : Nat) (r top : ReadReq) (rest : List ReadReq) (set : List Word) (run
    phase : BitVec 48) (s : State), (s.demod (sel d m)).reads.filter (fun r => decide (r.opens ≤ s.now)) = r :: rest ∧
    s.readRefused d m = false ∧ top = rest.foldl (fun a b : ReadReq => if a.seq < b.seq then b else a) r ∧ bits (s.rd
    Obj.DEMOD_FREQ (sel d m)) 63 48 = 0 ∧ bits (s.rd Obj.DEMOD_CONTROL (sel d m)) 31 2 = 0 ∧ set = lookRange 0 (look
    [] (look [] s.doms (if (s.demod (sel d m)).kset = 0 then Obj.DEMOD_SET_0 else Obj.DEMOD_SET_1)) (sel d m)) 0 10 ∧
    setBad set = false ∧ run = (if bit (s.rd Obj.DEMOD_CONTROL (sel d m)) 0 then 0 else (s.demod (sel d m)).phaseNow
    s.cyc) ∧ phase = run + (s.rd Obj.DEMOD_PHASE (sel d m)).setWidth 48 <<< 16 :=
  ⟨0,
    5,
    ⟨0, 3, 100, false, false⟩,
    ⟨0, 3, 100, false, false⟩,
    [],
    List.replicate 10 0,
    0,
    0,
    { (withDomains [23, 31]) with demods := [(5, { reads := [⟨0, 3, 100, false, false⟩] })] }, by decide⟩

theorem witness_inputs_and_windows_3b : ∃ (d m : Nat) (r top : ReadReq) (rest : List ReadReq) (set : List Word) (run
    phase : BitVec 48) (s : State), (s.demod (sel d m)).reads.filter (fun r => decide (r.opens ≤ s.now)) = r :: rest ∧
    s.readRefused d m = false ∧ top = rest.foldl (fun a b : ReadReq => if a.seq < b.seq then b else a) r ∧ bits (s.rd
    Obj.DEMOD_FREQ (sel d m)) 63 48 = 0 ∧ bits (s.rd Obj.DEMOD_CONTROL (sel d m)) 31 2 = 0 ∧ set = lookRange 0 (look
    [] (look [] s.doms (if (s.demod (sel d m)).kset = 0 then Obj.DEMOD_SET_0 else Obj.DEMOD_SET_1)) (sel d m)) 0 10 ∧
    setBad set = false ∧ run = (if bit (s.rd Obj.DEMOD_CONTROL (sel d m)) 0 then 0 else (s.demod (sel d m)).phaseNow
    s.cyc) ∧ phase = run + (s.rd Obj.DEMOD_PHASE (sel d m)).setWidth 48 <<< 16 :=
  ⟨0,
    5,
    ⟨0, 3, 100, false, false⟩,
    ⟨0, 4, 90, true, false⟩,
    [⟨0, 4, 90, true, false⟩],
    List.replicate 10 0,
    0,
    0,
    { (withDomains [23, 31]) with demods := [(5, { reads := [⟨0, 3, 100, false, false⟩, ⟨0, 4, 90, true, false⟩], windows := [⟨0, 0, 9, none, false, 0, 0, 0, false, [], []⟩] })] }, by decide⟩

theorem witness_inputs_and_windows_4 : ∃ (d m : Nat) (r : ReadReq) (rest : List ReadReq) (s : State), (s.demod (sel d
    m)).reads.filter (fun r => decide (r.opens ≤ s.now)) = r :: rest ∧ s.readRefused d m = true :=
  ⟨0,
    5,
    ⟨0, 3, 100, false, false⟩,
    [],
    { (withDomains [23]) with demods := [(5, { reads := [⟨0, 3, 100, false, false⟩] })] }, by decide⟩

theorem witness_inputs_and_windows_5 : ∃ (d m fixed n : Nat) (bad : List Nat) (w : Window) (rest : List Window) (sum p
    : Int × Int) (suspect : Bool) (v : BitVec 8) (s : State), takeFirst (fun w : Window => decide (w.last + 14 ≤
    s.cyc)) (s.demod (sel d m)).windows = some (w, rest) ∧ n = w.last + 1 - w.start ∧ sum = sumProducts w
    w.weights.reverse bad 0 (decimatedFrom d (m / 16) w.start w.phase w.freq n) ∧ p = (roundHalfUp sum.1, roundHalfUp
    sum.2) ∧ suspect = (clippedOver d (m / 16) w.start n || w.settling || !bad.isEmpty) ∧ v = BitVec.ofNat 8 (w.kset *
    16 + b2n suspect * 8 + b2n (discriminate w.set p.1 p.2).2 * 4 + (discriminate w.set p.1 p.2).1) :=
  ⟨0,
    5,
    0,
    2,
    ([] : List Nat),
    win0,
    [],
    sum0,
    point0,
    suspect0,
    value0,
    { State.reset with clock := { cyc := 15 }, demods := [(5, { windows := [win0] })] }, by decide, by decide, rfl, rfl, rfl, rfl⟩

theorem witness_slice_rotation_1 : ∃ (d i : Nat) (s : State), s.domOn d (domIn i) = true ∧ s.retiredSlice (sel d i) =
    none ∧ s.atFrame = true ∧ ((s.rfIn (sel d i)).rot.begun = false ∨ (s.rfIn (sel d i)).rot.held = true) ∧ bit (s.rd
    Obj.CAL_CONTROL (sel d i)) 0 = false :=
  ⟨0, 0, withDomains [23], by decide⟩

theorem witness_slice_rotation_2 : ∃ (d i : Nat) (s : State), s.domOn d (domIn i) = true ∧ s.retiredSlice (sel d i) =
    none ∧ s.atFrame = true ∧ ((s.rfIn (sel d i)).rot.begun = false ∨ (s.rfIn (sel d i)).rot.held = true) ∧ bit (s.rd
    Obj.CAL_CONTROL (sel d i)) 0 = true :=
  ⟨0, 0, (withDomains [23]).wrN Obj.CAL_CONTROL 0 1, by decide⟩

theorem witness_slice_rotation_3 : ∃ (d i : Nat) (s : State), s.domOn d (domIn i) = true ∧ s.retiredSlice (sel d i) =
    none ∧ s.atFrame = true ∧ (s.rfIn (sel d i)).rot.begun = true ∧ (s.rfIn (sel d i)).rot.held = false ∧ (s.rfIn (sel
    d i)).rot.retire = false ∧ (s.rfIn (sel d i)).rot.abandoned = false ∧ (s.rfIn (sel d i)).rot.start + 154400 ≤
    s.cyc :=
  ⟨0, 0, { (withTime [23] 154400) with inputs := [(0, { rot := { begun := true, fresh := [16] } })] }, by decide⟩

theorem witness_slice_rotation_4 : ∃ (d i : Nat) (s : State), s.domOn d (domIn i) = true ∧ s.retiredSlice (sel d i) =
    none ∧ s.atFrame = true ∧ (s.rfIn (sel d i)).rot.begun = true ∧ (s.rfIn (sel d i)).rot.held = false ∧ (s.rfIn (sel
    d i)).rot.retire = true ∧ (s.rfIn (sel d i)).rot.start + 154400 ≤ s.cyc :=
  ⟨0, 0, { (withTime [23] 154400) with inputs := [(0, { rot := { begun := true, retire := true } })] }, by decide⟩

theorem witness_slice_rotation_5 : ∃ (d i : Nat) (s : State), s.domOn d (domIn i) = true ∧ s.retiredSlice (sel d i) =
    none ∧ s.atFrame = true ∧ (s.rfIn (sel d i)).rot.begun = true ∧ (s.rfIn (sel d i)).rot.held = false ∧ (s.rfIn (sel
    d i)).rot.retire = false ∧ (s.rfIn (sel d i)).rot.abandoned = true ∧ (s.rfIn (sel d i)).rot.start + 154400 ≤ s.cyc
    :=
  ⟨0,
    0,
    { (withTime [23] 154400) with inputs := [(0, { rot := { begun := true, abandoned := true } })] }, by decide⟩

theorem witness_slice_rotation_6 : ∃ (d i : Nat) (m : CalMeas) (s : State), s.domOn d (domIn i) = true ∧
    s.retiredSlice (sel d i) = none ∧ (s.rfIn (sel d i)).rot.begun = true ∧ (s.rfIn (sel d i)).rot.held = false ∧
    (s.rfIn (sel d i)).rot.calibrated = false ∧ (s.rfIn (sel d i)).rot.abandoned = false ∧ (s.rfIn (sel d
    i)).rot.start + 154272 ≤ s.cyc ∧ calFails m = false :=
  ⟨0,
    0,
    { offset := 3, gain := 4, skew := 5 },
    { (withTime [23] 154272) with inputs := [(0, { rot := { begun := true } })] }, by decide⟩

theorem witness_slice_rotation_6b : ∃ (d i : Nat) (m : CalMeas) (s : State), s.domOn d (domIn i) = true ∧
    s.retiredSlice (sel d i) = none ∧ (s.rfIn (sel d i)).rot.begun = true ∧ (s.rfIn (sel d i)).rot.held = false ∧
    (s.rfIn (sel d i)).rot.calibrated = false ∧ (s.rfIn (sel d i)).rot.abandoned = false ∧ (s.rfIn (sel d
    i)).rot.start + 154272 ≤ s.cyc ∧ calFails m = false :=
  ⟨0,
    0,
    { offset := 3, gain := 4, skew := 5, skewHeld := true, handoverOk := false },
    { (withTime [23] 154272) with inputs := [(0, { rot := { begun := true, fresh := [16] } })] }, by decide⟩

theorem witness_slice_rotation_7 : ∃ (d i : Nat) (m : CalMeas) (s : State), s.domOn d (domIn i) = true ∧
    s.retiredSlice (sel d i) = none ∧ (s.rfIn (sel d i)).rot.begun = true ∧ (s.rfIn (sel d i)).rot.held = false ∧
    (s.rfIn (sel d i)).rot.calibrated = false ∧ (s.rfIn (sel d i)).rot.abandoned = false ∧ (s.rfIn (sel d
    i)).rot.start + 154272 ≤ s.cyc ∧ calFails m = true :=
  ⟨0,
    0,
    { noiseOk := false },
    { (withTime [23] 154272) with inputs := [(0, { rot := { begun := true } })] }, by decide⟩

theorem witness_slice_rotation_8 : ∃ (d i : Nat) (offset image : BitVec 16) (s : State), s.domOn d (domIn i) = true ∧
    ((s.retiredSlice (sel d i) = none ∧ 17 ≤ (s.rfIn (sel d i)).rot.done) ∨ ((s.retiredSlice (sel d i)).isSome = true
    ∧ (s.rfIn (sel d i)).rot.figuresAt + 2624800 ≤ s.cyc)) :=
  ⟨0, 0, 3, 4, { (withDomains [23]) with inputs := [(0, { rot := { begun := true, done := 17 } })] }, by decide⟩

theorem witness_slice_rotation_9 : ∃ (d i v : Nat) (s : State), s.retiredSlice (sel d i) = some v :=
  ⟨0, 0, 4, { (withDomains [23]) with nv := { slices := [(0, (5, []))] } }, by decide⟩

theorem witness_slice_rotation_10 : ∃ (d i v : Nat) (s : State), s.retiredSlice (sel d i) ≠ some v :=
  ⟨0, 0, 4, State.reset, by decide⟩

theorem witness_wire_checks_1 : ∃ (d i : Nat) (s : State), (s.rfIn (sel d i)).wire.waiting = false ∧ s.wireRuns (sel d
    i) = false ∧ (s.rfIn (sel d i)).mode ≠ 1 :=
  ⟨0, 0, State.reset, by decide⟩

theorem witness_wire_checks_2 : ∃ (d i : Nat) (s : State), (s.rfIn (sel d i)).wire.waiting = false ∧ s.wireRuns (sel d
    i) = false ∧ (s.rfIn (sel d i)).mode ≠ 1 ∧ 0 < bits (s.rd Obj.WIRE_CONFIG (sel d i)) 23 8 ∧ (s.rfIn (sel d
    i)).wire.ended.toNat + bits (s.rd Obj.WIRE_CONFIG (sel d i)) 23 8 * 1250000000 ≤ s.now :=
  ⟨0, 0, (withTime [] 1250000000).wrN Obj.WIRE_CONFIG 0 256, by decide⟩

theorem witness_wire_checks_3 : ∃ (d i : Nat) (s : State), i < 8 ∧ (s.rfIn (sel d i)).wire.waiting = false ∧
    s.wireRuns (sel d i) = false ∧ (s.rfIn (sel d i)).mode = 1 :=
  ⟨0, 0, { State.reset with inputs := [(0, { mode := 1 })] }, by decide⟩

theorem witness_wire_checks_4 : ∃ (d i : Nat) (s : State), i < 8 ∧ (s.rfIn (sel d i)).wire.waiting = false ∧
    s.wireRuns (sel d i) = false ∧ (s.rfIn (sel d i)).mode = 1 ∧ 0 < bits (s.rd Obj.WIRE_CONFIG (sel d i)) 23 8 ∧
    (s.rfIn (sel d i)).wire.ended.toNat + bits (s.rd Obj.WIRE_CONFIG (sel d i)) 23 8 * 1250000000 ≤ s.now :=
  ⟨0, 0, { ((withTime [] 1250000000).wrN Obj.WIRE_CONFIG 0 256) with inputs := [(0, { mode := 1 })] }, by decide⟩

theorem witness_wire_checks_5 : ∃ (d i : Nat) (s : State), ((s.rfIn (sel d i)).wire.waiting = true ∨ s.wireRuns (sel d
    i) = true) :=
  ⟨0, 0, { State.reset with inputs := [(0, { wire := { waiting := true } })] }, by decide⟩

theorem witness_wire_checks_6 : ∃ (d i : Nat) (s : State), (s.rfIn (sel d i)).wire.waiting = false ∧ s.wireRuns (sel d
    i) = false :=
  ⟨0, 0, State.reset, by decide⟩

theorem witness_wire_checks_7 : ∃ (d i : Nat) (s : State), i < 8 ∧ ((s.rfIn (sel d i)).wire.waiting = true ∨
    s.wireRuns (sel d i) = true) :=
  ⟨0, 0, { State.reset with inputs := [(0, { wire := { waiting := true } })] }, by decide⟩

theorem witness_wire_checks_8 : ∃ (d i : Nat) (s : State), (s.rfIn (sel d i)).wire.waiting = true ∧ s.atRound d = true
    ∧ (s.rfIn (sel d i)).mode = 0 ∧ s.domOn d (domIn i) = true ∧ s.windowOpen d i = false ∧ ((∀ j : Nat, j < 16 →
    (s.demod (sel d (16 * i + j))).opensNow s.now = false)) :=
  ⟨0, 0, { (withDomains [23]) with inputs := [(0, { wire := { waiting := true } })] }, by decide⟩

theorem witness_wire_checks_9 : ∃ (d i : Nat) (v : Int) (s : State), s.atRound d = true ∧ s.wireRuns (sel d i) = true
    ∧ (s.rfIn (sel d i)).wire.beyond = false ∧ (s.rfIn (sel d i)).wire.at_ + 2 ≤ s.cyc :=
  ⟨0,
    0,
    77,
    { (withTime [23] 1280000) with inputs := [(0, { wire := { round := 2, current := 10, amps := 10 } })], dies := [(0, { hkEnd := 1280000 })] }, by decide⟩

theorem witness_wire_checks_10 : ∃ (d i tol : Nat) (v den want : Int) (beyond opened short : Bool) (s : State), i < 8
    ∧ (s.rfIn (sel d i)).wire.beyond = true ∧ tol = bits (s.rd Obj.WIRE_CONFIG (sel d i)) 7 1 ∧ 0 < tol ∧ tol ≤ 100 ∧
    v = (s.rfIn (sel d i)).wire.vPlus - (s.rfIn (sel d i)).wire.vMinus ∧ den = 20 * (s.rfIn (sel d i)).wire.amps ∧
    want = s.rdN Obj.WIRE_EXPECTED (sel d i) ∧ beyond = (decide (v < 0) || decide ((if (s.rfIn (sel d i)).wire.amps =
    10 then 50000 else 500000 : Int) * den < v)) ∧ opened = (beyond || decide (want * (100 + tol) * den < v * 100)) ∧
    short = decide (v * 100 < want * (100 - (tol : Int)) * den) :=
  ⟨0,
    0,
    5,
    140,
    20,
    7,
    false,
    false,
    false,
    ({ (withTime [23] 1280000) with inputs := [(0, { wire := { round := 4, beyond := true, amps := 1, vPlus := 100, vMinus := -40 } })] }.wrN Obj.WIRE_CONFIG 0 10).wrN Obj.WIRE_EXPECTED 0 7, by decide⟩

theorem witness_slot_writes_and_clears_1 : ∃ (d p : Nat) (y : Post) (ys : List Post) (s : State), s.offered (d * 16 +
    p) 0 = y :: ys :=
  ⟨0,
    2,
    ⟨0, 33, 5, .disc 33⟩,
    [],
    { State.reset with ports := [(2, { posts := [⟨0, 33, 5, .disc 33⟩, ⟨0, 130, 6, .dsp 2⟩] })] }, by decide⟩

theorem witness_slot_writes_and_clears_2 : ∃ (d p : Nat) (y : Post) (s : State), s.offered (d * 16 + p) 0 = [] ∧
    (s.port (d * 16 + p)).discAt ≠ some s.cyc ∧ (s.port (d * 16 + p)).otherAt ≠ some s.cyc ∧ (List.range 4).findSome?
    (fun r => (s.offered (d * 16 + p) r).head?) = some y :=
  ⟨0,
    2,
    ⟨0, 130, 6, .dsp 2⟩,
    { State.reset with ports := [(2, { posts := [⟨0, 300, 7, .seq 4⟩, ⟨0, 130, 6, .dsp 2⟩] })] }, by decide⟩

theorem witness_slot_writes_and_clears_3 : ∃ (d p : Nat) (s : State), s.offered (d * 16 + p) 0 = [] ∧ ((s.port (d * 16
    + p)).discAt = some s.cyc ∨ (s.port (d * 16 + p)).otherAt = some s.cyc ∨ (∀ r : Nat, r < 4 → s.offered (d * 16 +
    p) r = [])) :=
  ⟨0, 2, State.reset, by decide⟩

theorem witness_slot_writes_and_clears_4 : ∃ (d p n : Nat) (v : BitVec 8) (s : State), (∀ w ∈ (s.slot (sel d
    n)).wrote, w.1 ≠ s.cyc) :=
  ⟨0, 2, 33, 5, State.reset, by decide⟩

theorem witness_slot_writes_and_clears_5 : ∃ (d p q n : Nat) (v : BitVec 8) (s : State), (s.slot (sel d n)).wrote =
    some (s.cyc, q) :=
  ⟨0,
    2,
    3,
    33,
    5,
    { State.reset with slots := [(33, { wrote := some (0, 3), pub := [(0, ⟨3, true, 9⟩)] })] }, by decide⟩

theorem witness_slot_writes_and_clears_5b : ∃ (d p q n : Nat) (v : BitVec 8) (s : State), (s.slot (sel d n)).wrote =
    some (s.cyc, q) :=
  ⟨0,
    2,
    1,
    33,
    5,
    { State.reset with slots := [(33, { wrote := some (0, 1), pub := [(0, ⟨3, true, 9⟩)] })] }, by decide⟩

theorem witness_slot_writes_and_clears_7 : ∃ (d n : Nat) (s : State), (∀ w ∈ (s.slot (sel d n)).wrote, w.1 ≠ s.cyc) :=
  ⟨0, 7, { State.reset with slots := [(7, { pub := [(0, ⟨3, true, 9⟩)] })] }, by decide⟩

theorem witness_slot_writes_and_clears_8 : ∃ (d n p : Nat) (s : State), (s.slot (sel d n)).wrote = some (s.cyc, p) :=
  ⟨0, 7, 0, { State.reset with slots := [(7, { wrote := some (0, 0) })] }, by decide⟩

theorem witness_subscriptions_1 : ∃ (d n : Nat) (v : Word) (s : State), bits v 30 21 = 0 :=
  ⟨1, 512, 0x80000005, State.reset, by decide⟩

theorem witness_subscriptions_1b : ∃ (d n : Nat) (v : Word) (s : State), bits v 30 21 = 0 :=
  ⟨1,
    512,
    0x80000005,
    { State.reset with subs := [(8704, { st := .active, stag := 3 })], slots := [(8704, { unreach := true })] }, by decide⟩

theorem witness_subscriptions_2 : ∃ (d n : Nat) (v : Word) (s : State), bits v 30 21 ≠ 0 :=
  ⟨1, 512, 0x80200005, State.reset, by decide⟩

theorem witness_subscriptions_3 : ∃ (d n : Nat) (s : State), (s.sub (sel d n)).st = .pending ∧ (s.sub (sel d
    n)).awaited = false ∧ n < 768 ∧ (s.die (s.subDie (sel d n))).booted = true ∧ (s.subRoute d n).isSome = true ∧
    s.forwardUsed (s.subDie (sel d n)) < 1024 :=
  ⟨1,
    512,
    { State.reset with subs := [(8704, { st := .pending })], dies := [(0, { booted := true })], glinks := (List.range 32).map (fun k => (k, { up := true })) }, by decide⟩

theorem witness_subscriptions_4 : ∃ (d n : Nat) (s : State), (s.sub (sel d n)).st = .pending ∧ (s.sub (sel d
    n)).awaited = false ∧ n < 768 ∧ (s.die (s.subDie (sel d n))).booted = true ∧ (s.subRoute d n).isSome = true ∧ 1024
    ≤ s.forwardUsed (s.subDie (sel d n)) :=
  ⟨1,
    512,
    { State.reset with subs := [(8704, { st := .pending })], dies := [(0, { booted := true })], forwards := List.replicate 1024 ⟨0, 0, none, 0, 0, 0⟩, glinks := (List.range 32).map (fun k => (k, { up := true })) }, by decide +kernel⟩

theorem witness_subscriptions_5 : ∃ (sd ss dev d n tag : Nat) (s : State), s.forwardUsed sd < 1024 ∧ sourceSlot ss =
    true ∧ 768 ≤ n ∧ (s.die sd).booted = true :=
  ⟨0, 5, 9, 1, 800, 2, { State.reset with dies := [(0, { booted := true })] }, by decide⟩

theorem witness_subscriptions_6 : ∃ (d n : Nat) (full : Bool) (s : State), (s.sub (sel d n)).st = .pending ∧ (s.sub
    (sel d n)).awaited = false ∧ 768 ≤ n :=
  ⟨1, 800, false, { State.reset with subs := [(8992, { st := .pending })] }, by decide⟩

theorem witness_subscriptions_7 : ∃ (d : Nat) (u : Update) (m : Msg) (s s0 : State), s.arrived d MsgBody.isUpdate =
    some (m, s0) ∧ m.body = .update u ∧ (s.die d).s3 = false ∧ (s.sub (sel d u.mSlot)).st = .pending ∧ (s.sub (sel d
    u.mSlot)).awaited = true ∧ (s.sub (sel d u.mSlot)).stag = u.stag ∧ ((u.dev = none → u.mSlot < 768 ∧ s.subDie (sel
    d u.mSlot) = u.srcDie)) ∧ ((∀ dev : Nat, u.dev = some dev → 768 ≤ u.mSlot ∧ s.subDevice (sel d u.mSlot) = dev)) :=
  ⟨1,
    ⟨0, none, 0, 5, 1, 512, 3, ⟨7, true, 1⟩⟩,
    updateMsg,
    arriving { st := .pending, stag := 3, awaited := true },
    { (arriving { st := .pending, stag := 3, awaited := true }) with flight := [] }, by decide, by decide, by decide, by decide, by decide, by decide, by decide, fun _ h => nomatch h⟩

theorem witness_subscriptions_8 : ∃ (d : Nat) (u : Update) (m : Msg) (s s0 : State), s.arrived d MsgBody.isUpdate =
    some (m, s0) ∧ m.body = .update u ∧ (s.die d).s3 = false ∧ (s.sub (sel d u.mSlot)).st = .active ∧ (s.sub (sel d
    u.mSlot)).stag = u.stag ∧ ((u.dev = none → u.mSlot < 768 ∧ s.subDie (sel d u.mSlot) = u.srcDie)) ∧ ((∀ dev : Nat,
    u.dev = some dev → 768 ≤ u.mSlot ∧ s.subDevice (sel d u.mSlot) = dev)) :=
  ⟨1,
    ⟨0, none, 0, 5, 1, 512, 3, ⟨7, true, 1⟩⟩,
    updateMsg,
    arriving { st := .active, stag := 3 },
    { (arriving { st := .active, stag := 3 }) with flight := [] }, by decide, by decide, by decide, by decide, by decide, by decide, fun _ h => nomatch h⟩

theorem witness_subscriptions_9 : ∃ (d : Nat) (u : Update) (m : Msg) (s s0 : State), s.arrived d MsgBody.isUpdate =
    some (m, s0) ∧ m.body = .update u ∧ (s.die d).s3 = false ∧ ((s.sub (sel d u.mSlot)).stag ≠ u.stag ∨ ((s.sub (sel d
    u.mSlot)).st ≠ .active ∧ ((s.sub (sel d u.mSlot)).st ≠ .pending ∨ (s.sub (sel d u.mSlot)).awaited = false))) :=
  ⟨1,
    ⟨0, none, 0, 5, 1, 512, 3, ⟨7, true, 1⟩⟩,
    updateMsg,
    arriving {},
    { (arriving {}) with flight := [] }, by decide⟩

theorem witness_subscriptions_10 : ∃ (d : Nat) (u : Update) (m : Msg) (s s0 : State), s.arrived d MsgBody.isUpdate =
    some (m, s0) ∧ m.body = .update u ∧ (s.die d).s3 = true :=
  ⟨1,
    ⟨0, none, 0, 5, 1, 512, 3, ⟨7, true, 1⟩⟩,
    updateMsg,
    { (arriving {}) with dies := [(1, { s3 := true })] },
    { (arriving {}) with dies := [(1, { s3 := true })], flight := [] }, by decide⟩

theorem witness_gangway_faults_1 : ∃ (d link k far : Nat) (s : State), link < linkCount s.member.dies ∧ d <
    s.member.dies ∧ k = d * 4 + link ∧ far = farDie s.member.dies d link * 4 + farLink s.member.dies link :=
  ⟨7,
    2,
    30,
    farDie 8 7 2 * 4 + farLink 8 2,
    { State.reset with glinks := (List.range 32).map (fun k => (k, { up := true })) }, by decide⟩

theorem witness_gangway_faults_2 : ∃ (d link : Nat) (s : State), (linkCount s.member.dies ≤ link ∨ s.member.dies ≤ d)
    :=
  ⟨0, 3, State.reset, by decide⟩

theorem witness_gangway_faults_3 : ∃ (d link group : Nat) (s : State), (s.glink (d * 4 + link)).spared.length < 4 ∧ ¬
    group ∈ (s.glink (d * 4 + link)).spared ∧ group < 40 :=
  ⟨7, 2, 39, State.reset, by decide⟩

theorem witness_gangway_faults_4 : ∃ (d link group : Nat) (s : State), (4 ≤ (s.glink (d * 4 + link)).spared.length ∨
    group ∈ (s.glink (d * 4 + link)).spared ∨ 40 ≤ group) :=
  ⟨7, 2, 40, State.reset, by decide⟩

theorem witness_dsp_arithmetic_1 : ∃ (d k : Nat) (e : Ecc) (w : BitVec 36) (y : Dsp) (s : State), y = (s.dsp (sel d
    k)).begin ∧ y.stepping = false ∧ dspIssues s d k 0x00 e w = true ∧ stray w 0 = false :=
  ⟨0,
    0,
    .clean,
    BitVec.ofNat 36 (0),
    ((dspWith (0) { regs := [] }).dsp 0).begin,
    dspWith (0) { regs := [] }, by decide⟩

theorem witness_dsp_arithmetic_2 : ∃ (d k : Nat) (e : Ecc) (w : BitVec 36) (y : Dsp) (s : State), y = (s.dsp (sel d
    k)).begin ∧ y.stepping = false ∧ dspIssues s d k 0x0A e w = true ∧ stray w (fld 29 26 + fld 15 0) = false :=
  ⟨0,
    0,
    .clean,
    BitVec.ofNat 36 (0x0A * 2 ^ 30 + 3 * 2 ^ 26 + 0xBEEF),
    ((dspWith (0x0A * 2 ^ 30 + 3 * 2 ^ 26 + 0xBEEF) { regs := [(3, 7)] }).dsp 0).begin,
    dspWith (0x0A * 2 ^ 30 + 3 * 2 ^ 26 + 0xBEEF) { regs := [(3, 7)] }, by decide⟩

theorem witness_dsp_arithmetic_3 : ∃ (d k : Nat) (e : Ecc) (w : BitVec 36) (y : Dsp) (s : State), y = (s.dsp (sel d
    k)).begin ∧ y.stepping = false ∧ dspIssues s d k 0x0B e w = true ∧ stray w (fld 29 22) = false :=
  ⟨0,
    0,
    .clean,
    BitVec.ofNat 36 (0x0B * 2 ^ 30 + 3 * 2 ^ 26 + 5 * 2 ^ 22),
    ((dspWith (0x0B * 2 ^ 30 + 3 * 2 ^ 26 + 5 * 2 ^ 22) { regs := [(5, 1234)] }).dsp 0).begin,
    dspWith (0x0B * 2 ^ 30 + 3 * 2 ^ 26 + 5 * 2 ^ 22) { regs := [(5, 1234)] }, by decide⟩

theorem witness_dsp_arithmetic_4 : ∃ (d k : Nat) (e : Ecc) (w : BitVec 36) (y : Dsp) (a b r : Nat) (s : State), y =
    (s.dsp (sel d k)).begin ∧ y.stepping = false ∧ dspIssues s d k 0x10 e w = true ∧ stray w aluMask = false ∧ a =
    y.get (bits w 25 22) % 65536 ∧ b = y.get (bits w 21 18) % 65536 ∧ r = (a + b) % 65536 :=
  ⟨0,
    0,
    .clean,
    BitVec.ofNat 36 (0x10 * 2 ^ 30 + 2 * 2 ^ 26 + 2 * 2 ^ 22 + 3 * 2 ^ 18),
    ((dspWith (0x10 * 2 ^ 30 + 2 * 2 ^ 26 + 2 * 2 ^ 22 + 3 * 2 ^ 18) { regs := [(2, 0x8001), (3, 0x8002)] }).dsp 0).begin,
    0x8001,
    0x8002,
    3,
    dspWith (0x10 * 2 ^ 30 + 2 * 2 ^ 26 + 2 * 2 ^ 22 + 3 * 2 ^ 18) { regs := [(2, 0x8001), (3, 0x8002)] }, by decide⟩

theorem witness_dsp_arithmetic_5 : ∃ (d k : Nat) (e : Ecc) (w : BitVec 36) (y : Dsp) (a b r : Nat) (s : State), y =
    (s.dsp (sel d k)).begin ∧ y.stepping = false ∧ dspIssues s d k 0x11 e w = true ∧ stray w aluMask = false ∧ a =
    y.get (bits w 25 22) % 65536 ∧ b = y.get (bits w 21 18) % 65536 ∧ r = (a + 65536 - b) % 65536 :=
  ⟨0,
    0,
    .clean,
    BitVec.ofNat 36 (0x11 * 2 ^ 30 + 2 * 2 ^ 26 + 2 * 2 ^ 22 + 3 * 2 ^ 18),
    ((dspWith (0x11 * 2 ^ 30 + 2 * 2 ^ 26 + 2 * 2 ^ 22 + 3 * 2 ^ 18) { regs := [(2, 5), (3, 7)] }).dsp 0).begin,
    5,
    7,
    65534,
    dspWith (0x11 * 2 ^ 30 + 2 * 2 ^ 26 + 2 * 2 ^ 22 + 3 * 2 ^ 18) { regs := [(2, 5), (3, 7)] }, by decide⟩

theorem witness_dsp_arithmetic_6 : ∃ (d k : Nat) (e : Ecc) (w : BitVec 36) (y : Dsp) (a b r : Nat) (s : State), y =
    (s.dsp (sel d k)).begin ∧ y.stepping = false ∧ dspIssues s d k 0x18 e w = true ∧ stray w (fld 25 18) = false ∧ a =
    y.get (bits w 25 22) % 65536 ∧ b = y.get (bits w 21 18) % 65536 ∧ r = (a + 65536 - b) % 65536 :=
  ⟨0,
    0,
    .clean,
    BitVec.ofNat 36 (0x18 * 2 ^ 30 + 2 * 2 ^ 22 + 3 * 2 ^ 18),
    ((dspWith (0x18 * 2 ^ 30 + 2 * 2 ^ 22 + 3 * 2 ^ 18) { regs := [(2, 0x8000), (3, 1)] }).dsp 0).begin,
    0x8000,
    1,
    0x7FFF,
    dspWith (0x18 * 2 ^ 30 + 2 * 2 ^ 22 + 3 * 2 ^ 18) { regs := [(2, 0x8000), (3, 1)] }, by decide⟩

theorem witness_dsp_arithmetic_7 : ∃ (d k : Nat) (e : Ecc) (w : BitVec 36) (y : Dsp) (a b r : Nat) (s : State), y =
    (s.dsp (sel d k)).begin ∧ y.stepping = false ∧ dspIssues s d k 0x1A e w = true ∧ stray w immMask = false ∧ a =
    y.get (bits w 25 22) % 65536 ∧ b = bits w 15 0 ∧ r = (a + b) % 65536 :=
  ⟨0,
    0,
    .clean,
    BitVec.ofNat 36 (0x1A * 2 ^ 30 + 2 * 2 ^ 26 + 2 * 2 ^ 22 + 0x7FFF),
    ((dspWith (0x1A * 2 ^ 30 + 2 * 2 ^ 26 + 2 * 2 ^ 22 + 0x7FFF) { regs := [(2, 1)] }).dsp 0).begin,
    1,
    0x7FFF,
    0x8000,
    dspWith (0x1A * 2 ^ 30 + 2 * 2 ^ 26 + 2 * 2 ^ 22 + 0x7FFF) { regs := [(2, 1)] }, by decide⟩

theorem witness_dsp_arithmetic_8 : ∃ (d k : Nat) (e : Ecc) (w : BitVec 36) (y : Dsp) (r : Nat) (s : State), y = (s.dsp
    (sel d k)).begin ∧ y.stepping = false ∧ dspIssues s d k 0x12 e w = true ∧ stray w aluMask = false ∧ r = y.get
    (bits w 25 22) &&& y.get (bits w 21 18) :=
  ⟨0,
    0,
    .clean,
    BitVec.ofNat 36 (0x12 * 2 ^ 30 + 2 * 2 ^ 26 + 2 * 2 ^ 22 + 3 * 2 ^ 18),
    ((dspWith (0x12 * 2 ^ 30 + 2 * 2 ^ 26 + 2 * 2 ^ 22 + 3 * 2 ^ 18) { regs := [(2, 0xAAAA), (3, 0xF050)] }).dsp 0).begin,
    0xA000,
    dspWith (0x12 * 2 ^ 30 + 2 * 2 ^ 26 + 2 * 2 ^ 22 + 3 * 2 ^ 18) { regs := [(2, 0xAAAA), (3, 0xF050)] }, by decide⟩

theorem witness_dsp_arithmetic_9 : ∃ (d k : Nat) (e : Ecc) (w : BitVec 36) (y : Dsp) (r : Nat) (s : State), y = (s.dsp
    (sel d k)).begin ∧ y.stepping = false ∧ dspIssues s d k 0x13 e w = true ∧ stray w aluMask = false ∧ r = y.get
    (bits w 25 22) ||| y.get (bits w 21 18) :=
  ⟨0,
    0,
    .clean,
    BitVec.ofNat 36 (0x13 * 2 ^ 30 + 2 * 2 ^ 26 + 2 * 2 ^ 22 + 3 * 2 ^ 18),
    ((dspWith (0x13 * 2 ^ 30 + 2 * 2 ^ 26 + 2 * 2 ^ 22 + 3 * 2 ^ 18) { regs := [(2, 0xAAAA), (3, 0xF050)] }).dsp 0).begin,
    0xFAFA,
    dspWith (0x13 * 2 ^ 30 + 2 * 2 ^ 26 + 2 * 2 ^ 22 + 3 * 2 ^ 18) { regs := [(2, 0xAAAA), (3, 0xF050)] }, by decide⟩

theorem witness_dsp_arithmetic_10 : ∃ (d k : Nat) (e : Ecc) (w : BitVec 36) (y : Dsp) (r : Nat) (s : State), y =
    (s.dsp (sel d k)).begin ∧ y.stepping = false ∧ dspIssues s d k 0x14 e w = true ∧ stray w aluMask = false ∧ r =
    y.get (bits w 25 22) ^^^ y.get (bits w 21 18) :=
  ⟨0,
    0,
    .clean,
    BitVec.ofNat 36 (0x14 * 2 ^ 30 + 2 * 2 ^ 26 + 2 * 2 ^ 22 + 3 * 2 ^ 18),
    ((dspWith (0x14 * 2 ^ 30 + 2 * 2 ^ 26 + 2 * 2 ^ 22 + 3 * 2 ^ 18) { regs := [(2, 0xAAAA), (3, 0xF050)] }).dsp 0).begin,
    0x5AFA,
    dspWith (0x14 * 2 ^ 30 + 2 * 2 ^ 26 + 2 * 2 ^ 22 + 3 * 2 ^ 18) { regs := [(2, 0xAAAA), (3, 0xF050)] }, by decide⟩

theorem witness_dsp_arithmetic_11 : ∃ (d k : Nat) (e : Ecc) (w : BitVec 36) (y : Dsp) (r : Nat) (s : State), y =
    (s.dsp (sel d k)).begin ∧ y.stepping = false ∧ dspIssues s d k 0x1B e w = true ∧ stray w immMask = false ∧ r =
    y.get (bits w 25 22) &&& bits w 15 0 :=
  ⟨0,
    0,
    .clean,
    BitVec.ofNat 36 (0x1B * 2 ^ 30 + 2 * 2 ^ 26 + 2 * 2 ^ 22 + 0xF0F0),
    ((dspWith (0x1B * 2 ^ 30 + 2 * 2 ^ 26 + 2 * 2 ^ 22 + 0xF0F0) { regs := [(2, 0xAAAA)] }).dsp 0).begin,
    0xA0A0,
    dspWith (0x1B * 2 ^ 30 + 2 * 2 ^ 26 + 2 * 2 ^ 22 + 0xF0F0) { regs := [(2, 0xAAAA)] }, by decide⟩

theorem witness_dsp_arithmetic_12 : ∃ (d k : Nat) (e : Ecc) (w : BitVec 36) (y : Dsp) (r : Nat) (s : State), y =
    (s.dsp (sel d k)).begin ∧ y.stepping = false ∧ dspIssues s d k 0x1C e w = true ∧ stray w immMask = false ∧ r =
    y.get (bits w 25 22) ||| bits w 15 0 :=
  ⟨0,
    0,
    .clean,
    BitVec.ofNat 36 (0x1C * 2 ^ 30 + 2 * 2 ^ 26 + 2 * 2 ^ 22 + 0xF0F0),
    ((dspWith (0x1C * 2 ^ 30 + 2 * 2 ^ 26 + 2 * 2 ^ 22 + 0xF0F0) { regs := [(2, 0xAAAA)] }).dsp 0).begin,
    0xFAFA,
    dspWith (0x1C * 2 ^ 30 + 2 * 2 ^ 26 + 2 * 2 ^ 22 + 0xF0F0) { regs := [(2, 0xAAAA)] }, by decide⟩

theorem witness_dsp_arithmetic_13 : ∃ (d k : Nat) (e : Ecc) (w : BitVec 36) (y : Dsp) (r : Nat) (s : State), y =
    (s.dsp (sel d k)).begin ∧ y.stepping = false ∧ dspIssues s d k 0x1D e w = true ∧ stray w immMask = false ∧ r =
    y.get (bits w 25 22) ^^^ bits w 15 0 :=
  ⟨0,
    0,
    .clean,
    BitVec.ofNat 36 (0x1D * 2 ^ 30 + 2 * 2 ^ 26 + 2 * 2 ^ 22 + 0xF0F0),
    ((dspWith (0x1D * 2 ^ 30 + 2 * 2 ^ 26 + 2 * 2 ^ 22 + 0xF0F0) { regs := [(2, 0xAAAA)] }).dsp 0).begin,
    0x5A5A,
    dspWith (0x1D * 2 ^ 30 + 2 * 2 ^ 26 + 2 * 2 ^ 22 + 0xF0F0) { regs := [(2, 0xAAAA)] }, by decide⟩

theorem witness_dsp_arithmetic_14 : ∃ (d k : Nat) (e : Ecc) (w : BitVec 36) (y : Dsp) (a n r : Nat) (s : State), y =
    (s.dsp (sel d k)).begin ∧ y.stepping = false ∧ dspIssues s d k 0x15 e w = true ∧ stray w shiftMask = false ∧ y.get
    (bits w 25 22) < 65536 ∧ a = y.get (bits w 25 22) % 65536 ∧ n = bits w 17 14 ∧ r = a * 2 ^ n % 65536 :=
  ⟨0,
    0,
    .clean,
    BitVec.ofNat 36 (0x15 * 2 ^ 30 + 2 * 2 ^ 26 + 3 * 2 ^ 22 + 4 * 2 ^ 14),
    ((dspWith (0x15 * 2 ^ 30 + 2 * 2 ^ 26 + 3 * 2 ^ 22 + 4 * 2 ^ 14) { regs := [(3, 0x9001)] }).dsp 0).begin,
    0x9001,
    4,
    0x0010,
    dspWith (0x15 * 2 ^ 30 + 2 * 2 ^ 26 + 3 * 2 ^ 22 + 4 * 2 ^ 14) { regs := [(3, 0x9001)] }, by decide⟩

theorem witness_dsp_arithmetic_15 : ∃ (d k : Nat) (e : Ecc) (w : BitVec 36) (y : Dsp) (a n r : Nat) (s : State), y =
    (s.dsp (sel d k)).begin ∧ y.stepping = false ∧ dspIssues s d k 0x16 e w = true ∧ stray w shiftMask = false ∧ y.get
    (bits w 25 22) < 65536 ∧ a = y.get (bits w 25 22) % 65536 ∧ n = bits w 17 14 ∧ r = a / 2 ^ n :=
  ⟨0,
    0,
    .clean,
    BitVec.ofNat 36 (0x16 * 2 ^ 30 + 2 * 2 ^ 26 + 3 * 2 ^ 22 + 4 * 2 ^ 14),
    ((dspWith (0x16 * 2 ^ 30 + 2 * 2 ^ 26 + 3 * 2 ^ 22 + 4 * 2 ^ 14) { regs := [(3, 0x9008)] }).dsp 0).begin,
    0x9008,
    4,
    0x0900,
    dspWith (0x16 * 2 ^ 30 + 2 * 2 ^ 26 + 3 * 2 ^ 22 + 4 * 2 ^ 14) { regs := [(3, 0x9008)] }, by decide⟩

theorem witness_dsp_arithmetic_16 : ∃ (d k : Nat) (e : Ecc) (w : BitVec 36) (y : Dsp) (a n r : Nat) (s : State), y =
    (s.dsp (sel d k)).begin ∧ y.stepping = false ∧ dspIssues s d k 0x17 e w = true ∧ stray w shiftMask = false ∧ y.get
    (bits w 25 22) < 65536 ∧ a = y.get (bits w 25 22) % 65536 ∧ n = bits w 17 14 ∧ r = (signed 16 a / 2 ^ n %
    65536).toNat :=
  ⟨0,
    0,
    .clean,
    BitVec.ofNat 36 (0x17 * 2 ^ 30 + 2 * 2 ^ 26 + 3 * 2 ^ 22 + 4 * 2 ^ 14),
    ((dspWith (0x17 * 2 ^ 30 + 2 * 2 ^ 26 + 3 * 2 ^ 22 + 4 * 2 ^ 14) { regs := [(3, 0x9008)] }).dsp 0).begin,
    0x9008,
    4,
    0xF900,
    dspWith (0x17 * 2 ^ 30 + 2 * 2 ^ 26 + 3 * 2 ^ 22 + 4 * 2 ^ 14) { regs := [(3, 0x9008)] }, by decide⟩

theorem witness_dsp_arithmetic_17 : ∃ (d k : Nat) (e : Ecc) (w : BitVec 36) (y : Dsp) (r : Nat) (s : State), y =
    (s.dsp (sel d k)).begin ∧ y.stepping = false ∧ dspIssues s d k 0x19 e w = true ∧ stray w aluMask = false ∧ r =
    ((List.range 16).filter (fun i => (y.get (bits w 25 22) &&& y.get (bits w 21 18)).testBit i)).length % 2 :=
  ⟨0,
    0,
    .clean,
    BitVec.ofNat 36 (0x19 * 2 ^ 30 + 2 * 2 ^ 26 + 2 * 2 ^ 22 + 3 * 2 ^ 18),
    ((dspWith (0x19 * 2 ^ 30 + 2 * 2 ^ 26 + 2 * 2 ^ 22 + 3 * 2 ^ 18) { regs := [(2, 7), (3, 0xFFFF)] }).dsp 0).begin,
    1,
    dspWith (0x19 * 2 ^ 30 + 2 * 2 ^ 26 + 2 * 2 ^ 22 + 3 * 2 ^ 18) { regs := [(2, 7), (3, 0xFFFF)] }, by decide⟩

theorem witness_dsp_arithmetic_18 : ∃ (d k : Nat) (e : Ecc) (w : BitVec 36) (y : Dsp) (a b r : Nat) (s : State), y =
    (s.dsp (sel d k)).begin ∧ y.stepping = false ∧ dspIssues s d k 0x1E e w = true ∧ stray w aluMask = false ∧ bits w
    26 26 = 0 ∧ bits w 22 22 = 0 ∧ bits w 18 18 = 0 ∧ a = y.pair (bits w 25 22) % 4294967296 ∧ b = y.pair (bits w 21
    18) % 4294967296 ∧ r = (a + b) % 4294967296 :=
  ⟨0,
    0,
    .clean,
    BitVec.ofNat 36 (0x1E * 2 ^ 30 + 2 * 2 ^ 26 + 4 * 2 ^ 22 + 6 * 2 ^ 18),
    ((dspWith (0x1E * 2 ^ 30 + 2 * 2 ^ 26 + 4 * 2 ^ 22 + 6 * 2 ^ 18) { regs := [(4, 0xFFFF), (5, 0xFFFF), (6, 2)] }).dsp 0).begin,
    0xFFFFFFFF,
    2,
    1,
    dspWith (0x1E * 2 ^ 30 + 2 * 2 ^ 26 + 4 * 2 ^ 22 + 6 * 2 ^ 18) { regs := [(4, 0xFFFF), (5, 0xFFFF), (6, 2)] }, by decide⟩

theorem witness_dsp_arithmetic_19 : ∃ (d k : Nat) (e : Ecc) (w : BitVec 36) (y : Dsp) (a b r : Nat) (s : State), y =
    (s.dsp (sel d k)).begin ∧ y.stepping = false ∧ dspIssues s d k 0x1F e w = true ∧ stray w aluMask = false ∧ bits w
    26 26 = 0 ∧ bits w 22 22 = 0 ∧ bits w 18 18 = 0 ∧ a = y.pair (bits w 25 22) % 4294967296 ∧ b = y.pair (bits w 21
    18) % 4294967296 ∧ r = (a + 4294967296 - b) % 4294967296 :=
  ⟨0,
    0,
    .clean,
    BitVec.ofNat 36 (0x1F * 2 ^ 30 + 2 * 2 ^ 26 + 4 * 2 ^ 22 + 6 * 2 ^ 18),
    ((dspWith (0x1F * 2 ^ 30 + 2 * 2 ^ 26 + 4 * 2 ^ 22 + 6 * 2 ^ 18) { regs := [(5, 0x8000), (6, 1)] }).dsp 0).begin,
    0x80000000,
    1,
    0x7FFFFFFF,
    dspWith (0x1F * 2 ^ 30 + 2 * 2 ^ 26 + 4 * 2 ^ 22 + 6 * 2 ^ 18) { regs := [(5, 0x8000), (6, 1)] }, by decide⟩

theorem witness_dsp_accumulators_1 : ∃ (d k : Nat) (e : Ecc) (w : BitVec 36) (y : Dsp) (s : State), y = (s.dsp (sel d
    k)).begin ∧ y.stepping = false ∧ dspIssues s d k 0x20 e w = true ∧ stray w (fld 29 20) = false :=
  ⟨0,
    0,
    .clean,
    BitVec.ofNat 36 (0x20 * 2 ^ 30 + 1 * 2 ^ 28 + 2 * 2 ^ 24 + 3 * 2 ^ 20),
    ((dspWith (0x20 * 2 ^ 30 + 1 * 2 ^ 28 + 2 * 2 ^ 24 + 3 * 2 ^ 20) { regs := [(2, 0x8000), (3, 3)] }).dsp 0).begin,
    dspWith (0x20 * 2 ^ 30 + 1 * 2 ^ 28 + 2 * 2 ^ 24 + 3 * 2 ^ 20) { regs := [(2, 0x8000), (3, 3)] }, by decide⟩

theorem witness_dsp_accumulators_2 : ∃ (d k : Nat) (e : Ecc) (w : BitVec 36) (y : Dsp) (s : State), y = (s.dsp (sel d
    k)).begin ∧ y.stepping = false ∧ dspIssues s d k 0x21 e w = true ∧ stray w (fld 29 20) = false :=
  ⟨0,
    0,
    .clean,
    BitVec.ofNat 36 (0x21 * 2 ^ 30 + 1 * 2 ^ 28 + 2 * 2 ^ 24 + 3 * 2 ^ 20),
    ((dspWith (0x21 * 2 ^ 30 + 1 * 2 ^ 28 + 2 * 2 ^ 24 + 3 * 2 ^ 20) { regs := [(2, 0x8000), (3, 0x8000), (39, 0x7FFFFFFFFF)] }).dsp 0).begin,
    dspWith (0x21 * 2 ^ 30 + 1 * 2 ^ 28 + 2 * 2 ^ 24 + 3 * 2 ^ 20) { regs := [(2, 0x8000), (3, 0x8000), (39, 0x7FFFFFFFFF)] }, by decide⟩

theorem witness_dsp_accumulators_3 : ∃ (d k : Nat) (e : Ecc) (w : BitVec 36) (y : Dsp) (s : State), y = (s.dsp (sel d
    k)).begin ∧ y.stepping = false ∧ dspIssues s d k 0x22 e w = true ∧ stray w (fld 29 20) = false :=
  ⟨0,
    0,
    .clean,
    BitVec.ofNat 36 (0x22 * 2 ^ 30 + 1 * 2 ^ 28 + 2 * 2 ^ 24 + 3 * 2 ^ 20),
    ((dspWith (0x22 * 2 ^ 30 + 1 * 2 ^ 28 + 2 * 2 ^ 24 + 3 * 2 ^ 20) { regs := [(2, 0x8000), (3, 0x8000), (39, 0x8000000000), (33, 2048)] }).dsp 0).begin,
    dspWith (0x22 * 2 ^ 30 + 1 * 2 ^ 28 + 2 * 2 ^ 24 + 3 * 2 ^ 20) { regs := [(2, 0x8000), (3, 0x8000), (39, 0x8000000000), (33, 2048)] }, by decide⟩

theorem witness_dsp_accumulators_4 : ∃ (d k : Nat) (e : Ecc) (w : BitVec 36) (y : Dsp) (s : State), y = (s.dsp (sel d
    k)).begin ∧ y.stepping = false ∧ dspIssues s d k 0x24 e w = true ∧ stray w (fld 29 28) = false :=
  ⟨0,
    0,
    .clean,
    BitVec.ofNat 36 (0x24 * 2 ^ 30 + 1 * 2 ^ 28),
    ((dspWith (0x24 * 2 ^ 30 + 1 * 2 ^ 28) { regs := [(39, 9)] }).dsp 0).begin,
    dspWith (0x24 * 2 ^ 30 + 1 * 2 ^ 28) { regs := [(39, 9)] }, by decide⟩

theorem witness_dsp_accumulators_5 : ∃ (d k : Nat) (e : Ecc) (w : BitVec 36) (y : Dsp) (s : State), y = (s.dsp (sel d
    k)).begin ∧ y.stepping = false ∧ dspIssues s d k 0x25 e w = true ∧ stray w (fld 29 28 + fld 5 0) = false :=
  ⟨0,
    0,
    .clean,
    BitVec.ofNat 36 (0x25 * 2 ^ 30 + 1 * 2 ^ 28 + 61),
    ((dspWith (0x25 * 2 ^ 30 + 1 * 2 ^ 28 + 61) { regs := [(39, 0xFFFFFFFFF1)] }).dsp 0).begin,
    dspWith (0x25 * 2 ^ 30 + 1 * 2 ^ 28 + 61) { regs := [(39, 0xFFFFFFFFF1)] }, by decide⟩

theorem witness_dsp_accumulators_6 : ∃ (d k : Nat) (e : Ecc) (w : BitVec 36) (y : Dsp) (s : State), y = (s.dsp (sel d
    k)).begin ∧ y.stepping = false ∧ dspIssues s d k 0x27 e w = true ∧ stray w (fld 29 24) = false ∧ bits w 24 24 = 0
    :=
  ⟨0,
    0,
    .clean,
    BitVec.ofNat 36 (0x27 * 2 ^ 30 + 1 * 2 ^ 28 + 2 * 2 ^ 24),
    ((dspWith (0x27 * 2 ^ 30 + 1 * 2 ^ 28 + 2 * 2 ^ 24) { regs := [(3, 0x8000)] }).dsp 0).begin,
    dspWith (0x27 * 2 ^ 30 + 1 * 2 ^ 28 + 2 * 2 ^ 24) { regs := [(3, 0x8000)] }, by decide⟩

theorem witness_dsp_accumulators_7 : ∃ (d k : Nat) (e : Ecc) (w : BitVec 36) (y : Dsp) (s : State), y = (s.dsp (sel d
    k)).begin ∧ y.stepping = false ∧ dspIssues s d k 0x28 e w = true ∧ stray w (fld 29 26) = false :=
  ⟨0,
    0,
    .clean,
    BitVec.ofNat 36 (0x28 * 2 ^ 30 + 1 * 2 ^ 28 + 2 * 2 ^ 26),
    ((dspWith (0x28 * 2 ^ 30 + 1 * 2 ^ 28 + 2 * 2 ^ 26) { regs := [(39, 0xFFFFFFFFF1), (40, 7)] }).dsp 0).begin,
    dspWith (0x28 * 2 ^ 30 + 1 * 2 ^ 28 + 2 * 2 ^ 26) { regs := [(39, 0xFFFFFFFFF1), (40, 7)] }, by decide⟩

theorem witness_dsp_accumulators_8 : ∃ (d k : Nat) (e : Ecc) (w : BitVec 36) (y : Dsp) (s : State), y = (s.dsp (sel d
    k)).begin ∧ y.stepping = false ∧ dspIssues s d k 0x29 e w = true ∧ stray w (fld 29 26) = false :=
  ⟨0,
    0,
    .clean,
    BitVec.ofNat 36 (0x29 * 2 ^ 30 + 1 * 2 ^ 28 + 2 * 2 ^ 26),
    ((dspWith (0x29 * 2 ^ 30 + 1 * 2 ^ 28 + 2 * 2 ^ 26) { regs := [(39, 0xFFFFFFFFF1), (40, 7)] }).dsp 0).begin,
    dspWith (0x29 * 2 ^ 30 + 1 * 2 ^ 28 + 2 * 2 ^ 26) { regs := [(39, 0xFFFFFFFFF1), (40, 7)] }, by decide⟩

theorem witness_dsp_accumulators_9 : ∃ (d k : Nat) (e : Ecc) (w : BitVec 36) (y : Dsp) (v : Int) (s : State), y =
    (s.dsp (sel d k)).begin ∧ y.stepping = false ∧ dspIssues s d k 0x26 e w = true ∧ stray w (fld 29 24 + fld 4 0) =
    false ∧ y.get DspReg.ST / 4096 % 4 < 3 ∧ v = rounded (y.get DspReg.ST / 4096 % 4) (signed 40 (y.get (DspReg.A +
    bits w 25 24))) (bits w 4 0) :=
  ⟨0,
    0,
    .clean,
    BitVec.ofNat 36 (0x26 * 2 ^ 30 + 5 * 2 ^ 26 + 1 * 2 ^ 24 + 2),
    ((dspWith (0x26 * 2 ^ 30 + 5 * 2 ^ 26 + 1 * 2 ^ 24 + 2) { regs := [(39, 10), (33, 0x1000)] }).dsp 0).begin,
    3,
    dspWith (0x26 * 2 ^ 30 + 5 * 2 ^ 26 + 1 * 2 ^ 24 + 2) { regs := [(39, 10), (33, 0x1000)] }, by decide⟩

theorem witness_dsp_accumulators_10 : ∃ (d k : Nat) (e : Ecc) (w : BitVec 36) (y : Dsp) (v : Int) (r : Nat) (s :
    State), y = (s.dsp (sel d k)).begin ∧ y.stepping = false ∧ dspIssues s d k 0x2A e w = true ∧ stray w (fld 29 24 +
    fld 4 0) = false ∧ bits w 26 26 = 0 ∧ y.get DspReg.ST / 4096 % 4 < 3 ∧ v = rounded (y.get DspReg.ST / 4096 % 4)
    (signed 40 (y.get (DspReg.A + bits w 25 24))) (bits w 4 0) ∧ r = (if v < -2 ^ 31 then 2 ^ 31 else if 2 ^ 31 ≤ v
    then 2 ^ 31 - 1 else (v % 2 ^ 32).toNat) :=
  ⟨0,
    0,
    .clean,
    BitVec.ofNat 36 (0x2A * 2 ^ 30 + 4 * 2 ^ 26 + 1 * 2 ^ 24),
    ((dspWith (0x2A * 2 ^ 30 + 4 * 2 ^ 26 + 1 * 2 ^ 24) { regs := [(39, 0xF000000000)] }).dsp 0).begin,
    -68719476736 + 0,
    2 ^ 31,
    dspWith (0x2A * 2 ^ 30 + 4 * 2 ^ 26 + 1 * 2 ^ 24) { regs := [(39, 0xF000000000)] }, by decide⟩

theorem witness_dsp_program_flow_1 : ∃ (d k : Nat) (e : Ecc) (w : BitVec 36) (y : Dsp) (cc st target : Nat) (mail
    taken : Bool) (s : State), y = (s.dsp (sel d k)).begin ∧ y.stepping = false ∧ dspIssues s d k 0x01 e w = true ∧
    dspFree s d k = true ∧ stray w (fld 29 25 + fld 12 0) = false ∧ cc = bits w 29 25 ∧ target = bits w 12 0 ∧ st =
    y.get DspReg.ST ∧ cc ≤ 16 ∧ mail = y.mbox.any (fun m => decide (m.from_ ≤ s.cyc)) ∧ taken = [true, bit (word st)
    0, !bit (word st) 0, bit (word st) 1, !bit (word st) 1, bit (word st) 2, !bit (word st) 2, bit (word st) 3, !bit
    (word st) 3, bit (word st) 1 != bit (word st) 3, bit (word st) 1 == bit (word st) 3, bit (word st) 0 || bit (word
    st) 1 != bit (word st) 3, !bit (word st) 0 && bit (word st) 1 == bit (word st) 3, mail, !mail, bit (word st) 10,
    !bit (word st) 10].getD cc false :=
  ⟨0,
    0,
    .clean,
    BitVec.ofNat 36 (0x01 * 2 ^ 30 + 9 * 2 ^ 25 + 77),
    (((dspWith (0x01 * 2 ^ 30 + 9 * 2 ^ 25 + 77) { regs := [(33, 2)] })).dsp 0).begin,
    9,
    2,
    77,
    false,
    true,
    (dspWith (0x01 * 2 ^ 30 + 9 * 2 ^ 25 + 77) { regs := [(33, 2)] }), by decide⟩

theorem witness_dsp_program_flow_2 : ∃ (d k : Nat) (e : Ecc) (w : BitVec 36) (y : Dsp) (s : State), y = (s.dsp (sel d
    k)).begin ∧ y.stepping = false ∧ dspIssues s d k 0x02 e w = true ∧ dspFree s d k = true ∧ stray w (fld 12 0) =
    false ∧ y.sp < 8 :=
  ⟨0,
    0,
    .clean,
    BitVec.ofNat 36 (0x02 * 2 ^ 30 + 4000),
    (((dspWith (0x02 * 2 ^ 30 + 4000) { sp := 1, rs := [(0, 5)] })).dsp 0).begin,
    (dspWith (0x02 * 2 ^ 30 + 4000) { sp := 1, rs := [(0, 5)] }), by decide⟩

theorem witness_dsp_program_flow_3 : ∃ (d k : Nat) (e : Ecc) (w : BitVec 36) (y : Dsp) (s : State), y = (s.dsp (sel d
    k)).begin ∧ y.stepping = false ∧ dspIssues s d k 0x02 e w = true ∧ dspFree s d k = true ∧ stray w (fld 12 0) =
    false ∧ 8 ≤ y.sp :=
  ⟨0,
    0,
    .clean,
    BitVec.ofNat 36 (0x02 * 2 ^ 30 + 4000),
    (((dspWith (0x02 * 2 ^ 30 + 4000) { sp := 8, rs := [(0, 1), (1, 2), (2, 3), (3, 4), (4, 5), (5, 6), (6, 7), (7, 8)] })).dsp 0).begin,
    (dspWith (0x02 * 2 ^ 30 + 4000) { sp := 8, rs := [(0, 1), (1, 2), (2, 3), (3, 4), (4, 5), (5, 6), (6, 7), (7, 8)] }), by decide⟩

theorem witness_dsp_program_flow_4 : ∃ (d k : Nat) (e : Ecc) (w : BitVec 36) (y : Dsp) (a : Nat) (s : State), y =
    (s.dsp (sel d k)).begin ∧ y.stepping = false ∧ dspIssues s d k 0x03 e w = true ∧ dspFree s d k = true ∧ stray w 0
    = false ∧ y.sp ≠ 0 ∧ a = look 0 y.rs (y.sp - 1) :=
  ⟨0,
    0,
    .clean,
    BitVec.ofNat 36 (0x03 * 2 ^ 30),
    (((dspWith (0x03 * 2 ^ 30) { sp := 2, rs := [(0, 6), (1, 5)] })).dsp 0).begin,
    5,
    (dspWith (0x03 * 2 ^ 30) { sp := 2, rs := [(0, 6), (1, 5)] }), by decide⟩

theorem witness_dsp_program_flow_5 : ∃ (d k : Nat) (e : Ecc) (w : BitVec 36) (y : Dsp) (s : State), y = (s.dsp (sel d
    k)).begin ∧ y.stepping = false ∧ dspIssues s d k 0x03 e w = true ∧ dspFree s d k = true ∧ stray w 0 = false ∧ y.sp
    = 0 :=
  ⟨0,
    0,
    .clean,
    BitVec.ofNat 36 (0x03 * 2 ^ 30),
    (((dspWith (0x03 * 2 ^ 30) { flow := { pc := 1 } }) |>.setDw Obj.DSP_PROGRAM 0 0 (word (0x03 * 2 ^ 30))).dsp 0).begin,
    (dspWith (0x03 * 2 ^ 30) { flow := { pc := 1 } }) |>.setDw Obj.DSP_PROGRAM 0 0 (word (0x03 * 2 ^ 30)), by decide⟩

theorem witness_dsp_program_flow_6 : ∃ (d k : Nat) (e : Ecc) (w : BitVec 36) (y : Dsp) (s : State), y = (s.dsp (sel d
    k)).begin ∧ y.stepping = false ∧ dspIssues s d k 0x04 e w = true ∧ dspFree s d k = true ∧ stray w 0 = false :=
  ⟨0,
    0,
    .clean,
    BitVec.ofNat 36 (0x04 * 2 ^ 30),
    (((dspWith (0x04 * 2 ^ 30) { regs := [(34, 99)] })).dsp 0).begin,
    (dspWith (0x04 * 2 ^ 30) { regs := [(34, 99)] }), by decide⟩

theorem witness_dsp_program_flow_7 : ∃ (d k : Nat) (e : Ecc) (w : BitVec 36) (y : Dsp) (s : State), y = (s.dsp (sel d
    k)).begin ∧ y.stepping = false ∧ dspIssues s d k 0x00 e w = true ∧ (s.dsp (sel d k)).retiDue = true ∧ y.flow.br =
    none ∧ stray w 0 = false :=
  ⟨0,
    0,
    .clean,
    BitVec.ofNat 36 (0),
    (((dspWith (0) { retiDue := true, regs := [(33, 5), (35, 2049)] })).dsp 0).begin,
    (dspWith (0) { retiDue := true, regs := [(33, 5), (35, 2049)] }), by decide⟩

theorem witness_dsp_program_flow_8 : ∃ (d k : Nat) (e : Ecc) (w : BitVec 36) (y : Dsp) (c : Nat) (s : State), y =
    (s.dsp (sel d k)).begin ∧ y.stepping = false ∧ dspIssues s d k 0x05 e w = true ∧ dspFree s d k = true ∧ stray w
    (fld 29 19 + fld 11 0) = false ∧ c = (if bits w 23 23 = 1 then y.get (bits w 22 19) % 4096 else bits w 11 0) :=
  ⟨0,
    0,
    .clean,
    BitVec.ofNat 36 (0x05 * 2 ^ 30 + 3 * 2 ^ 24 + 2 ^ 23 + 4 * 2 ^ 19),
    (((dspWith (0x05 * 2 ^ 30 + 3 * 2 ^ 24 + 2 ^ 23 + 4 * 2 ^ 19) { regs := [(4, 4096)] })).dsp 0).begin,
    0,
    (dspWith (0x05 * 2 ^ 30 + 3 * 2 ^ 24 + 2 ^ 23 + 4 * 2 ^ 19) { regs := [(4, 4096)] }), by decide⟩

theorem witness_dsp_program_flow_9 : ∃ (d k : Nat) (e : Ecc) (w : BitVec 36) (y : Dsp) (r : DspRepeat) (s : State), y
    = (s.dsp (sel d k)).begin ∧ y.stepping = false ∧ dspIssues s d k 0x00 e w = true ∧ y.flow.br = none ∧ stray w 0 =
    false ∧ y.flow.rep = some r ∧ r.begun = true ∧ (∀ p ∈ y.pend, p.reg ≠ DspReg.LC) :=
  ⟨0,
    0,
    .clean,
    BitVec.ofNat 36 (0),
    (((dspWith (0) { flow := { pc := 0, lc := 3, rep := some ⟨8191, 1, 0, false, none⟩ } })).dsp 0).begin,
    ⟨8191, 1, 0, true, none⟩,
    (dspWith (0) { flow := { pc := 0, lc := 3, rep := some ⟨8191, 1, 0, false, none⟩ } }), by decide⟩

theorem witness_dsp_program_flow_9c : ∃ (d k : Nat) (e : Ecc) (w : BitVec 36) (y : Dsp) (r : DspRepeat) (s : State), y
    = (s.dsp (sel d k)).begin ∧ y.stepping = false ∧ dspIssues s d k 0x00 e w = true ∧ y.flow.br = none ∧ stray w 0 =
    false ∧ y.flow.rep = some r ∧ r.begun = true ∧ (∀ p ∈ y.pend, p.reg ≠ DspReg.LC) :=
  ⟨0,
    0,
    .clean,
    BitVec.ofNat 36 (0),
    (((dspWith (0) { flow := { pc := 0, lc := 3, rep := some ⟨8191, 2, 0, true, none⟩ } })).dsp 0).begin,
    ⟨8191, 2, 0, true, none⟩,
    (dspWith (0) { flow := { pc := 0, lc := 3, rep := some ⟨8191, 2, 0, true, none⟩ } }), by decide⟩

theorem witness_dsp_program_flow_9d : ∃ (d k : Nat) (e : Ecc) (w : BitVec 36) (y : Dsp) (r : DspRepeat) (s : State), y
    = (s.dsp (sel d k)).begin ∧ y.stepping = false ∧ dspIssues s d k 0x00 e w = true ∧ y.flow.br = none ∧ stray w 0 =
    false ∧ y.flow.rep = some r ∧ r.begun = true ∧ (∀ p ∈ y.pend, p.reg ≠ DspReg.LC) :=
  ⟨0,
    0,
    .clean,
    BitVec.ofNat 36 (0),
    (((dspWith (0) { flow := { pc := 0, lc := 0, rep := some ⟨8191, 1, 0, true, some 7⟩ } })).dsp 0).begin,
    ⟨8191, 1, 0, true, some 7⟩,
    (dspWith (0) { flow := { pc := 0, lc := 0, rep := some ⟨8191, 1, 0, true, some 7⟩ } }), by decide⟩

theorem witness_dsp_program_flow_9b : ∃ (d k : Nat) (e : Ecc) (w : BitVec 36) (y : Dsp) (r : DspRepeat) (s : State), y
    = (s.dsp (sel d k)).begin ∧ y.stepping = false ∧ dspIssues s d k 0x00 e w = true ∧ y.flow.br = none ∧ stray w 0 =
    false ∧ y.flow.rep = some r ∧ r.begun = true ∧ (∀ p ∈ y.pend, p.reg ≠ DspReg.LC) :=
  ⟨0,
    0,
    .clean,
    BitVec.ofNat 36 (0),
    (((dspWith (0) { flow := { pc := 0, lc := 0, rep := some ⟨8191, 1, 0, true, none⟩ } })).dsp 0).begin,
    ⟨8191, 1, 0, true, none⟩,
    (dspWith (0) { flow := { pc := 0, lc := 0, rep := some ⟨8191, 1, 0, true, none⟩ } }), by decide⟩

theorem witness_dsp_program_flow_10 : ∃ (d k : Nat) (e : Ecc) (w : BitVec 36) (y : Dsp) (s : State), y = (s.dsp (sel d
    k)).begin ∧ y.stepping = false ∧ dspIssues s d k 0x06 e w = true ∧ dspFree s d k = true ∧ stray w 0 = false :=
  ⟨0,
    0,
    .clean,
    BitVec.ofNat 36 (0x06 * 2 ^ 30),
    (((dspWith (0x06 * 2 ^ 30) { regs := [(3, 4)] })).dsp 0).begin,
    (dspWith (0x06 * 2 ^ 30) { regs := [(3, 4)] }), by decide⟩

theorem witness_dsp_program_flow_11 : ∃ (d k : Nat) (e : Ecc) (w : BitVec 36) (y : Dsp) (s : State), y = (s.dsp (sel d
    k)).begin ∧ y.stepping = false ∧ dspIssues s d k 0x07 e w = true ∧ dspFree s d k = true ∧ stray w (fld 29 14) =
    false :=
  ⟨0,
    0,
    .clean,
    BitVec.ofNat 36 (0x07 * 2 ^ 30 + 2 * 2 ^ 28 + 3 * 2 ^ 24 + 300 * 2 ^ 14),
    (((dspWith (0x07 * 2 ^ 30 + 2 * 2 ^ 28 + 3 * 2 ^ 24 + 300 * 2 ^ 14) { regs := [(3, 4)] })).dsp 0).begin,
    (dspWith (0x07 * 2 ^ 30 + 2 * 2 ^ 28 + 3 * 2 ^ 24 + 300 * 2 ^ 14) { regs := [(3, 4)] }), by decide⟩

theorem witness_dsp_program_flow_12 : ∃ (d k : Nat) (e : Ecc) (w : BitVec 36) (y : Dsp) (v : Nat) (s : State), y =
    (s.dsp (sel d k)).begin ∧ y.stepping = false ∧ dspIssues s d k 0x08 e w = true ∧ stray w (fld 29 28 + fld 7 0) =
    false ∧ bits w 29 28 ≤ 2 ∧ v = (if bits w 29 28 = 0 then y.latest DspReg.FLAGS ||| bits w 7 0 else if bits w 29 28
    = 1 then y.latest DspReg.FLAGS &&& (255 - bits w 7 0) else y.latest DspReg.FLAGS ^^^ bits w 7 0) :=
  ⟨0,
    0,
    .clean,
    BitVec.ofNat 36 (0x08 * 2 ^ 30 + 1 * 2 ^ 28 + 0x0F),
    (((dspWith (0x08 * 2 ^ 30 + 1 * 2 ^ 28 + 0x0F) { regs := [(37, 0x33)] })).dsp 0).begin,
    0x30,
    (dspWith (0x08 * 2 ^ 30 + 1 * 2 ^ 28 + 0x0F) { regs := [(37, 0x33)] }), by decide⟩

theorem witness_dsp_program_flow_13 : ∃ (d k : Nat) (e : Ecc) (w : BitVec 36) (y : Dsp) (s : State), y = (s.dsp (sel d
    k)).begin ∧ y.stepping = false ∧ dspIssues s d k 0x09 e w = true ∧ stray w (fld 1 0) = false :=
  ⟨0,
    0,
    .clean,
    BitVec.ofNat 36 (0x09 * 2 ^ 30 + 2),
    (((dspWith (0x09 * 2 ^ 30 + 2) { regs := [] })).dsp 0).begin,
    (dspWith (0x09 * 2 ^ 30 + 2) { regs := [] }), by decide⟩

theorem witness_dsp_program_flow_14 : ∃ (d k : Nat) (s : State), s.dspReady d k = true :=
  ⟨0, 0, dspAt 0 [], by decide⟩

theorem witness_dsp_program_flow_15 : ∃ (d k : Nat) (e : Ecc) (w : BitVec 36) (y : Dsp) (s : State), y = (s.dsp (sel d
    k)).begin ∧ y.stepping = true ∧ y.flow.next.eligible = true ∧ dspIssues s d k 0x00 e w = true ∧ stray w 0 = false
    :=
  ⟨0, 0, .clean, 0, ((dspWith 0 { stepping := true }).dsp 0).begin, dspWith 0 { stepping := true }, by decide⟩

theorem witness_dsp_program_flow_10b : ∃ (d k : Nat) (e : Ecc) (w : BitVec 36) (y : Dsp) (s : State), y = (s.dsp (sel
    d k)).begin ∧ y.stepping = false ∧ dspIssues s d k 0x06 e w = true ∧ dspFree s d k = true ∧ stray w 0 = false :=
  ⟨0,
    0,
    .clean,
    BitVec.ofNat 36 (0x06 * 2 ^ 30),
    (((dspWith (0x06 * 2 ^ 30) { regs := [(3, 4)], issueAt := 97 })).dsp 0).begin,
    (dspWith (0x06 * 2 ^ 30) { regs := [(3, 4)], issueAt := 97 }), by decide⟩

theorem witness_dsp_program_flow_11b : ∃ (d k : Nat) (e : Ecc) (w : BitVec 36) (y : Dsp) (s : State), y = (s.dsp (sel
    d k)).begin ∧ y.stepping = false ∧ dspIssues s d k 0x07 e w = true ∧ dspFree s d k = true ∧ stray w (fld 29 14) =
    false :=
  ⟨0,
    0,
    .clean,
    BitVec.ofNat 36 (0x07 * 2 ^ 30 + 2 * 2 ^ 28 + 3 * 2 ^ 24 + 300 * 2 ^ 14),
    (((dspWith (0x07 * 2 ^ 30 + 2 * 2 ^ 28 + 3 * 2 ^ 24 + 300 * 2 ^ 14) { regs := [(3, 4)], haltReq := some 99 })).dsp 0).begin,
    (dspWith (0x07 * 2 ^ 30 + 2 * 2 ^ 28 + 3 * 2 ^ 24 + 300 * 2 ^ 14) { regs := [(3, 4)], haltReq := some 99 }), by decide⟩

theorem witness_dsp_program_flow_15b : ∃ (d k : Nat) (e : Ecc) (w : BitVec 36) (y : Dsp) (s : State), y = (s.dsp (sel
    d k)).begin ∧ y.stepping = true ∧ y.flow.next.eligible = true ∧ dspIssues s d k 0x00 e w = true ∧ stray w 0 =
    false :=
  ⟨0,
    0,
    .clean,
    0,
    ((dspWith 0 { stepping := true, issueAt := 97 }).dsp 0).begin,
    dspWith 0 { stepping := true, issueAt := 97 }, by decide⟩

theorem witness_dsp_registers_and_memory_1 : ∃ (d k : Nat) (e : Ecc) (w : BitVec 36) (y : Dsp) (r : Nat) (s : State),
    y = (s.dsp (sel d k)).begin ∧ y.stepping = false ∧ dspIssues s d k 0x0C e w = true ∧ stray w (fld 29 20) = false ∧
    r = bits w 24 20 ∧ r ≤ 21 ∧ bits w 25 25 = 1 :=
  ⟨0,
    0,
    .clean,
    BitVec.ofNat 36 (0x0C * 2 ^ 30 + 3 * 2 ^ 26 + 2 ^ 25 + 17 * 2 ^ 20),
    (((dspWith (0x0C * 2 ^ 30 + 3 * 2 ^ 26 + 2 ^ 25 + 17 * 2 ^ 20) { regs := [(33, 9)] })).dsp 0).begin,
    17,
    (dspWith (0x0C * 2 ^ 30 + 3 * 2 ^ 26 + 2 ^ 25 + 17 * 2 ^ 20) { regs := [(33, 9)] }), by decide⟩

theorem witness_dsp_registers_and_memory_2 : ∃ (d k : Nat) (e : Ecc) (w : BitVec 36) (y : Dsp) (r v : Nat) (s :
    State), y = (s.dsp (sel d k)).begin ∧ y.stepping = false ∧ dspIssues s d k 0x0C e w = true ∧ stray w (fld 29 20) =
    false ∧ bits w 25 25 = 0 ∧ r = bits w 24 20 ∧ v = y.get (bits w 29 26) ∧ r ≤ 20 ∧ ((r = 16 → y.flow.rep = none))
    :=
  ⟨0,
    0,
    .clean,
    BitVec.ofNat 36 (0x0C * 2 ^ 30 + 3 * 2 ^ 26 + 9 * 2 ^ 20),
    (((dspWith (0x0C * 2 ^ 30 + 3 * 2 ^ 26 + 9 * 2 ^ 20) { regs := [(3, 777)] })).dsp 0).begin,
    9,
    777,
    (dspWith (0x0C * 2 ^ 30 + 3 * 2 ^ 26 + 9 * 2 ^ 20) { regs := [(3, 777)] }), by decide⟩

theorem witness_dsp_registers_and_memory_3 : ∃ (d k : Nat) (e : Ecc) (w : BitVec 36) (y : Dsp) (r v : Nat) (s :
    State), y = (s.dsp (sel d k)).begin ∧ y.stepping = false ∧ dspIssues s d k 0x0C e w = true ∧ stray w (fld 29 20) =
    false ∧ bits w 25 25 = 0 ∧ r = bits w 24 20 ∧ v = y.get (bits w 29 26) ∧ r = 21 :=
  ⟨0,
    0,
    .clean,
    BitVec.ofNat 36 (0x0C * 2 ^ 30 + 3 * 2 ^ 26 + 21 * 2 ^ 20),
    (((dspWith (0x0C * 2 ^ 30 + 3 * 2 ^ 26 + 21 * 2 ^ 20) { regs := [(3, 777)] })).dsp 0).begin,
    21,
    777,
    (dspWith (0x0C * 2 ^ 30 + 3 * 2 ^ 26 + 21 * 2 ^ 20) { regs := [(3, 777)] }), by decide⟩

theorem witness_dsp_registers_and_memory_2b : ∃ (d k : Nat) (e : Ecc) (w : BitVec 36) (y : Dsp) (r v : Nat) (s :
    State), y = (s.dsp (sel d k)).begin ∧ y.stepping = false ∧ dspIssues s d k 0x0C e w = true ∧ stray w (fld 29 20) =
    false ∧ bits w 25 25 = 0 ∧ r = bits w 24 20 ∧ v = y.get (bits w 29 26) ∧ r ≤ 20 ∧ ((r = 16 → y.flow.rep = none))
    :=
  ⟨0,
    0,
    .clean,
    BitVec.ofNat 36 (0x0C * 2 ^ 30 + 3 * 2 ^ 26 + 16 * 2 ^ 20),
    (((dspWith (0x0C * 2 ^ 30 + 3 * 2 ^ 26 + 16 * 2 ^ 20) { regs := [(3, 777)] })).dsp 0).begin,
    16,
    777,
    (dspWith (0x0C * 2 ^ 30 + 3 * 2 ^ 26 + 16 * 2 ^ 20) { regs := [(3, 777)] }), by decide⟩

theorem witness_dsp_registers_and_memory_4 : ∃ (d k : Nat) (e : Ecc) (w : BitVec 36) (y : Dsp) (r v : Nat) (p :
    DspRepeat) (s : State), y = (s.dsp (sel d k)).begin ∧ y.stepping = false ∧ dspIssues s d k 0x0C e w = true ∧ stray
    w (fld 29 20) = false ∧ bits w 25 25 = 0 ∧ r = bits w 24 20 ∧ v = y.get (bits w 29 26) ∧ r = 16 ∧ y.flow.rep =
    some p :=
  ⟨0,
    0,
    .clean,
    BitVec.ofNat 36 (0x0C * 2 ^ 30 + 3 * 2 ^ 26 + 16 * 2 ^ 20),
    (((dspWith (0x0C * 2 ^ 30 + 3 * 2 ^ 26 + 16 * 2 ^ 20) { regs := [(3, 777)], flow := { lc := 2, rep := some ⟨9, 4, 1, true, none⟩ } })).dsp 0).begin,
    16,
    777,
    ⟨9, 4, 1, true, none⟩,
    (dspWith (0x0C * 2 ^ 30 + 3 * 2 ^ 26 + 16 * 2 ^ 20) { regs := [(3, 777)], flow := { lc := 2, rep := some ⟨9, 4, 1, true, none⟩ } }), by decide⟩

theorem witness_dsp_registers_and_memory_5 : ∃ (d k : Nat) (e : Ecc) (w : BitVec 36) (y : Dsp) (r v : Nat) (s :
    State), y = (s.dsp (sel d k)).begin ∧ y.stepping = false ∧ dspIssues s d k 0x0D e w = true ∧ stray w (fld 24 20 +
    fld 15 0) = false ∧ r = bits w 24 20 ∧ v = bits w 15 0 ∧ r ≤ 20 ∧ ((r = 16 → y.flow.rep = none)) :=
  ⟨0,
    0,
    .clean,
    BitVec.ofNat 36 (0x0D * 2 ^ 30 + 9 * 2 ^ 20 + 777),
    (((dspWith (0x0D * 2 ^ 30 + 9 * 2 ^ 20 + 777) { regs := [] })).dsp 0).begin,
    9,
    777,
    (dspWith (0x0D * 2 ^ 30 + 9 * 2 ^ 20 + 777) { regs := [] }), by decide⟩

theorem witness_dsp_registers_and_memory_6 : ∃ (d k : Nat) (e : Ecc) (w : BitVec 36) (y : Dsp) (r v : Nat) (s :
    State), y = (s.dsp (sel d k)).begin ∧ y.stepping = false ∧ dspIssues s d k 0x0D e w = true ∧ stray w (fld 24 20 +
    fld 15 0) = false ∧ r = bits w 24 20 ∧ v = bits w 15 0 ∧ r = 21 :=
  ⟨0,
    0,
    .clean,
    BitVec.ofNat 36 (0x0D * 2 ^ 30 + 21 * 2 ^ 20 + 777),
    (((dspWith (0x0D * 2 ^ 30 + 21 * 2 ^ 20 + 777) { regs := [] })).dsp 0).begin,
    21,
    777,
    (dspWith (0x0D * 2 ^ 30 + 21 * 2 ^ 20 + 777) { regs := [] }), by decide⟩

theorem witness_dsp_registers_and_memory_5b : ∃ (d k : Nat) (e : Ecc) (w : BitVec 36) (y : Dsp) (r v : Nat) (s :
    State), y = (s.dsp (sel d k)).begin ∧ y.stepping = false ∧ dspIssues s d k 0x0D e w = true ∧ stray w (fld 24 20 +
    fld 15 0) = false ∧ r = bits w 24 20 ∧ v = bits w 15 0 ∧ r ≤ 20 ∧ ((r = 16 → y.flow.rep = none)) :=
  ⟨0,
    0,
    .clean,
    BitVec.ofNat 36 (0x0D * 2 ^ 30 + 16 * 2 ^ 20 + 777),
    (((dspWith (0x0D * 2 ^ 30 + 16 * 2 ^ 20 + 777) { regs := [] })).dsp 0).begin,
    16,
    777,
    (dspWith (0x0D * 2 ^ 30 + 16 * 2 ^ 20 + 777) { regs := [] }), by decide⟩

theorem witness_dsp_registers_and_memory_7 : ∃ (d k : Nat) (e : Ecc) (w : BitVec 36) (y : Dsp) (r v : Nat) (p :
    DspRepeat) (s : State), y = (s.dsp (sel d k)).begin ∧ y.stepping = false ∧ dspIssues s d k 0x0D e w = true ∧ stray
    w (fld 24 20 + fld 15 0) = false ∧ r = bits w 24 20 ∧ v = bits w 15 0 ∧ r = 16 ∧ y.flow.rep = some p :=
  ⟨0,
    0,
    .clean,
    BitVec.ofNat 36 (0x0D * 2 ^ 30 + 16 * 2 ^ 20 + 777),
    (((dspWith (0x0D * 2 ^ 30 + 16 * 2 ^ 20 + 777) { regs := [], flow := { lc := 2, rep := some ⟨9, 4, 1, true, none⟩ } })).dsp 0).begin,
    16,
    777,
    ⟨9, 4, 1, true, none⟩,
    (dspWith (0x0D * 2 ^ 30 + 16 * 2 ^ 20 + 777) { regs := [], flow := { lc := 2, rep := some ⟨9, 4, 1, true, none⟩ } }), by decide⟩

theorem witness_dsp_registers_and_memory_8 : ∃ (d k : Nat) (e m : Ecc) (w : BitVec 36) (y : Dsp) (a : Nat) (s :
    State), y = (s.dsp (sel d k)).begin ∧ y.stepping = false ∧ dspIssues s d k 0x0E e w = true ∧ stray w (fld 29 21 +
    fld 14 0) = false ∧ bits w 22 21 ≤ 2 ∧ sel d k ∉ s.nv.dsps ∧ a = (if bits w 22 21 = 2 then bits w 14 0 else y.get
    (DspReg.X + bits w 25 23) % 32768) ∧ m ≠ .uncorrectable :=
  ⟨0,
    0,
    .corrected,
    .corrected,
    BitVec.ofNat 36 (0x0E * 2 ^ 30 + 3 * 2 ^ 26 + 2 * 2 ^ 23 + 1 * 2 ^ 21),
    (((dspWith (0x0E * 2 ^ 30 + 3 * 2 ^ 26 + 2 * 2 ^ 23 + 1 * 2 ^ 21) { regs := [(18, 32769), (26, 65535)] }) |>.setDw Obj.DSP_DATA 0 0 (word 0x1111222233334444)).dsp 0).begin,
    1,
    (dspWith (0x0E * 2 ^ 30 + 3 * 2 ^ 26 + 2 * 2 ^ 23 + 1 * 2 ^ 21) { regs := [(18, 32769), (26, 65535)] }) |>.setDw Obj.DSP_DATA 0 0 (word 0x1111222233334444), by decide⟩

theorem witness_dsp_registers_and_memory_9 : ∃ (d k : Nat) (e m : Ecc) (w : BitVec 36) (y : Dsp) (a : Nat) (s :
    State), y = (s.dsp (sel d k)).begin ∧ y.stepping = false ∧ dspIssues s d k 0x0F e w = true ∧ stray w (fld 29 21 +
    fld 14 0) = false ∧ bits w 22 21 ≤ 2 ∧ sel d k ∉ s.nv.dsps ∧ a = (if bits w 22 21 = 2 then bits w 14 0 else y.get
    (DspReg.X + bits w 25 23) % 32768) ∧ m ≠ .uncorrectable :=
  ⟨0,
    0,
    .corrected,
    .corrected,
    BitVec.ofNat 36 (0x0F * 2 ^ 30 + 3 * 2 ^ 26 + 2 * 2 ^ 21 + 2),
    (((dspWith (0x0F * 2 ^ 30 + 3 * 2 ^ 26 + 2 * 2 ^ 21 + 2) { regs := [(3, 0xABCD)] }) |>.setDw Obj.DSP_DATA 0 0 (word 0x1111222233334444)).dsp 0).begin,
    2,
    (dspWith (0x0F * 2 ^ 30 + 3 * 2 ^ 26 + 2 * 2 ^ 21 + 2) { regs := [(3, 0xABCD)] }) |>.setDw Obj.DSP_DATA 0 0 (word 0x1111222233334444), by decide⟩

theorem witness_dsp_registers_and_memory_10 : ∃ (d k : Nat) (e : Ecc) (w : BitVec 36) (y : Dsp) (a : Nat) (s : State),
    y = (s.dsp (sel d k)).begin ∧ y.stepping = false ∧ dspIssues s d k 0x0E e w = true ∧ stray w (fld 29 21 + fld 14
    0) = false ∧ bits w 22 21 ≤ 2 ∧ sel d k ∉ s.nv.dsps ∧ a = (if bits w 22 21 = 2 then bits w 14 0 else y.get
    (DspReg.X + bits w 25 23) % 32768) ∧ ((s.dsp (sel d k)).errs.filter (fun c => decide (s.cyc < c +
    108000000000000))).length < 2 :=
  ⟨0,
    0,
    .clean,
    BitVec.ofNat 36 (0x0E * 2 ^ 30 + 3 * 2 ^ 26 + 2 * 2 ^ 23 + 1 * 2 ^ 21),
    (((dspWith (0x0E * 2 ^ 30 + 3 * 2 ^ 26 + 2 * 2 ^ 23 + 1 * 2 ^ 21) { regs := [(18, 32769), (26, 65535)] }) |>.setDw Obj.DSP_DATA 0 0 (word 0x1111222233334444)).dsp 0).begin,
    1,
    (dspWith (0x0E * 2 ^ 30 + 3 * 2 ^ 26 + 2 * 2 ^ 23 + 1 * 2 ^ 21) { regs := [(18, 32769), (26, 65535)] }) |>.setDw Obj.DSP_DATA 0 0 (word 0x1111222233334444), by decide⟩

theorem witness_dsp_registers_and_memory_11 : ∃ (d k : Nat) (e : Ecc) (w : BitVec 36) (y : Dsp) (a : Nat) (s : State),
    y = (s.dsp (sel d k)).begin ∧ y.stepping = false ∧ dspIssues s d k 0x0F e w = true ∧ stray w (fld 29 21 + fld 14
    0) = false ∧ bits w 22 21 ≤ 2 ∧ sel d k ∉ s.nv.dsps ∧ a = (if bits w 22 21 = 2 then bits w 14 0 else y.get
    (DspReg.X + bits w 25 23) % 32768) ∧ ((s.dsp (sel d k)).errs.filter (fun c => decide (s.cyc < c +
    108000000000000))).length < 2 :=
  ⟨0,
    0,
    .clean,
    BitVec.ofNat 36 (0x0F * 2 ^ 30 + 3 * 2 ^ 26 + 2 * 2 ^ 21 + 2),
    (((dspWith (0x0F * 2 ^ 30 + 3 * 2 ^ 26 + 2 * 2 ^ 21 + 2) { regs := [(3, 0xABCD)] }) |>.setDw Obj.DSP_DATA 0 0 (word 0x1111222233334444)).dsp 0).begin,
    2,
    (dspWith (0x0F * 2 ^ 30 + 3 * 2 ^ 26 + 2 * 2 ^ 21 + 2) { regs := [(3, 0xABCD)] }) |>.setDw Obj.DSP_DATA 0 0 (word 0x1111222233334444), by decide⟩

theorem witness_dsp_registers_and_memory_12 : ∃ (d k : Nat) (e : Ecc) (w : BitVec 36) (y : Dsp) (a : Nat) (s : State),
    y = (s.dsp (sel d k)).begin ∧ y.stepping = false ∧ dspIssues s d k 0x0E e w = true ∧ stray w (fld 29 21 + fld 14
    0) = false ∧ bits w 22 21 ≤ 2 ∧ sel d k ∉ s.nv.dsps ∧ a = (if bits w 22 21 = 2 then bits w 14 0 else y.get
    (DspReg.X + bits w 25 23) % 32768) ∧ 2 ≤ ((s.dsp (sel d k)).errs.filter (fun c => decide (s.cyc < c +
    108000000000000))).length :=
  ⟨0,
    0,
    .clean,
    BitVec.ofNat 36 (0x0E * 2 ^ 30 + 3 * 2 ^ 26 + 2 * 2 ^ 23 + 1 * 2 ^ 21),
    (((dspWith (0x0E * 2 ^ 30 + 3 * 2 ^ 26 + 2 * 2 ^ 23 + 1 * 2 ^ 21) { regs := [(18, 32769), (26, 65535)], errs := [1, 2] }) |>.setDw Obj.DSP_DATA 0 0 (word 0x1111222233334444)).dsp 0).begin,
    1,
    (dspWith (0x0E * 2 ^ 30 + 3 * 2 ^ 26 + 2 * 2 ^ 23 + 1 * 2 ^ 21) { regs := [(18, 32769), (26, 65535)], errs := [1, 2] }) |>.setDw Obj.DSP_DATA 0 0 (word 0x1111222233334444), by decide⟩

theorem witness_dsp_registers_and_memory_13 : ∃ (d k : Nat) (e : Ecc) (w : BitVec 36) (y : Dsp) (a : Nat) (s : State),
    y = (s.dsp (sel d k)).begin ∧ y.stepping = false ∧ dspIssues s d k 0x0F e w = true ∧ stray w (fld 29 21 + fld 14
    0) = false ∧ bits w 22 21 ≤ 2 ∧ sel d k ∉ s.nv.dsps ∧ a = (if bits w 22 21 = 2 then bits w 14 0 else y.get
    (DspReg.X + bits w 25 23) % 32768) ∧ 2 ≤ ((s.dsp (sel d k)).errs.filter (fun c => decide (s.cyc < c +
    108000000000000))).length :=
  ⟨0,
    0,
    .clean,
    BitVec.ofNat 36 (0x0F * 2 ^ 30 + 3 * 2 ^ 26 + 2 * 2 ^ 23 + 1 * 2 ^ 21),
    (((dspWith (0x0F * 2 ^ 30 + 3 * 2 ^ 26 + 2 * 2 ^ 23 + 1 * 2 ^ 21) { regs := [(18, 32769), (26, 65535)], errs := [1, 2] }) |>.setDw Obj.DSP_DATA 0 0 (word 0x1111222233334444)).dsp 0).begin,
    1,
    (dspWith (0x0F * 2 ^ 30 + 3 * 2 ^ 26 + 2 * 2 ^ 23 + 1 * 2 ^ 21) { regs := [(18, 32769), (26, 65535)], errs := [1, 2] }) |>.setDw Obj.DSP_DATA 0 0 (word 0x1111222233334444), by decide⟩

theorem witness_dsp_registers_and_memory_14 : ∃ (d k : Nat) (e m n : Ecc) (w : BitVec 36) (y : Dsp) (i j : Nat) (v :
    Int) (s : State), y = (s.dsp (sel d k)).begin ∧ y.stepping = false ∧ dspIssues s d k 0x23 e w = true ∧ stray w
    (fld 29 22) = false ∧ sel d k ∉ s.nv.dsps ∧ m ≠ .uncorrectable ∧ n ≠ .uncorrectable ∧ i = bits w 27 25 ∧ j = bits
    w 24 22 ∧ v = signed 40 (y.latest (DspReg.A + bits w 29 28)) + signed 16 (s.dspHalf d k (y.get (DspReg.X + i) %
    32768)) * signed 16 (s.dspHalf d k (y.get (DspReg.X + j) % 32768)) :=
  ⟨0,
    0,
    .clean,
    .clean,
    .clean,
    BitVec.ofNat 36 (0x23 * 2 ^ 30 + 2 * 2 ^ 28 + 1 * 2 ^ 25 + 2 * 2 ^ 22),
    (((dspWith (0x23 * 2 ^ 30 + 2 * 2 ^ 28 + 1 * 2 ^ 25 + 2 * 2 ^ 22) { regs := [(17, 0), (18, 1), (25, 4), (26, 5)] }) |>.setDw Obj.DSP_DATA 0 0 (word 0x1111222233334444)).dsp 0).begin,
    1,
    2,
    0x1111 * 0x2222,
    (dspWith (0x23 * 2 ^ 30 + 2 * 2 ^ 28 + 1 * 2 ^ 25 + 2 * 2 ^ 22) { regs := [(17, 0), (18, 1), (25, 4), (26, 5)] }) |>.setDw Obj.DSP_DATA 0 0 (word 0x1111222233334444), by decide⟩

theorem witness_dsp_registers_and_memory_15 : ∃ (d k : Nat) (e m n : Ecc) (w : BitVec 36) (y : Dsp) (i j p q : Nat) (v
    : Int) (s : State), y = (s.dsp (sel d k)).begin ∧ y.stepping = false ∧ dspIssues s d k 0x23 e w = true ∧ stray w
    (fld 29 22) = false ∧ sel d k ∉ s.nv.dsps ∧ i = bits w 27 25 ∧ j = bits w 24 22 ∧ p = (if m = Ecc.uncorrectable
    then 0 else s.dspHalf d k (y.get (DspReg.X + i) % 32768)) ∧ q = (if (if y.get (DspReg.X + i) % 32768 / 4 = y.get
    (DspReg.X + j) % 32768 / 4 then m else n) = Ecc.uncorrectable then 0 else s.dspHalf d k (y.get (DspReg.X + j) %
    32768)) ∧ v = signed 40 (y.latest (DspReg.A + bits w 29 28)) + signed 16 p * signed 16 q :=
  ⟨0,
    0,
    .clean,
    .uncorrectable,
    .clean,
    BitVec.ofNat 36 (0x23 * 2 ^ 30 + 2 * 2 ^ 28 + 1 * 2 ^ 25 + 2 * 2 ^ 22),
    (((dspWith (0x23 * 2 ^ 30 + 2 * 2 ^ 28 + 1 * 2 ^ 25 + 2 * 2 ^ 22) { regs := [(17, 0), (18, 1), (25, 4), (26, 5)] }) |>.setDw Obj.DSP_DATA 0 0 (word 0x1111222233334444)).dsp 0).begin,
    1,
    2,
    0,
    0,
    0,
    (dspWith (0x23 * 2 ^ 30 + 2 * 2 ^ 28 + 1 * 2 ^ 25 + 2 * 2 ^ 22) { regs := [(17, 0), (18, 1), (25, 4), (26, 5)] }) |>.setDw Obj.DSP_DATA 0 0 (word 0x1111222233334444), by decide⟩

theorem witness_dsp_ports_1 : ∃ (d k : Nat) (e : Ecc) (w : BitVec 36) (y : Dsp) (u sh : Nat) (i q : Int) (s : State),
    y = (s.dsp (sel d k)).begin ∧ y.stepping = false ∧ dspIssues s d k 0x30 e w = true ∧ stray w (fld 29 26 + fld 25
    25 + fld 24 18 + fld 17 17 + fld 4 0) = false ∧ bits w 26 26 = 0 ∧ sh = bits w 4 0 ∧ sh ≤ 20 ∧ u = (if bits w 25
    25 = 1 then y.get (bits w 24 21) % 128 else bits w 24 18) ∧ i = signed 36 (bits (s.rd Obj.DEMOD_RESULT (sel d u))
    71 36) / 2 ^ sh ∧ q = signed 36 (bits (s.rd Obj.DEMOD_RESULT (sel d u)) 35 0) / 2 ^ sh :=
  ⟨0,
    0,
    .clean,
    BitVec.ofNat 36 (0x30 * 2 ^ 30 + 4 * 2 ^ 26 + 7 * 2 ^ 18 + 2 ^ 17 + 3),
    (((dspWith (0x30 * 2 ^ 30 + 4 * 2 ^ 26 + 7 * 2 ^ 18 + 2 ^ 17 + 3) { regs := [] }).wr Obj.DEMOD_RESULT 7 (word (0x800000000 * 2 ^ 36 + 16))).dsp 0).begin,
    7,
    3,
    -4294967296,
    2,
    (dspWith (0x30 * 2 ^ 30 + 4 * 2 ^ 26 + 7 * 2 ^ 18 + 2 ^ 17 + 3) { regs := [] }).wr Obj.DEMOD_RESULT 7 (word (0x800000000 * 2 ^ 36 + 16)), by decide⟩

theorem witness_dsp_ports_1b : ∃ (d k : Nat) (e : Ecc) (w : BitVec 36) (y : Dsp) (u sh : Nat) (i q : Int) (s : State),
    y = (s.dsp (sel d k)).begin ∧ y.stepping = false ∧ dspIssues s d k 0x30 e w = true ∧ stray w (fld 29 26 + fld 25
    25 + fld 24 18 + fld 17 17 + fld 4 0) = false ∧ bits w 26 26 = 0 ∧ sh = bits w 4 0 ∧ sh ≤ 20 ∧ u = (if bits w 25
    25 = 1 then y.get (bits w 24 21) % 128 else bits w 24 18) ∧ i = signed 36 (bits (s.rd Obj.DEMOD_RESULT (sel d u))
    71 36) / 2 ^ sh ∧ q = signed 36 (bits (s.rd Obj.DEMOD_RESULT (sel d u)) 35 0) / 2 ^ sh :=
  ⟨0,
    0,
    .clean,
    BitVec.ofNat 36 (0x30 * 2 ^ 30 + 4 * 2 ^ 26 + 2 ^ 25 + 2 * 2 ^ 21 + 3),
    (((dspWith (0x30 * 2 ^ 30 + 4 * 2 ^ 26 + 2 ^ 25 + 2 * 2 ^ 21 + 3) { regs := [(2, 135)] }).wr Obj.DEMOD_RESULT 7 (word (0x800000000 * 2 ^ 36 + 16))).dsp 0).begin,
    7,
    3,
    -4294967296,
    2,
    (dspWith (0x30 * 2 ^ 30 + 4 * 2 ^ 26 + 2 ^ 25 + 2 * 2 ^ 21 + 3) { regs := [(2, 135)] }).wr Obj.DEMOD_RESULT 7 (word (0x800000000 * 2 ^ 36 + 16)), by decide⟩

theorem witness_dsp_ports_2 : ∃ (d k : Nat) (e : Ecc) (w : BitVec 36) (y : Dsp) (u : Nat) (v : SlotView) (s : State),
    y = (s.dsp (sel d k)).begin ∧ y.stepping = false ∧ dspIssues s d k 0x31 e w = true ∧ stray w (fld 29 26 + fld 25
    25 + fld 24 15) = false ∧ u = (if bits w 25 25 = 1 then y.get (bits w 24 21) % 1024 else bits w 24 15) ∧ v =
    s.slotSeen (sel d u) :=
  ⟨0,
    0,
    .clean,
    BitVec.ofNat 36 (0x31 * 2 ^ 30 + 4 * 2 ^ 26 + 9 * 2 ^ 15),
    (((dspWith (0x31 * 2 ^ 30 + 4 * 2 ^ 26 + 9 * 2 ^ 15) { regs := [] })).dsp 0).begin,
    9,
    (dspAt 0 []).slotSeen 9,
    (dspWith (0x31 * 2 ^ 30 + 4 * 2 ^ 26 + 9 * 2 ^ 15) { regs := [] }), by decide⟩

theorem witness_dsp_ports_3 : ∃ (d k : Nat) (e : Ecc) (w : BitVec 36) (y : Dsp) (u : Nat) (s : State), y = (s.dsp (sel
    d k)).begin ∧ y.stepping = false ∧ dspIssues s d k 0x32 e w = true ∧ stray w (fld 29 26 + fld 25 25 + fld 24 18) =
    false ∧ u = (if bits w 25 25 = 1 then y.get (bits w 24 21) % 128 else bits w 24 18) :=
  ⟨0,
    0,
    .clean,
    BitVec.ofNat 36 (0x32 * 2 ^ 30 + 4 * 2 ^ 26 + 9 * 2 ^ 18),
    (((dspWith (0x32 * 2 ^ 30 + 4 * 2 ^ 26 + 9 * 2 ^ 18) { regs := [] }).wrN Obj.READ_COUNT 9 300).dsp 0).begin,
    9,
    (dspWith (0x32 * 2 ^ 30 + 4 * 2 ^ 26 + 9 * 2 ^ 18) { regs := [] }).wrN Obj.READ_COUNT 9 300, by decide⟩

theorem witness_dsp_ports_4 : ∃ (d k : Nat) (e : Ecc) (w : BitVec 36) (y : Dsp) (m : DspMail) (early rest : List
    DspMail) (s : State), y = (s.dsp (sel d k)).begin ∧ y.stepping = false ∧ dspIssues s d k 0x33 e w = true ∧ stray w
    (fld 29 26) = false ∧ bits w 26 26 = 0 ∧ y.mbox = early ++ m :: rest ∧ (∀ p ∈ early, s.cyc < p.from_) ∧ m.from_ ≤
    s.cyc :=
  ⟨0,
    0,
    .clean,
    BitVec.ofNat 36 (0x33 * 2 ^ 30 + 4 * 2 ^ 26),
    (((dspWith (0x33 * 2 ^ 30 + 4 * 2 ^ 26) { mbox := [⟨3, 0xABCD1234, 5⟩] })).dsp 0).begin,
    ⟨3, 0xABCD1234, 5⟩,
    [],
    [],
    (dspWith (0x33 * 2 ^ 30 + 4 * 2 ^ 26) { mbox := [⟨3, 0xABCD1234, 5⟩] }), by decide⟩

theorem witness_dsp_ports_5 : ∃ (d k : Nat) (e : Ecc) (w : BitVec 36) (y : Dsp) (s : State), y = (s.dsp (sel d
    k)).begin ∧ y.stepping = false ∧ dspIssues s d k 0x33 e w = true ∧ stray w (fld 29 26) = false ∧ bits w 26 26 = 0
    ∧ (∀ p ∈ y.mbox, s.cyc < p.from_) :=
  ⟨0,
    0,
    .clean,
    BitVec.ofNat 36 (0x33 * 2 ^ 30 + 4 * 2 ^ 26),
    (((dspWith (0x33 * 2 ^ 30 + 4 * 2 ^ 26) { regs := [(33, 0x3C0)] })).dsp 0).begin,
    (dspWith (0x33 * 2 ^ 30 + 4 * 2 ^ 26) { regs := [(33, 0x3C0)] }), by decide⟩

theorem witness_dsp_ports_5b : ∃ (d k : Nat) (e : Ecc) (w : BitVec 36) (y : Dsp) (s : State), y = (s.dsp (sel d
    k)).begin ∧ y.stepping = false ∧ dspIssues s d k 0x33 e w = true ∧ stray w (fld 29 26) = false ∧ bits w 26 26 = 0
    ∧ (∀ p ∈ y.mbox, s.cyc < p.from_) :=
  ⟨0,
    0,
    .clean,
    BitVec.ofNat 36 (0x33 * 2 ^ 30 + 4 * 2 ^ 26),
    (((dspWith (0x33 * 2 ^ 30 + 4 * 2 ^ 26) { mbox := [⟨101, 1, 2⟩] })).dsp 0).begin,
    (dspWith (0x33 * 2 ^ 30 + 4 * 2 ^ 26) { mbox := [⟨101, 1, 2⟩] }), by decide⟩

theorem witness_dsp_ports_6 : ∃ (d k : Nat) (e : Ecc) (w : BitVec 36) (y : Dsp) (u : Nat) (s : State), y = (s.dsp (sel
    d k)).begin ∧ y.stepping = false ∧ dspIssues s d k 0x34 e w = true ∧ stray w (fld 29 26 + fld 25 25 + fld 24 15) =
    false ∧ u = (if bits w 25 25 = 1 then y.get (bits w 24 21) % 1024 else bits w 24 15) :=
  ⟨0,
    0,
    .clean,
    BitVec.ofNat 36 (0x34 * 2 ^ 30 + 4 * 2 ^ 26 + 256 * 2 ^ 15),
    (((dspWith (0x34 * 2 ^ 30 + 4 * 2 ^ 26 + 256 * 2 ^ 15) { regs := [(4, 0x1FF)] })).dsp 0).begin,
    256,
    (dspWith (0x34 * 2 ^ 30 + 4 * 2 ^ 26 + 256 * 2 ^ 15) { regs := [(4, 0x1FF)] }), by decide⟩

theorem witness_dsp_ports_6b : ∃ (d k : Nat) (e : Ecc) (w : BitVec 36) (y : Dsp) (u : Nat) (s : State), y = (s.dsp
    (sel d k)).begin ∧ y.stepping = false ∧ dspIssues s d k 0x34 e w = true ∧ stray w (fld 29 26 + fld 25 25 + fld 24
    15) = false ∧ u = (if bits w 25 25 = 1 then y.get (bits w 24 21) % 1024 else bits w 24 15) :=
  ⟨0,
    0,
    .clean,
    BitVec.ofNat 36 (0x34 * 2 ^ 30 + 4 * 2 ^ 26 + 2 ^ 25 + 4 * 2 ^ 21),
    (((dspWith (0x34 * 2 ^ 30 + 4 * 2 ^ 26 + 2 ^ 25 + 4 * 2 ^ 21) { regs := [(4, 512)] })).dsp 0).begin,
    512,
    (dspWith (0x34 * 2 ^ 30 + 4 * 2 ^ 26 + 2 ^ 25 + 4 * 2 ^ 21) { regs := [(4, 512)] }), by decide⟩

theorem witness_dsp_ports_7 : ∃ (d k : Nat) (e : Ecc) (w : BitVec 36) (y : Dsp) (s : State), y = (s.dsp (sel d
    k)).begin ∧ y.stepping = false ∧ dspIssues s d k 0x35 e w = true ∧ stray w (fld 29 22) = false :=
  ⟨0,
    0,
    .clean,
    BitVec.ofNat 36 (0x35 * 2 ^ 30 + 4 * 2 ^ 26 + 15 * 2 ^ 22),
    (((dspWith (0x35 * 2 ^ 30 + 4 * 2 ^ 26 + 15 * 2 ^ 22) { regs := [(4, 0x1FF)] })).dsp 0).begin,
    (dspWith (0x35 * 2 ^ 30 + 4 * 2 ^ 26 + 15 * 2 ^ 22) { regs := [(4, 0x1FF)] }), by decide⟩

theorem witness_dsp_ports_8 : ∃ (d k c u : Nat) (v : BitVec 8) (s : State), c ≤ s.cyc ∧ (u < 256 ∨ 512 ≤ u) :=
  ⟨0, 0, 90, 600, 5, dspAt 0 [], by decide⟩

theorem witness_dsp_control_1 : ∃ (d k i c : Nat) (e : BellEvent) (u s : State), i < 16 ∧ c = (if i < 8 then 160 + 8 *
    k + i else 512 + 16 * k + i) ∧ s.domOn d (domDsp k) = true ∧ s.dspEdge d k c = true ∧ look 0 (s.dsp (sel d k)).ip
    i = 0 ∧ s.deliver d c false = (some e, u) :=
  ⟨0,
    0,
    9,
    521,
    bell 0,
    (((withTime [50] 100).setChan 521 { events := [bell 0] }).deliver 0 521 false).2,
    (withTime [50] 100).setChan 521 { events := [bell 0] }, by decide⟩

theorem witness_dsp_control_2 : ∃ (d k i c : Nat) (busy : Bool) (u s : State), i < 16 ∧ c = (if i < 8 then 160 + 8 * k
    + i else 512 + 16 * k + i) ∧ (s.domOn d (domDsp k) = false ∨ s.dspEdge d k c = true) ∧ busy = (decide (0 < look 0
    (s.dsp (sel d k)).ip i) || !s.domOn d (domDsp k)) ∧ s.dropsEvent d c = true ∧ (busy = true ∨ s.cyc < (s.chan (sel
    d c)).keptFrom) ∧ s.deliver d c busy = (none, u) :=
  ⟨0, 0, 3, 163, true, ((dspBusy 163 [(3, 9)]).deliver 0 163 true).2, dspBusy 163 [(3, 9)], by decide⟩

theorem witness_dsp_control_3 : ∃ (d k i : Nat) (x : Dsp) (s : State), x = s.dsp (sel d k) ∧ x.run = true ∧ x.ending =
    false ∧ x.stalled = none ∧ s.domOn d (domDsp k) = true ∧ x.wait = none ∧ x.taking = none ∧ (x.get
    DspReg.ST).testBit 15 = true ∧ x.flow.eligible = true ∧ x.issueAt ≤ s.cyc ∧ i < 16 ∧ (x.get DspReg.IE).testBit i =
    true ∧ 0 < look 0 x.ip i ∧ look 0 x.ip i ≤ x.issueAt ∧ ((∀ j : Nat, j < 16 → i < j → ¬ ((x.get DspReg.IE).testBit
    j = true ∧ 0 < look 0 x.ip j ∧ look 0 x.ip j ≤ x.issueAt))) :=
  ⟨0, 0, 3, (dspInt none).dsp 0, dspInt none, by decide⟩

theorem witness_dsp_control_4 : ∃ (d k i : Nat) (x : Dsp) (w : DspWaiting) (s : State), x = s.dsp (sel d k) ∧ x.run =
    true ∧ x.ending = false ∧ x.stalled = none ∧ s.domOn d (domDsp k) = true ∧ x.wait = some w ∧ w.cond ≠ 0 ∧ (x.get
    DspReg.ST).testBit 15 = true ∧ x.interrupt s.cyc = some i ∧ s.dspBoundary d k (look 0 x.ip i - 1) ≤ s.cyc :=
  ⟨0, 0, 3, (dspInt (some ⟨1, 0, 0, 5⟩)).dsp 0, ⟨1, 0, 0, 5⟩, dspInt (some ⟨1, 0, 0, 5⟩), by decide⟩

theorem witness_dsp_control_5 : ∃ (d k : Nat) (x : Dsp) (w : DspWaiting) (s : State), x = s.dsp (sel d k) ∧ x.wait =
    some w ∧ x.run = true ∧ x.stalled = none ∧ s.domOn d (domDsp k) = true ∧ w.from_ ≤ s.cyc ∧ x.stepping = false ∧
    ((w.cond = 1 ∧ (∃ m ∈ x.mbox, m.from_ ≤ s.cyc)) ∨ (w.cond = 2 ∧ (s.slotSeen (sel d w.src)).gen.toNat ≠ w.val %
    128) ∨ (w.cond = 3 ∧ s.rdN Obj.READ_COUNT (sel d (w.src % 128)) % 256 ≠ w.val % 256) ∨ (w.cond = 0 ∧ (x.get
    DspReg.ST).testBit 15 = false ∧ (x.interrupt (s.cyc + 1)).isSome = true)) :=
  ⟨0,
    0,
    (dspWith 0 { wait := some ⟨1, 0, 0, 5⟩, mbox := [⟨7, 1, 2⟩] }).dsp 0,
    ⟨1, 0, 0, 5⟩,
    dspWith 0 { wait := some ⟨1, 0, 0, 5⟩, mbox := [⟨7, 1, 2⟩] }, by decide⟩

theorem witness_dsp_control_5b : ∃ (d k : Nat) (x : Dsp) (w : DspWaiting) (s : State), x = s.dsp (sel d k) ∧ x.wait =
    some w ∧ x.run = true ∧ x.stalled = none ∧ s.domOn d (domDsp k) = true ∧ w.from_ ≤ s.cyc ∧ x.stepping = false ∧
    ((w.cond = 1 ∧ (∃ m ∈ x.mbox, m.from_ ≤ s.cyc)) ∨ (w.cond = 2 ∧ (s.slotSeen (sel d w.src)).gen.toNat ≠ w.val %
    128) ∨ (w.cond = 3 ∧ s.rdN Obj.READ_COUNT (sel d (w.src % 128)) % 256 ≠ w.val % 256) ∨ (w.cond = 0 ∧ (x.get
    DspReg.ST).testBit 15 = false ∧ (x.interrupt (s.cyc + 1)).isSome = true)) :=
  ⟨0,
    0,
    (dspWith 0 { wait := some ⟨3, 255, 4, 5⟩ }).dsp 0,
    ⟨3, 255, 4, 5⟩,
    dspWith 0 { wait := some ⟨3, 255, 4, 5⟩ }, by decide⟩

theorem witness_dsp_control_6 : ∃ (d k i : Nat) (x : Dsp) (w : DspWaiting) (s : State), x = s.dsp (sel d k) ∧ x.wait =
    some w ∧ x.run = true ∧ x.stalled = none ∧ s.domOn d (domDsp k) = true ∧ w.from_ ≤ s.cyc ∧ w.cond = 0 ∧ (x.get
    DspReg.ST).testBit 15 = true ∧ x.interrupt (s.cyc + 1) = some i :=
  ⟨0, 0, 3, (dspInt (some ⟨0, 0, 0, 5⟩)).dsp 0, ⟨0, 0, 0, 5⟩, dspInt (some ⟨0, 0, 0, 5⟩), by decide⟩

theorem witness_dsp_control_7 : ∃ (d k : Nat) (x : Dsp) (s : State), x = s.dsp (sel d k) ∧ x.run = false ∧ sel d k ∉
    s.nv.dsps ∧ s.domOn d (domDsp k) = true :=
  ⟨0, 0, dspHalted.dsp 0, dspHalted, by decide⟩

theorem witness_dsp_control_8 : ∃ (d k : Nat) (x : Dsp) (s : State), x = s.dsp (sel d k) ∧ x.run = false ∧ sel d k ∉
    s.nv.dsps ∧ s.domOn d (domDsp k) = true :=
  ⟨0, 0, dspHalted.dsp 0, dspHalted, by decide⟩

theorem witness_dsp_control_9 : ∃ (d k : Nat) (x : Dsp) (s : State), x = s.dsp (sel d k) ∧ x.run = false ∧ sel d k ∉
    s.nv.dsps ∧ s.domOn d (domDsp k) = true :=
  ⟨0, 0, dspHalted.dsp 0, dspHalted, by decide⟩

theorem witness_dsp_control_10 : ∃ (d k : Nat) (x : Dsp) (s : State), x = s.dsp (sel d k) ∧ x.run = true ∧ x.wait =
    none ∧ sel d k ∉ s.nv.dsps ∧ s.domOn d (domDsp k) = true :=
  ⟨0, 0, (dspAt 0 []).dsp 0, dspAt 0 [], by decide⟩

theorem witness_dsp_control_11 : ∃ (d k : Nat) (x : Dsp) (s : State), x = s.dsp (sel d k) ∧ x.run = true ∧
    x.wait.isSome = true ∧ sel d k ∉ s.nv.dsps ∧ s.domOn d (domDsp k) = true :=
  ⟨0, 0, (dspInt (some ⟨1, 0, 0, 5⟩)).dsp 0, dspInt (some ⟨1, 0, 0, 5⟩), by decide⟩

theorem witness_dsp_control_12 : ∃ (d k i n : Nat) (x : Dsp) (s : State), x = s.dsp (sel d k) ∧ x.run = true ∧
    x.ending = false ∧ x.stalled = none ∧ s.domOn d (domDsp k) = true ∧ x.wait = none ∧ x.taking = none ∧ ((s.cyc <
    x.issueAt ∨ x.flow.eligible = false ∨ x.interrupt x.issueAt = none)) ∧ s.takenAhead d k x = some (i, n) :=
  ⟨0, 0, 3, 2, (dspAhead none).dsp 0, dspAhead none, by decide⟩

theorem witness_dsp_control_13 : ∃ (d k i : Nat) (x : Dsp) (s : State), x = s.dsp (sel d k) ∧ x.run = true ∧ x.ending
    = false ∧ x.stalled = none ∧ s.domOn d (domDsp k) = true ∧ x.wait = none ∧ x.taking = some (i, x.num) :=
  ⟨0, 0, 3, (dspAhead (some (3, 0))).dsp 0, dspAhead (some (3, 0)), by decide⟩

theorem witness_dsp_control_2b : ∃ (d k i c : Nat) (busy : Bool) (u s : State), i < 16 ∧ c = (if i < 8 then 160 + 8 *
    k + i else 512 + 16 * k + i) ∧ (s.domOn d (domDsp k) = false ∨ s.dspEdge d k c = true) ∧ busy = (decide (0 < look
    0 (s.dsp (sel d k)).ip i) || !s.domOn d (domDsp k)) ∧ s.dropsEvent d c = true ∧ (busy = true ∨ s.cyc < (s.chan
    (sel d c)).keptFrom) ∧ s.deliver d c busy = (none, u) :=
  ⟨0,
    0,
    3,
    163,
    false,
    (((dspBusy 163 []).setChan 163 { events := [bell 0], keptFrom := 101 }).deliver 0 163 false).2,
    (dspBusy 163 []).setChan 163 { events := [bell 0], keptFrom := 101 }, by decide⟩

theorem witness_dsp_control_14 : ∃ (d k i c : Nat) (busy : Bool) (u s : State), i < 16 ∧ c = (if i < 8 then 160 + 8 *
    k + i else 512 + 16 * k + i) ∧ (s.domOn d (domDsp k) = false ∨ s.dspEdge d k c = true) ∧ busy = (decide (0 < look
    0 (s.dsp (sel d k)).ip i) || !s.domOn d (domDsp k)) ∧ (s.dropsEvent d c = false ∨ (busy = false ∧ (s.chan (sel d
    c)).keptFrom ≤ s.cyc)) ∧ s.deliver d c busy = (none, u) :=
  ⟨0, 0, 3, 163, false, ((dspAt 0 []).deliver 0 163 false).2, dspAt 0 [], by decide⟩

theorem witness_dsp_control_15 : ∃ (d k i : Nat) (s : State), (16 ≤ i ∨ (i < 16 ∧ s.domOn d (domDsp k) = true ∧
    s.dspEdge d k (if i < 8 then 160 + 8 * k + i else 512 + 16 * k + i) = false)) :=
  ⟨0, 0, 16, dspAt 0 [], by decide⟩

theorem witness_dsp_control_16 : ∃ (d k i : Nat) (x : Dsp) (w : DspWaiting) (s : State), x = s.dsp (sel d k) ∧ x.run =
    true ∧ x.ending = false ∧ x.stalled = none ∧ s.domOn d (domDsp k) = true ∧ x.wait = some w ∧ w.cond = 0 ∧ (x.get
    DspReg.ST).testBit 15 = true ∧ x.interrupt s.cyc = some i :=
  ⟨0, 0, 3, (dspInt (some ⟨0, 0, 0, 5⟩)).dsp 0, ⟨0, 0, 0, 5⟩, dspInt (some ⟨0, 0, 0, 5⟩), by decide⟩

theorem witness_dsp_control_17 : ∃ (d k : Nat) (x : Dsp) (s : State), x = s.dsp (sel d k) ∧ (x.run = false ∨ x.ending
    = true ∨ x.stalled ≠ none ∨ s.domOn d (domDsp k) = false ∨ (x.wait ≠ none ∧ (x.get DspReg.ST).testBit 15 = false))
    :=
  ⟨0, 0, (dspHalted).dsp 0, dspHalted, by decide⟩

theorem witness_dsp_control_18 : ∃ (d k : Nat) (x : Dsp) (w : DspWaiting) (s : State), x = s.dsp (sel d k) ∧ x.wait =
    some w ∧ x.run = true ∧ x.stalled = none ∧ s.domOn d (domDsp k) = true ∧ w.from_ ≤ s.cyc ∧ x.stepping = true ∧
    ((w.cond = 1 ∧ (∃ m ∈ x.mbox, m.from_ ≤ s.cyc)) ∨ (w.cond = 2 ∧ (s.slotSeen (sel d w.src)).gen.toNat ≠ w.val %
    128) ∨ (w.cond = 3 ∧ s.rdN Obj.READ_COUNT (sel d (w.src % 128)) % 256 ≠ w.val % 256) ∨ (w.cond = 0 ∧ (x.get
    DspReg.ST).testBit 15 = false ∧ (x.interrupt (s.cyc + 1)).isSome = true)) :=
  ⟨0,
    0,
    (dspWith 0 { stepping := true, wait := some ⟨1, 0, 0, 5⟩, mbox := [⟨7, 1, 2⟩] }).dsp 0,
    ⟨1, 0, 0, 5⟩,
    dspWith 0 { stepping := true, wait := some ⟨1, 0, 0, 5⟩, mbox := [⟨7, 1, 2⟩] }, by decide⟩

theorem witness_dsp_control_19 : ∃ (d k : Nat) (x : Dsp) (s : State), x = s.dsp (sel d k) ∧ (x.wait = none ∨ x.run =
    false ∨ x.stalled ≠ none ∨ s.domOn d (domDsp k) = false ∨ (∃ w, x.wait = some w ∧ (s.cyc < w.from_ ∨ (w.cond = 0 ∧
    x.interrupt (s.cyc + 1) = none) ∨ (w.cond = 1 ∧ ∀ m ∈ x.mbox, s.cyc < m.from_) ∨ (w.cond = 2 ∧ (s.slotSeen (sel d
    w.src)).gen.toNat = w.val % 128) ∨ (w.cond = 3 ∧ s.rdN Obj.READ_COUNT (sel d (w.src % 128)) % 256 = w.val %
    256)))) :=
  ⟨0, 0, (dspAt 0 []).dsp 0, dspAt 0 [], by decide⟩

theorem witness_dsp_control_20 : ∃ (d k : Nat) (s : State), ((s.dsp (sel d k)).run = true ∨ sel d k ∈ s.nv.dsps ∨
    s.domOn d (domDsp k) = false) :=
  ⟨0, 0, dspAt 0 [], by decide⟩

theorem witness_dsp_control_21 : ∃ (d k : Nat) (s : State), ((s.dsp (sel d k)).run = true ∨ sel d k ∈ s.nv.dsps ∨
    s.domOn d (domDsp k) = false) :=
  ⟨0, 0, dspAt 0 [], by decide⟩

theorem witness_dsp_control_22 : ∃ (d k : Nat) (s : State), ((s.dsp (sel d k)).run = true ∨ sel d k ∈ s.nv.dsps ∨
    s.domOn d (domDsp k) = false) :=
  ⟨0, 0, dspAt 0 [], by decide⟩

theorem witness_dsp_control_23 : ∃ (d k : Nat) (s : State), ((s.dsp (sel d k)).run = false ∨ sel d k ∈ s.nv.dsps ∨
    s.domOn d (domDsp k) = false) :=
  ⟨0, 0, dspHalted, by decide⟩

theorem level_fires (x : Sample) (prev : List Sample) : (condStep levelUp x prev true false).1 = some (-131072) := by
  have h := BitVec.le_toInt x.i
  have e : bits levelUp 71 70 = 1 ∧ bits levelUp 69 68 = 2 ∧ bits levelUp 67 66 = 0 ∧ bits levelUp 53 36 = 131072 := by decide
  have b : signed 18 131072 = -131072 := by decide
  simp at h
  simp [condStep, condValue, wrapPair, bound, quantity, e, b, h]

theorem c0_fires (s : State) (d t : Nat) (h : s.dw Obj.TRIG_CONFIG (sel d t) 0 = levelUp)
    (hu : (s.tone (sel d t)).arm.getD 0 false = true) (hd : (s.tone (sel d t)).arm.getD 1 false = false) :
    (toneCond s d t 0).1 = some (-131072) := by
  simp only [toneCond, h, hu, hd, Nat.mul_zero, Nat.zero_add]
  exact level_fires _ _

theorem widest_band (v : BitVec 36) : beyondBand 0 0xFFFFFFFFF v 0 = false := by
  have l : ∀ n : Nat, (signed 18 n).natAbs ≤ 131072 := fun n => by unfold signed; split <;> omega
  have e : bits (0xFFFFFFFFF : BitVec 64) 35 18 = 262143 ∧ bits (0xFFFFFFFFF : BitVec 64) 17 0 = 262143 := by decide
  have z : signed 18 (bits (0 : BitVec 36) 35 18) = 0 ∧ signed 18 (bits (0 : BitVec 36) 17 0) = 0 := by decide
  have h1 := l (bits v 35 18)
  have h2 := l (bits v 17 0)
  simp only [beyondBand, e.1, e.2, z.1, z.2, if_pos, if_true]
  simp
  omega

theorem witness_tones_and_triggers_1 : ∃ (d t : Nat) (cfg : BitVec 64) (x : Tone) (s : State), cfg = (s.rd
    Obj.TONE_CONFIG (sel d t)).setWidth 64 ∧ x = s.tone (sel d t) ∧ s.toneMayRun d t = true ∧ (x.written = true ∨
    (x.on = false ∧ bit cfg 63 = true)) ∧ ((s.now : Int) - s.rdN Obj.BIN_PHASE (sel d 0)) % 128 = 0 ∧ toneBad cfg =
    false :=
  ⟨0,
    3,
    0xC200000000000000,
    ({ written := true } : Tone),
    ({ (toneAt { written := true } []) with clock := { now := 1280, cyc := 1280 } }).wr Obj.TONE_CONFIG 3 0xC200000000000000, by decide⟩

theorem witness_tones_and_triggers_1b : ∃ (d t : Nat) (cfg : BitVec 64) (x : Tone) (s : State), cfg = (s.rd
    Obj.TONE_CONFIG (sel d t)).setWidth 64 ∧ x = s.tone (sel d t) ∧ s.toneMayRun d t = true ∧ (x.written = true ∨
    (x.on = false ∧ bit cfg 63 = true)) ∧ ((s.now : Int) - s.rdN Obj.BIN_PHASE (sel d 0)) % 128 = 0 ∧ toneBad cfg =
    false :=
  ⟨0,
    3,
    0xC200000000000000,
    ({ collecting := some (7, 2) } : Tone),
    { ({ (toneAt { collecting := some (7, 2) } []) with clock := { now := 1280, cyc := 1280 } }).wr Obj.TONE_CONFIG 3 0xC200000000000000 with acqs := [(0, { recs := [rec7] })] }, by decide⟩

theorem witness_tones_and_triggers_2 : ∃ (d t : Nat) (cfg : BitVec 64) (s : State), cfg = (s.rd Obj.TONE_CONFIG (sel d
    t)).setWidth 64 ∧ s.toneMayRun d t = true ∧ ((s.tone (sel d t)).written = true ∨ ((s.tone (sel d t)).on = false ∧
    bit cfg 63 = true)) ∧ ((s.now : Int) - s.rdN Obj.BIN_PHASE (sel d 0)) % 128 = 0 ∧ toneBad cfg = true :=
  ⟨0,
    3,
    0xC100000000000000,
    ({ (toneAt { written := true } []) with clock := { now := 1280, cyc := 1280 } }).wr Obj.TONE_CONFIG 3 0xC100000000000000, by decide⟩

theorem witness_tones_and_triggers_3 : ∃ (d t : Nat) (s : State), (s.toneMayRun d t = false ∨ ((s.now : Int) - s.rdN
    Obj.BIN_PHASE (sel d 0)) % 128 ≠ 0 ∨ ((s.tone (sel d t)).written = false ∧ ((s.tone (sel d t)).on = true ∨ bit
    (s.rd Obj.TONE_CONFIG (sel d t)) 63 = false))) :=
  ⟨0, 3, toneAt { on := true } [], by decide⟩

theorem witness_tones_and_triggers_4 : ∃ (d t : Nat) (s : State), toneDue s d t = true ∧ toneLegal s d t = true :=
  ⟨0, 3, toneAt { on := true } [], by decide⟩

theorem witness_tones_and_triggers_5 : ∃ (d t : Nat) (s : State), toneDue s d t = true ∧ toneLegal s d t = false :=
  ⟨0, 3, toneAt { on := true } [(2, word (257 * 2 ^ 63))], by decide⟩

theorem witness_tones_and_triggers_6 : ∃ (d t : Nat) (s : State), toneDue s d t = false :=
  ⟨0, 3, toneAt {} [], by decide⟩

theorem witness_tones_and_triggers_7 : ∃ (d t : Nat) (b : Int) (z : Tone) (w2 : Word) (prev : List Sample) (s :
    State), toneDue s d t = true ∧ toneLegal s d t = true ∧ z = s.tone (sel d t) ∧ prev = z.ring.map (fun y => y.x) ∧
    w2 = s.dw Obj.TRIG_CONFIG (sel d t) 2 ∧ (toneCond s d t 0).1 = some b ∧ z.armed = true ∧ z.shut = 0 ∧ z.collecting
    = none ∧ z.block.all (fun p => p.1 != (s.acq d).nextId) = true :=
  ⟨0,
    3,
    -131072,
    trigTone,
    word (3 * 2 ^ 51 + 2 * 2 ^ 35),
    [],
    toneAt trigTone [(0, levelUp), (2, word (3 * 2 ^ 51 + 2 * 2 ^ 35))], by decide, by decide, rfl, rfl, by decide, c0_fires _ _ _ (by decide) (by decide) (by decide), rfl, rfl, rfl, rfl⟩

theorem witness_tones_and_triggers_7b : ∃ (d t : Nat) (b : Int) (z : Tone) (w2 : Word) (prev : List Sample) (s :
    State), toneDue s d t = true ∧ toneLegal s d t = true ∧ z = s.tone (sel d t) ∧ prev = z.ring.map (fun y => y.x) ∧
    w2 = s.dw Obj.TRIG_CONFIG (sel d t) 2 ∧ (toneCond s d t 0).1 = some b ∧ z.armed = true ∧ z.shut = 0 ∧ z.collecting
    = none ∧ z.block.all (fun p => p.1 != (s.acq d).nextId) = true :=
  ⟨0,
    3,
    -131072,
    ({ trigTone with ring := [⟨⟨1, 2⟩, false⟩], n := 1 } : Tone),
    word (3 * 2 ^ 63),
    [⟨1, 2⟩],
    toneAt { trigTone with ring := [⟨⟨1, 2⟩, false⟩], n := 1 } [(0, levelUp), (2, word (3 * 2 ^ 63))], by decide, by decide, rfl, rfl, by decide, c0_fires _ _ _ (by decide) (by decide) (by decide), rfl, rfl, rfl, rfl⟩

theorem witness_tones_and_triggers_8 : ∃ (d t c : Nat) (m : Bool) (z : Tone) (w2 : Word) (s : State), toneDue s d t =
    true ∧ toneLegal s d t = true ∧ z = s.tone (sel d t) ∧ w2 = s.dw Obj.TRIG_CONFIG (sel d t) 2 ∧ z.force = some (m,
    c) ∧ c < s.cyc ∧ z.collecting = none ∧ (z.armed = false ∨ 0 < z.shut ∨ ((toneCond s d t 0).1 = none ∧ (toneCond s
    d t 1).1 = none)) ∧ z.block.all (fun p => p.1 != (s.acq d).nextId) = true :=
  ⟨0,
    3,
    90,
    true,
    ({ on := true, force := some (true, 90) } : Tone),
    word (3 * 2 ^ 51),
    toneAt { on := true, force := some (true, 90) } [(2, word (3 * 2 ^ 51))], by decide⟩

theorem witness_tones_and_triggers_9 : ∃ (d t : Nat) (z : Tone) (s : State), toneDue s d t = true ∧ toneLegal s d t =
    true ∧ z = s.tone (sel d t) ∧ (z.armed = false ∨ 0 < z.shut) ∧ z.collecting = none ∧ z.force.all (fun f => decide
    (s.cyc ≤ f.2)) = true ∧ (toneCond s d t 0).1.isSome = true :=
  ⟨0,
    3,
    ({ trigTone with shut := 2 } : Tone),
    toneAt { trigTone with shut := 2 } [(0, levelUp)], by decide, by decide, rfl, by decide, rfl, rfl, congrArg Option.isSome (c0_fires _ _ _ (by decide) (by decide) (by decide))⟩

theorem witness_tones_and_triggers_10 : ∃ (d t id left : Nat) (z : Tone) (s : State), toneDue s d t = true ∧ toneLegal
    s d t = true ∧ z = s.tone (sel d t) ∧ z.collecting = some (id, left) ∧ z.block = none :=
  ⟨0,
    3,
    7,
    2,
    ({ on := true, collecting := some (7, 2) } : Tone),
    { toneAt { on := true, collecting := some (7, 2) } [] with acqs := [(0, { recs := [rec7] })] }, by decide⟩

theorem witness_tones_and_triggers_11 : ∃ (d t : Nat) (z : Tone) (s : State), toneDue s d t = true ∧ toneLegal s d t =
    true ∧ z = s.tone (sel d t) ∧ bits z.config 61 60 = 1 ∧ z.stored.all (fun o => beyondBand (b2n (bit z.config 62))
    ((s.rd Obj.TONE_DEADBAND (sel d t)).setWidth 64) (toneStored s d t) o) = true :=
  ⟨0,
    3,
    ({ on := true, config := 0x1200000000000000 } : Tone),
    toneAt { on := true, config := 0x1200000000000000 } [], by decide⟩

theorem witness_tones_and_triggers_12 : ∃ (d t : Nat) (o : BitVec 36) (z : Tone) (s : State), toneDue s d t = true ∧
    toneLegal s d t = true ∧ z = s.tone (sel d t) ∧ bits z.config 61 60 = 1 ∧ z.stored = some o ∧ beyondBand (b2n (bit
    z.config 62)) ((s.rd Obj.TONE_DEADBAND (sel d t)).setWidth 64) (toneStored s d t) o = false :=
  ⟨0,
    3,
    0,
    ({ on := true, config := 0x1200000000000000, stored := some 0 } : Tone),
    (toneAt { on := true, config := 0x1200000000000000, stored := some 0 } []).wr Obj.TONE_DEADBAND 3 0xFFFFFFFFF, by decide, by decide, by decide, by decide, by decide, widest_band _⟩

theorem witness_tones_and_triggers_13 : ∃ (d t : Nat) (z : Tone) (s : State), toneDue s d t = true ∧ toneLegal s d t =
    true ∧ z = s.tone (sel d t) ∧ bits z.config 61 60 = 2 ∧ z.block = none :=
  ⟨0,
    3,
    ({ on := true, config := 0x2200000000000000 } : Tone),
    toneAt { on := true, config := 0x2200000000000000 } [], by decide⟩

theorem witness_tones_and_triggers_14 : ∃ (d t id n : Nat) (z : Tone) (s : State), toneDue s d t = true ∧ toneLegal s
    d t = true ∧ z = s.tone (sel d t) ∧ bits z.config 61 60 = 2 ∧ z.block = some (id, n) ∧ z.collecting.all (fun p =>
    p.1 != id) = true :=
  ⟨0,
    3,
    7,
    255,
    ({ on := true, config := 0x2200000000000000, block := some (7, 255) } : Tone),
    { toneAt { on := true, config := 0x2200000000000000, block := some (7, 255) } [] with acqs := [(0, { recs := [rec7] })] }, by decide⟩

theorem witness_tones_and_triggers_15 : ∃ (d : Nat) (c : PreCopy) (rest : List PreCopy) (z : Tone) (s : State), (s.acq
    d).copies = c :: rest ∧ c.at_ ≤ s.cyc ∧ z = s.tone (sel d c.tone) :=
  ⟨0, ⟨7, 3, 0, 0, 0⟩, [], ({ ring := [⟨⟨1, 2⟩, false⟩], n := 1 } : Tone), copyAt, by decide⟩

theorem witness_tones_and_triggers_16 : ∃ (d : Nat) (s : State), ((s.acq d).copies = [] ∨ (∃ c ∈ (s.acq
    d).copies.head?, s.cyc < c.at_)) :=
  ⟨0, State.reset, by decide⟩

theorem witness_tones_and_triggers_19 : ∃ (d t : Nat) (s : State), (s.tone (sel d t)).collecting = none ∧ (s.tone (sel
    d t)).filled.all (fun p => p.2 != s.cyc) = true :=
  ⟨0, 3, State.reset, by decide⟩

theorem witness_tones_and_triggers_20 : ∃ (d t : Nat) (s : State), ((s.tone (sel d t)).collecting ≠ none ∨ (s.tone
    (sel d t)).filled.any (fun p => p.2 == s.cyc) = true) :=
  ⟨0, 3, toneAt { collecting := some (7, 2) } [], by decide⟩

theorem witness_majority_units_1 : ∃ (d u t w n : Nat) (c : Word) (x : Maj) (s : State), c = s.rd Obj.MAJ_CONFIG (sel
    d u) ∧ x = s.maj (sel d u) ∧ bit c 63 = true ∧ s.now = t + x.lambda ∧ x.decided ≠ some t ∧ s.domOn d 32 = true ∧ w
    = bits c 47 36 + 1 ∧ n = ((x.fires.filter (fun f => decide (f.2 ≤ t) && decide (t < f.2 + w))).map
    (·.1)).eraseDups.length ∧ bits c 59 48 ≤ n :=
  ⟨0, 2, 100, 11, 2, word (2 ^ 63 + 2 ^ 48 + 10 * 2 ^ 36), majX, majAt (2 ^ 63 + 2 ^ 48 + 10 * 2 ^ 36), by decide⟩

theorem witness_majority_units_1b : ∃ (d u t w n : Nat) (c : Word) (x : Maj) (s : State), c = s.rd Obj.MAJ_CONFIG (sel
    d u) ∧ x = s.maj (sel d u) ∧ bit c 63 = true ∧ s.now = t + x.lambda ∧ x.decided ≠ some t ∧ s.domOn d 32 = true ∧ w
    = bits c 47 36 + 1 ∧ n = ((x.fires.filter (fun f => decide (f.2 ≤ t) && decide (t < f.2 + w))).map
    (·.1)).eraseDups.length ∧ bits c 59 48 ≤ n :=
  ⟨0,
    2,
    100,
    11,
    2,
    word (13 * 2 ^ 60 + 0 * 2 ^ 48 + 2 ^ 61 + 2 * 2 ^ 48 + 10 * 2 ^ 36),
    majX,
    majAt (13 * 2 ^ 60 + 0 * 2 ^ 48 + 2 ^ 61 + 2 * 2 ^ 48 + 10 * 2 ^ 36), by decide⟩

theorem witness_majority_units_2 : ∃ (d u t w : Nat) (c : Word) (x : Maj) (s : State), c = s.rd Obj.MAJ_CONFIG (sel d
    u) ∧ x = s.maj (sel d u) ∧ bit c 63 = true ∧ s.now = t + x.lambda ∧ x.decided ≠ some t ∧ s.domOn d 32 = true ∧ w =
    bits c 47 36 + 1 ∧ ((x.fires.filter (fun f => decide (f.2 ≤ t) && decide (t < f.2 + w))).map
    (·.1)).eraseDups.length < bits c 59 48 :=
  ⟨0,
    2,
    100,
    11,
    word (2 ^ 63 + 3 * 2 ^ 48 + 10 * 2 ^ 36),
    majX,
    majAt (2 ^ 63 + 3 * 2 ^ 48 + 10 * 2 ^ 36), by decide⟩

theorem witness_majority_units_3 : ∃ (d u : Nat) (s : State), (bit (s.rd Obj.MAJ_CONFIG (sel d u)) 63 = false ∨ s.now
    < (s.maj (sel d u)).lambda ∨ s.domOn d 32 = false ∨ (s.maj (sel d u)).decided = some (s.now - (s.maj (sel d
    u)).lambda)) :=
  ⟨0, 2, State.reset, by decide⟩

theorem witness_majority_units_4 : ∃ (d u n : Nat) (c : Word) (e : BellEvent) (p s : State), s.deliver d (224 + u)
    false = (some e, p) ∧ c = s.rd Obj.MAJ_CONFIG (sel d u) ∧ bit c 63 = true ∧ n = s.majCount d u (s.now - (s.maj
    (sel d u)).lambda - 1) :=
  ⟨0,
    2,
    1,
    word (2 ^ 63 + 2 ^ 48 + 10 * 2 ^ 36),
    bell 0,
    (((majAt (2 ^ 63 + 2 ^ 48 + 10 * 2 ^ 36)).setChan 226 { events := [bell 0] }).deliver 0 226 false).2,
    (majAt (2 ^ 63 + 2 ^ 48 + 10 * 2 ^ 36)).setChan 226 { events := [bell 0] }, by decide⟩

theorem witness_majority_units_5 : ∃ (d u : Nat) (o : Option BellEvent) (p s : State), s.deliver d (224 + u) false =
    (o, p) ∧ (o = none ∨ bit (s.rd Obj.MAJ_CONFIG (sel d u)) 63 = false) :=
  ⟨0, 2, none, (State.reset.deliver 0 226 false).2, State.reset, by decide⟩

theorem witness_majority_units_6 : ∃ (d u : Nat) (v : BitVec 64) (s : State), majBad v = false :=
  ⟨0, 2, 0x0001000000000000, State.reset, by decide⟩

theorem witness_majority_units_7 : ∃ (d u : Nat) (v : BitVec 64) (s : State), majBad v = true :=
  ⟨0, 2, 0, State.reset, by decide⟩

theorem witness_majority_units_8 : ∃ (d u o : Nat) (ws : List Word) (s : State), o < 5 ∧ ws.length ≤ 5 ∧ (s.writeWords
    Obj.MAJ_GROUP (sel d u) 5 o ws).groupBad d u = false :=
  ⟨0, 2, 1, [5], State.reset, by decide +kernel⟩

theorem witness_majority_units_8b : ∃ (d u o : Nat) (ws : List Word) (s : State), o < 5 ∧ ws.length ≤ 5 ∧
    (s.writeWords Obj.MAJ_GROUP (sel d u) 5 o ws).groupBad d u = false :=
  ⟨0, 2, 4, [5, 0], State.reset, by decide +kernel⟩

theorem witness_majority_units_9 : ∃ (d u o : Nat) (ws : List Word) (s : State), (s.writeWords Obj.MAJ_GROUP (sel d u)
    5 o ws).groupBad d u = true :=
  ⟨0, 2, 0, [0x1000], State.reset, by decide +kernel⟩

theorem witness_raw_capture_and_buffer_1 : ∃ (d n i : Nat) (e : BellEvent) (p s : State), s.deliver d 240 false =
    (some e, p) ∧ (s.acq d).raw.armed = true ∧ (s.acq d).raw.capturing = false ∧ (s.acq d).raw.copying = false ∧ bit
    (s.rd Obj.RAW_CONFIG (sel d 0)) 30 = false ∧ n = bits (s.rd Obj.RAW_CONFIG (sel d 0)) 16 0 + 1 ∧ i = bits (s.rd
    Obj.RAW_CONFIG (sel d 0)) 29 27 :=
  ⟨0, 1, 0, bell 0, (rawAt { armed := true } |>.deliver 0 240 false).2, rawAt { armed := true }, by decide⟩

theorem witness_raw_capture_and_buffer_2 : ∃ (d : Nat) (e : BellEvent) (p s : State), s.deliver d 240 false = (some e,
    p) ∧ ((s.acq d).raw.capturing = true ∨ (s.acq d).raw.copying = true) :=
  ⟨0, bell 0, (rawAt { copying := true } |>.deliver 0 240 false).2, rawAt { copying := true }, by decide⟩

theorem witness_raw_capture_and_buffer_3 : ∃ (d : Nat) (o : Option BellEvent) (p s : State), s.deliver d 240 false =
    (o, p) ∧ (o = none ∨ ((s.acq d).raw.capturing = false ∧ (s.acq d).raw.copying = false ∧ ((s.acq d).raw.armed =
    false ∨ bit (s.rd Obj.RAW_CONFIG (sel d 0)) 30 = true))) :=
  ⟨0, some (bell 0), (rawAt {} |>.deliver 0 240 false).2, rawAt {}, by decide⟩

theorem witness_raw_capture_and_buffer_4 : ∃ (d id n : Nat) (r : Raw) (s : State), r = (s.acq d).raw ∧ r.capturing =
    true ∧ r.trace = false ∧ r.record = some id ∧ ((r.cut = none ∧ n = r.len ∧ r.start + (n + 7) / 8 ≤ s.cyc) ∨ (∃ c,
    r.cut = some c ∧ n = min r.len (8 * (c - r.start)))) :=
  ⟨0,
    7,
    9,
    ({ capturing := true, record := some 7, start := 3, len := 9 } : Raw),
    rawWith { capturing := true, record := some 7, start := 3, len := 9 }, by decide, by decide, by decide, by decide, .inl (by decide)⟩

theorem witness_raw_capture_and_buffer_4b : ∃ (d id n : Nat) (r : Raw) (s : State), r = (s.acq d).raw ∧ r.capturing =
    true ∧ r.trace = false ∧ r.record = some id ∧ ((r.cut = none ∧ n = r.len ∧ r.start + (n + 7) / 8 ≤ s.cyc) ∨ (∃ c,
    r.cut = some c ∧ n = min r.len (8 * (c - r.start)))) :=
  ⟨0,
    7,
    8,
    ({ capturing := true, record := some 7, start := 3, len := 9, cut := some 4 } : Raw),
    rawWith { capturing := true, record := some 7, start := 3, len := 9, cut := some 4 }, by decide, by decide, by decide, by decide, .inr ⟨4, by decide⟩⟩

theorem witness_raw_capture_and_buffer_5 : ∃ (d id n : Nat) (r : Raw) (s : State), r = (s.acq d).raw ∧ r.capturing =
    true ∧ r.trace = true ∧ r.record = some id ∧ ((r.cut = none ∧ r.closed = true ∧ n = r.len ∧ r.start + 14 + n ≤
    s.cyc) ∨ (∃ c, r.cut = some c ∧ n = min r.len (c - r.start - 14))) :=
  ⟨0,
    7,
    2,
    ({ capturing := true, record := some 7, start := 3, len := 2, trace := true, closed := true } : Raw),
    rawWith { capturing := true, record := some 7, start := 3, len := 2, trace := true, closed := true }, by decide, by decide, by decide, by decide, .inl (by decide)⟩

theorem witness_raw_capture_and_buffer_6 : ∃ (d : Nat) (r : Raw) (s : State), r = (s.acq d).raw ∧ (r.capturing = false
    ∨ r.record = none ∨ (r.cut = none ∧ ((r.trace = true ∧ r.closed = false) ∨ (r.trace = true ∧ s.cyc < r.start + 14
    + r.len) ∨ (r.trace = false ∧ s.cyc < r.start + (r.len + 7) / 8)))) :=
  ⟨0, ({} : Raw), rawWith {}, by decide⟩

theorem witness_raw_capture_and_buffer_7 : ∃ (d : Nat) (s : State), (s.acq d).raw.copying = true :=
  ⟨0, rawWith { copying := true, record := some 7 }, by decide⟩

theorem witness_raw_capture_and_buffer_8 : ∃ (d : Nat) (s : State), (s.acq d).raw.copying = false :=
  ⟨0, rawWith {}, by decide⟩

theorem witness_raw_capture_and_buffer_9 : ∃ (d : Nat) (a z : Acq) (s : State), z = s.acq d ∧ a = z.flushed s.cyc ∧
    (a.dropping = false ∨ 4194304 - a.fill < s.rdN Obj.ACQ_RESUME (sel d 0) ∨ 4194304 < a.fill + 3) :=
  ⟨0,
    { recs := [{ rec7 with open_ := true }] },
    { recs := [{ rec7 with open_ := true }, { rec7 with id := 8, open_ := false }] },
    { State.reset with acqs := [(0, { recs := [{ rec7 with open_ := true }, { rec7 with id := 8, open_ := false }] })] }, by decide⟩

theorem witness_raw_capture_and_buffer_10 : ∃ (d : Nat) (a z : Acq) (s : State), z = s.acq d ∧ a = z.flushed s.cyc ∧
    a.dropping = true ∧ s.rdN Obj.ACQ_RESUME (sel d 0) ≤ 4194304 - a.fill ∧ a.fill + 3 ≤ 4194304 :=
  ⟨0,
    { dropping := true, gapCount := 2, gapFirst := 5, gapLast := 6 },
    { dropping := true, gapCount := 2, gapFirst := 5, gapLast := 6, recs := [{ rec7 with open_ := false }] },
    { State.reset with acqs := [(0, { dropping := true, gapCount := 2, gapFirst := 5, gapLast := 6, recs := [{ rec7 with open_ := false }] })] }, by decide +kernel⟩

theorem witness_channels_and_fires_1 : ∃ (d c ses : Nat) (v : BitVec 32) (s : State), s.mayConfigure (sel d c) ses
    (bit v 22) = true ∧ chanConfigBad s.member c v = false :=
  ⟨0, 9, 3, 0x01000000, liveSession, by decide⟩

theorem witness_channels_and_fires_2 : ∃ (d c ses : Nat) (v : BitVec 32) (s : State), s.mayConfigure (sel d c) ses
    (bit v 22) = true ∧ chanConfigBad s.member c v = true :=
  ⟨0, 9, 3, 0x10000000, liveSession, by decide⟩

theorem witness_channels_and_fires_3 : ∃ (d c ses : Nat) (v : BitVec 32) (s : State), s.mayConfigure (sel d c) ses
    (bit v 22) = false :=
  ⟨0, 9, 3, 0x01000000, State.reset, by decide⟩

theorem witness_channels_and_fires_4 : ∃ (d c ses : Nat) (s : State), s.mayFire (sel d c) ses = true ∧ s.dieRuns d =
    true :=
  ⟨0, 9, 3, liveSession, by decide⟩

theorem witness_channels_and_fires_5 : ∃ (d c ses : Nat) (s : State), (s.mayFire (sel d c) ses = false ∨ s.dieRuns d =
    false) :=
  ⟨0, 9, 3, State.reset, by decide⟩

theorem witness_channels_and_fires_6 : ∃ (d c ses : Nat) (time : Time) (s : State), s.mayFire (sel d c) ses = true ∧
    s.now ≤ time.toNat ∧ (s.fires.filter (fun f => f.die == d)).length < 64 :=
  ⟨0, 9, 3, 7, { liveSession with fires := [⟨0, 1, 5⟩, ⟨0, 1, 9⟩] }, by decide⟩

theorem witness_channels_and_fires_7 : ∃ (d c ses : Nat) (time : Time) (s : State), s.mayFire (sel d c) ses = true ∧
    s.now ≤ time.toNat ∧ 64 ≤ (s.fires.filter (fun f => f.die == d)).length :=
  ⟨0, 9, 3, 7, { liveSession with fires := List.replicate 64 ⟨0, 1, 5⟩ }, by decide⟩

theorem witness_channels_and_fires_8 : ∃ (d c ses : Nat) (time : Time) (s : State), s.mayFire (sel d c) ses = true ∧
    time.toNat < s.now :=
  ⟨0, 9, 3, 7, { liveSession with clock := { now := 20, cyc := 20 } }, by decide⟩

theorem witness_channels_and_fires_9 : ∃ (d c ses : Nat) (time : Time) (s : State), s.mayFire (sel d c) ses = false :=
  ⟨0, 9, 3, 7, State.reset, by decide⟩

theorem witness_channels_and_fires_11 : ∃ (d c ses : Nat) (s : State), s.mayConfigure (sel d c) ses false = true :=
  ⟨0, 1, 3, { liveSession with fires := [⟨0, 1, 5⟩, ⟨1, 1, 9⟩, ⟨0, 2, 21⟩] }, by decide⟩

theorem witness_channels_and_fires_12 : ∃ (d c ses : Nat) (s : State), s.mayConfigure (sel d c) ses false = false :=
  ⟨0, 1, 3, State.reset, by decide⟩

theorem witness_channels_and_fires_13 : ∃ (d c ses : Nat) (s : State), (s.isAdmin ses = true ∨ (s.isOpen ses = true ∧
    (s.chan (sel d c)).owner = some ses ∧ bit (s.rd Obj.CHAN_CONFIG (sel d c)) 22 = false)) :=
  ⟨0, 1, 3, liveSession.setChan 1 { owner := some 3 }, by decide⟩

theorem witness_channels_and_fires_14 : ∃ (d c ses : Nat) (s : State), s.isAdmin ses = false ∧ (s.isOpen ses = false ∨
    (s.chan (sel d c)).owner ≠ some ses ∨ bit (s.rd Obj.CHAN_CONFIG (sel d c)) 22 = true) :=
  ⟨0, 1, 3, (liveSession.setChan 1 { owner := some 3 }).wr Obj.CHAN_CONFIG 1 0x400000, by decide⟩

theorem witness_producers_and_consumers_1 : ∃ (d n p g : Nat) (s : State), n < 4 ∧ s.dieRuns d = true ∧ p = (s.rdSeen
    (Obj.TICK_PERIOD_0 + n) (sel d 0) 2).toNat ∧ g = (s.rdSeen (Obj.TICK_START_0 + n) (sel d 0) 2).toNat ∧ 0 < p ∧ g ≤
    s.now ∧ ((s.now - g) % p = 0 ∨ (s.clock.stepCyc = some s.cyc ∧ s.clock.stepFrom.toNat < s.now - (s.now - g) % p))
    :=
  ⟨0,
    0,
    10,
    5,
    ((({ liveSession with clock := { now := 25, cyc := 25 } }.wrN Obj.TICK_PERIOD_0 0 10).wrN (Obj.TICK_START_0) 0 5).wrN Obj.CHAN_CONFIG 241 (2 ^ 25)).wrN Obj.CHAN_CONFIG 0 (15 * 2 ^ 24), by decide⟩

theorem witness_producers_and_consumers_1b : ∃ (d n p g : Nat) (s : State), n < 4 ∧ s.dieRuns d = true ∧ p = (s.rdSeen
    (Obj.TICK_PERIOD_0 + n) (sel d 0) 2).toNat ∧ g = (s.rdSeen (Obj.TICK_START_0 + n) (sel d 0) 2).toNat ∧ 0 < p ∧ g ≤
    s.now ∧ ((s.now - g) % p = 0 ∨ (s.clock.stepCyc = some s.cyc ∧ s.clock.stepFrom.toNat < s.now - (s.now - g) % p))
    :=
  ⟨0,
    0,
    10,
    5,
    ((({ liveSession with clock := { now := 27, cyc := 27, stepCyc := some 27, stepFrom := 14 } }.wrN Obj.TICK_PERIOD_0 0 10).wrN (Obj.TICK_START_0) 0 5).wrN Obj.CHAN_CONFIG 241 (2 ^ 25)).wrN Obj.CHAN_CONFIG 0 (15 * 2 ^ 24), by decide⟩

theorem witness_producers_and_consumers_2 : ∃ (d n p g : Nat) (s : State), p = (s.rdSeen (Obj.TICK_PERIOD_0 + n) (sel
    d 0) 2).toNat ∧ g = (s.rdSeen (Obj.TICK_START_0 + n) (sel d 0) 2).toNat ∧ (4 ≤ n ∨ p = 0 ∨ s.now < g ∨ ((s.now -
    g) % p ≠ 0 ∧ s.clock.stepCyc ≠ some s.cyc)) :=
  ⟨0, 0, 0, 0, State.reset, by decide⟩

theorem witness_producers_and_consumers_3 : ∃ (d : Nat) (s : State), ((∀ m ∈ s.flight, m.dst = d → MsgBody.isBridge
    m.body = true → m.left ≠ [] ∨ s.cyc < m.due)) :=
  ⟨0, State.reset, by decide⟩

theorem witness_producers_and_consumers_4 : ∃ (d link lane : Nat) (cs : List Nat) (m : Msg) (u s : State), s.arrived d
    MsgBody.isBridge = some (m, u) ∧ m.body = .bridge link lane cs :=
  ⟨1,
    0,
    3,
    [7],
    ({ due := 5, src := 0, dst := 1, body := .bridge 0 3 [7] } : Msg),
    { liveSession with clock := { now := 25, cyc := 25 } },
    { liveSession with clock := { now := 25, cyc := 25 }, flight := [({ due := 5, src := 0, dst := 1, body := .bridge 0 3 [7] } : Msg)] }, by decide⟩

theorem witness_producers_and_consumers_5 : ∃ (d : Nat) (e : BellEvent) (u s : State), s.deliver d 254 false = (some
    e, u) :=
  ⟨0, bell 0, ((seqTask 254 .halted).deliver 0 254 false).2, seqTask 254 .halted, by decide⟩

theorem witness_producers_and_consumers_7 : ∃ (d : Nat) (u s : State), s.deliver d 254 false = (none, u) :=
  ⟨0, (State.reset.deliver 0 254 false).2, State.reset, by decide⟩

theorem witness_producers_and_consumers_8 : ∃ (d o : Nat) (e : BellEvent) (it : Item) (u s : State), s.deliver d 255
    (s.die d).notifyBusy = (some e, u) ∧ (s.chan (sel d 255)).owner = some o ∧ (s.session o).items.length + (if
    (s.session o).lost = 0 then 1 else 2) ≤ 256 ∧ it = Item.mk 0 d (word (s.now * 256)) (word (e.cands.toNat % 16))
    s.cyc :=
  ⟨0,
    3,
    bell 0,
    Item.mk 0 0 0 1 0,
    ((liveSession.setChan 255 { events := [bell 0], owner := some 3 }).deliver 0 255 false).2,
    liveSession.setChan 255 { events := [bell 0], owner := some 3 }, by decide⟩

theorem witness_producers_and_consumers_9 : ∃ (d o : Nat) (e : BellEvent) (u s : State), s.deliver d 255 (s.die
    d).notifyBusy = (some e, u) ∧ (s.chan (sel d 255)).owner = some o ∧ 256 < (s.session o).items.length + (if
    (s.session o).lost = 0 then 1 else 2) :=
  ⟨0,
    3,
    bell 0,
    (((liveSession.setChan 255 { events := [bell 0], owner := some 3 }).setSession 3 { live := true, items := List.replicate 256 ⟨0, 0, 0, 0, 0⟩ }).deliver 0 255 false).2,
    (liveSession.setChan 255 { events := [bell 0], owner := some 3 }).setSession 3 { live := true, items := List.replicate 256 ⟨0, 0, 0, 0, 0⟩ }, by decide +kernel⟩

theorem witness_producers_and_consumers_10 : ∃ (d : Nat) (e : BellEvent) (u s : State), s.deliver d 255 (s.die
    d).notifyBusy = (some e, u) ∧ (s.chan (sel d 255)).owner = none :=
  ⟨0, bell 0, ((seqTask 255 .halted).deliver 0 255 false).2, seqTask 255 .halted, by decide⟩

theorem witness_producers_and_consumers_11 : ∃ (d : Nat) (u s : State), s.deliver d 255 (s.die d).notifyBusy = (none,
    u) :=
  ⟨0, (State.reset.deliver 0 255 false).2, State.reset, by decide⟩

theorem witness_producers_and_consumers_12 : ∃ (d c : Nat) (s : State), (s.chan (sel d c)).kept ≠ none :=
  ⟨0, 254, (withTime [] 100).setChan 254 { kept := some (bell 0) }, by decide⟩

theorem witness_producers_and_consumers_12b : ∃ (d c : Nat) (s : State), (s.chan (sel d c)).kept ≠ none :=
  ⟨0, 7, (withTime [6, 34] 100).setChan 7 { kept := some (bell 0) }, by decide⟩

theorem witness_producers_and_consumers_12c : ∃ (d c : Nat) (s : State), (s.chan (sel d c)).kept ≠ none :=
  ⟨0, 245, (withTime [6, 34] 100).setChan 245 { kept := some (bell 0) }, by decide⟩

theorem witness_producers_and_consumers_13 : ∃ (d c : Nat) (s : State), (s.chan (sel d c)).kept = none :=
  ⟨0, 254, State.reset, by decide⟩

theorem witness_producers_and_consumers_14 : ∃ (d : Nat) (e : BellEvent) (s : State), (s.chan (sel d 254)).kept = some
    e ∧ (s.chan (sel d 254)).keptFrom ≤ s.cyc ∧ (s.chan (sel d 254)).events = [] ∧ (s.chan (sel d 254)).lastAt ≠ some
    s.cyc :=
  ⟨0, bell 0, (withTime [] 100).setChan 254 { kept := some (bell 0) }, by decide⟩

theorem witness_bias_queue_and_ticks_1 : ∃ (d o : Nat) (v : Word) (codes : List Int) (x : Bias) (s : State), bits v 71
    62 = 0 ∧ s.domKept d (domBias o) = true ∧ x = s.bias (sel d o) ∧ codes = [signed 20 (bits v 59 40), signed 20
    (bits v 39 20), signed 20 (bits v 19 0)].take (bits v 61 60) :=
  ⟨0, 2, word (2 * 2 ^ 60 + 0xFFFFF * 2 ^ 40 + 5 * 2 ^ 20), [-1, 5], {}, biasAt {}, by decide⟩

theorem witness_bias_queue_and_ticks_1b : ∃ (d o : Nat) (v : Word) (codes : List Int) (x : Bias) (s : State), bits v
    71 62 = 0 ∧ s.domKept d (domBias o) = true ∧ x = s.bias (sel d o) ∧ codes = [signed 20 (bits v 59 40), signed 20
    (bits v 39 20), signed 20 (bits v 19 0)].take (bits v 61 60) :=
  ⟨0,
    2,
    word (2 * 2 ^ 60 + 0xFFFFF * 2 ^ 40 + 5 * 2 ^ 20),
    [-1, 5],
    { queue := List.replicate 511 0, spell := true },
    biasAt { queue := List.replicate 511 0, spell := true }, by decide +kernel⟩

theorem witness_bias_queue_and_ticks_2 : ∃ (d o : Nat) (v : Word) (s : State), bits v 71 62 ≠ 0 :=
  ⟨0, 2, word (2 ^ 62), biasAt {}, by decide⟩

theorem witness_bias_queue_and_ticks_3 : ∃ (d o : Nat) (x : Bias) (s : State), s.domKept d (domBias o) = true ∧ x =
    s.bias (sel d o) :=
  ⟨0, 2, {}, biasAt {}, by decide⟩

theorem witness_bias_queue_and_ticks_4 : ∃ (d o : Nat) (x : Bias) (s : State), s.domKept d (domBias o) = true ∧ x =
    s.bias (sel d o) :=
  ⟨0, 2, { run := true }, biasAt { run := true }, by decide⟩

theorem witness_bias_queue_and_ticks_5 : ∃ (d o : Nat) (x : Bias) (s : State), s.domKept d (domBias o) = true ∧ x =
    s.bias (sel d o) :=
  ⟨0, 2, { queue := [7, 8] }, biasAt { queue := [7, 8] }, by decide⟩

theorem witness_bias_queue_and_ticks_6 : ∃ (d o : Nat) (u s : State), s.domKept d (domBias o) = true ∧ s.biasTurn (sel
    d o) = ({} : BiasTurn) ∧ (s.bias (sel d o)).ramp = none ∧ .next u = exec (.biasStop d o) s :=
  ⟨0, 2, (biasAt { run := true }).biasStop 2, biasAt { run := true }, by decide, by decide, by decide, rfl⟩

theorem witness_bias_queue_and_ticks_7 : ∃ (d o : Nat) (v : Word) (u s : State), s.domKept d (domBias o) = true ∧
    s.biasTurn (sel d o) = ({} : BiasTurn) ∧ .next u = exec (.biasEnqueue d o v) s :=
  ⟨0,
    2,
    word (2 ^ 60 + 7 * 2 ^ 40),
    (biasAt { queue := [3] }).biasEnqueue 2 16 7,
    biasAt { queue := [3] }, by decide, by decide, rfl⟩

theorem witness_bias_queue_and_ticks_8 : ∃ (d o : Nat) (v w : Word) (u s : State), s.domOn d (domBias o) = true ∧
    s.biasTurn (sel d o) = ({} : BiasTurn) ∧ (s.bias (sel d o)).run = true ∧ (s.bias (sel d o)).queue = [] ∧
    s.biasGrid (sel d o) = true ∧ w = s.rd Obj.BIAS_CONFIG (sel d o) ∧ biasConfigBad w = false ∧ biasDividerBad (s.rdN
    Obj.BIAS_DIVIDER (sel d o)) = false ∧ .next u = exec (.biasEnqueue d o v) s :=
  ⟨0,
    2,
    word (2 ^ 60 + 7 * 2 ^ 40),
    word (30 * 256),
    (biasAt { run := true }).biasEnqueue 2 16 7,
    biasAt { run := true }, by decide, by decide, by decide, by decide, by decide, by decide, by decide, by decide, rfl⟩

theorem witness_bias_queue_and_ticks_9 : ∃ (d g : Nat) (e : BellEvent) (u s : State), g < 4 ∧ s.deliver d (241 + 3 *
    g) (s.biasAsleep d g) = (some e, u) :=
  ⟨0,
    0,
    bell 0,
    ((biasAt {}).setChan 241 { events := [bell 0] } |>.deliver 0 241 false).2,
    (biasAt {}).setChan 241 { events := [bell 0] }, by decide⟩

theorem witness_bias_queue_and_ticks_10 : ∃ (d g : Nat) (e : BellEvent) (u s : State), g < 4 ∧ s.deliver d (242 + 3 *
    g) (s.biasAsleep d g) = (some e, u) :=
  ⟨0,
    0,
    bell 0,
    ((biasAt { run := true }).setChan 242 { events := [bell 0] } |>.deliver 0 242 false).2,
    (biasAt { run := true }).setChan 242 { events := [bell 0] }, by decide⟩

theorem witness_bias_queue_and_ticks_11 : ∃ (d g : Nat) (e : BellEvent) (u s : State), g < 4 ∧ s.deliver d (243 + 3 *
    g) (s.biasAsleep d g) = (some e, u) :=
  ⟨0,
    0,
    bell 0,
    ((biasAt { queue := [7] }).setChan 243 { events := [bell 0] } |>.deliver 0 243 false).2,
    (biasAt { queue := [7] }).setChan 243 { events := [bell 0] }, by decide⟩

theorem witness_bias_queue_and_ticks_12 : ∃ (d g j : Nat) (u s : State), g < 4 ∧ j < 3 ∧ s.deliver d (241 + 3 * g + j)
    (s.biasAsleep d g) = (none, u) :=
  ⟨0, 0, 1, ((biasAt {}).deliver 0 242 false).2, biasAt {}, by decide⟩

theorem witness_bias_queue_and_ticks_13 : ∃ (d o : Nat) (w : Word) (s : State), s.domOn d (domBias o) = true ∧
    s.biasGrid (sel d o) = true ∧ (s.biasTurn (sel d o)).tick = none ∧ w = s.rd Obj.BIAS_CONFIG (sel d o) ∧
    biasConfigBad w = false ∧ biasDividerBad (s.rdN Obj.BIAS_DIVIDER (sel d o)) = false :=
  ⟨0, 2, word (30 * 256), biasAt { run := true, queue := [70000, 8] }, by decide⟩

theorem witness_bias_queue_and_ticks_14 : ∃ (d o : Nat) (c : Int) (rest : List Int) (x : Bias) (w : Word) (held :
    Bool) (s : State), s.domOn d (domBias o) = true ∧ s.biasGrid (sel d o) = true ∧ s.biasTurn (sel d o) = ({} :
    BiasTurn) ∧ x = s.bias (sel d o) ∧ w = s.rd Obj.BIAS_CONFIG (sel d o) ∧ biasConfigBad w = false ∧ biasDividerBad
    (s.rdN Obj.BIAS_DIVIDER (sel d o)) = false ∧ x.run = true ∧ x.queue = c :: rest ∧ held = (if bits w 4 3 = 0 then
    decide ((BitVec.ofInt 20 c).toNat / 16384 ≠ (BitVec.ofInt 20 x.code).toNat / 16384) else if bits w 4 3 = 1 then
    decide (c ≠ x.code) else false) :=
  ⟨0,
    2,
    70000,
    [8],
    { run := true, queue := [70000, 8] },
    word (30 * 256),
    true,
    biasAt { run := true, queue := [70000, 8] }, by decide⟩

theorem witness_bias_queue_and_ticks_14b : ∃ (d o : Nat) (c : Int) (rest : List Int) (x : Bias) (w : Word) (held :
    Bool) (s : State), s.domOn d (domBias o) = true ∧ s.biasGrid (sel d o) = true ∧ s.biasTurn (sel d o) = ({} :
    BiasTurn) ∧ x = s.bias (sel d o) ∧ w = s.rd Obj.BIAS_CONFIG (sel d o) ∧ biasConfigBad w = false ∧ biasDividerBad
    (s.rdN Obj.BIAS_DIVIDER (sel d o)) = false ∧ x.run = true ∧ x.queue = c :: rest ∧ held = (if bits w 4 3 = 0 then
    decide ((BitVec.ofInt 20 c).toNat / 16384 ≠ (BitVec.ofInt 20 x.code).toNat / 16384) else if bits w 4 3 = 1 then
    decide (c ≠ x.code) else false) :=
  ⟨0,
    2,
    16383,
    [],
    { run := true, queue := [16383] },
    word (30 * 256),
    false,
    biasAt { run := true, queue := [16383] }, by decide⟩

theorem witness_bias_queue_and_ticks_15 : ∃ (d o : Nat) (x : Bias) (w : Word) (s : State), s.domOn d (domBias o) =
    true ∧ s.biasGrid (sel d o) = true ∧ s.biasTurn (sel d o) = ({} : BiasTurn) ∧ x = s.bias (sel d o) ∧ w = s.rd
    Obj.BIAS_CONFIG (sel d o) ∧ biasConfigBad w = false ∧ biasDividerBad (s.rdN Obj.BIAS_DIVIDER (sel d o)) = false ∧
    x.run = true ∧ x.queue = [] :=
  ⟨0, 2, { run := true, code := 5 }, word (30 * 256), biasAt { run := true, code := 5 }, by decide⟩

theorem witness_bias_queue_and_ticks_16 : ∃ (d o : Nat) (x : Bias) (w : Word) (s : State), s.domOn d (domBias o) =
    true ∧ s.biasGrid (sel d o) = true ∧ s.biasTurn (sel d o) = ({} : BiasTurn) ∧ x = s.bias (sel d o) ∧ w = s.rd
    Obj.BIAS_CONFIG (sel d o) ∧ biasConfigBad w = false ∧ biasDividerBad (s.rdN Obj.BIAS_DIVIDER (sel d o)) = false ∧
    x.run = false :=
  ⟨0,
    2,
    { code := 5 },
    word (30 * 256 + 1),
    (biasAt { code := 5 }).wr Obj.BIAS_CONFIG 2 (word (30 * 256 + 1)), by decide⟩

theorem witness_bias_queue_and_ticks_17 : ∃ (d o : Nat) (s : State), s.domOn d (domBias o) = true ∧ s.biasGrid (sel d
    o) = true ∧ (s.biasTurn (sel d o)).tick = none ∧ (biasConfigBad (s.rd Obj.BIAS_CONFIG (sel d o)) = true ∨
    biasDividerBad (s.rdN Obj.BIAS_DIVIDER (sel d o)) = true) :=
  ⟨0, 2, (biasAt { code := 5 }).wr Obj.BIAS_CONFIG 2 (word (30 * 256 + 5)), by decide⟩

theorem witness_bias_queue_and_ticks_18 : ∃ (d o : Nat) (s : State), (s.domOn d (domBias o) = false ∨ s.biasGrid (sel
    d o) = false ∨ (s.biasTurn (sel d o)).tick ≠ none) :=
  ⟨0, 2, State.reset, by decide⟩

theorem witness_bias_queue_and_ticks_19 : ∃ (k : Nat) (u : BiasTurn) (t s : State), t = s.biasReport k u :=
  ⟨2,
    { refused := 2, starved := true, first := true },
    (biasAt {}).biasReport 2 { refused := 2, starved := true, first := true },
    biasAt {}, rfl⟩

theorem witness_bias_queue_and_ticks_20 : ∃ (d o b e : Nat) (s : State), (s.bias (sel d o)).hold = some (b, e) ∧ e ≤
    s.cyc :=
  ⟨0, 2, 1274, 1474, { biasAt { hold := some (1274, 1474) } with clock := { cyc := 1474 } }, by decide⟩

theorem witness_bias_queue_and_ticks_21 : ∃ (d o : Nat) (s : State), (s.bias (sel d o)).hold.all (fun h => decide
    (s.cyc < h.2)) = true :=
  ⟨0, 2, biasAt {}, by decide⟩

theorem witness_bias_queue_and_ticks_22 : ∃ (d o : Nat) (v : Word) (s : State), s.domKept d (domBias o) = false ∧ bits
    v 71 62 = 0 :=
  ⟨0, 2, 0, State.reset, by decide⟩

theorem witness_bias_queue_and_ticks_23 : ∃ (d o : Nat) (s : State), s.domKept d (domBias o) = false :=
  ⟨0, 2, State.reset, by decide⟩

theorem witness_bias_queue_and_ticks_24 : ∃ (d o : Nat) (s : State), s.domKept d (domBias o) = false :=
  ⟨0, 2, State.reset, by decide⟩

theorem witness_bias_queue_and_ticks_25 : ∃ (d o : Nat) (s : State), s.domKept d (domBias o) = false :=
  ⟨0, 2, State.reset, by decide⟩

theorem witness_bias_safety_and_compliance_1 : ∃ (d o : Nat) (x : Bias) (s : State), s.domOn d (domBias o) = true ∧ x
    = s.bias (sel d o) :=
  ⟨0, 2, { run := true, code := 5 }, biasAt { run := true, code := 5 }, by decide⟩

theorem witness_bias_safety_and_compliance_1b : ∃ (d o : Nat) (x : Bias) (s : State), s.domOn d (domBias o) = true ∧ x
    = s.bias (sel d o) :=
  ⟨0, 2, { run := true, code := 0 }, biasAt { run := true, code := 0 }, by decide⟩

theorem witness_bias_safety_and_compliance_2 : ∃ (d o : Nat) (u s : State), s.domOn d (domBias o) = true ∧ s.biasTurn
    (sel d o) = ({} : BiasTurn) ∧ (s.bias (sel d o)).ramp = none ∧ .next u = exec (.biasSafe d o) s :=
  ⟨0, 2, (biasAt { code := 5 }).biasSafe 2, biasAt { code := 5 }, by decide, by decide, by decide, rfl⟩

theorem witness_bias_safety_and_compliance_3 : ∃ (d o at_ : Nat) (x : Bias) (s : State), s.domOn d (domBias o) = true
    ∧ x = s.bias (sel d o) ∧ x.ramp = some ⟨at_⟩ ∧ at_ + 1250 ≤ s.cyc ∧ s.rdN Obj.SAFE_SLEW (sel d o) < 1048576 ∧
    s.rdN Obj.SAFE_CODE (sel d o) < 1048576 :=
  ⟨0, 2, 0, { code := 50, ramp := some ⟨0⟩ }, biasAt { code := 50, ramp := some ⟨0⟩ }, by decide⟩

theorem witness_bias_safety_and_compliance_4 : ∃ (d o at_ : Nat) (x : Bias) (safe : Int) (slew : Nat) (s : State),
    s.domOn d (domBias o) = true ∧ x = s.bias (sel d o) ∧ x.ramp = some ⟨at_⟩ ∧ at_ + 1250 ≤ s.cyc ∧ s.biasTurn (sel d
    o) = ({} : BiasTurn) ∧ slew = s.rdN Obj.SAFE_SLEW (sel d o) ∧ slew < 1048576 ∧ s.rdN Obj.SAFE_CODE (sel d o) <
    1048576 ∧ safe = signed 20 (s.rdN Obj.SAFE_CODE (sel d o)) :=
  ⟨0,
    2,
    0,
    ({ code := 50, ramp := some ⟨0⟩ } : Bias),
    0,
    7,
    (biasAt { code := 50, ramp := some ⟨0⟩ }).wrN Obj.SAFE_SLEW 2 7, by decide⟩

theorem witness_bias_safety_and_compliance_4b : ∃ (d o at_ : Nat) (x : Bias) (safe : Int) (slew : Nat) (s : State),
    s.domOn d (domBias o) = true ∧ x = s.bias (sel d o) ∧ x.ramp = some ⟨at_⟩ ∧ at_ + 1250 ≤ s.cyc ∧ s.biasTurn (sel d
    o) = ({} : BiasTurn) ∧ slew = s.rdN Obj.SAFE_SLEW (sel d o) ∧ slew < 1048576 ∧ s.rdN Obj.SAFE_CODE (sel d o) <
    1048576 ∧ safe = signed 20 (s.rdN Obj.SAFE_CODE (sel d o)) :=
  ⟨0,
    2,
    0,
    ({ code := -5, ramp := some ⟨0⟩ } : Bias),
    0,
    7,
    (biasAt { code := -5, ramp := some ⟨0⟩ }).wrN Obj.SAFE_SLEW 2 7, by decide⟩

theorem witness_bias_safety_and_compliance_4c : ∃ (d o at_ : Nat) (x : Bias) (safe : Int) (slew : Nat) (s : State),
    s.domOn d (domBias o) = true ∧ x = s.bias (sel d o) ∧ x.ramp = some ⟨at_⟩ ∧ at_ + 1250 ≤ s.cyc ∧ s.biasTurn (sel d
    o) = ({} : BiasTurn) ∧ slew = s.rdN Obj.SAFE_SLEW (sel d o) ∧ slew < 1048576 ∧ s.rdN Obj.SAFE_CODE (sel d o) <
    1048576 ∧ safe = signed 20 (s.rdN Obj.SAFE_CODE (sel d o)) :=
  ⟨0,
    2,
    0,
    ({ code := 50, ramp := some ⟨0⟩ } : Bias),
    0,
    0,
    (biasAt { code := 50, ramp := some ⟨0⟩ }).wrN Obj.SAFE_SLEW 2 0, by decide⟩

theorem witness_bias_safety_and_compliance_5 : ∃ (d o at_ : Nat) (s : State), s.domOn d (domBias o) = true ∧ (s.bias
    (sel d o)).ramp = some ⟨at_⟩ ∧ at_ + 1250 ≤ s.cyc ∧ (1048576 ≤ s.rdN Obj.SAFE_SLEW (sel d o) ∨ 1048576 ≤ s.rdN
    Obj.SAFE_CODE (sel d o)) :=
  ⟨0, 2, 0, (biasAt { ramp := some ⟨0⟩ }).wrN Obj.SAFE_SLEW 2 1048576, by decide⟩

theorem witness_bias_safety_and_compliance_6 : ∃ (d o : Nat) (s : State), (s.domOn d (domBias o) = false ∨ (s.bias
    (sel d o)).ramp.all (fun r => decide (s.cyc < r.at_ + 1250)) = true) :=
  ⟨0, 2, biasAt {}, by decide⟩

theorem witness_bias_safety_and_compliance_7 : ∃ (d o : Nat) (s : State), s.domOn d (domBias o) = true ∧ (s.bias (sel
    d o)).inComp = false :=
  ⟨0, 2, biasAt {}, by decide⟩

theorem witness_bias_safety_and_compliance_8 : ∃ (d o : Nat) (s : State), (s.domOn d (domBias o) = false ∨ (s.bias
    (sel d o)).inComp = true) :=
  ⟨0, 2, biasAt { inComp := true }, by decide⟩

theorem witness_bias_safety_and_compliance_9 : ∃ (d o : Nat) (s : State), s.domOn d (domBias o) = true :=
  ⟨0, 2, biasAt { inComp := true }, by decide⟩

theorem witness_bias_safety_and_compliance_10 : ∃ (d o : Nat) (s : State), s.domOn d (domBias o) = false :=
  ⟨0, 2, State.reset, by decide⟩

theorem witness_bias_safety_and_compliance_11 : ∃ (d o : Nat) (s : State), s.domOn d (domBias o) = false :=
  ⟨0, 2, State.reset, by decide⟩

theorem witness_sensor_edges_1 : ∃ (d c g : Nat) (m : ConvMeas) (x : Sns) (s : State), x = s.sns (sel d c) ∧ sensorDue
    s d c = true ∧ x.exciting = true ∧ x.half + 1 < 2 * snsBurst x.config ∧ x.closed = false ∧ m.beyond = false ∧
    m.saturated = false ∧ g = s.rdN Obj.SNS_GAIN (sel d c) ∧ snsBad x.config g = false :=
  ⟨0, 1, 3, {}, snsIn 3, (snsAt (snsIn 3)).wrN Obj.SNS_GAIN 1 3, by decide⟩

theorem witness_sensor_edges_2 : ∃ (d c g : Nat) (m : ConvMeas) (x : Sns) (s : State), x = s.sns (sel d c) ∧ sensorDue
    s d c = true ∧ x.exciting = true ∧ x.half + 1 < 2 * snsBurst x.config ∧ x.closed = false ∧ m.beyond = true ∧
    m.saturated = false ∧ g = (if bit x.config 0 then min (x.gain - 1) (s.rdN Obj.SNS_GAIN (sel d c)) else s.rdN
    Obj.SNS_GAIN (sel d c)) ∧ snsBad x.config g = false :=
  ⟨0, 1, 2, { beyond := true }, snsIn 3, (snsAt (snsIn 3)).wrN Obj.SNS_GAIN 1 3, by decide⟩

theorem witness_sensor_edges_3 : ∃ (d c g : Nat) (m : ConvMeas) (x : Sns) (s : State), x = s.sns (sel d c) ∧ sensorDue
    s d c = true ∧ x.exciting = true ∧ x.half + 1 < 2 * snsBurst x.config ∧ x.closed = false ∧ m.beyond = false ∧
    m.saturated = true ∧ g = s.rdN Obj.SNS_GAIN (sel d c) ∧ snsBad x.config g = false :=
  ⟨0, 1, 3, { saturated := true }, snsIn 3, (snsAt (snsIn 3)).wrN Obj.SNS_GAIN 1 3, by decide⟩

theorem witness_sensor_edges_4 : ∃ (d c g : Nat) (m : ConvMeas) (x : Sns) (s : State), x = s.sns (sel d c) ∧ sensorDue
    s d c = true ∧ x.exciting = true ∧ x.half + 1 < 2 * snsBurst x.config ∧ x.closed = true ∧ (g = (if x.lastOver ∧
    bit x.config 0 then min (x.gain - 1) (s.rdN Obj.SNS_GAIN (sel d c)) else s.rdN Obj.SNS_GAIN (sel d c))) ∧ snsBad
    x.config g = false :=
  ⟨0,
    1,
    3,
    {},
    { snsIn 3 with closed := true },
    (snsAt { snsIn 3 with closed := true }).wrN Obj.SNS_GAIN 1 3, by decide⟩

theorem witness_sensor_edges_4b : ∃ (d c g : Nat) (m : ConvMeas) (x : Sns) (s : State), x = s.sns (sel d c) ∧
    sensorDue s d c = true ∧ x.exciting = true ∧ x.half + 1 < 2 * snsBurst x.config ∧ x.closed = true ∧ (g = (if
    x.lastOver ∧ bit x.config 0 then min (x.gain - 1) (s.rdN Obj.SNS_GAIN (sel d c)) else s.rdN Obj.SNS_GAIN (sel d
    c))) ∧ snsBad x.config g = false :=
  ⟨0,
    1,
    2,
    {},
    { snsIn 3 with closed := true, lastOver := true },
    (snsAt { snsIn 3 with closed := true, lastOver := true }).wrN Obj.SNS_GAIN 1 3, by decide⟩

theorem witness_sensor_edges_5 : ∃ (d c g : Nat) (m : ConvMeas) (x : Sns) (p q : List Int) (s : State), x = s.sns (sel
    d c) ∧ sensorDue s d c = true ∧ x.exciting = true ∧ x.half + 1 = 2 * snsBurst x.config ∧ x.closed = false ∧
    m.beyond = false ∧ m.saturated = false ∧ snsBad x.config (s.rdN Obj.SNS_GAIN (sel d c)) = false ∧ snsBad ((s.rd
    Obj.SNS_CONFIG (sel d c)).setWidth 64) (s.rdN Obj.SNS_GAIN (sel d c)) = false ∧ g ≤ 8 ∧ x.gain = g ∧ (∀ e ∈
    x.convs, e.gain = g) ∧ p = (x.convs.filter (fun e => e.pos)).map (fun e => e.sense) ∧ q = (x.convs.filter (fun e
    => !e.pos)).map (fun e => e.sense) ++ [m.sense.toInt] ∧ 0 < p.length :=
  ⟨0,
    1,
    3,
    { sense := -40 },
    { snsIn 3 with half := 7, convs := [⟨true, 41, 7, 3⟩, ⟨false, -39, -7, 3⟩, ⟨true, 40, 7, 3⟩] },
    [41, 40],
    [-39, -40],
    (snsAt { snsIn 3 with half := 7, convs := [⟨true, 41, 7, 3⟩, ⟨false, -39, -7, 3⟩, ⟨true, 40, 7, 3⟩] }).wrN Obj.SNS_GAIN 1 3, by decide⟩

theorem witness_sensor_edges_5b : ∃ (d c g : Nat) (m : ConvMeas) (x : Sns) (p q : List Int) (s : State), x = s.sns
    (sel d c) ∧ sensorDue s d c = true ∧ x.exciting = true ∧ x.half + 1 = 2 * snsBurst x.config ∧ x.closed = false ∧
    m.beyond = false ∧ m.saturated = false ∧ snsBad x.config (s.rdN Obj.SNS_GAIN (sel d c)) = false ∧ snsBad ((s.rd
    Obj.SNS_CONFIG (sel d c)).setWidth 64) (s.rdN Obj.SNS_GAIN (sel d c)) = false ∧ g ≤ 8 ∧ x.gain = g ∧ (∀ e ∈
    x.convs, e.gain = g) ∧ p = (x.convs.filter (fun e => e.pos)).map (fun e => e.sense) ∧ q = (x.convs.filter (fun e
    => !e.pos)).map (fun e => e.sense) ++ [m.sense.toInt] ∧ 0 < p.length :=
  ⟨0,
    1,
    3,
    { sense := -40 },
    { snsIn 3 with half := 7, stopping := true, convs := [⟨true, 41, 7, 3⟩, ⟨false, -39, -7, 3⟩, ⟨true, 40, 7, 3⟩] },
    [41, 40],
    [-39, -40],
    (snsAt { snsIn 3 with half := 7, stopping := true, convs := [⟨true, 41, 7, 3⟩, ⟨false, -39, -7, 3⟩, ⟨true, 40, 7, 3⟩] }).wrN Obj.SNS_GAIN 1 3, by decide⟩

theorem witness_sensor_edges_6 : ∃ (d c : Nat) (m : ConvMeas) (x : Sns) (s : State), x = s.sns (sel d c) ∧ sensorDue s
    d c = true ∧ x.exciting = true ∧ x.half + 1 = 2 * snsBurst x.config ∧ x.closed = true ∧ x.lastOver = false ∧
    snsBad x.config (s.rdN Obj.SNS_GAIN (sel d c)) = false ∧ snsBad ((s.rd Obj.SNS_CONFIG (sel d c)).setWidth 64)
    (s.rdN Obj.SNS_GAIN (sel d c)) = false ∧ ((∀ e ∈ x.convs, e.pos = true) ∨ (∀ e ∈ x.convs, e.pos = false)) :=
  ⟨0,
    1,
    {},
    { snsIn 3 with half := 7, closed := true },
    (snsAt { snsIn 3 with half := 7, closed := true }).wrN Obj.SNS_GAIN 1 3, by decide⟩

theorem witness_sensor_edges_7 : ∃ (d c : Nat) (m : ConvMeas) (x : Sns) (s : State), x = s.sns (sel d c) ∧ sensorDue s
    d c = true ∧ x.exciting = false ∧ x.checking = false ∧ x.lastOver = false ∧ snsBad x.config (s.rdN Obj.SNS_GAIN
    (sel d c)) = false ∧ snsBad ((s.rd Obj.SNS_CONFIG (sel d c)).setWidth 64) (s.rdN Obj.SNS_GAIN (sel d c)) = false
    :=
  ⟨0,
    1,
    {},
    { snsIn 3 with exciting := false, opened := false, resting := true, half := 0 },
    snsAt { snsIn 3 with exciting := false, opened := false, resting := true, half := 0 }, by decide⟩

theorem witness_sensor_edges_7b : ∃ (d c : Nat) (m : ConvMeas) (x : Sns) (s : State), x = s.sns (sel d c) ∧ sensorDue
    s d c = true ∧ x.exciting = false ∧ x.checking = false ∧ x.lastOver = false ∧ snsBad x.config (s.rdN Obj.SNS_GAIN
    (sel d c)) = false ∧ snsBad ((s.rd Obj.SNS_CONFIG (sel d c)).setWidth 64) (s.rdN Obj.SNS_GAIN (sel d c)) = false
    :=
  ⟨0,
    1,
    {},
    { snsIn 3 with exciting := false, opened := false, resting := true, half := 7 },
    snsAt { snsIn 3 with exciting := false, opened := false, resting := true, half := 7 }, by decide⟩

theorem witness_sensor_edges_7c : ∃ (d c : Nat) (m : ConvMeas) (x : Sns) (s : State), x = s.sns (sel d c) ∧ sensorDue
    s d c = true ∧ x.exciting = false ∧ x.checking = false ∧ x.lastOver = false ∧ snsBad x.config (s.rdN Obj.SNS_GAIN
    (sel d c)) = false ∧ snsBad ((s.rd Obj.SNS_CONFIG (sel d c)).setWidth 64) (s.rdN Obj.SNS_GAIN (sel d c)) = false
    :=
  ⟨0,
    1,
    {},
    { snsIn 3 with exciting := false, opened := false, resting := true, once := true },
    snsAt { snsIn 3 with exciting := false, opened := false, resting := true, once := true }, by decide⟩

theorem witness_sensor_edges_8 : ∃ (d c : Nat) (m : ConvMeas) (s : State), sensorDue s d c = false :=
  ⟨0, 1, {}, snsAt {}, by decide⟩

theorem witness_sensor_edges_9 : ∃ (d : Nat) (ms : List ConvMeas) (e : BellEvent) (u s : State), s.deliver d 253
    ((List.range 4).all (fun c => !s.domOn d (domSensor c))) = (some e, u) ∧ snsLegal s d = true :=
  ⟨0, [], bell 0, (snsEvents.deliver 0 253 false).2, snsEvents, by decide⟩

theorem witness_sensor_edges_10 : ∃ (d c : Nat) (ms : List ConvMeas) (x : Sns) (u s : State), edgeComes s u d c = true
    ∧ x = s.sns (sel d c) ∧ x.exciting = true ∧ x.closed = false ∧ x.half + 1 < 2 * snsBurst x.config ∧ s.cyc <
    x.edgeAt + snsSettle x.config + 156250 :=
  ⟨0,
    1,
    [],
    { snsIn 3 with config := 0x02080879030B, edgeAt := 19999999 },
    ((snsEvents.setSns 1 { snsIn 3 with config := 0x02080879030B, edgeAt := 19999999 }).deliver 0 253 false).2,
    snsEvents.setSns 1 { snsIn 3 with config := 0x02080879030B, edgeAt := 19999999 }, by decide⟩

theorem witness_sensor_edges_11 : ∃ (d c : Nat) (ms : List ConvMeas) (x : Sns) (u s : State), edgeComes s u d c = true
    ∧ x = s.sns (sel d c) ∧ x.exciting = true ∧ x.closed = false ∧ x.half + 1 < 2 * snsBurst x.config ∧ x.edgeAt +
    snsSettle x.config + 156250 ≤ s.cyc ∧ (ms.getD c {}).beyond = false ∧ (ms.getD c {}).saturated = false :=
  ⟨0, 1, [], { snsIn 3 with config := 0x02080879030B }, (snsEvents.deliver 0 253 false).2, snsEvents, by decide⟩

theorem witness_sensor_edges_12 : ∃ (d c : Nat) (ms : List ConvMeas) (x : Sns) (u s : State), edgeComes s u d c = true
    ∧ x = s.sns (sel d c) ∧ x.exciting = false ∧ x.resting = false :=
  ⟨0,
    1,
    [],
    { run := true, config := 0x02080879030B },
    ((snsEvents.setSns 1 { run := true, config := 0x02080879030B }).deliver 0 253 false).2,
    snsEvents.setSns 1 { run := true, config := 0x02080879030B }, by decide⟩

theorem witness_sensor_edges_13 : ∃ (d : Nat) (ms : List ConvMeas) (u s : State), s.deliver d 253 ((List.range 4).all
    (fun c => !s.domOn d (domSensor c))) = (none, u) :=
  ⟨0, [], ((snsAt {}).deliver 0 253 false).2, snsAt {}, by decide⟩

theorem witness_sensor_windows_and_commands_1 : ∃ (d c : Nat) (x : Sns) (s : State), x = s.sns (sel d c) ∧ s.snsOn d c
    = true ∧ x.run = true ∧ (x.exciting = true ∨ x.checking = true) ∧ x.opened = false ∧ x.edgeAt + bits x.config 18
    11 * 78125 ≤ s.cyc :=
  ⟨0, 1, { snsIn 3 with opened := false }, snsAt { snsIn 3 with opened := false }, by decide⟩

theorem witness_sensor_windows_and_commands_2 : ∃ (d c : Nat) (x : Sns) (s : State), x = s.sns (sel d c) ∧ (s.snsOn d
    c = false ∨ x.run = false ∨ (x.exciting = false ∧ x.checking = false) ∨ x.opened = true ∨ s.cyc < x.edgeAt + bits
    x.config 18 11 * 78125) :=
  ⟨0, 1, snsIn 3, snsAt (snsIn 3), by decide⟩

theorem witness_sensor_windows_and_commands_3 : ∃ (d c : Nat) (m : ConvMeas) (x : Sns) (s : State), x = s.sns (sel d
    c) ∧ s.snsOn d c = true ∧ x.run = true ∧ x.checking = false ∧ x.opened = true ∧ x.closed = false ∧ x.edgeAt + bits
    x.config 18 11 * 78125 + 80000000 ≤ s.cyc :=
  ⟨0,
    1,
    {},
    { snsIn 3 with config := 0 },
    { snsAt { snsIn 3 with config := 0 } with clock := { cyc := 80000000 } }, by decide⟩

theorem witness_sensor_windows_and_commands_3b : ∃ (d c : Nat) (m : ConvMeas) (x : Sns) (s : State), x = s.sns (sel d
    c) ∧ s.snsOn d c = true ∧ x.run = true ∧ x.checking = false ∧ x.opened = true ∧ x.closed = false ∧ x.edgeAt + bits
    x.config 18 11 * 78125 + 80000000 ≤ s.cyc :=
  ⟨0,
    1,
    { beyond := true, saturated := true },
    { snsIn 3 with config := 0 },
    { snsAt { snsIn 3 with config := 0 } with clock := { cyc := 80000000 } }, by decide⟩

theorem witness_sensor_windows_and_commands_4 : ∃ (d c : Nat) (m : ConvMeas) (x : Sns) (s : State), x = s.sns (sel d
    c) ∧ s.snsOn d c = true ∧ x.run = true ∧ x.checking = true ∧ x.opened = true ∧ x.closed = false ∧ x.edgeAt + bits
    x.config 18 11 * 78125 + 80000000 ≤ s.cyc :=
  ⟨0,
    1,
    { sense := 7000000 },
    { snsIn 3 with config := 0, exciting := false, checking := true },
    { snsAt { snsIn 3 with config := 0, exciting := false, checking := true } with clock := { cyc := 80000000 } }, by decide⟩

theorem witness_sensor_windows_and_commands_4b : ∃ (d c : Nat) (m : ConvMeas) (x : Sns) (s : State), x = s.sns (sel d
    c) ∧ s.snsOn d c = true ∧ x.run = true ∧ x.checking = true ∧ x.opened = true ∧ x.closed = false ∧ x.edgeAt + bits
    x.config 18 11 * 78125 + 80000000 ≤ s.cyc :=
  ⟨0,
    1,
    { sense := -6710886 },
    { snsIn 3 with config := 0, exciting := false, checking := true },
    { snsAt { snsIn 3 with config := 0, exciting := false, checking := true } with clock := { cyc := 80000000 } }, by decide⟩

theorem witness_sensor_windows_and_commands_5 : ∃ (d c : Nat) (m : ConvMeas) (x : Sns) (s : State), x = s.sns (sel d
    c) ∧ (s.snsOn d c = false ∨ x.run = false ∨ x.opened = false ∨ x.closed = true ∨ s.cyc < x.edgeAt + bits x.config
    18 11 * 78125 + 80000000) :=
  ⟨0, 1, {}, {}, snsAt {}, by decide⟩

theorem witness_sensor_windows_and_commands_6 : ∃ (d c due : Nat) (a b e : Word) (rest : List (Nat × List Word)) (s :
    State), (s.sns (sel d c)).results = (due, [a, b, e]) :: rest ∧ due ≤ s.cyc ∧ s.snsOn d c = true :=
  ⟨0, 1, 20000000, 5, 6, 7, [], snsAt { results := [(20000000, [5, 6, 7])] }, by decide⟩

theorem witness_sensor_windows_and_commands_7 : ∃ (d c : Nat) (s : State), (s.snsOn d c = false ∨ (s.sns (sel d
    c)).results.head?.all (fun r => decide (s.cyc < r.1)) = true) :=
  ⟨0, 1, snsAt { results := [(20000001, [5, 6, 7])] }, by decide⟩

theorem witness_sensor_windows_and_commands_8 : ∃ (d c : Nat) (once : Bool) (cfg : BitVec 64) (s : State), (s.sns (sel
    d c)).run = false ∧ s.snsOn d c = true ∧ s.verifying d 3 c = false ∧ cfg = (s.rd Obj.SNS_CONFIG (sel d
    c)).setWidth 64 ∧ snsBad cfg (s.rdN Obj.SNS_GAIN (sel d c)) = false :=
  ⟨0, 1, false, 0x080879030B, snsAt {}, by decide⟩

theorem witness_sensor_windows_and_commands_8b : ∃ (d c : Nat) (once : Bool) (cfg : BitVec 64) (s : State), (s.sns
    (sel d c)).run = false ∧ s.snsOn d c = true ∧ s.verifying d 3 c = false ∧ cfg = (s.rd Obj.SNS_CONFIG (sel d
    c)).setWidth 64 ∧ snsBad cfg (s.rdN Obj.SNS_GAIN (sel d c)) = false :=
  ⟨0, 1, true, 0x02080879030B, (snsAt {}).wr Obj.SNS_CONFIG 1 0x02080879030B, by decide⟩

theorem witness_sensor_windows_and_commands_9 : ∃ (d c : Nat) (once : Bool) (s : State), (s.sns (sel d c)).run = false
    ∧ s.snsOn d c = true ∧ s.verifying d 3 c = false ∧ snsBad ((s.rd Obj.SNS_CONFIG (sel d c)).setWidth 64) (s.rdN
    Obj.SNS_GAIN (sel d c)) = true :=
  ⟨0, 1, true, (snsAt {}).wr Obj.SNS_CONFIG 1 0, by decide⟩

theorem witness_sensor_windows_and_commands_10 : ∃ (d c : Nat) (once : Bool) (s : State), ((s.sns (sel d c)).run =
    true ∨ s.snsOn d c = false ∨ s.verifying d 3 c = true) :=
  ⟨0, 1, true, snsAt (snsIn 3), by decide⟩

theorem witness_sensor_windows_and_commands_11 : ∃ (d c : Nat) (s : State), (s.sns (sel d c)).run = true ∧ (s.sns (sel
    d c)).exciting = true :=
  ⟨0, 1, snsAt (snsIn 3), by decide⟩

theorem witness_sensor_windows_and_commands_12 : ∃ (d c : Nat) (s : State), (s.sns (sel d c)).run = true ∧ (s.sns (sel
    d c)).exciting = false :=
  ⟨0, 1, snsAt { snsIn 3 with exciting := false, resting := true }, by decide⟩

theorem witness_sensor_windows_and_commands_13 : ∃ (d c : Nat) (s : State), (s.sns (sel d c)).run = false :=
  ⟨0, 1, snsAt {}, by decide⟩

theorem witness_flits_and_retries_1 : ∃ (d l : Nat) (x : Lane) (s : State), x = s.lane (sel d l) ∧ l < 4 ∧ frameDue s
    d l = true ∧ x.waking = none ∧ bit (s.fport d).good l = false ∧ bit (s.fport d).stripe l = false :=
  ⟨0, 1, { txSleep := false }, ferryAt { txSleep := false } {}, by decide⟩

theorem witness_flits_and_retries_2 : ∃ (d l : Nat) (w : WaitFlit) (s : State), l < 4 ∧ frameDue s d l = true ∧
    (s.lane (sel d l)).waking = none ∧ (s.fport d).stripe = oneBit 4 l ∧ bit (s.fport d).good l = true ∧ (s.fport
    d).replay = [] ∧ (s.fport d).up = true ∧ (s.fport d).retry.length < 254 ∧ (s.fport d).waiting = [w] ∧ w.turn ≤
    s.cyc + 3 ∧ (s.fport d).bulk = [] :=
  ⟨0,
    1,
    ⟨3, 1, .decision 5 0 [⟨1, 2, 3, true, 4, 5⟩]⟩,
    ferryAt { txSleep := false } { stripe := 2, good := 2, up := true, nextSeq := 255, waiting := [⟨3, 1, .decision 5 0 [⟨1, 2, 3, true, 4, 5⟩]⟩] }, by decide⟩

theorem witness_flits_and_retries_3 : ∃ (d l : Nat) (b : FlitBody) (s : State), l < 4 ∧ frameDue s d l = true ∧
    (s.lane (sel d l)).waking = none ∧ (s.fport d).stripe = oneBit 4 l ∧ bit (s.fport d).good l = true ∧ (s.fport
    d).replay = [] ∧ (s.fport d).up = true ∧ (s.fport d).retry.length < 254 ∧ (∀ w ∈ (s.fport d).waiting, s.cyc + 3 <
    w.turn) ∧ (s.fport d).bulk = [b] :=
  ⟨0,
    1,
    .bulk 5 0 9,
    ferryAt { txSleep := false } { stripe := 2, good := 2, up := true, nextSeq := 255, waiting := [⟨104, 1, .decision 5 0 []⟩], bulk := [.bulk 5 0 9] }, by decide⟩

theorem witness_flits_and_retries_4 : ∃ (d l : Nat) (f : Flit) (s : State), l < 4 ∧ frameDue s d l = true ∧ (s.lane
    (sel d l)).waking = none ∧ (s.fport d).stripe = oneBit 4 l ∧ bit (s.fport d).good l = true ∧ (s.fport d).replay =
    [f] ∧ (s.fport d).waiting = [] ∧ (s.fport d).bulk = [] :=
  ⟨0,
    1,
    ⟨4, .bulk 5 0 9⟩,
    ferryAt { txSleep := false } { stripe := 2, good := 2, up := true, retry := [⟨⟨4, .bulk 5 0 9⟩, 3⟩], replay := [⟨4, .bulk 5 0 9⟩] }, by decide⟩

theorem witness_flits_and_retries_5 : ∃ (d l c : Nat) (s : State), l < 4 ∧ frameDue s d l = true ∧ (s.lane (sel d
    l)).waking = some c :=
  ⟨0, 1, 90, ferryAt { txSleep := false, waking := some 90 } {}, by decide⟩

theorem witness_flits_and_retries_6 : ∃ (d l : Nat) (s : State), (4 ≤ l ∨ s.cyc % 4 ≠ 0 ∨ s.domOn d domFerry = false ∨
    (s.lane (sel d l)).txSleep = true ∨ (s.lane (sel d l)).rx = RxState.retired) :=
  ⟨0, 1, ferryAt {} {}, by decide⟩

theorem witness_flits_and_retries_7 : ∃ (d src : Nat) (f : Flit) (ms : List DecMsg) (s : State), s.domOn d domFerry =
    true ∧ f.seq = (s.fport d).expect ∧ f.body = .decision s.ownDevice src ms ∧ (∀ m ∈ ms, m.die < s.member.dies) :=
  ⟨0,
    9,
    ⟨7, .decision 0 9 [⟨0, 2, 3, true, 4, 5⟩, ⟨1, 255, 3, true, 4, 5⟩]⟩,
    [⟨0, 2, 3, true, 4, 5⟩, ⟨1, 255, 3, true, 4, 5⟩],
    ferryAt {} { expect := 7, discarding := true }, by decide⟩

theorem witness_flits_and_retries_8 : ∃ (d src : Nat) (f : Flit) (m : DecMsg) (s : State), s.domOn d domFerry = true ∧
    f.seq = (s.fport d).expect ∧ f.body = .decision s.ownDevice src [m] ∧ s.member.dies ≤ m.die :=
  ⟨0,
    9,
    ⟨7, .decision 0 9 [⟨7, 2, 3, true, 4, 5⟩]⟩,
    ⟨7, 2, 3, true, 4, 5⟩,
    { ferryAt {} { expect := 7, discarding := true } with member := .pw4 }, by decide⟩

theorem witness_flits_and_retries_9 : ∃ (d : Nat) (f : Flit) (r : Route) (s : State), s.domOn d domFerry = true ∧
    f.seq = (s.fport d).expect ∧ (flitEnds f.body).1 ≠ s.ownDevice ∧ flitKind f.body = 1 ∧ r = s.fRoute (d * 256 +
    (flitEnds f.body).1) ∧ r.valid = true ∧ r.notBefore ≤ s.cyc :=
  ⟨0,
    ⟨7, .decision 6 9 [⟨0, 2, 3, true, 4, 5⟩]⟩,
    { valid := true, egress := 3, notBefore := 100 },
    { ferryAt {} { expect := 7 } with routes := [(6, { valid := true, egress := 3, notBefore := 100 })] }, by decide⟩

theorem witness_flits_and_retries_10 : ∃ (d : Nat) (f : Flit) (r : Route) (s : State), s.domOn d domFerry = true ∧
    f.seq = (s.fport d).expect ∧ (flitEnds f.body).1 ≠ s.ownDevice ∧ flitKind f.body = 2 ∧ r = s.fRoute (d * 256 +
    (flitEnds f.body).1) ∧ r.valid = true ∧ s.routeUp d r.egress = true :=
  ⟨0,
    ⟨7, .bulk 6 9 5⟩,
    { valid := true, egress := 0 },
    { ferryAt {} { expect := 7 } with routes := [(6, { valid := true, egress := 0 })] }, by decide⟩

theorem witness_flits_and_retries_11 : ∃ (d : Nat) (f : Flit) (s : State), s.domOn d domFerry = true ∧ f.seq =
    (s.fport d).expect ∧ (flitEnds f.body).1 ≠ s.ownDevice ∧ flitKind f.body = 1 ∧ (s.fRoute (d * 256 + (flitEnds
    f.body).1)).valid = false :=
  ⟨0, ⟨7, .decision 6 9 [⟨0, 2, 3, true, 4, 5⟩]⟩, ferryAt {} { expect := 7 }, by decide⟩

theorem witness_flits_and_retries_12 : ∃ (d : Nat) (f : Flit) (s : State), s.domOn d domFerry = true ∧ f.seq ≠
    (s.fport d).expect ∧ (s.fport d).discarding = true :=
  ⟨0, ⟨8, .bulk 0 9 5⟩, ferryAt {} { expect := 7, discarding := true }, by decide⟩

theorem witness_flits_and_retries_13 : ∃ (d : Nat) (f : Flit) (s : State), s.domOn d domFerry = true ∧ f.seq ≠
    (s.fport d).expect ∧ (s.fport d).discarding = false ∧ (s.fport d).naks < 15 :=
  ⟨0, ⟨8, .bulk 0 9 5⟩, ferryAt {} { expect := 7 }, by decide⟩

theorem witness_flits_and_retries_14 : ∃ (d : Nat) (f : Flit) (s : State), s.domOn d domFerry = true ∧ (s.fport
    d).naks < 15 :=
  ⟨0, ⟨7, .bulk 0 9 5⟩, ferryAt {} { expect := 7 }, by decide⟩

theorem witness_flits_and_retries_15 : ∃ (d : Nat) (f : Flit) (ok : Bool) (s : State), s.domOn d domFerry = true ∧
    (s.fport d).naks = 15 ∧ (ok = false ∨ (f.seq ≠ (s.fport d).expect ∧ (s.fport d).discarding = false)) :=
  ⟨0,
    ⟨7, .bulk 0 9 5⟩,
    false,
    ferryAt { rx := .up } { expect := 7, naks := 15, up := true, theirStripe := 2 }, by decide⟩

theorem witness_flits_and_retries_16 : ∃ (d : Nat) (f : Flit) (ok : Bool) (s : State), s.domOn d domFerry = false :=
  ⟨0, ⟨7, .bulk 0 9 5⟩, true, State.reset, by decide⟩

theorem witness_flits_and_retries_17 : ∃ (d n : Nat) (old rest : List HeldFlit) (h : HeldFlit) (s : State), (s.fport
    d).retry = old ++ h :: rest ∧ h.flit.seq.toNat = n % 256 ∧ (∀ g ∈ old, g.flit.seq.toNat ≠ n % 256) :=
  ⟨0,
    5,
    [⟨⟨4, .bulk 0 9 5⟩, 3⟩],
    [⟨⟨6, .bulk 0 9 5⟩, 3⟩],
    ⟨⟨5, .bulk 0 9 5⟩, 3⟩,
    ferryAt {} { retry := [⟨⟨4, .bulk 0 9 5⟩, 3⟩, ⟨⟨5, .bulk 0 9 5⟩, 3⟩, ⟨⟨6, .bulk 0 9 5⟩, 3⟩], replay := [⟨5, .bulk 0 9 5⟩, ⟨6, .bulk 0 9 5⟩] }, by decide⟩

theorem witness_flits_and_retries_18 : ∃ (d n : Nat) (s : State), (∀ g ∈ (s.fport d).retry, g.flit.seq.toNat ≠ n %
    256) :=
  ⟨0, 7, ferryAt {} { retry := [⟨⟨4, .bulk 0 9 5⟩, 3⟩] }, by decide⟩

theorem witness_flits_and_retries_19 : ∃ (d n : Nat) (old rest : List HeldFlit) (h : HeldFlit) (s : State), (s.fport
    d).retry = old ++ h :: rest ∧ h.flit.seq.toNat = n % 256 ∧ (∀ g ∈ old, g.flit.seq.toNat ≠ n % 256) :=
  ⟨0,
    5,
    [⟨⟨4, .bulk 0 9 5⟩, 3⟩],
    [⟨⟨6, .bulk 0 9 5⟩, 3⟩],
    ⟨⟨5, .bulk 0 9 5⟩, 3⟩,
    ferryAt {} { retry := [⟨⟨4, .bulk 0 9 5⟩, 3⟩, ⟨⟨5, .bulk 0 9 5⟩, 3⟩, ⟨⟨6, .bulk 0 9 5⟩, 3⟩] }, by decide⟩

theorem witness_flits_and_retries_20 : ∃ (d n : Nat) (s : State), (∀ g ∈ (s.fport d).retry, g.flit.seq.toNat ≠ n %
    256) :=
  ⟨0, 7, ferryAt {} { retry := [⟨⟨4, .bulk 0 9 5⟩, 3⟩] }, by decide⟩

theorem witness_flits_and_retries_21 : ∃ (d ri : Nat) (new rest : List HeldFlit) (h : HeldFlit) (s : State), (s.fport
    d).retry = new ++ h :: rest ∧ (s.fport d).replay = [] ∧ ri = 2 * ((s.rdN Obj.LINK_DELAY (sel d 0) + 1023) / 1024)
    + 24 + 48 / max 1 (width (s.fport d).stripe) ∧ h.sentAt + ri + 16 < s.cyc ∧ (∀ g ∈ new, s.cyc ≤ g.sentAt + ri +
    16) :=
  ⟨0,
    72,
    [⟨⟨3, .bulk 0 9 5⟩, 12⟩],
    [],
    ⟨⟨4, .bulk 0 9 5⟩, 3⟩,
    { ferryAt {} { retry := [⟨⟨3, .bulk 0 9 5⟩, 12⟩, ⟨⟨4, .bulk 0 9 5⟩, 3⟩] } with clock := { cyc := 100 } }, by decide⟩

theorem witness_flits_and_retries_22 : ∃ (d ri : Nat) (s : State), ri = 2 * ((s.rdN Obj.LINK_DELAY (sel d 0) + 1023) /
    1024) + 24 + 48 / max 1 (width (s.fport d).stripe) ∧ ((s.fport d).replay ≠ [] ∨ (∀ g ∈ (s.fport d).retry, s.cyc ≤
    g.sentAt + ri + 16)) :=
  ⟨0, 72, ferryAt {} { retry := [⟨⟨4, .bulk 0 9 5⟩, 12⟩] }, by decide⟩

theorem witness_ferry_links_1 : ∃ (d l : Nat) (b : LaneSet) (s : State), s.domOn d domFerry = true :=
  ⟨0,
    1,
    ⟨5, .pw8, 0, 1, 3, 2, 0⟩,
    ferryAt { txSleep := false } { helloGood := 2, stripe := 2, up := true, waiting := [⟨3, 1, .decision 5 0 []⟩] }, by decide⟩

theorem witness_ferry_links_1b : ∃ (d l : Nat) (b : LaneSet) (s : State), s.domOn d domFerry = true :=
  ⟨0,
    1,
    ⟨5, .pw8, 0, 1, 0, 2, 2⟩,
    ferryAt { txSleep := false } { helloGood := 2, stripe := 2, up := true, waiting := [⟨3, 1, .decision 5 0 [⟨0, 2, 3, true, 4, 5⟩]⟩] }, by decide⟩

theorem witness_ferry_links_1c : ∃ (d l : Nat) (b : LaneSet) (s : State), s.domOn d domFerry = true :=
  ⟨0, 1, ⟨5, .pw8, 0, 1, 2, 0, 0⟩, ferryAt {} { helloGood := 2, stripe := 0, up := true, asleep := 2 }, by decide⟩

theorem witness_ferry_links_2 : ∃ (d l : Nat) (b : LaneSet) (s : State), s.domOn d domFerry = true :=
  ⟨0, 1, ⟨5, .pw8, 0, 1, 2, 2, 0⟩, ferryAt { txSleep := false } { stripe := 2, trips := [5000] }, by decide⟩

theorem witness_ferry_links_2b : ∃ (d l : Nat) (b : LaneSet) (s : State), s.domOn d domFerry = true :=
  ⟨0, 1, ⟨0, .pw8, 0, 1, 2, 2, 0⟩, ferryAt { txSleep := false } { stripe := 2, trips := [5000] }, by decide⟩

theorem witness_ferry_links_2c : ∃ (d l : Nat) (b : LaneSet) (s : State), s.domOn d domFerry = true :=
  ⟨0,
    1,
    ⟨5, .pw8, 0, 1, 2, 2, 0⟩,
    (ferryAt { txSleep := false } { stripe := 2, trips := [5000] }).wrN Obj.LINK_DELAY 0 40961, by decide⟩

theorem witness_ferry_links_2d : ∃ (d l : Nat) (b : LaneSet) (s : State), s.domOn d domFerry = true :=
  ⟨0,
    1,
    ⟨5, .pw8, 0, 1, 2, 0, 0⟩,
    ferryAt { txSleep := false } { stripe := 2, trips := [5000], up := true }, by decide⟩

theorem witness_ferry_links_2e : ∃ (d l : Nat) (b : LaneSet) (s : State), s.domOn d domFerry = true :=
  ⟨0,
    1,
    ⟨5, .pw8, 0, 1, 8, 2, 0⟩,
    ferryAt { txSleep := false } { stripe := 2, trips := [5000], up := true }, by decide⟩

theorem witness_ferry_links_3 : ∃ (d l : Nat) (b : LaneSet) (s : State), s.domOn d domFerry = false :=
  ⟨0, 1, ⟨5, .pw8, 0, 1, 2, 2, 0⟩, State.reset, by decide⟩

theorem witness_ferry_links_4 : ∃ (d l : Nat) (b : LaneSet) (s : State), s.domOn d domFerry = false :=
  ⟨0, 1, ⟨5, .pw8, 0, 1, 2, 2, 0⟩, State.reset, by decide⟩

theorem witness_ferry_links_5 : ∃ (d c b : Nat) (s : State), (s.fport d).probeAt = some c ∧ c + 65536 ≤ s.cyc ∧
    s.tattoo.sentAt = some b ∧ (s.cyc - b) % 65536 = 32768 ∧ (s.fport d).stripe ≠ 0 ∧ s.domOn d domFerry = true :=
  ⟨0,
    0,
    32868,
    { ferryAt {} { stripe := 1, probeAt := some 0 } with clock := { cyc := 65636 }, tattoo := { sentAt := some 32868 } }, by decide⟩

theorem witness_ferry_links_6 : ∃ (d c : Nat) (s : State), (s.fport d).probeAt = some c ∧ s.cyc < c + 65536 :=
  ⟨0, 0, ferryAt {} { probeAt := some 0 }, by decide⟩

theorem witness_ferry_links_7 : ∃ (d sent : Nat) (s : State), s.domOn d domFerry = true :=
  ⟨0, 9, ferryAt {} {}, by decide⟩

theorem witness_ferry_links_8 : ∃ (d sent : Nat) (s : State), s.domOn d domFerry = false :=
  ⟨0, 9, State.reset, by decide⟩

theorem witness_ferry_links_9 : ∃ (d trip : Nat) (ts : List Nat) (s : State), s.domOn d domFerry = true ∧ ts = (trip
    :: (s.fport d).trips).take 256 :=
  ⟨0, 5004, [5004, 5000], ferryAt {} { trips := [5000], up := true }, by decide⟩

theorem witness_ferry_links_9b : ∃ (d trip : Nat) (ts : List Nat) (s : State), s.domOn d domFerry = true ∧ ts = (trip
    :: (s.fport d).trips).take 256 :=
  ⟨0, 5004, [5004], ferryAt {} { partner := some (5, .pw8, 0), stripe := 1, theirStripe := 1 }, by decide⟩

theorem witness_ferry_links_10 : ∃ (d trip : Nat) (s : State), s.domOn d domFerry = false :=
  ⟨0, 5004, State.reset, by decide⟩

theorem witness_ferry_links_12 : ∃ (d : Nat) (g : BitVec 4) (s : State), s.cyc % 256 = 0 ∧ s.domOn d domFerry = true ∧
    g = (s.fport d).helloGood &&& laneMask (s.txSends d) ∧ width (s.fport d).stripe < (if g = 0 then 0 else if width g
    = 1 then 1 else if width g = 4 then 4 else 2) :=
  ⟨0,
    2,
    { ferryAt { txSleep := false } { helloGood := 2, partner := some (5, .pw8, 0), theirStripe := 1, trips := [7] } with clock := { cyc := 256 } }, by decide⟩

theorem witness_ferry_links_13 : ∃ (d : Nat) (s : State), (s.cyc % 256 ≠ 0 ∨ s.domOn d domFerry = false) :=
  ⟨0, ferryAt {} {}, by decide⟩

theorem witness_lanes_and_crossings_1 : ∃ (d l : Nat) (pre skewed : Bool) (s : State), (s.lane (sel d l)).rx =
    RxState.search ∧ s.domOn d domFerry = true ∧ l < 4 ∧ s.scanning = false :=
  ⟨0, 1, true, false, ferryAt { rx := .search } {}, by decide⟩

theorem witness_lanes_and_crossings_1b : ∃ (d l : Nat) (pre skewed : Bool) (s : State), (s.lane (sel d l)).rx =
    RxState.search ∧ s.domOn d domFerry = true ∧ l < 4 ∧ s.scanning = false :=
  ⟨0, 1, true, true, ferryAt { rx := .search, known := true } {}, by decide⟩

theorem witness_lanes_and_crossings_2 : ∃ (d l : Nat) (pre skewed : Bool) (s : State), ((s.lane (sel d l)).rx ≠
    RxState.search ∨ s.domOn d domFerry = false ∨ 4 ≤ l ∨ s.scanning = true) :=
  ⟨0, 1, true, true, ferryAt { rx := .up } {}, by decide⟩

theorem witness_lanes_and_crossings_3 : ∃ (d l : Nat) (s : State), (s.lane (sel d l)).rx = RxState.locked ∧ (s.lane
    (sel d l)).skewed = false ∧ (s.lane (sel d l)).cleanFrom + 1250000 ≤ s.cyc ∧ s.domOn d domFerry = true :=
  ⟨0, 1, { ferryAt { rx := .locked } {} with clock := { cyc := 1250000 } }, by decide⟩

theorem witness_lanes_and_crossings_4 : ∃ (d l : Nat) (s : State), ((s.lane (sel d l)).rx ≠ RxState.locked ∨ (s.lane
    (sel d l)).skewed = true ∨ s.cyc < (s.lane (sel d l)).cleanFrom + 1250000) :=
  ⟨0, 1, ferryAt { rx := .up } {}, by decide⟩

theorem witness_lanes_and_crossings_5 : ∃ (d l : Nat) (recent : List Nat) (s : State), ((s.lane (sel d l)).rx =
    RxState.up ∨ (s.lane (sel d l)).rx = RxState.locked) ∧ s.domOn d domFerry = true ∧ l < 4 ∧ recent = (s.lane (sel d
    l)).losses.filter (fun c : Nat => decide (s.cyc < c + 750000000000)) ∧ recent.length < 7 ∧ (s.fport d).naks < 15
    :=
  ⟨0, 1, [], ferryAt { rx := .up } { theirStripe := 2, up := true }, by decide⟩

theorem witness_lanes_and_crossings_5b : ∃ (d l : Nat) (recent : List Nat) (s : State), ((s.lane (sel d l)).rx =
    RxState.up ∨ (s.lane (sel d l)).rx = RxState.locked) ∧ s.domOn d domFerry = true ∧ l < 4 ∧ recent = (s.lane (sel d
    l)).losses.filter (fun c : Nat => decide (s.cyc < c + 750000000000)) ∧ recent.length < 7 ∧ (s.fport d).naks < 15
    :=
  ⟨0,
    1,
    [],
    (ferryAt { rx := .up, losses := [] } { theirStripe := 6, discarding := true }).setLane 2 { rx := .up }, by decide⟩

theorem witness_lanes_and_crossings_6 : ∃ (d l : Nat) (recent : List Nat) (s : State), ((s.lane (sel d l)).rx =
    RxState.up ∨ (s.lane (sel d l)).rx = RxState.locked) ∧ s.domOn d domFerry = true ∧ l < 4 ∧ recent = (s.lane (sel d
    l)).losses.filter (fun c : Nat => decide (s.cyc < c + 750000000000)) ∧ 7 ≤ recent.length ∧ (s.fport d).naks < 15
    :=
  ⟨0,
    1,
    [1, 2, 3, 4, 5, 6, 7],
    ferryAt { rx := .up, losses := [1, 2, 3, 4, 5, 6, 7] } { theirStripe := 2, stripe := 2, good := 2, helloGood := 2, up := true }, by decide⟩

theorem witness_lanes_and_crossings_7 : ∃ (d l : Nat) (s : State), (s.lane (sel d l)).rx ≠ RxState.up ∧ (s.lane (sel d
    l)).rx ≠ RxState.locked :=
  ⟨0, 1, ferryAt { rx := .search } {}, by decide⟩

theorem witness_lanes_and_crossings_8 : ∃ (d l : Nat) (s : State), l < 4 :=
  ⟨0, 1, ferryAt { txSleep := false } { stripe := 2, good := 2, helloGood := 2, up := true }, by decide⟩

theorem witness_lanes_and_crossings_9 : ∃ (d l : Nat) (s : State), l < 4 ∧ (s.lane (sel d l)).rx ≠ RxState.sleep ∧
    (s.lane (sel d l)).rx ≠ RxState.retired :=
  ⟨0, 1, ferryAt { rx := .up } {}, by decide⟩

theorem witness_lanes_and_crossings_10 : ∃ (d l : Nat) (s : State), ((s.lane (sel d l)).rx = RxState.sleep ∨ (s.lane
    (sel d l)).rx = RxState.retired) :=
  ⟨0, 1, ferryAt {} {}, by decide⟩

theorem witness_lanes_and_crossings_11 : ∃ (d l : Nat) (s : State), l < 4 ∧ s.domOn d domFerry = true ∧ (s.lane (sel d
    l)).txSleep = true ∧ (s.lane (sel d l)).rx ≠ RxState.retired :=
  ⟨0, 1, ferryAt {} {}, by decide⟩

theorem witness_lanes_and_crossings_12 : ∃ (d l : Nat) (s : State), ((s.lane (sel d l)).txSleep = false ∨ (s.lane (sel
    d l)).rx = RxState.retired ∨ s.domOn d domFerry = false) :=
  ⟨0, 1, ferryAt { txSleep := false } {}, by decide⟩

theorem witness_lanes_and_crossings_13 : ∃ (d l c : Nat) (s : State), (s.lane (sel d l)).waking = some c ∧ c + 1250 ≤
    s.cyc :=
  ⟨0, 1, 5, { ferryAt { waking := some 5 } {} with clock := { cyc := 1255 } }, by decide⟩

theorem witness_lanes_and_crossings_14 : ∃ (d l c : Nat) (s : State), (s.lane (sel d l)).waking = some c ∧ s.cyc < c +
    1250 :=
  ⟨0, 1, 5, ferryAt { waking := some 5 } {}, by decide⟩

theorem witness_lanes_and_crossings_15 : ∃ (d l : Nat) (s : State), (s.die d).s3 = false ∧ l < 4 ∧ s.domOn d domFerry
    = true ∧ (s.lane (sel d l)).rx = RxState.sleep ∧ ((s.rdN Obj.FERRY_WAKE (sel d 0) % 2 = 1 → ∀ e ∈
    s.sleep.entry.toList, (d, 1) ∉ e.domains)) :=
  ⟨0, 1, ferryAt {} {}, by decide⟩

theorem witness_lanes_and_crossings_16 : ∃ (d l : Nat) (h w : BitVec 16) (s : State), (s.lane (sel d l)).rx =
    RxState.up ∧ (s.lane (sel d l)).eyeAt + 125000000 ≤ s.cyc :=
  ⟨0, 1, 7, 300, { ferryAt { rx := .up } {} with clock := { cyc := 125000000 } }, by decide⟩

theorem witness_lanes_and_crossings_17 : ∃ (d l : Nat) (h w : BitVec 16) (s : State), ((s.lane (sel d l)).rx ≠
    RxState.up ∨ s.cyc < (s.lane (sel d l)).eyeAt + 125000000) :=
  ⟨0, 1, 7, 300, ferryAt { rx := .up } {}, by decide⟩

theorem witness_lanes_and_crossings_18 : ∃ (d l b : Nat) (w : Word) (s : State), s.cyc % 256 = 0 ∧ l < 4 ∧ s.domOn d
    domFerry = true ∧ w = s.rd Obj.LANE_CONFIG (sel d l) ∧ laneConfigBad w = false ∧ b = (s.appl (applKey 3 (d * 30 +
    16 + l))).setting.toNat % 8 :=
  ⟨0,
    1,
    0,
    word (4 * 2 ^ 25 + 8 * 2 ^ 20 + 5),
    { ferryAt {} {} with clock := { cyc := 256 }, regs := [(Obj.LANE_CONFIG, [(1, word (4 * 2 ^ 25 + 8 * 2 ^ 20 + 5))])] }, by decide⟩

theorem witness_lanes_and_crossings_19 : ∃ (d l : Nat) (s : State), s.cyc % 256 = 0 ∧ l < 4 ∧ s.domOn d domFerry =
    true ∧ laneConfigBad (s.rd Obj.LANE_CONFIG (sel d l)) = true :=
  ⟨0,
    1,
    { ferryAt {} {} with clock := { cyc := 256 }, regs := [(Obj.LANE_CONFIG, [(1, word (13 * 2 ^ 25))])] }, by decide⟩

theorem witness_lanes_and_crossings_20 : ∃ (d l : Nat) (s : State), (s.cyc % 256 ≠ 0 ∨ 4 ≤ l ∨ s.domOn d domFerry =
    false) :=
  ⟨0, 1, ferryAt {} {}, by decide⟩

theorem witness_lanes_and_crossings_21 : ∃ (s : State), (s.linkChanged = true ∨ s.floodAt + 1250000000 ≤ s.cyc) :=
  ⟨{ ferryAt {} { up := true, partner := some (5, .pw8, 0), bulk := [.bulk 1 2 3] } with linkChanged := true }, by decide⟩

theorem witness_lanes_and_crossings_22 : ∃ (s : State), s.linkChanged = false ∧ s.cyc < s.floodAt + 1250000000 :=
  ⟨ferryAt {} {}, by decide⟩

theorem witness_lanes_and_crossings_23 : ∃ (r : LinkStateRec) (s : State), r.device ≠ s.ownDevice :=
  ⟨⟨5, .pw8, [⟨0, 0, 0, 7⟩]⟩, { State.reset with devices := [⟨5, .pw8, []⟩, ⟨6, .pw8, []⟩] }, by decide⟩

theorem witness_lanes_and_crossings_24 : ∃ (r : LinkStateRec) (s : State), r.device = s.ownDevice :=
  ⟨⟨0, .pw8, []⟩, State.reset, by decide⟩

theorem witness_lanes_and_crossings_25 : ∃ (s : State), (∀ x ∈ s.devices, x.device < 256) :=
  ⟨crossingAt, by decide⟩

theorem witness_routes_between_dies_1 : ∃ (i j : Nat), i < 8 ∧ j < 8 :=
  ⟨7, 2, by decide⟩

theorem witness_routes_between_dies_2 : ∃ (n i j : Nat), (n = 2 ∨ n = 4) ∧ i < n ∧ j < n :=
  ⟨4, 3, 1, by decide⟩

theorem witness_time_set_acceptance_1 : ∃ (v : Time) (s : State), s.rdN Obj.TIME_SOURCE 0 ≠ 0 ∧ s.isMaster = false :=
  ⟨5, State.reset.wrN Obj.TIME_SOURCE 0 2, by decide⟩

theorem witness_time_set_acceptance_2 : ∃ (v : Time) (s : State), (s.rdN Obj.TIME_SOURCE 0 = 0 ∨ s.isMaster = true) ∧
    s.anyRunning = false :=
  ⟨5, State.reset, by decide⟩

theorem witness_words_on_the_wire_1 : ∃ (v : Word) (i : Nat), i < 9 :=
  ⟨5, 8, by decide⟩

theorem witness_sessions_open_1 : ∃ (port : Nat) (peer : Peer) (data : Datagram) (s : State), s.ethUp port = true ∧
    (s.source port peer).isSome = true ∧ 16 ≤ data.bytes.length ∧ s.landing.queue.length < 256 :=
  ⟨0, ⟨1, 7⟩, ⟨bytes0 16, []⟩, landAt (headOf 3 6 0) [], by decide⟩

theorem witness_sessions_open_2 : ∃ (port : Nat) (peer : Peer) (data : Datagram) (s : State), s.ethUp port = true ∧
    (s.source port peer).isSome = true ∧ (data.bytes.length < 16 ∨ 256 ≤ s.landing.queue.length) :=
  ⟨0, ⟨1, 7⟩, ⟨bytes0 15, []⟩, landAt (headOf 3 6 0) [], by decide⟩

theorem witness_sessions_open_3 : ∃ (port : Nat) (peer : Peer) (data : Datagram) (s : State), (s.ethUp port = false ∨
    (s.source port peer).isNone = true) :=
  ⟨0, ⟨1, 7⟩, ⟨bytes0 16, []⟩, State.reset, by decide⟩

theorem witness_sessions_open_4 : ∃ (q : Req) (n : Nat) (s : State), headIs s .open_ q = true ∧ s.retried q = none ∧ 1
    ≤ q.field 0 1 ∧ q.field 0 1 ≤ 64 ∧ q.field 1 7 = 0 ∧ n < 64 ∧ (s.session n).live = false ∧ (∀ m < n, (s.session
    m).live = true) :=
  ⟨reqOfHead (openHead false 8) (4 :: bytes0 7), 0, landAt (openHead false 8) (4 :: bytes0 7), by decide +kernel⟩

theorem witness_sessions_open_5 : ∃ (q : Req) (s : State), headIs s .open_ q = true ∧ s.retried q = none ∧ (∀ m < 64,
    (s.session m).live = true) :=
  ⟨reqOfHead (openHead false 8) (4 :: bytes0 7),
    { landAt (openHead false 8) (4 :: bytes0 7) with sessions := (List.range 64).map (fun n => (n, { live := true })) }, by decide +kernel⟩

theorem witness_sessions_open_6 : ∃ (q : Req) (frame : List Byte) (s : State), headIs s .open_ q = true ∧ s.retried q
    = some frame :=
  ⟨reqOfHead (openHead false 8) (4 :: bytes0 7),
    [5],
    { landAt (openHead false 8) (4 :: bytes0 7) with sessions := [(2, { live := true, peer := ⟨1, 7⟩, openSeq := 77, opened := [5] })] }, by decide +kernel⟩

theorem witness_sessions_open_7 : ∃ (q : Req) (n : Nat) (s : State), headIs s .open_ q = true ∧ s.retried q = none ∧ n
    < 64 ∧ (s.session n).live = false ∧ (q.field 0 1 = 0 ∨ 64 < q.field 0 1 ∨ q.field 1 7 ≠ 0) :=
  ⟨reqOfHead (openHead false 8) (65 :: bytes0 7), 0, landAt (openHead false 8) (65 :: bytes0 7), by decide +kernel⟩

theorem witness_sessions_open_8 : ∃ (q : Req) (n : Nat) (s : State), headIs s .openChallenge q = true ∧ s.locked
    q.peer.addr = false ∧ s.retried q = none ∧ s.rdN Obj.COMMISSIONED 0 % 2 = 0 ∧ 1 ≤ q.field 0 1 ∧ q.field 0 1 ≤ 64 ∧
    q.field 1 7 = 0 ∧ n < 64 ∧ (s.session n).live = false ∧ (∀ m < n, (s.session m).live = true) :=
  ⟨reqOfHead (openHead true 8) (64 :: bytes0 7), 0, landAt (openHead true 8) (64 :: bytes0 7), by decide +kernel⟩

theorem witness_sessions_open_9 : ∃ (q : Req) (s : State), headIs s .openChallenge q = true ∧ s.locked q.peer.addr =
    false ∧ s.retried q = none ∧ s.rdN Obj.COMMISSIONED 0 % 2 = 1 ∧ 1 ≤ q.field 0 1 ∧ q.field 0 1 ≤ 64 ∧ q.field 1 7 =
    0 :=
  ⟨reqOfHead (openHead true 8) (64 :: bytes0 7),
    (landAt (openHead true 8) (64 :: bytes0 7)).wrN Obj.COMMISSIONED 0 1, by decide +kernel⟩

theorem witness_sessions_open_10 : ∃ (q : Req) (s : State), headIs s .openChallenge q = true ∧ s.locked q.peer.addr =
    true :=
  ⟨reqOfHead (openHead true 8) (64 :: bytes0 7),
    lockedOut (landAt (openHead true 8) (64 :: bytes0 7)), by decide +kernel⟩

theorem witness_sessions_open_11 : ∃ (q : Req) (n : Nat) (s : State), headIs s .openResponse q = true ∧ s.locked
    q.peer.addr = false ∧ s.retried q = none ∧ s.rdN Obj.COMMISSIONED 0 % 2 = 1 ∧ ((∃ c ∈ s.landing.challenges,
    c.value = BitVec.ofNat 128 (q.field 8 16) ∧ s.cyc < c.at_ + 1250000000)) ∧ hmac s.secretBytes ((q.body.drop
    8).take 32) = (q.body.drop 40).take 32 ∧ 1 ≤ q.field 0 1 ∧ q.field 0 1 ≤ 64 ∧ q.field 1 7 = 0 ∧ n < 64 ∧
    (s.session n).live = false ∧ (∀ m < n, (s.session m).live = true) :=
  ⟨reqOfHead (openHead true 72) responseBody,
    0,
    challenged (landAt (openHead true 72) responseBody), by decide +kernel⟩

theorem witness_sessions_open_12 : ∃ (q : Req) (s : State), headIs s .openResponse q = true ∧ s.retried q = none ∧
    (s.locked q.peer.addr = true ∨ s.rdN Obj.COMMISSIONED 0 % 2 = 0 ∨ (∀ c ∈ s.landing.challenges, c.value =
    BitVec.ofNat 128 (q.field 8 16) → c.at_ + 1250000000 ≤ s.cyc) ∨ hmac s.secretBytes ((q.body.drop 8).take 32) ≠
    (q.body.drop 40).take 32) :=
  ⟨reqOfHead (openHead true 72) (64 :: bytes0 71),
    challenged (landAt (openHead true 72) (64 :: bytes0 71)), by decide +kernel⟩

theorem witness_sessions_open_12b : ∃ (q : Req) (s : State), headIs s .openResponse q = true ∧ s.retried q = none ∧
    (s.locked q.peer.addr = true ∨ s.rdN Obj.COMMISSIONED 0 % 2 = 0 ∨ (∀ c ∈ s.landing.challenges, c.value =
    BitVec.ofNat 128 (q.field 8 16) → c.at_ + 1250000000 ≤ s.cyc) ∨ hmac s.secretBytes ((q.body.drop 8).take 32) ≠
    (q.body.drop 40).take 32) :=
  ⟨reqOfHead (openHead true 72) (64 :: bytes0 71),
    failing (challenged (landAt (openHead true 72) (64 :: bytes0 71))), by decide +kernel⟩

theorem witness_sessions_serve_1 : ∃ (c : Instr) (kind : ReqKind) (q : Req) (s : State), (c, kind) ∈ sessionRows ∧
    headIs s kind q = true ∧ sessionPasses s q = false :=
  ⟨.close,
    .close,
    reqOfHead { headOf 2 6 0 with tag := 8 } [],
    landAt { headOf 2 6 0 with tag := 8 } [], by decide +kernel⟩

theorem witness_sessions_serve_2 : ∃ (c : Instr) (kind : ReqKind) (q : Req) (s : State), (c, kind) ∈ sessionRows ∧
    headIs s kind q = true ∧ sessionPasses s q = true ∧ seqBeyond q.h.seq (s.session q.h.ses).smax = false ∧ 32 ≤
    ((s.session q.h.ses).smax - q.h.seq).toNat :=
  ⟨.fire,
    .fire,
    reqOfHead (headOf 10 0xFFFFFFE5 11) (bytes0 11),
    landAt (headOf 10 0xFFFFFFE5 11) (bytes0 11), by decide +kernel⟩

theorem witness_sessions_serve_3 : ∃ (c : Instr) (kind : ReqKind) (q : Req) (frame : List Byte) (s : State), (c, kind)
    ∈ sessionRows ∧ headIs s kind q = true ∧ sessionPasses s q = true ∧ readKind q.h.op = false ∧ seqBeyond q.h.seq
    (s.session q.h.ses).smax = false ∧ ((s.session q.h.ses).smax - q.h.seq).toNat < 32 ∧ (s.session
    q.h.ses).done.find? (fun p => p.1 == q.h.seq) = some (q.h.seq, some frame) :=
  ⟨.fire,
    .fire,
    reqOfHead (headOf 10 0xFFFFFFE6 11) (bytes0 11),
    [5],
    landWith { boundSession false with done := [(0xFFFFFFE6, some [5])] } (headOf 10 0xFFFFFFE6 11) (bytes0 11), by decide +kernel⟩

theorem witness_sessions_serve_4 : ∃ (q : Req) (s : State), headIs s .keepalive q = true ∧ newInSession s q = true :=
  ⟨reqOfHead (headOf 3 6 0) [], landAt (headOf 3 6 0) [], by decide +kernel⟩

theorem witness_sessions_serve_5 : ∃ (q : Req) (s : State), headIs s .close q = true ∧ newInSession s q = true :=
  ⟨reqOfHead (headOf 2 6 0) [], holding (landAt (headOf 2 6 0) []), by decide +kernel⟩

theorem witness_sessions_serve_6 : ∃ (ses : Nat) (s : State), (s.session ses).live = true ∧ (s.session ses).lastAt +
    s.rdN Obj.SESSION_TIMEOUT 0 * 1250000000 ≤ s.cyc :=
  ⟨3, holding ((landAt (headOf 2 6 0) []).wrN Obj.SESSION_TIMEOUT 0 0), by decide⟩

theorem witness_sessions_serve_7 : ∃ (c : Instr) (kind : ReqKind) (s : State), (c, kind) ∈ sessionRows ∧ (s.serves =
    false ∨ s.landing.queue = []) :=
  ⟨.fire, .fire, State.reset, by decide⟩

theorem witness_sessions_serve_8 : ∃ (c : Instr) (kind other : ReqKind) (q : Req) (s : State), (c, kind) ∈ sessionRows
    ∧ headIs s other q = true ∧ other ≠ kind :=
  ⟨.fire, .fire, .close, reqOfHead (headOf 2 6 0) [], landAt (headOf 2 6 0) [], by decide +kernel⟩

theorem witness_sessions_serve_9 : ∃ (c : Instr) (kind : ReqKind) (x : Request) (s : State), (c, kind) ∈ sessionRows ∧
    s.serves = true ∧ s.landing.queue = [x] ∧ s.kindOf (s.reqOf x) = none :=
  ⟨.fire, .fire, ⟨0, ⟨1, 7⟩, ⟨(headOf 2 6 1).bytes, []⟩⟩, landAt (headOf 2 6 1) [], by decide +kernel⟩

theorem witness_sessions_serve_10 : ∃ (ses : Nat) (s : State), (s.session ses).live = false :=
  ⟨3, State.reset, by decide⟩

theorem witness_sessions_serve_11 : ∃ (ses : Nat) (s : State), s.cyc < (s.session ses).lastAt + s.rdN
    Obj.SESSION_TIMEOUT 0 * 1250000000 :=
  ⟨3, holding (landAt (headOf 2 6 0) []), by decide⟩

theorem witness_sessions_serve_12 : ∃ (ses : Nat) (s : State), (s.session ses).live = true :=
  ⟨3, holding (landAt (headOf 2 6 0) []), by decide⟩

theorem witness_sessions_serve_15 : ∃ (v : Word) (vs : List Word) (s : State), bits v 71 40 = 0 ∧ vs.length = 3 :=
  ⟨5, [6, 7, 8], State.reset, by decide⟩

theorem witness_sessions_serve_16 : ∃ (v : Word) (vs : List Word) (s : State), bits v 71 40 ≠ 0 :=
  ⟨0x10000000000, [], State.reset, by decide⟩

theorem witness_objects_and_streams_1 : ∃ (q : Req) (r : ObjRow) (s : State), headIs s .read q = true ∧ newInSession s
    q = true ∧ s.object (q.objId 0) (q.objSel 0) = some r ∧ r.ty ≠ .domain ∧ ((r.secure = true → s.isAdmin q.h.ses =
    true)) ∧ isVendor r.id = false :=
  ⟨reqOfHead (headOf 4 6 5) readBody,
    ⟨Obj.TONE_DEADBAND, .u64, .rw, false, 14, 0⟩,
    landAt (headOf 4 6 5) readBody, by decide +kernel⟩

theorem witness_objects_and_streams_2 : ∃ (q : Req) (s : State), headIs s .read q = true ∧ newInSession s q = true ∧
    s.object (q.objId 0) (q.objSel 0) = none :=
  ⟨reqOfHead (headOf 4 6 5) [0xFF, 0, 0, 0, 0], landAt (headOf 4 6 5) [0xFF, 0, 0, 0, 0], by decide +kernel⟩

theorem witness_objects_and_streams_3 : ∃ (q : Req) (r : ObjRow) (s : State), headIs s .read q = true ∧ newInSession s
    q = true ∧ s.object (q.objId 0) (q.objSel 0) = some r ∧ r.ty = .domain :=
  ⟨reqOfHead (headOf 4 6 5) [0x32, 0, 1, 0, 0],
    ⟨Obj.ENV_DATA, .domain, .rw, false, 1, 1048576⟩,
    landAt (headOf 4 6 5) [0x32, 0, 1, 0, 0], by decide +kernel⟩

theorem witness_objects_and_streams_4 : ∃ (q : Req) (r : ObjRow) (s : State), headIs s .read q = true ∧ newInSession s
    q = true ∧ s.object (q.objId 0) (q.objSel 0) = some r ∧ r.ty ≠ .domain ∧ r.secure = true ∧ s.isAdmin q.h.ses =
    false :=
  ⟨reqOfHead (headOf 4 6 5) [0x11, 0, 2, 0, 0],
    ⟨Obj.SESSION_TIMEOUT, .u16, .rw, true, 0, 0⟩,
    landAt (headOf 4 6 5) [0x11, 0, 2, 0, 0], by decide +kernel⟩

theorem witness_objects_and_streams_5 : ∃ (q : Req) (r : ObjRow) (w s : State), headIs s .write q = true ∧
    newInSession s q = true ∧ s.object (q.objId 0) (q.objSel 0) = some r ∧ r.ty ≠ .domain ∧ r.acc ≠ .ro ∧ ((r.secure =
    true → s.isAdmin q.h.ses = true)) ∧ (s.heard q).writeObj q.h.ses r (q.objSel 0) (writeBits r.ty (word (q.field 5
    9))) = (0, .next w) :=
  ⟨reqOfHead (headOf 5 6 14) writeBody,
    ⟨Obj.TONE_DEADBAND, .u64, .rw, false, 14, 0⟩,
    ((landAt (headOf 5 6 14) writeBody).heard (reqOfHead (headOf 5 6 14) writeBody)).hold Obj.TONE_DEADBAND 3 5,
    landAt (headOf 5 6 14) writeBody, ⟨by decide +kernel, by decide +kernel, by decide +kernel, by decide, by decide, by decide, rfl⟩⟩

theorem witness_objects_and_streams_6 : ∃ (q : Req) (r : ObjRow) (s : State), headIs s .write q = true ∧ newInSession
    s q = true ∧ s.object (q.objId 0) (q.objSel 0) = some r ∧ (r.ty = .domain ∨ r.acc = .ro) :=
  ⟨reqOfHead (headOf 5 6 14) ([0x32, 0, 1, 0, 0] ++ bytes0 9),
    ⟨Obj.ENV_DATA, .domain, .rw, false, 1, 1048576⟩,
    landAt (headOf 5 6 14) ([0x32, 0, 1, 0, 0] ++ bytes0 9), by decide +kernel⟩

theorem witness_objects_and_streams_7 : ∃ (q : Req) (r : ObjRow) (v : Word) (s : State), headIs s .write q = true ∧
    newInSession s q = true ∧ s.object (q.objId 0) (q.objSel 0) = some r ∧ r.ty ≠ .domain ∧ r.acc ≠ .ro ∧ ((r.secure =
    true → s.isAdmin q.h.ses = true)) ∧ v = writeBits r.ty (word (q.field 5 9)) ∧ plainWrite s q.h.ses r.id (q.objSel
    0) v = true :=
  ⟨reqOfHead (headOf 5 6 14) writeBody,
    ⟨Obj.TONE_DEADBAND, .u64, .rw, false, 14, 0⟩,
    5,
    landAt (headOf 5 6 14) writeBody, by decide +kernel⟩

theorem witness_objects_and_streams_8 : ∃ (q : Req) (r : ObjRow) (s : State), headIs s .readBlock q = true ∧
    newInSession s q = true ∧ s.object (q.objId 0) (q.objSel 0) = some r ∧ r.ty = .domain ∧ ((r.secure = true →
    s.isAdmin q.h.ses = true)) ∧ isVendor r.id = false ∧ q.field 11 2 = 0 ∧ ((r.id ≠ Obj.DSP_PROGRAM ∧ r.id ≠
    Obj.DSP_DATA) ∨ q.checks = []) :=
  ⟨reqOfHead (headOf 6 6 13) (blockBody 160 0),
    ⟨Obj.ENV_DATA, .domain, .rw, false, 1, 1048576⟩,
    landAt (headOf 6 6 13) (blockBody 160 0), by decide +kernel⟩

theorem witness_objects_and_streams_9 : ∃ (q : Req) (r : ObjRow) (n : Nat) (s : State), headIs s .readBlock q = true ∧
    newInSession s q = true ∧ s.object (q.objId 0) (q.objSel 0) = some r ∧ r.ty = .domain ∧ ((r.secure = true →
    s.isAdmin q.h.ses = true)) ∧ q.field 11 2 = 0 ∧ (r.id = Obj.DSP_PROGRAM ∨ r.id = Obj.DSP_DATA) ∧ (∀ c ∈ q.checks,
    c.2 ≠ Ecc.uncorrectable) ∧ n = ((List.range q.count).filter (fun p : Nat => (q.checks.find? (fun c : Nat × Ecc =>
    c.1 == p)).map Prod.snd == some Ecc.corrected)).length ∧ s.rdN Obj.DSP_MEM_CORRECTED (q.objSel 0) + n < 2 ^ 32 :=
  ⟨checkedReq (headOf 6 6 13) (dspBody 3 0) [(1, .corrected)],
    ⟨Obj.DSP_DATA, .domain, .rw, false, 13, 8192⟩,
    1,
    landChecked (headOf 6 6 13) (dspBody 3 0) [(1, .corrected)], by decide +kernel⟩

theorem witness_objects_and_streams_10 : ∃ (q : Req) (r : ObjRow) (s : State), headIs s .readBlock q = true ∧
    newInSession s q = true ∧ s.object (q.objId 0) (q.objSel 0) = some r ∧ r.ty = .domain ∧ ((r.secure = true →
    s.isAdmin q.h.ses = true)) ∧ q.field 11 2 = 0 ∧ r.id = Obj.DSP_DATA ∧ q.count = 1 ∧ q.checks = [(0,
    .uncorrectable)] :=
  ⟨checkedReq (headOf 6 6 13) (dspBody 1 0) [(0, .uncorrectable)],
    ⟨Obj.DSP_DATA, .domain, .rw, false, 13, 8192⟩,
    landChecked (headOf 6 6 13) (dspBody 1 0) [(0, .uncorrectable)], by decide +kernel⟩

theorem witness_objects_and_streams_11 : ∃ (q : Req) (r : ObjRow) (s : State), headIs s .readBlock q = true ∧
    newInSession s q = true ∧ s.object (q.objId 0) (q.objSel 0) = some r ∧ r.ty = .domain ∧ ((r.secure = true →
    s.isAdmin q.h.ses = true)) ∧ q.field 11 2 = 0 :=
  ⟨checkedReq (headOf 6 6 13) (dspBody 2 0) [(1, .uncorrectable)],
    ⟨Obj.DSP_DATA, .domain, .rw, false, 13, 8192⟩,
    landChecked (headOf 6 6 13) (dspBody 2 0) [(1, .uncorrectable)], by decide +kernel⟩

theorem witness_objects_and_streams_12 : ∃ (q : Req) (r : ObjRow) (s : State), headIs s .readBlock q = true ∧
    newInSession s q = true ∧ s.object (q.objId 0) (q.objSel 0) = some r ∧ r.ty = .domain ∧ ((r.secure = true →
    s.isAdmin q.h.ses = true)) ∧ q.field 11 2 ≠ 0 :=
  ⟨reqOfHead (headOf 6 6 13) (dspBody 2 1),
    ⟨Obj.DSP_DATA, .domain, .rw, false, 13, 8192⟩,
    landAt (headOf 6 6 13) (dspBody 2 1), by decide +kernel⟩

theorem witness_objects_and_streams_13 : ∃ (q : Req) (r : ObjRow) (s : State), headIs s .writeBlock q = true ∧
    newInSession s q = true ∧ s.object (q.objId 0) (q.objSel 0) = some r ∧ (r.id = Obj.ENV_DATA ∨ r.id =
    Obj.WEIGHT_DATA) :=
  ⟨reqOfHead (headOf 7 6 31) (blockBody 3 1 ++ bytes0 8 ++ 7 :: bytes0 8 ++ [9]),
    ⟨Obj.ENV_DATA, .domain, .rw, false, 1, 1048576⟩,
    landAt (headOf 7 6 31) (blockBody 3 1 ++ bytes0 8 ++ 7 :: bytes0 8 ++ [9]), by decide +kernel⟩

theorem witness_objects_and_streams_14 : ∃ (q : Req) (d : Nat) (mask : BitVec 16) (s : State), headIs s .subscribe q =
    true ∧ newInSession s q = true ∧ q.field 0 8 = d * 2 ^ 53 + mask.toNat ∧ d < s.member.dies :=
  ⟨reqOfHead (headOf 8 6 8) (bytes0 6 ++ [1, 2]),
    0,
    0x102,
    landAt (headOf 8 6 8) (bytes0 6 ++ [1, 2]), by decide +kernel⟩

theorem witness_objects_and_streams_15 : ∃ (q : Req) (s : State), headIs s .subscribe q = true ∧ newInSession s q =
    true ∧ q.field 0 8 / 65536 % 2 ^ 37 ≠ 0 :=
  ⟨reqOfHead (headOf 8 6 8) (bytes0 5 ++ [1, 1, 2]),
    landAt (headOf 8 6 8) (bytes0 5 ++ [1, 1, 2]), by decide +kernel⟩

theorem witness_objects_and_streams_16 : ∃ (q : Req) (mask : BitVec 16) (s : State), headIs s .subscribe q = true ∧
    newInSession s q = true ∧ q.field 0 8 = 2 ^ 56 + mask.toNat ∧ mask &&& 0xFFC1 = 0 :=
  ⟨reqOfHead (headOf 8 6 8) (1 :: bytes0 6 ++ [0x3E]),
    0x3E,
    landAt (headOf 8 6 8) (1 :: bytes0 6 ++ [0x3E]), by decide +kernel⟩

theorem witness_objects_and_streams_17 : ∃ (q : Req) (k : Nat) (r : ObjRow) (s : State), headIs s .fire q = true ∧
    newInSession s q = true ∧ k = q.field 0 2 ∧ s.object Obj.CHAN_FIRE k = some r ∧ s.mayFire k q.h.ses = true ∧ bits
    (word (q.field 2 9)) 71 64 = 0 ∧ s.dieRuns (selDie k) = true :=
  ⟨reqOfHead (headOf 10 6 11) (0 :: 9 :: bytes0 9),
    9,
    ⟨Obj.CHAN_FIRE, .w72, .wo, false, 16, 0⟩,
    landAt (headOf 10 6 11) (0 :: 9 :: bytes0 9), by decide +kernel⟩

theorem witness_objects_and_streams_18 : ∃ (q : Req) (k : Nat) (r : ObjRow) (v : Word) (s : State), headIs s .fire q =
    true ∧ newInSession s q = true ∧ k = q.field 0 2 ∧ s.object Obj.CHAN_FIRE k = some r ∧ s.mayFire k q.h.ses = true
    ∧ v = word (q.field 2 9) ∧ bits v 71 64 = 1 ∧ s.now ≤ bits v 63 0 ∧ (s.fires.filter (fun f => f.die == selDie
    k)).length < 64 :=
  ⟨reqOfHead (headOf 10 6 11) fireBody,
    9,
    ⟨Obj.CHAN_FIRE, .w72, .wo, false, 16, 0⟩,
    0x10000000000000007,
    landAt (headOf 10 6 11) fireBody, by decide +kernel⟩

theorem witness_objects_and_streams_19 : ∃ (q : Req) (k : Nat) (r : ObjRow) (v : Word) (s : State), headIs s .fire q =
    true ∧ newInSession s q = true ∧ k = q.field 0 2 ∧ s.object Obj.CHAN_FIRE k = some r ∧ s.mayFire k q.h.ses = true
    ∧ v = word (q.field 2 9) ∧ bits v 71 64 = 1 ∧ s.now ≤ bits v 63 0 ∧ 64 ≤ (s.fires.filter (fun f => f.die == selDie
    k)).length :=
  ⟨reqOfHead (headOf 10 6 11) fireBody,
    9,
    ⟨Obj.CHAN_FIRE, .w72, .wo, false, 16, 0⟩,
    0x10000000000000007,
    { landAt (headOf 10 6 11) fireBody with fires := List.replicate 64 ⟨0, 1, 5⟩ }, by decide +kernel⟩

theorem witness_objects_and_streams_20 : ∃ (q : Req) (k : Nat) (r : ObjRow) (s : State), headIs s .fire q = true ∧
    newInSession s q = true ∧ k = q.field 0 2 ∧ s.object Obj.CHAN_FIRE k = some r ∧ s.mayFire k q.h.ses = false :=
  ⟨reqOfHead (headOf 10 6 11) fireBody,
    9,
    ⟨Obj.CHAN_FIRE, .w72, .wo, false, 16, 0⟩,
    { landAt (headOf 10 6 11) fireBody with chans := [(9, { owner := some 4 })] }, by decide +kernel⟩

theorem witness_objects_and_streams_21 : ∃ (q : Req) (s : State), headIs s .wake q = true :=
  ⟨reqOfHead { openHead false 1 with op := 11 } [6],
    { landAt { openHead false 1 with op := 11 } [6] with dies := [(0, { booted := true }), (1, { s3 := true }), (2, { s3 := true })] }, by decide +kernel⟩

theorem witness_objects_and_streams_22 : ∃ (obj target mask all k : Nat) (v : Word) (s : State), (obj, target, mask,
    all) ∈ clearObjects ∧ v &&& ~~~(word all) = 0 :=
  ⟨Obj.CHAN_STATUS_CLEAR,
    Obj.CHAN_STATUS,
    6,
    0x1F,
    9,
    0x1C,
    State.reset.wrN Obj.CHAN_STATUS 9 0x17, by decide +kernel⟩

theorem witness_objects_and_streams_23 : ∃ (obj target mask all k : Nat) (v : Word) (s : State), (obj, target, mask,
    all) ∈ clearObjects ∧ v &&& ~~~(word all) ≠ 0 :=
  ⟨Obj.CHAN_STATUS_CLEAR, Obj.CHAN_STATUS, 6, 0x1F, 9, 0x20, State.reset, by decide +kernel⟩

theorem witness_objects_and_streams_25 : ∃ (ses : Nat) (f : DueFrame) (x : Session) (s : State), sendsNow s ses f =
    true ∧ f.die = none ∧ x = s.feedStreams.session ses :=
  ⟨3,
    ⟨0, none, 3⟩,
    (streaming { boundSession false with items := [⟨1, 0, 5, 6, 0⟩], itemsSent := 4 }).feedStreams.session 3,
    streaming { boundSession false with items := [⟨1, 0, 5, 6, 0⟩], itemsSent := 4 }, by decide +kernel⟩

theorem witness_objects_and_streams_26 : ∃ (ses d : Nat) (f : DueFrame) (x : Session) (s : State), sendsNow s ses f =
    true ∧ f.die = some d ∧ x = s.feedStreams.session ses :=
  ⟨3,
    0,
    ⟨4, some 0, 3⟩,
    (streaming { boundSession false with streams := [(0, { ready := [(7, 4)], recId := 7 })] }).feedStreams.session 3,
    streaming { boundSession false with streams := [(0, { ready := [(7, 4)], recId := 7 })] }, by decide +kernel⟩

theorem witness_objects_and_streams_27 : ∃ (ses : Nat) (s : State), (s.feedStreams.turn (s.feedStreams.session
    ses).port (look {} s.landing.egress (s.feedStreams.session ses).port) 2048).any (fun x => x.1 == ses) = false :=
  ⟨3, landAt (headOf 3 6 0) [], by decide +kernel⟩

theorem witness_power_up_and_resets_1 : ∃ (straps : BitVec 8) (store : StoreRead) (s : State), s.domSt 0 0 = .off :=
  ⟨0x21, {}, State.reset, by decide⟩

theorem witness_power_up_and_resets_2 : ∃ (straps : BitVec 8) (store : StoreRead) (s : State), s.domSt 0 0 ≠ .off ∧
    s.shut.st = .running :=
  ⟨0x21, {}, landAt (headOf 3 6 0) [], by decide⟩

theorem witness_power_up_and_resets_3 : ∃ (d : Nat) (s : State), (s.member.dies ≤ d ∨ (s.die d).stored = false ∨
    (s.die d).booted = true) :=
  ⟨1, State.reset, by decide⟩

theorem witness_power_up_and_resets_4 : ∃ (d : Nat) (dly : Int) (groups : List (Nat × Nat)) (badLinks : List Nat) (s :
    State), (s.member.dies ≤ d ∨ (s.die d).plls = 0 ∨ (s.die d).trained = true) :=
  ⟨1, 0, [], [], State.reset, by decide⟩

theorem witness_power_up_and_resets_5 : ∃ (q : Req) (k : Nat) (r : ObjRow) (s : State), headIs s .resetUnit q = true ∧
    newInSession s q = true ∧ k = q.objSel 1 ∧ s.object (q.objId 1) k = some r ∧ ((r.scope = 16 → s.mayConfigure k
    q.h.ses false = true)) ∧ (q.field 0 1 ≠ 0 ∨ ¬ (r.scope = 4 ∨ (6 ≤ r.scope ∧ r.scope ≤ 18 ∧ r.scope ≠ 11 ∧ r.scope
    ≠ 12))) :=
  ⟨reqOfHead (headOf 12 6 6) (resetAt 3 0),
    0,
    ⟨Obj.SEQ_COMMAND, .u8, .wo, false, 10, 0⟩,
    landAt (headOf 12 6 6) (resetAt 3 0), by decide +kernel⟩

theorem witness_power_up_and_resets_6 : ∃ (q : Req) (k : Nat) (r : ObjRow) (s : State), headIs s .resetUnit q = true ∧
    newInSession s q = true ∧ k = q.objSel 1 ∧ s.object (q.objId 1) k = some r ∧ r.scope = 16 ∧ s.mayConfigure k
    q.h.ses false = false :=
  ⟨reqOfHead (headOf 12 6 6) resetChan,
    2,
    ⟨Obj.CHAN_CONFIG, .u32, .rw, false, 16, 0⟩,
    { landAt (headOf 12 6 6) resetChan with chans := [(2, { owner := some 4 })] }, by decide +kernel⟩

theorem witness_power_up_and_resets_7 : ∃ (straps : BitVec 8) (store : StoreRead) (s : State), (s.landing.resetLow =
    false ∨ s.refclkHolds = false) :=
  ⟨0, {}, State.reset, by decide⟩

theorem witness_power_up_and_resets_8 : ∃ (d : Nat) (s : State), (s.member.dies ≤ d ∨ (s.die d).booted = false) :=
  ⟨0, State.reset, by decide⟩

theorem witness_power_up_and_resets_9 : ∃ (d : Nat) (s : State), d < s.member.dies ∧ (s.die d).stored = true ∧ (s.die
    d).booted = false ∧ s.shut.held = none :=
  ⟨1, { State.reset with dies := [(1, { stored := true })] }, by decide⟩

theorem witness_power_up_and_resets_10 : ∃ (c e : Nat) (s : State), (s.die 0).stored = true ∧ (s.die 0).booted = false
    ∧ s.shut.held = some (c, e) ∧ s.shut.st = .running ∧ (s.die e).logs.length < 64 :=
  ⟨6, 1, { State.reset with dies := [(0, { stored := true })], shut := { held := some (6, 1) } }, by decide⟩

theorem witness_power_up_and_resets_11 : ∃ (d : Nat) (dly : Int) (groups : List (Nat × Nat)) (badLinks : List Nat) (s
    : State), d < s.member.dies ∧ (s.die d).plls ≠ 0 ∧ (s.die d).trained = false :=
  ⟨1,
    (-3),
    [(0, 5)],
    [1],
    { State.reset with dies := [(0, { trained := true }), (1, { plls := 7 })], member := .pw2 }, by decide⟩

theorem witness_power_up_and_resets_12 : ∃ (q : Req) (k : Nat) (r : ObjRow) (s : State), headIs s .resetUnit q = true
    ∧ newInSession s q = true ∧ q.field 0 1 = 0 ∧ k = q.objSel 1 ∧ s.object (q.objId 1) k = some r ∧ (r.scope = 4 ∨ (6
    ≤ r.scope ∧ r.scope ≤ 18 ∧ r.scope ≠ 11 ∧ r.scope ≠ 12)) ∧ ((r.scope = 16 → s.mayConfigure k q.h.ses false =
    true)) ∧ s.domKept (selDie k) (unitDomain r.scope (selUnit k)) = true :=
  ⟨reqOfHead (headOf 12 6 6) resetSeq,
    2,
    ⟨Obj.SEQ_COMMAND, .u8, .wo, false, 10, 0⟩,
    { landAt (headOf 12 6 6) resetSeq with power := [(36, ⟨.s0⟩)], seqs := [(2, { run := .running })] }, by decide +kernel⟩

theorem witness_power_up_and_resets_13 : ∃ (q : Req) (k : Nat) (r : ObjRow) (s : State), headIs s .resetUnit q = true
    ∧ newInSession s q = true ∧ q.field 0 1 = 0 ∧ k = q.objSel 1 ∧ s.object (q.objId 1) k = some r ∧ (r.scope = 4 ∨ (6
    ≤ r.scope ∧ r.scope ≤ 18 ∧ r.scope ≠ 11 ∧ r.scope ≠ 12)) ∧ ((r.scope = 16 → s.mayConfigure k q.h.ses false =
    true)) ∧ s.domKept (selDie k) (unitDomain r.scope (selUnit k)) = false :=
  ⟨reqOfHead (headOf 12 6 6) resetSeq,
    2,
    ⟨Obj.SEQ_COMMAND, .u8, .wo, false, 10, 0⟩,
    landAt (headOf 12 6 6) resetSeq, by decide +kernel⟩

theorem witness_power_up_and_resets_14 : ∃ (q : Req) (r : ObjRow) (s : State), headIs s .resetDie q = true ∧
    newInSession s q = true ∧ s.object (q.objId 1) (q.objSel 1) = some r ∧ s.isAdmin q.h.ses = true ∧ ((selDie
    (q.objSel 1) = 0 → s.mayReset = true)) :=
  ⟨reqOfHead (headOf 12 6 6) (resetAt 1 32),
    ⟨Obj.SEQ_COMMAND, .u8, .wo, false, 10, 0⟩,
    { landWith (boundSession true) (headOf 12 6 6) (resetAt 1 32) with dies := [(0, { booted := true }), (1, { booted := true })] }, by decide +kernel⟩

theorem witness_power_up_and_resets_15 : ∃ (q : Req) (r : ObjRow) (s : State), headIs s .resetDevice q = true ∧
    newInSession s q = true ∧ s.object (q.objId 1) (q.objSel 1) = some r ∧ s.isAdmin q.h.ses = true ∧ s.mayReset =
    true :=
  ⟨reqOfHead (headOf 12 6 6) (resetAt 2 0),
    ⟨Obj.SEQ_COMMAND, .u8, .wo, false, 10, 0⟩,
    landWith (boundSession true) (headOf 12 6 6) (resetAt 2 0), by decide +kernel⟩

theorem witness_power_up_and_resets_16 : ∃ (c : Instr) (kind : ReqKind) (q : Req) (r : ObjRow) (s : State), ((c =
    .resetDie ∧ kind = .resetDie) ∨ (c = .resetDevice ∧ kind = .resetDevice)) ∧ headIs s kind q = true ∧ newInSession
    s q = true ∧ s.object (q.objId 1) (q.objSel 1) = some r ∧ s.isAdmin q.h.ses = false :=
  ⟨.resetDie,
    .resetDie,
    reqOfHead (headOf 12 6 6) (resetAt 1 0),
    ⟨Obj.SEQ_COMMAND, .u8, .wo, false, 10, 0⟩,
    landAt (headOf 12 6 6) (resetAt 1 0), by decide +kernel⟩

theorem witness_power_up_and_resets_17 : ∃ (e : Nat) (s : State), s.shut.stop = some (e, .resetDevice) ∧ e ≤ s.cyc :=
  ⟨0, { landAt (headOf 3 6 0) [] with shut := { stop := some (0, .resetDevice) } }, by decide⟩

theorem witness_power_up_and_resets_18 : ∃ (e d : Nat) (s : State), s.shut.stop = some (e, .resetDie d) ∧ e ≤ s.cyc ∧
    d < s.member.dies :=
  ⟨0, 1, { landAt (headOf 3 6 0) [] with shut := { stop := some (0, .resetDie 1) } }, by decide⟩

theorem witness_power_up_and_resets_19 : ∃ (e : Nat) (kind : StopKind) (s : State), s.shut.stop = some (e, kind) ∧
    s.cyc < e :=
  ⟨5, .resetDie 1, { landAt (headOf 3 6 0) [] with shut := { stop := some (5, .resetDie 1) } }, by decide⟩

theorem witness_power_up_and_resets_21 : ∃ (straps : BitVec 8) (store : StoreRead) (s : State), s.landing.resetLow =
    true ∧ s.shut.brown = false ∧ s.refclkHolds = true :=
  ⟨0x21, {}, { State.reset with landing := { resetLow := true } }, by decide⟩

theorem witness_power_up_and_resets_22 : ∃ (d : Nat) (s : State), d < s.member.dies ∧ (s.die d).booted = true :=
  ⟨0, landAt (headOf 3 6 0) [], by decide⟩

theorem witness_power_up_and_resets_12b : ∃ (q : Req) (k : Nat) (r : ObjRow) (s : State), headIs s .resetUnit q = true
    ∧ newInSession s q = true ∧ q.field 0 1 = 0 ∧ k = q.objSel 1 ∧ s.object (q.objId 1) k = some r ∧ (r.scope = 4 ∨ (6
    ≤ r.scope ∧ r.scope ≤ 18 ∧ r.scope ≠ 11 ∧ r.scope ≠ 12)) ∧ ((r.scope = 16 → s.mayConfigure k q.h.ses false =
    true)) ∧ s.domKept (selDie k) (unitDomain r.scope (selUnit k)) = true :=
  ⟨reqOfHead (headOf 12 6 6) resetChan,
    2,
    ⟨Obj.CHAN_CONFIG, .u32, .rw, false, 16, 0⟩,
    { landAt (headOf 12 6 6) resetChan with chans := [(2, { owner := some 3 })], power := [(3, ⟨.s0⟩)] }, by decide +kernel⟩

theorem witness_network_layer_1 : ∃ (port : Nat) (w : Word) (s : State), s.portPowered port = true ∧ s.ethUp port =
    false ∧ s.scanning = false ∧ w = s.rd Obj.IPV4_CONFIG (sel port 0) :=
  ⟨1,
    ((1 : Word) <<< 70 ||| (7 : Word) <<< 38 ||| 24 <<< 32 ||| 9),
    { (State.reset.wr Obj.IPV4_CONFIG (sel 1 0) ((1 : Word) <<< 70 ||| (7 : Word) <<< 38 ||| 24 <<< 32 ||| 9)) with dies := [(1, { plls := 1 })] }, by decide +kernel⟩

theorem witness_network_layer_1b : ∃ (port : Nat) (w : Word) (s : State), s.portPowered port = true ∧ s.ethUp port =
    false ∧ s.scanning = false ∧ w = s.rd Obj.IPV4_CONFIG (sel port 0) :=
  ⟨0,
    2 <<< 70,
    { (State.reset.wr Obj.IPV4_CONFIG 0 ((2 : Word) <<< 70)) with dies := [(0, { plls := 1 })] }, by decide +kernel⟩

theorem witness_network_layer_2 : ∃ (port : Nat) (s : State), (s.portPowered port = false ∨ s.ethUp port = true ∨
    s.scanning = true) :=
  ⟨0, State.reset, by decide⟩

theorem witness_network_layer_3 : ∃ (port : Nat) (f : EthFrame) (s : State), s.ethUp port = false :=
  ⟨0, ⟨64, none, .served, 3, 0⟩, State.reset, by decide⟩

theorem witness_network_layer_4 : ∃ (port : Nat) (m : DhcpMsg) (s : State), ((s.eth port).up = false ∨ s.ipv4Mode port
    ≠ 2) :=
  ⟨0, .nak, State.reset, by decide⟩

theorem witness_network_layer_5 : ∃ (port : Nat) (s : State), (s.eth port).lease = none :=
  ⟨0, State.reset, by decide⟩

theorem witness_network_layer_6 : ∃ (port : Nat) (s : State), (s.eth port).lease = none :=
  ⟨0, State.reset, by decide⟩

theorem witness_network_layer_7 : ∃ (port : Nat) (s : State), (s.eth port).lease = none :=
  ⟨0, State.reset, by decide⟩

theorem witness_network_layer_8 : ∃ (port : Nat) (m : ArpMsg) (s : State), ((s.eth port).ipv4 = none ∨ s.ethUp port =
    false) :=
  ⟨0, ⟨3, 4, 9⟩, State.reset, by decide⟩

theorem witness_network_layer_9 : ∃ (port : Nat) (m : EchoMsg) (s : State), (s.ethUp port = false ∨ s.rdN Obj.MTU (sel
    port 0) < m.len) :=
  ⟨0, ⟨false, 3, 0xFFFF00000009, 64⟩, State.reset, by decide⟩

theorem witness_network_layer_10 : ∃ (port : Nat) (s : State), port < 2 :=
  ⟨1, portUp {}, by decide⟩

theorem witness_network_layer_11 : ∃ (port : Nat) (f : EthFrame) (s : State), s.ethUp port = true ∧ f.uncorrected = 0
    ∧ 64 ≤ f.len ∧ f.len ≤ 9216 ∧ vlanFits s port f = true ∧ (f.body = .served ∨ f.body = .otherIcmp) :=
  ⟨0, ⟨64, none, .served, 3, 0⟩, portUp {}, by decide⟩

theorem witness_network_layer_12 : ∃ (port : Nat) (f : EthFrame) (s : State), s.ethUp port = true ∧ (0 < f.uncorrected
    ∨ f.len < 64 ∨ 9216 < f.len ∨ vlanFits s port f = false ∨ f.body ∈ [FrameBody.macControl, .badChecksum false,
    .otherPort, .fragment, .otherEthertype]) :=
  ⟨0, ⟨64, some 5, .served, 3, 0⟩, portUp {}, by decide⟩

theorem witness_network_layer_12b : ∃ (port : Nat) (f : EthFrame) (s : State), s.ethUp port = true ∧ (0 <
    f.uncorrected ∨ f.len < 64 ∨ 9216 < f.len ∨ vlanFits s port f = false ∨ f.body ∈ [FrameBody.macControl,
    .badChecksum false, .otherPort, .fragment, .otherEthertype]) :=
  ⟨0, ⟨64, none, .macControl, 3, 0⟩, portUp {}, by decide⟩

theorem witness_network_layer_12c : ∃ (port : Nat) (f : EthFrame) (s : State), s.ethUp port = true ∧ (0 <
    f.uncorrected ∨ f.len < 64 ∨ 9216 < f.len ∨ vlanFits s port f = false ∨ f.body ∈ [FrameBody.macControl,
    .badChecksum false, .otherPort, .fragment, .otherEthertype]) :=
  ⟨0, ⟨64, none, .served, 3, 2⟩, portUp {}, by decide⟩

theorem witness_network_layer_13 : ∃ (port : Nat) (f : EthFrame) (s : State), s.ethUp port = true ∧ f.uncorrected = 0
    ∧ 64 ≤ f.len ∧ f.len ≤ 9216 ∧ vlanFits s port f = true ∧ f.body = .badChecksum true :=
  ⟨0, ⟨64, none, .badChecksum true, 3, 0⟩, portUp {}, by decide⟩

theorem witness_network_layer_14 : ∃ (port : Nat) (addr server : BitVec 32) (s : State), (s.eth port).up = true ∧
    s.ipv4Mode port = 2 ∧ (s.eth port).dhcp = .selecting :=
  ⟨0, 5, 6, dhcpAt .selecting, by decide +kernel⟩

theorem witness_network_layer_15 : ∃ (port pfx lease : Nat) (addr gw server : BitVec 32) (s : State), (s.eth port).up
    = true ∧ s.ipv4Mode port = 2 ∧ ((s.eth port).dhcp = .requesting ∨ (s.eth port).dhcp = .renewing ∨ (s.eth
    port).dhcp = .rebinding) :=
  ⟨0, 24, 100, 5, 6, 7, dhcpAt .requesting, by decide +kernel⟩

theorem witness_network_layer_16 : ∃ (port : Nat) (s : State), (s.eth port).up = true ∧ s.ipv4Mode port = 2 ∧ ((s.eth
    port).dhcp = .requesting ∨ (s.eth port).dhcp = .renewing ∨ (s.eth port).dhcp = .rebinding) :=
  ⟨0, dhcpAt .rebinding, by decide +kernel⟩

theorem witness_network_layer_17 : ∃ (port c lease : Nat) (s : State), (s.eth port).up = true ∧ (s.eth port).dhcp =
    .bound ∧ (s.eth port).lease = some (c, lease) ∧ c + lease * 625000000 ≤ s.cyc :=
  ⟨0, 0, 2, leased .bound 1250000000, by decide⟩

theorem witness_network_layer_18 : ∃ (port c lease : Nat) (s : State), (s.eth port).up = true ∧ ((s.eth port).dhcp =
    .bound ∨ (s.eth port).dhcp = .renewing) ∧ (s.eth port).lease = some (c, lease) ∧ c ≤ s.cyc ∧ lease * 8750000000 ≤
    (s.cyc - c) * 8 :=
  ⟨0, 0, 2, leased .renewing 2187500000, by decide⟩

theorem witness_network_layer_19 : ∃ (port c lease : Nat) (s : State), (s.eth port).lease = some (c, lease) ∧ c +
    lease * 1250000000 ≤ s.cyc :=
  ⟨0, 0, 2, leased .rebinding 2500000000, by decide⟩

theorem witness_network_layer_20 : ∃ (port : Nat) (m : ArpMsg) (a : Ipv4) (s : State), (s.eth port).ipv4 = some a ∧
    s.ethUp port = true :=
  ⟨0, ⟨3, 4, 9⟩, ⟨2, 9, 24, 1⟩, leased .bound 0, by decide⟩

theorem witness_network_layer_21 : ∃ (port : Nat) (m : ArpMsg) (a : Ipv4) (s : State), (s.eth port).up = true ∧ (s.eth
    port).ipv4 = some a ∧ a.addr = m.sender :=
  ⟨0, ⟨9, 4, 3⟩, ⟨2, 9, 24, 1⟩, leased .bound 0, by decide⟩

theorem witness_network_layer_22 : ∃ (port : Nat) (m : ArpMsg) (s : State), (s.eth port).up = true ∧ (∀ a ∈ (s.eth
    port).ipv4.toList, a.addr ≠ m.sender) ∧ ((s.eth port).neighbours.filter (fun n : BitVec 32 × BitVec 48 × Nat =>
    n.1 != m.sender)).length < 256 :=
  ⟨0, ⟨5, 4, 3⟩, portUp { neighbours := [(4, 1, 0), (5, 2, 0)] }, by decide⟩

theorem witness_network_layer_23 : ∃ (port : Nat) (m : ArpMsg) (s : State), (∀ a ∈ (s.eth port).ipv4.toList, a.addr ≠
    m.sender) ∧ 256 ≤ ((s.eth port).neighbours.filter (fun n : BitVec 32 × BitVec 48 × Nat => n.1 != m.sender)).length
    :=
  ⟨0,
    ⟨500, 4, 3⟩,
    portUp { neighbours := (List.range 256).map (fun i => (BitVec.ofNat 32 i, 1, 0)) }, by decide +kernel⟩

theorem witness_network_layer_25 : ∃ (port : Nat) (m : EchoMsg) (s : State), s.ethUp port = true ∧ m.len ≤ s.rdN
    Obj.MTU (sel port 0) ∧ ((m.v6 = true ∧ m.dst ∈ s.ipv6Addrs port) ∨ (m.v6 = false ∧ ∃ a ∈ (s.eth port).ipv4.toList,
    m.dst = (0xFFFF : BitVec 96) ++ a.addr)) :=
  ⟨0, ⟨false, 3, 0xFFFF00000009, 64⟩, leased .bound 0, by decide⟩

theorem witness_network_layer_26 : ∃ (port : Nat) (m : NsMsg) (s : State), s.ethUp port = true :=
  ⟨0, ⟨3, 0xFE800000000000000200000000000000⟩, portUp {}, by decide⟩

theorem witness_network_layer_27 : ∃ (port obj : Nat) (v : Word) (s : State), port < 2 ∧ obj ∈ [Obj.PHY_MODE,
    Obj.VLAN, Obj.MTU] ∧ netBad obj [v] = false :=
  ⟨1, Obj.PHY_MODE, 2, portUp {}, by decide⟩

theorem witness_network_layer_27b : ∃ (port obj : Nat) (v : Word) (s : State), port < 2 ∧ obj ∈ [Obj.PHY_MODE,
    Obj.VLAN, Obj.MTU] ∧ netBad obj [v] = false :=
  ⟨0, Obj.MTU, 1500, portUp {}, by decide⟩

theorem witness_network_layer_28 : ∃ (port : Nat) (v : Word) (s : State), port < 2 ∧ bits v 71 70 ≤ 2 ∧ bits v 37 32 ≤
    32 :=
  ⟨0, ((1 : Word) <<< 70 ||| (7 : Word) <<< 38), portUp {}, by decide⟩

theorem witness_network_layer_29 : ∃ (port : Nat) (v a b c : Word) (s : State), port < 2 ∧ bits v 71 70 ≤ 2 ∧ bits v
    69 62 ≤ 128 ∧ bits v 61 40 = 0 :=
  ⟨0, (2 : Word) <<< 70, 5, 6, 7, portUp {}, by decide +kernel⟩

theorem witness_network_layer_30 : ∃ (port obj : Nat) (ws : List Word) (s : State), (2 ≤ port ∨ netBad obj ws = true)
    :=
  ⟨0, Obj.MTU, [1501], portUp {}, by decide⟩

theorem witness_sleep_and_wake_1 : ∃ (c : Instr) (want : Nat) (v : Word) (s : State), (c, want) ∈ [(.sleepS1 v, 1),
    (.sleepS2 v, 2), (.sleepS3 v, 3), (.sleepStandby v, 4)] ∧ s.sleepBad want (sleepTarget v) (sleepUnit v) = false ∧
    s.sleep.result ≠ 1 ∧ s.isShut = false ∧ ((want = 3 → selDie (sleepUnit v) ≠ 0)) :=
  ⟨.sleepS2 (sleepWord 2 5 2), 2, sleepWord 2 5 2, withDomains [0, 36], by decide +kernel⟩

theorem witness_sleep_and_wake_1b : ∃ (c : Instr) (want : Nat) (v : Word) (s : State), (c, want) ∈ [(.sleepS1 v, 1),
    (.sleepS2 v, 2), (.sleepS3 v, 3), (.sleepStandby v, 4)] ∧ s.sleepBad want (sleepTarget v) (sleepUnit v) = false ∧
    s.sleep.result ≠ 1 ∧ s.isShut = false ∧ ((want = 3 → selDie (sleepUnit v) ≠ 0)) :=
  ⟨.sleepStandby (sleepWord 4 0 0), 4, sleepWord 4 0 0, withDomains [0, 36], by decide +kernel⟩

theorem witness_sleep_and_wake_2 : ∃ (v : Word) (s : State), s.sleepBad 3 (sleepTarget v) (sleepUnit v) = false ∧
    s.sleep.result ≠ 1 ∧ s.isShut = false ∧ selDie (sleepUnit v) = 0 :=
  ⟨sleepWord 3 0 0, withDomains [0], by decide +kernel⟩

theorem witness_sleep_and_wake_3 : ∃ (c : Instr) (want : Nat) (v : Word) (s : State), (c, want) ∈ (.sleepS0 v, 0) ::
    sleepRows v ∧ s.sleepBad want (sleepTarget v) (sleepUnit v) = false ∧ (s.sleep.result = 1 ∨ s.isShut = true) :=
  ⟨.sleepS1 (sleepWord 1 5 2),
    1,
    sleepWord 1 5 2,
    { withDomains [0, 36] with sleep := { result := 1 } }, by decide +kernel⟩

theorem witness_sleep_and_wake_4 : ∃ (c : Instr) (want : Nat) (v : Word) (s : State), (c, want) ∈ (.sleepS0 v, 0) ::
    sleepRows v ∧ s.sleepBad want (sleepTarget v) (sleepUnit v) = true :=
  ⟨.sleepS3 (sleepWord 3 5 2), 3, sleepWord 3 5 2, withDomains [0], by decide +kernel⟩

theorem witness_sleep_and_wake_5 : ∃ (d n : Nat) (v : Word) (s : State), s.sleepBad 0 (sleepTarget v) (sleepUnit v) =
    false ∧ s.sleep.result ≠ 1 ∧ s.isShut = false ∧ sleepTarget v ≠ 0 ∧ d = selDie (sleepUnit v) ∧ n = targetDomain
    (sleepTarget v) (selUnit (sleepUnit v)) ∧ (s.die d).s3 = false ∧ s.domOn d n = false ∧ ((∀ w ∈ s.sleep.wakes, ¬
    (w.target = sleepTarget v ∧ w.selector = sleepUnit v))) :=
  ⟨0, 36, sleepWord 0 5 2, withDomains [0], by decide +kernel⟩

theorem witness_sleep_and_wake_6 : ∃ (d n : Nat) (v : Word) (s : State), s.sleepBad 0 (sleepTarget v) (sleepUnit v) =
    false ∧ s.sleep.result ≠ 1 ∧ s.isShut = false ∧ sleepTarget v ≠ 0 ∧ d = selDie (sleepUnit v) ∧ n = targetDomain
    (sleepTarget v) (selUnit (sleepUnit v)) ∧ ((s.die d).s3 = true ∨ s.domOn d n = true) :=
  ⟨0, 36, sleepWord 0 5 2, withDomains [0, 36], by decide +kernel⟩

theorem witness_sleep_and_wake_7 : ∃ (d : Nat) (v : Word) (s : State), s.sleepBad 0 (sleepTarget v) (sleepUnit v) =
    false ∧ s.sleep.result ≠ 1 ∧ s.isShut = false ∧ sleepTarget v = 0 ∧ d = selDie (sleepUnit v) ∧ ((d = 0 →
    s.sleep.standby = false)) ∧ (∀ w ∈ s.sleep.wakes, w.target ≠ 0) :=
  ⟨1, sleepWord 0 0 (sel 1 0), { withDomains [0] with dies := [(1, { s3 := true })] }, by decide +kernel⟩

theorem witness_sleep_and_wake_8 : ∃ (v : Word) (s : State), s.sleepBad 0 (sleepTarget v) (sleepUnit v) = false ∧
    s.sleep.result ≠ 1 ∧ s.isShut = false ∧ sleepTarget v = 0 ∧ selDie (sleepUnit v) = 0 ∧ (s.die 0).s3 = false ∧
    s.sleep.standby = true ∧ (∀ w ∈ s.sleep.wakes, w.target ≠ 0) :=
  ⟨sleepWord 0 0 0, { withDomains [0] with sleep := { standby := true } }, by decide +kernel⟩

theorem witness_sleep_and_wake_9 : ∃ (d l : Nat) (s : State), (s.die d).s3 = true ∧ s.rdN Obj.FERRY_WAKE (sel d 0) % 2
    = 1 ∧ s.isShut = false ∧ ((∀ w ∈ s.sleep.wakes, w.target ≠ 0 ∨ w.selector ≠ sel d 0)) :=
  ⟨1,
    2,
    { (withDomains [0]).wrN Obj.FERRY_WAKE (sel 1 0) 1 with dies := [(1, { s3 := true })] }, by decide +kernel⟩

theorem witness_sleep_and_wake_10 : ∃ (d l : Nat) (s : State), (s.die d).s3 = true ∧ s.rdN Obj.FERRY_WAKE (sel d 0) %
    2 = 0 :=
  ⟨1,
    2,
    { (withDomains [0]).wrN Obj.FERRY_WAKE (sel 1 0) 0 with dies := [(1, { s3 := true })] }, by decide +kernel⟩

theorem witness_sleep_and_wake_11 : ∃ (d l : Nat) (e : SleepEntry) (s : State), (s.die d).s3 = false ∧ l < 4 ∧ s.domOn
    d domFerry = true ∧ (s.lane (sel d l)).rx = RxState.sleep ∧ s.rdN Obj.FERRY_WAKE (sel d 0) % 2 = 1 ∧ s.sleep.entry
    = some e ∧ (d, 1) ∈ e.domains :=
  ⟨0,
    1,
    { entryOf 4 1 5 [] false with domains := [(0, 1)] },
    { (ferryAt { rx := .sleep } {}).wrN Obj.FERRY_WAKE 0 1 with sleep := { entry := some { entryOf 4 1 5 [] false with domains := [(0, 1)] } } }, by decide +kernel⟩

theorem witness_sleep_and_wake_12 : ∃ (d n : Nat) (w : WakeJob) (v : Word) (s : State), s.sleepBad 0 (sleepTarget v)
    (sleepUnit v) = false ∧ s.sleep.result ≠ 1 ∧ s.isShut = false ∧ sleepTarget v ≠ 0 ∧ d = selDie (sleepUnit v) ∧ n =
    targetDomain (sleepTarget v) (selUnit (sleepUnit v)) ∧ (s.die d).s3 = false ∧ s.domOn d n = false ∧ s.sleep.wakes
    = [w] ∧ w.target = sleepTarget v ∧ w.selector = sleepUnit v :=
  ⟨0,
    36,
    ⟨5, 2, 90, 0⟩,
    sleepWord 0 5 2,
    { withDomains [0] with sleep := { wakes := [⟨5, 2, 90, 0⟩] } }, by decide +kernel⟩

theorem witness_sleep_and_wake_13 : ∃ (s : State), s.sleep.entry = none :=
  ⟨withDomains [0], by decide⟩

theorem witness_sleep_and_wake_14 : ∃ (e : SleepEntry) (s : State), s.sleep.entry = some e ∧ s.cyc < e.due :=
  ⟨entryOf 2 1 5 [(0, 36)] false, entering (entryOf 2 1 5 [(0, 36)] false) 4, by decide⟩

theorem witness_sleep_and_wake_15 : ∃ (e : SleepEntry) (s : State), s.sleep.entry = some e ∧ e.due ≤ s.cyc ∧ e.woken =
    true :=
  ⟨entryOf 2 2 5 [(0, 36)] true, entering (entryOf 2 2 5 [(0, 36)] true) 5, by decide⟩

theorem witness_sleep_and_wake_16 : ∃ (e : SleepEntry) (u : Nat × Nat) (s : State), entryAt s e 1 = true ∧ (∃ p ∈
    e.domains, s.refuser e.want p.1 p.2 = some u) ∧ ((∀ p ∈ e.domains, ∀ x ∈ (s.refuser e.want p.1 p.2).toList, u.1 <
    x.1 ∨ (u.1 = x.1 ∧ u.2 ≤ x.2))) :=
  ⟨entryOf 2 1 5 [(0, 36)] false,
    (5, 2),
    { entering (entryOf 2 1 5 [(0, 36)] false) 5 with seqs := [(2, { run := .running })] }, by decide +kernel⟩

theorem witness_sleep_and_wake_17 : ∃ (e : SleepEntry) (s : State), entryAt s e 1 = true ∧ (∀ p ∈ e.domains, s.refuser
    e.want p.1 p.2 = none) :=
  ⟨entryOf 2 1 5 [(0, 36)] false, entering (entryOf 2 1 5 [(0, 36)] false) 5, by decide +kernel⟩

theorem witness_sleep_and_wake_18 : ∃ (e : SleepEntry) (s : State), entryAt s e 2 = true :=
  ⟨entryOf 2 2 5 [(0, 36)] false, entering (entryOf 2 2 5 [(0, 36)] false) 5, by decide +kernel⟩

theorem witness_sleep_and_wake_19 : ∃ (e : SleepEntry) (s : State), entryAt s e 3 = true ∧ e.want ≠ 1 :=
  ⟨entryOf 2 3 5 [(0, 36)] false, entering (entryOf 2 3 5 [(0, 36)] false) 5, by decide +kernel⟩

theorem witness_sleep_and_wake_20 : ∃ (e : SleepEntry) (d n : Nat) (s : State), ((entryAt s e 3 = true ∧ e.want = 1) ∨
    (entryAt s e 4 = true ∧ e.want = 2)) ∧ e.domains = [(d, n)] ∧ n < 128 :=
  ⟨entryOf 2 4 5 [(0, 36)] false, 0, 36, entering (entryOf 2 4 5 [(0, 36)] false) 5, by decide +kernel⟩

theorem witness_sleep_and_wake_20b : ∃ (e : SleepEntry) (d n : Nat) (s : State), ((entryAt s e 3 = true ∧ e.want = 1)
    ∨ (entryAt s e 4 = true ∧ e.want = 2)) ∧ e.domains = [(d, n)] ∧ n < 128 :=
  ⟨entryOf 1 3 5 [(0, 36)] false, 0, 36, entering (entryOf 1 3 5 [(0, 36)] false) 5, by decide +kernel⟩

theorem witness_sleep_and_wake_21 : ∃ (e : SleepEntry) (d : Nat) (s : State), entryAt s e 4 = true ∧ e.want = 3 ∧ d =
    selDie e.selector :=
  ⟨{ entryOf 3 4 5 [] false with selector := sel 1 0 },
    1,
    entering { entryOf 3 4 5 [] false with selector := sel 1 0 } 5, by decide +kernel⟩

theorem witness_sleep_and_wake_22 : ∃ (e : SleepEntry) (s : State), entryAt s e 4 = true ∧ e.want = 4 :=
  ⟨entryOf 4 4 5 [] false, entering (entryOf 4 4 5 [] false) 5, by decide +kernel⟩

theorem witness_sleep_and_wake_23 : ∃ (target k d n result : Nat) (rest : List WakeJob) (s : State), wakeDue s target
    k result rest ∧ target ≠ 0 ∧ d = selDie k ∧ n = targetDomain target (selUnit k) ∧ n < 128 :=
  ⟨5,
    2,
    0,
    36,
    2,
    [⟨5, 3, 90, 2⟩],
    waking [⟨5, 2, 100, 2⟩, ⟨5, 3, 90, 2⟩], ⟨⟨⟨5, 2, 100, 2⟩, by decide, by decide, by decide +kernel⟩, by decide, by decide, by decide, by decide⟩⟩

theorem witness_sleep_and_wake_24 : ∃ (k d result : Nat) (rest : List WakeJob) (s : State), wakeDue s 0 k result rest
    ∧ d = selDie k ∧ d ≠ 0 :=
  ⟨sel 1 0,
    1,
    2,
    [],
    waking [⟨0, sel 1 0, 100, 2⟩], ⟨⟨⟨0, sel 1 0, 100, 2⟩, by decide, by decide, by decide +kernel⟩, by decide, by decide⟩⟩

theorem witness_sleep_and_wake_25 : ∃ (k result : Nat) (rest : List WakeJob) (s : State), wakeDue s 0 k result rest ∧
    selDie k = 0 :=
  ⟨0, 5, [], waking [⟨0, 0, 100, 5⟩], ⟨⟨⟨0, 0, 100, 5⟩, by decide, by decide, by decide +kernel⟩, by decide⟩⟩

theorem witness_sleep_and_wake_26 : ∃ (target k : Nat) (s : State), ((∀ w ∈ s.sleep.wakes, w.target = target →
    w.selector = k → s.cyc < w.due)) :=
  ⟨5, 2, waking [⟨5, 2, 101, 2⟩, ⟨5, 3, 90, 2⟩], by decide⟩

theorem witness_sleep_and_wake_27 : ∃ (x : TimedWake) (rest : List TimedWake) (d n : Nat) (s : State), s.sleep.timers
    = x :: rest ∧ x.time ≤ s.now ∧ x.target ≠ 0 ∧ s.sleep.entry = none ∧ s.isShut = false ∧ d = selDie x.selector ∧ n
    = targetDomain x.target (selUnit x.selector) ∧ (s.die d).s3 = false ∧ ((∀ w ∈ s.sleep.wakes, ¬ (w.target =
    x.target ∧ w.selector = x.selector))) :=
  ⟨⟨20, 5, 5, 2⟩, [], 0, 36, { waking [] with sleep := { timers := [⟨20, 5, 5, 2⟩] } }, by decide +kernel⟩

theorem witness_sleep_and_wake_28 : ∃ (s : State), (∀ x ∈ s.sleep.timers, s.now < x.time) :=
  ⟨{ waking [] with sleep := { timers := [⟨20, 20, 5, 2⟩] } }, by decide +kernel⟩

theorem witness_sleep_and_wake_29 : ∃ (port : Nat) (e : SleepEntry) (s : State), port < 2 ∧ s.sleep.entry = some e ∧
    e.want = 4 ∧ s.sleep.standby = false :=
  ⟨1, entryOf 4 1 5 [] false, entering (entryOf 4 1 5 [] false) 5, by decide⟩

theorem witness_sleep_and_wake_30 : ∃ (port : Nat) (s : State), port < 2 ∧ s.sleep.standby = true ∧ s.isShut = false
    :=
  ⟨1, { waking [] with sleep := { standby := true, stood := [1] }, dies := [(1, { s3 := true })] }, by decide⟩

theorem witness_sleep_and_wake_31 : ∃ (port : Nat) (s : State), (2 ≤ port ∨ ((∀ e ∈ s.sleep.entry.toList, e.want ≠ 4)
    ∧ s.sleep.standby = false)) :=
  ⟨1, waking [], by decide⟩

theorem witness_housekeeping_and_shutdown_1 : ∃ (d : Nat) (readings : List Int) (s : State), (s.domOn d 4 = false ∨
    s.cyc < (s.die d).hkEnd) :=
  ⟨0, [], withTime [0] 100, by decide⟩

theorem witness_housekeeping_and_shutdown_2 : ∃ (d : Nat) (readings : List Int) (ys : List Sensor) (s : State),
    s.domOn d 4 = true ∧ (s.die d).hkEnd ≤ s.cyc ∧ ys = hkSensors s d readings ∧ s.shut.st = .running :=
  ⟨0, hotReadings, hkSensors (hkAt 3) 0 hotReadings, hkAt 3, ⟨by decide, by decide, rfl, by decide⟩⟩

theorem witness_housekeeping_and_shutdown_2b : ∃ (d : Nat) (readings : List Int) (ys : List Sensor) (s : State),
    s.domOn d 4 = true ∧ (s.die d).hkEnd ≤ s.cyc ∧ ys = hkSensors s d readings ∧ s.shut.st = .running :=
  ⟨0,
    List.replicate 58 2500,
    hkSensors (hkAt 0) 0 (List.replicate 58 2500),
    hkAt 0, ⟨by decide, by decide, rfl, by decide⟩⟩

theorem witness_housekeeping_and_shutdown_3 : ∃ (d : Nat) (s : State), s.railNow d ≠ (s.die d).railTo :=
  ⟨0, { withTime [0] 100 with dies := [(0, { railFrom := 700, railTo := 900, railAt := 50 })] }, by decide +kernel⟩

theorem witness_housekeeping_and_shutdown_4 : ∃ (d u : Nat) (r : EpochReq) (s : State), s.railNow d = (s.die d).railTo
    ∧ d < s.member.dies ∧ u < 9 ∧ s.pendingEpoch d 2 (d * 9 + u) = some r ∧ s.unitRetired 2 (d * 9 + u) = false ∧
    s.atBoundary 2 d u = true ∧ s.railAllows 2 d u r = true ∧ ((∀ v < 9, v ≠ u → s.pendingEpoch d 2 (d * 9 + v) =
    none)) ∧ (∀ v < 9, s.pendingEpoch d 3 (d * 30 + 20 + v) = none) :=
  ⟨0,
    8,
    ⟨2, 1, 1, 1⟩,
    { withTime [0] 100 with epochs := [(2, ⟨1, [(0, ⟨2, 1, 1, 1⟩)]⟩)], applied := (List.range 8).map (fun v => (applKey 2 v, { pub := [(0, 1)] })), dies := [(0, { railFrom := 900, railTo := 900 })] }, by decide +kernel⟩

theorem witness_housekeeping_and_shutdown_5 : ∃ (d : Nat) (s : State), (∀ v < 9, s.pendingEpoch d 2 (d * 9 + v) =
    none) ∧ (∀ v < 9, s.pendingEpoch d 3 (d * 30 + 20 + v) = none) :=
  ⟨0, withTime [0] 100, by decide⟩

theorem witness_housekeeping_and_shutdown_6 : ∃ (d sensor : Nat) (s : State), sensor < 6 ∧ d < s.member.dies ∧ ((s.die
    d).sensors.getD sensor {}).broken = false ∧ s.isShut = false :=
  ⟨0, 5, landAt (headOf 3 6 0) [], by decide⟩

theorem witness_housekeeping_and_shutdown_7 : ∃ (d sensor : Nat) (s : State), (((s.die d).sensors.getD sensor
    {}).broken = true ∨ s.isShut = true) :=
  ⟨0, 0, { State.reset with dies := [(0, { sensors := [{ broken := true }] })] }, by decide⟩

theorem witness_housekeeping_and_shutdown_8 : ∃ (d : Nat) (s : State), s.isShut = false :=
  ⟨1, { landAt (headOf 3 6 0) [] with shut := { st := .window, cause := 5 } }, by decide⟩

theorem witness_housekeeping_and_shutdown_10 : ∃ (d : Nat) (s : State), s.isShut = true :=
  ⟨1, { State.reset with shut := { st := .ready } }, by decide⟩

theorem witness_housekeeping_and_shutdown_11 : ∃ (s : State), s.isShut = false ∧ s.shut.stop = none ∧ (∀ c ∈
    s.shut.waiting, c.kind ≠ StopKind.shutdown) :=
  ⟨State.reset, by decide⟩

theorem witness_housekeeping_and_shutdown_12 : ∃ (s : State), (s.isShut = true ∨ s.shut.stop.isSome = true ∨ (∃ c ∈
    s.shut.waiting, c.kind = .shutdown)) :=
  ⟨{ State.reset with shut := { stop := some (5, .resetDevice) } }, by decide⟩

theorem witness_housekeeping_and_shutdown_13 : ∃ (s : State), (∀ c ∈ s.shut.waiting, s.cyc < c.signal) :=
  ⟨{ State.reset with shut := { waiting := [⟨64, 5, 0, 9, .shutdown⟩] } }, by decide⟩

theorem witness_housekeeping_and_shutdown_14 : ∃ (c : StopCause) (s : State), s.shut.waiting = [c] ∧ c.signal ≤ s.cyc
    ∧ c.kind = .shutdown ∧ s.shut.stop = none :=
  ⟨⟨64, 5, 0, 9, .shutdown⟩, stopping { waiting := [⟨64, 5, 0, 9, .shutdown⟩] }, by decide⟩

theorem witness_housekeeping_and_shutdown_15 : ∃ (c : StopCause) (e : Nat) (s : State), s.shut.waiting = [c] ∧
    c.signal ≤ s.cyc ∧ c.kind = .shutdown ∧ s.shut.stop = some (e, .shutdown) :=
  ⟨⟨64, 3, 0, 9, .shutdown⟩,
    99,
    stopping { st := .window, cause := 5, waiting := [⟨64, 3, 0, 9, .shutdown⟩], stop := some (99, .shutdown) }, by decide⟩

theorem witness_housekeeping_and_shutdown_16 : ∃ (e : Nat) (s : State), s.shut.stop = some (e, .shutdown) ∧ e ≤ s.cyc
    :=
  ⟨99, stopping { st := .window, cause := 5, stop := some (99, .shutdown) }, by decide⟩

theorem witness_housekeeping_and_shutdown_16b : ∃ (e : Nat) (s : State), s.shut.stop = some (e, .shutdown) ∧ e ≤ s.cyc
    :=
  ⟨99, stopping { st := .window, cause := 3, stop := some (99, .shutdown), brown := true }, by decide⟩

theorem witness_housekeeping_and_shutdown_17 : ∃ (s : State), ((∀ e ∈ s.shut.stop.toList, e.2 = StopKind.shutdown →
    s.cyc < e.1)) :=
  ⟨stopping { st := .window, cause := 5, stop := some (101, .shutdown) }, by decide⟩

theorem witness_housekeeping_and_shutdown_18 : ∃ (s : State), (s.shut.st = .ready ∨ (s.shut.st = .shutdown ∧
    s.shut.cause = 5 ∧ s.shut.held = none)) :=
  ⟨{ stopping { st := .shutdown, cause := 5 } with dies := [(1, { s3 := true })] }, by decide⟩

theorem witness_housekeeping_and_shutdown_19 : ∃ (s : State), s.shut.st ≠ .ready ∧ (s.shut.st ≠ .shutdown ∨
    s.shut.cause ≠ 5 ∨ s.shut.held ≠ none) :=
  ⟨stopping { st := .window, cause := 5 }, by decide⟩

theorem witness_housekeeping_and_shutdown_20 : ∃ (s : State), s.shut.st = .shutdown ∧ (s.shut.cause = 1 ∨ s.shut.cause
    = 2) ∧ s.shut.held = none ∧ s.shut.brown = false ∧ (∀ d < s.member.dies, ∀ c ∈ (s.die d).warmAt.toList, c +
    12500000000 ≤ s.cyc) ∧ (s.die 0).s3 = false ∧ s.rdN Obj.AUTO_RESUME 0 % 2 = 0 :=
  ⟨cooled { st := .shutdown, cause := 1 } 0, by decide⟩

theorem witness_housekeeping_and_shutdown_20b : ∃ (s : State), s.shut.st = .shutdown ∧ (s.shut.cause = 1 ∨
    s.shut.cause = 2) ∧ s.shut.held = none ∧ s.shut.brown = false ∧ (∀ d < s.member.dies, ∀ c ∈ (s.die
    d).warmAt.toList, c + 12500000000 ≤ s.cyc) ∧ (s.die 0).s3 = false ∧ s.rdN Obj.AUTO_RESUME 0 % 2 = 0 :=
  ⟨{ cooled { st := .shutdown, cause := 1 } 0 with dies := [(1, { warmAt := some 5 })] }, by decide⟩

theorem witness_housekeeping_and_shutdown_21 : ∃ (s : State), s.shut.st = .shutdown ∧ (s.shut.cause = 1 ∨ s.shut.cause
    = 2) ∧ s.shut.held = none ∧ s.shut.brown = false ∧ (∀ d < s.member.dies, ∀ c ∈ (s.die d).warmAt.toList, c +
    12500000000 ≤ s.cyc) ∧ (s.die 0).s3 = false ∧ s.rdN Obj.AUTO_RESUME 0 % 2 = 1 :=
  ⟨(cooled { st := .shutdown, cause := 1 } 0).wrN Obj.AUTO_RESUME 0 1, by decide⟩

theorem witness_housekeeping_and_shutdown_22 : ∃ (d : Nat) (s : State), s.shut.st = .shutdown ∧ s.shut.held = some (6,
    d) ∧ s.shut.brown = false ∧ (∀ e < s.member.dies, ∀ c ∈ (s.die e).warmAt.toList, c + 12500000000 ≤ s.cyc) ∧ (s.die
    0).s3 = true ∧ s.rdN Obj.AUTO_RESUME 0 % 2 = 0 :=
  ⟨3, { cooled { st := .shutdown, held := some (6, 3) } 0 with dies := [(0, { s3 := true })] }, by decide⟩

theorem witness_housekeeping_and_shutdown_23 : ∃ (s : State), (s.shut.st ≠ .shutdown ∨ s.shut.brown = true ∨ (∃ d <
    s.member.dies, ∃ c ∈ (s.die d).warmAt.toList, s.cyc < c + 12500000000) ∨ (s.shut.cause ≠ 1 ∧ s.shut.cause ≠ 2 ∧ ∀
    h ∈ s.shut.held.toList, h.1 ≠ 6)) :=
  ⟨stopping { st := .shutdown, cause := 5 }, by decide⟩

theorem witness_trims_verifies_and_records_1 : ∃ (s : State), s.nv.busy = none :=
  ⟨State.reset, by decide⟩

theorem witness_trims_verifies_and_records_2 : ∃ (s : State), s.nv.busy.isSome = true :=
  ⟨trimsAt (some 0) [], by decide⟩

theorem witness_trims_verifies_and_records_3 : ∃ (s : State), s.nv.busy.isSome = true :=
  ⟨trimsAt (some 0) [], by decide⟩

theorem witness_trims_verifies_and_records_4 : ∃ (s : State), s.nv.busy.isSome = true :=
  ⟨trimsAt (some 0) [], by decide⟩

theorem witness_trims_verifies_and_records_5 : ∃ (s : State), s.nv.busy.isSome = true :=
  ⟨trimsAt (some 0) [], by decide⟩

theorem witness_trims_verifies_and_records_6 : ∃ (s : State), s.nv.busy = none :=
  ⟨State.reset, by decide⟩

theorem witness_trims_verifies_and_records_7 : ∃ (s : State), s.nv.busy = none ∧ s.nv.savedValid ≠ [] ∧ Canonical s :=
  ⟨{ State.reset with nv := { savedValid := [0] } }, ⟨by decide, by decide, ⟨rfl, rfl⟩⟩⟩

theorem witness_trims_verifies_and_records_8 : ∃ (s : State), s.nv.savedValid = [] :=
  ⟨State.reset, by decide⟩

theorem witness_trims_verifies_and_records_9 : ∃ (s : State), s.nv.busy = none :=
  ⟨trimsAt none [0], by decide⟩

theorem witness_trims_verifies_and_records_9b : ∃ (s : State), s.nv.busy = none :=
  ⟨{ trimsAt none [0] with channels := [(2, { run := true })] }, by decide⟩

theorem witness_trims_verifies_and_records_10 : ∃ (k : Nat) (s : State), k ∈ s.nv.outs ∧ ¬ k ∈ s.nv.dsps ∧ (s.die
    (selDie k)).logs.length < 64 :=
  ⟨3, retiredUnits, by decide⟩

theorem witness_trims_verifies_and_records_11 : ∃ (k : Nat) (s : State), k ∈ s.nv.dsps ∧ ¬ k ∈ s.nv.outs ∧ (s.die
    (selDie k)).logs.length < 64 :=
  ⟨2, retiredUnits, by decide⟩

theorem witness_trims_verifies_and_records_12 : ∃ (k : Nat) (s : State), ¬ k ∈ s.nv.outs ∧ ¬ k ∈ s.nv.dsps :=
  ⟨9, retiredUnits, by decide⟩

theorem witness_trims_verifies_and_records_13 : ∃ (v : Word) (kind d u : Nat) (s : State), bits v 71 66 = 0 ∧ bits v
    47 0 = 0 ∧ kind = bits v 65 64 ∧ d = selDie (bits v 63 48) ∧ u = selUnit (bits v 63 48) ∧ d < s.member.dies ∧ u <
    verifyUnits kind ∧ (s.die d).verify.st ≠ 1 ∧ s.verifyOk kind d u = true :=
  ⟨(2 : Word) <<< 64 ||| (5 : Word) <<< 48, 2, 0, 5, withDomains [59], by decide +kernel⟩

theorem witness_trims_verifies_and_records_14 : ∃ (v : Word) (kind d u : Nat) (s : State), bits v 71 66 = 0 ∧ bits v
    47 0 = 0 ∧ kind = bits v 65 64 ∧ d = selDie (bits v 63 48) ∧ u = selUnit (bits v 63 48) ∧ d < s.member.dies ∧ u <
    verifyUnits kind ∧ (s.die d).verify.st ≠ 1 ∧ s.verifyOk kind d u = false :=
  ⟨(2 : Word) <<< 64 ||| (5 : Word) <<< 48, 2, 0, 5, withDomains [], by decide +kernel⟩

theorem witness_trims_verifies_and_records_15 : ∃ (v : Word) (d u : Nat) (s : State), bits v 71 66 = 0 ∧ bits v 47 0 =
    0 ∧ d = selDie (bits v 63 48) ∧ u = selUnit (bits v 63 48) ∧ d < s.member.dies ∧ u < verifyUnits (bits v 65 64) ∧
    (s.die d).verify.st = 1 :=
  ⟨5 <<< 48, 0, 5, verifying 0, by decide +kernel⟩

theorem witness_trims_verifies_and_records_16 : ∃ (v : Word) (s : State), (bits v 71 66 ≠ 0 ∨ bits v 47 0 ≠ 0 ∨
    s.member.dies ≤ selDie (bits v 63 48) ∨ verifyUnits (bits v 65 64) ≤ selUnit (bits v 63 48)) :=
  ⟨(3 : Word) <<< 64 ||| (4 : Word) <<< 48, State.reset, by decide +kernel⟩

theorem witness_trims_verifies_and_records_17 : ∃ (d u : Nat) (figure offset : BitVec 16) (s : State), (s.die
    d).verify.st = 1 ∧ (s.die d).verify.due ≤ s.cyc ∧ (s.die d).verify.unit = u ∧ (s.die d).verify.kind = 1 :=
  ⟨0, 3, 5, 6, verifying 1, by decide⟩

theorem witness_trims_verifies_and_records_18 : ∃ (d u : Nat) (figure offset : BitVec 16) (s : State), (s.die
    d).verify.st = 1 ∧ (s.die d).verify.due ≤ s.cyc ∧ (s.die d).verify.unit = u ∧ (s.die d).verify.kind = 0 ∧ (s.die
    d).logs.length < 64 :=
  ⟨0, 3, 5, 6, { verifying 0 with nv := { fails := [(3, 1)] } }, by decide⟩

theorem witness_trims_verifies_and_records_18b : ∃ (d u : Nat) (figure offset : BitVec 16) (s : State), (s.die
    d).verify.st = 1 ∧ (s.die d).verify.due ≤ s.cyc ∧ (s.die d).verify.unit = u ∧ (s.die d).verify.kind = 0 ∧ (s.die
    d).logs.length < 64 :=
  ⟨0, 3, (-301), 6, { verifying 0 with nv := { fails := [(3, 1)] } }, by decide⟩

theorem witness_trims_verifies_and_records_19 : ∃ (d : Nat) (figure offset : BitVec 16) (s : State), (s.die
    d).verify.st = 1 ∧ (s.die d).verify.due ≤ s.cyc ∧ 2 ≤ (s.die d).verify.kind :=
  ⟨0, 5, 6, verifying 2, by decide⟩

theorem witness_trims_verifies_and_records_20 : ∃ (d : Nat) (figure offset : BitVec 16) (s : State), ((s.die
    d).verify.st ≠ 1 ∨ s.cyc < (s.die d).verify.due) :=
  ⟨0, 5, 6, { verifying 0 with clock := { cyc := 99 } }, by decide⟩

theorem witness_trims_verifies_and_records_21 : ∃ (e : LogEntry) (p v : Nat) (s : State), (s.die 0).booted = true ∧
    s.nextEntry = some e ∧ (s.die e.die).logsLost = 0 ∧ p = s.rdN Obj.FAULT_LOG_TOTAL 0 % 4096 ∧ v = e.value (s.rdN
    Obj.FAULT_LOG_TOTAL 0) :=
  ⟨⟨5, 7, 1, 1, 9, 3, 4, 5⟩, 2, (⟨5, 7, 1, 1, 9, 3, 4, 5⟩ : LogEntry).value 2, logWaiting, by decide +kernel⟩

theorem witness_trims_verifies_and_records_22 : ∃ (e : LogEntry) (s : State), (s.die 0).booted = true ∧ s.nextEntry =
    some e ∧ (s.die e.die).logsLost ≠ 0 ∧ (s.die e.die).logs.length ≤ 64 ∧ e ∈ (s.die e.die).logs :=
  ⟨⟨5, 7, 1, 1, 9, 3, 4, 5⟩,
    { logWaiting with dies := [(0, { booted := true }), (1, { logs := [⟨5, 7, 1, 1, 9, 3, 4, 5⟩], logsLost := 3 })] }, by decide +kernel⟩

theorem witness_trims_verifies_and_records_23 : ∃ (s : State), ((s.die 0).booted = false ∨ (∀ d < s.member.dies,
    (s.die d).logs = [])) :=
  ⟨State.reset, by decide⟩

theorem witness_trims_verifies_and_records_24 : ∃ (s : State), (s.die 0).booted = true ∧ s.nv.lifeAt + 75000000000 ≤
    s.cyc ∧ Registers.wf s.regs = true :=
  ⟨lifeDue, by decide +kernel⟩

theorem witness_trims_verifies_and_records_25 : ∃ (s : State), ((s.die 0).booted = false ∨ s.cyc < s.nv.lifeAt +
    75000000000) :=
  ⟨State.reset, by decide⟩

theorem witness_test_access_port_1 : ∃ (c : Instr) (s : State), c ∈ [.jtagIdcode, .jtagBypass] ∧ s.tapWorks = true :=
  ⟨.jtagIdcode, tapAt 0, by decide⟩

theorem witness_test_access_port_2 : ∃ (cells : List Bool) (s : State), s.tapWorks = true :=
  ⟨[true, false], tapAt 2, by decide⟩

theorem witness_test_access_port_3 : ∃ (c : Instr) (ir : BitVec 8) (s : State), (c, ir) ∈ [(.jtagExtest, 0),
    (.jtagHighz, 3), (.jtagClamp, 4), (.jtagExtestPulse, 5), (.jtagExtestTrain, 6)] ∧ s.tapWorks = true ∧ s.scanning =
    false :=
  ⟨.jtagClamp, 4, tapAt 2, by decide⟩

theorem witness_test_access_port_4 : ∃ (c : Instr) (ir : BitVec 8) (s : State), (c, ir) ∈ [(.jtagExtest, 0),
    (.jtagHighz, 3), (.jtagClamp, 4), (.jtagExtestPulse, 5), (.jtagExtestTrain, 6)] ∧ s.tapWorks = true ∧ s.scanning =
    true :=
  ⟨.jtagHighz, 3, tapAt 0, by decide⟩

theorem witness_test_access_port_5 : ∃ (c : Instr) (ir : BitVec 8) (cells : List Bool) (s : State), c ∈ [.jtagExtest,
    .jtagSamplePreload cells, .jtagIdcode, .jtagHighz, .jtagClamp, .jtagExtestPulse, .jtagExtestTrain, .jtagBypass,
    .jtagReserved ir] ∧ s.tapWorks = false :=
  ⟨.jtagExtest, 9, [], State.reset, by decide⟩

theorem witness_test_access_port_6 : ∃ (ir : BitVec 8) (s : State), 7 ≤ ir.toNat ∧ ir.toNat ≤ 254 ∧ s.tapWorks = true
    :=
  ⟨7, tapAt 2, by decide⟩


theorem witness_test_access_port_7 : ∃ (ir : BitVec 8) (s : State), (ir.toNat < 7 ∨ ir.toNat = 255) :=
  ⟨2, tapAt 2, by decide⟩

/-- The premises of StepKeepsCanonical are met. -/
theorem witness_step_keeps_canonical : ∃ s t : State, Canonical s ∧ step s = .next t :=
  ⟨{ State.reset with pending := [.ackTimeout 0] }, _, ⟨rfl, rfl⟩, rfl⟩

/-- The premises of StepKeepsQueueBounded are met. -/
theorem witness_step_keeps_queue_bounded : ∃ s t : State, QueueBounded s ∧ step s = .next t :=
  ⟨{ State.reset with pending := [.ackTimeout 0] }, _, Nat.zero_le _, rfl⟩

/-! Values of the manual's worked examples. -/

/-- The examples of R13: bias output 7.63 and detector tone 2.1481. -/
theorem test_selector : sel 7 63 = 0xE03F ∧ sel 2 1481 = 0x45C9 ∧ selDie 0x45C9 = 2 ∧ selUnit 0x45C9 = 1481 := by decide

/-- The example of R22: the route from die 2 to die 7 runs 2 → 6 → 7. -/
theorem test_route : (route 8 2 7).map Prod.fst = [2, 6] ∧ hops 8 2 7 = 2 := by decide

/-- The example of R75: an offset of 985,875,220 steps. -/
theorem test_align_step : alignStep 985875220 = (962769, 1260) := by decide

/-- The example of R324: tone 5.300 crosses 5,243 between 2,000 and 7,356, at fraction 155. -/
theorem test_fraction : fraction 5243 2000 7356 = some 155 := by decide

/-- The example of R301: k = 2 gives P = 512 and A_2 = 3,648. -/
theorem test_tone_delays : toneP (BitVec.ofNat 64 (2 * 2 ^ 56)) = 512 ∧ toneA (BitVec.ofNat 64 (2 * 2 ^ 56)) = 3648 := by decide

/-- The example of SNS_CONFIG 0x080879020B: REST_M 4, BURST_N 4, h = 16 ms, SETTLE 2 ms, EXC 4, CHECK 1, REF 1, AUTO 1. -/
theorem test_sns_config :
    snsRest 0x080879020B = 4 ∧ snsBurst 0x080879020B = 4 ∧ snsHalf 0x080879020B = 20000000 ∧ snsSettle 0x080879020B = 2500000 ∧
      snsExc 0x080879020B = 4 ∧ snsCheck 0x080879020B = 1 ∧ snsRef 0x080879020B = 1 ∧ snsAuto 0x080879020B = true := by decide

/-- The flux-ramp example: 17,616 is reached by a major transition, 2,517 is not. -/
theorem test_major_transition : majorMove 15100 17616 = true ∧ majorMove 0 2517 = false := by decide

/-- The measurement of the example of R237. -/
def wireExample : State :=
  (((withTime [25] 100).wrN Obj.WIRE_CONFIG 2 21).wrN Obj.WIRE_EXPECTED 2 1000).setRfIn 2
    { wire := { round := 4, amps := 10, vPlus := 107340, vMinus := -102660, beyond := true } }

/-- The example of R237: +1.0734 mV and −1.0266 mV at 10 µA are 105.0 Ω. -/
theorem test_wire_resistance :
    (∃ t : State, execWireCheckResult 0 2 wireExample = .next t ∧ t.rd Obj.WIRE_RESISTANCE 2 = 1050) := by
  exact ⟨_, rfl, by decide⟩

/-- The example of R564: the entry of a control-store remap on die 3. -/
theorem test_fault_entry :
    (⟨0, 1, 2, 3, 24581, 0x104, 31536000, 212⟩ : LogEntry).value 1207 = 0x000004B70126600500 * 2 ^ 72 + 0x00010401E1338000D4 := by
  decide

/-- The example of R513: the directory entry of OUTPUT_SKEW, 0x2012.02. -/
theorem test_directory_entry :
    (defOf 0x201202).map (fun r => State.reset.entryWord r) = some 0x20120206C600000000 := by decide +kernel

/-- FIPS 180-4's own example, for R477: the digest of the bytes of abc. -/
theorem test_sha256 :
    ofBytes (sha256 [0x61, 0x62, 0x63]) = 0xba7816bf8f01cfea414140de5dae2223b00361a396177a9cb410ff61f20015ad := by
  decide +kernel

end Sys2Proof.Machine
end

section
/-!
PROOFS. A number and a native word as bytes (R7): what stands in each byte, and that reading back what was written gives it
again.
-/

namespace Sys2Proof.Machine

@[simp] theorem length_toBytes (v n : Nat) : (toBytes v n).length = n := by
  induction n with
  | zero => rfl
  | succ n ih => simp [toBytes, ih]

/-- Byte `i` of `n` has the `n - 1 - i` bytes behind it below its own bits. -/
theorem getElem?_toBytes (v : Nat) {n i : Nat} (hi : i < n) :
    (toBytes v n)[i]? = some (BitVec.ofNat 8 (v / 2 ^ (8 * (n - 1 - i)))) := by
  induction n generalizing i with
  | zero => omega
  | succ n ih =>
    cases i with
    | zero => simp [toBytes]
    | succ i =>
      have hrest : n - 1 - i = n + 1 - 1 - (i + 1) := by omega
      rw [toBytes, List.getElem?_cons_succ, ih (by omega), hrest]

/-- The number that stands before the bytes is carried up by 8 bits for each of them. -/
theorem foldl_bytes_eq (bs : List Byte) (a : Nat) :
    bs.foldl (fun a b => a * 256 + b.toNat) a = a * 2 ^ (8 * bs.length) + ofBytes bs := by
  induction bs generalizing a with
  | nil => simp [ofBytes]
  | cons b bs ih =>
    have hcons : ofBytes (b :: bs) = (0 * 256 + b.toNat) * 2 ^ (8 * bs.length) + ofBytes bs := ih _
    rw [List.foldl_cons, ih, hcons, List.length_cons]
    ring

theorem ofBytes_cons (b : Byte) (bs : List Byte) :
    ofBytes (b :: bs) = b.toNat * 2 ^ (8 * bs.length) + ofBytes bs := by
  rw [ofBytes, List.foldl_cons, foldl_bytes_eq, Nat.zero_mul, Nat.zero_add]

/-- Reading back what was written keeps the bits that `n` bytes hold. -/
theorem ofBytes_toBytes (v n : Nat) : ofBytes (toBytes v n) = v % 2 ^ (8 * n) := by
  induction n with
  | zero => simp [toBytes, ofBytes, Nat.mod_one]
  | succ n ih =>
    rw [toBytes, ofBytes_cons, length_toBytes, ih, BitVec.toNat_ofNat, Nat.mul_succ, Nat.pow_add, Nat.mod_mul]
    ring

@[simp] theorem length_wordBytes (v : Word) : (wordBytes v).length = 9 := length_toBytes _ _

theorem getElem?_wordBytes (v : Word) {i : Nat} (hi : i < 9) :
    (wordBytes v)[i]? = some (v.extractLsb' (64 - 8 * i) 8) := by
  have hlow : 8 * (9 - 1 - i) = 64 - 8 * i := by omega
  rw [wordBytes, getElem?_toBytes _ hi, hlow, BitVec.extractLsb', Nat.shiftRight_eq_div_pow]

theorem word_ofBytes_wordBytes (v : Word) : word (ofBytes (wordBytes v)) = v := by
  rw [word, wordBytes, ofBytes_toBytes, Nat.mod_eq_of_lt v.isLt, BitVec.ofNat_toNat, BitVec.setWidth_eq]

theorem readWordsOf_flatMap_wordBytes (ws : List Word) : readWordsOf (ws.flatMap wordBytes) ws.length = ws := by
  induction ws with
  | nil => rfl
  | cons w ws ih =>
    rw [List.flatMap_cons, List.length_cons, readWordsOf, List.take_left' (length_wordBytes w),
      List.drop_left' (length_wordBytes w), word_ofBytes_wordBytes, ih]

/-- Settles O48: each word by its list of bytes (R7), the reading back by induction on the list of words. -/
theorem wordsOnTheWire : Obligations.WordsOnTheWire :=
  ⟨fun v _ hi => ⟨length_wordBytes v, getElem?_wordBytes v hi⟩, readWordsOf_flatMap_wordBytes⟩

end Sys2Proof.Machine
end

section
/-!
PROOFS. Rules of the shared operations: counters, the fault log, slots, and the routes that messages take.
-/

namespace Sys2Proof.Machine

/-! Counters. -/

/-- A counter leaves every other object. -/
theorem rd_count_other (s : State) {id k id' k' : Nat} (n : Nat) (h : ¬(id' = id ∧ k' = k)) :
    (s.count id k n).rd id' k' = s.rd id' k' := by
  simp only [State.count, State.wrN]
  split <;> exact rd_wr_other s _ h

theorem rd_inc_other (s : State) {id k id' k' : Nat} (h : ¬(id' = id ∧ k' = k)) :
    (s.inc id k).rd id' k' = s.rd id' k' := rd_count_other s 1 h

theorem regs_count (s : State) (id k n : Nat) : (s.count id k n).regs =
    put [] s.regs id (put (objDefault id k) (look [] s.regs id) k
      (if s.rdN id k + n < 2 ^ 32 then word (s.rdN id k + n) else (Config.pastLimit id k).setWidth 72)) := by
  simp only [State.count]
  split <;> rfl

/-- What a counter leaves in the objects depends on the objects alone. -/
theorem regs_inc_congr {s t : State} (h : t.regs = s.regs) (id k : Nat) : (t.inc id k).regs = (s.inc id k).regs := by
  have hrd : t.rdN id k = s.rdN id k := by rw [State.rdN, State.rd, h, State.rdN, State.rd]
  rw [State.inc, State.inc, regs_count, regs_count, h, hrd]

/-! Slots. -/

/-- Of two replacements of a slot the second stands. -/
theorem setSlot_setSlot (s : State) (k : Nat) (x y : Slot) : (s.setSlot k x).setSlot k y = s.setSlot k y := by
  simp [State.setSlot]

/-! The fault log (R563). -/

theorem logs_log {s : State} {d : Nat} (cls action unit detail : Nat) (h : (s.die d).logs.length < 64) :
    ((s.log d cls action unit detail).die d).logs = (s.die d).logs ++
      [⟨s.cyc, cls, action, d, unit, BitVec.ofNat 32 detail, BitVec.ofNat 32 (s.rdN Obj.POWER_ON_SECONDS 0),
        BitVec.ofNat 16 (s.rdN Obj.POWER_CYCLES 0)⟩] := by
  simp [State.log, h]

theorem logsLost_log {s : State} {d : Nat} (cls action unit detail : Nat) (h : 64 ≤ (s.die d).logs.length) :
    ((s.log d cls action unit detail).die d).logsLost = (s.die d).logsLost + 1 := by
  rw [State.log, if_neg (by omega), inc_frame]
  exact congrArg DieSt.logsLost ((die_setDie s d d _).trans (if_pos rfl))

/-! Routes (R22, R25). -/

/-- A route whose links all carry traffic carries every message. -/
theorem hopOpen_of_routeUp {s : State} {i j : Nat} (b : MsgBody) (h : s.routeUp i j = true) :
    (route s.member.dies i j).all (s.hopOpen j b) = true := by
  rw [State.routeUp, List.all_eq_true] at h
  rw [List.all_eq_true]
  intro x hx
  simp [State.hopOpen, h x hx]

/-- A REMOTE command takes a hop exactly where its link carries traffic (R25). -/
theorem all_hopOpen_remote (s : State) (i j g : Nat) (c : GenCmd) :
    (route s.member.dies i j).all (s.hopOpen j (.remote g c)) = s.routeUp i j := by
  have hhop : s.hopOpen j (.remote g c) = fun h => s.linkUp h.1 h.2 := by
    funext h
    simp [State.hopOpen, MsgBody.isEpoch, MsgBody.isUpdate]
  rw [hhop, State.routeUp]

end Sys2Proof.Machine
end

section
/-!
PROOFS. Epochs (R44–R49): their serial order, and how a request is issued and received.
-/

namespace Sys2Proof.Machine

/-! Serial order (R44). -/

/-- Settles O4: the difference of two 16-bit words is their difference modulo 65,536. -/
theorem serialOrderOfEpochs : Obligations.SerialOrderOfEpochs := by
  intro a n
  constructor
  · have ha := a.isLt
    have hn := n.isLt
    rw [epochAtLeast, BitVec.toNat_sub, decide_eq_decide]
    omega
  · by_cases h : a = n <;> simp [epochBeyond, h]

theorem epochAtLeast_refl (a : Epoch) : epochAtLeast a a = true := by simp [epochAtLeast]

theorem epochAtLeast_of_beyond {a b : Epoch} (h : epochBeyond a b = true) : epochAtLeast a b = true := by
  rw [epochBeyond, Bool.and_eq_true] at h
  exact h.1

/-! A request is issued and sent (R45–R47). -/

/-- The messages that carry a request from die `src` to the dies of a list: one to each other die that its route reaches. -/
def State.epochMsgs (s : State) (src : Nat) (issuer : Option Nat) (r : EpochReq) (ds : List Nat) : List Msg :=
  (ds.filter (fun d => d ≠ src ∧ (route s.member.dies src d).all (s.hopOpen d (.epoch r)) = true)).map (fun d =>
    { due := s.cyc, src := src, dst := d, body := .epoch r, unit := issuer.getD 0, left := route s.member.dies src d,
      issuer := issuer })

/-- A message sent changes nothing that the routes of a request depend on. -/
theorem epochMsgs_send (s : State) (src dst unit : Nat) (issuer issuer' : Option Nat) (b : MsgBody) (r : EpochReq)
    (ds : List Nat) :
    (s.send src dst unit issuer' b).epochMsgs src issuer r ds = s.epochMsgs src issuer r ds := by
  rw [send_frame]
  rfl

theorem sendEpochs_flight (src : Nat) (issuer : Option Nat) (r : EpochReq) (ds : List Nat) (s : State) :
    (s.sendEpochs src issuer r ds).flight = s.flight ++ s.epochMsgs src issuer r ds := by
  induction ds generalizing s with
  | nil => simp [State.sendEpochs, State.epochMsgs]
  | cons d ds ih =>
    by_cases hd : d = src
    · simp [State.sendEpochs, hd, ih, State.epochMsgs]
    · rw [State.sendEpochs, if_neg hd, ih, epochMsgs_send]
      rcases hr : (route s.member.dies src d).all (s.hopOpen d (.epoch r))
      · rw [send_down hr, issuerFault_frame, inc_frame]
        simp [State.epochMsgs, hr]
      · rw [send_up hr]
        simp [State.epochMsgs, hr, hd]

/-- A request that no sequencer has issued changes flight and, where a route is broken, the drop counter of its die. -/
theorem sendEpochs_hostFrame (src : Nat) (r : EpochReq) (ds : List Nat) (s : State) :
    s.sendEpochs src none r ds =
      { s with regs := (s.sendEpochs src none r ds).regs, flight := (s.sendEpochs src none r ds).flight } ∧
    (∀ id k : Nat, ¬(id = Obj.DECISION_DROPPED ∧ k = sel src 0) →
      (s.sendEpochs src none r ds).rd id k = s.rd id k) := by
  induction ds generalizing s with
  | nil => exact ⟨rfl, fun _ _ _ => rfl⟩
  | cons d ds ih =>
    by_cases hd : d = src
    · rw [State.sendEpochs, if_pos hd]
      exact ih s
    · rw [State.sendEpochs, if_neg hd]
      obtain ⟨hframe, hrd⟩ := ih (s.send src d 0 none (.epoch r))
      rcases hr : (route s.member.dies src d).all (s.hopOpen d (.epoch r))
      · have hsend : s.send src d 0 none (.epoch r) = s.inc Obj.DECISION_DROPPED (sel src 0) := send_down hr
        refine ⟨?_, fun id k h => ?_⟩
        · rw [Option.getD_none, hframe, hsend, inc_frame]
        · rw [Option.getD_none, hrd id k h, hsend, rd_inc_other s h]
      · refine ⟨?_, fun id k h => ?_⟩
        · rw [Option.getD_none, hframe, send_up hr]
        · rw [Option.getD_none, hrd id k h, send_up hr]
          rfl

theorem exec_epochRequest (v : Word) (s : State) : exec (.epochRequest v) s =
    unlessError (bits v 71 70 != 0 || bits v 43 32 != 0 || epochBad s.member (epochReqOf v))
      (s.issueEpoch 0 none (epochReqOf v)) := rfl

theorem issueEpoch_beyond {s : State} {d : Nat} {issuer : Option Nat} {r : EpochReq} (hc : r.cls < 3)
    (h : epochBeyond r.epoch (s.epochRec (d * 4 + r.cls)).last = true) :
    s.issueEpoch d issuer r = (s.setEpochRec (d * 4 + r.cls)
      { last := r.epoch, reqs := (s.cyc + 2, r) :: trimTrail s.cyc (s.epochRec (d * 4 + r.cls)).reqs }).sendEpochs
        d issuer r s.dieList := by
  have hne : r.cls ≠ 3 := by omega
  rw [State.issueEpoch, if_neg hne, receiveEpoch_beyond h]
  rfl

theorem issueEpoch_stale {s : State} {d : Nat} {issuer : Option Nat} {r : EpochReq}
    (h : r.cls = 3 ∨ epochBeyond r.epoch (s.epochRec (d * 4 + r.cls)).last = false) :
    s.issueEpoch d issuer r = s.inc Obj.STALE_REQUESTS 0 := by
  by_cases hc : r.cls = 3
  · rw [State.issueEpoch, if_pos hc]
  · rw [State.issueEpoch, if_neg hc, receiveEpoch_stale (h.resolve_left hc)]

/-- A legal word of EPOCH_REQUEST issues its request from die 0. -/
theorem exec_epochRequest_legal {v : Word} {s : State} (h1 : bits v 71 70 = 0) (h2 : bits v 43 32 = 0)
    (h3 : epochBad s.member (epochReqOf v) = false) :
    exec (.epochRequest v) s = .next (s.issueEpoch 0 none (epochReqOf v)) := by
  simp [exec_epochRequest, unlessError, h1, h2, h3]

/-- What a host's request that is beyond the record of die 0 leaves: the record, the messages and the drop counter. -/
theorem issueEpoch_host {s : State} {r : EpochReq} (hc : r.cls < 3)
    (h : epochBeyond r.epoch (s.epochRec r.cls).last = true) :
    let t := s.issueEpoch 0 none r
    (∀ k : Nat, t.epochRec k = if k = r.cls then
      { last := r.epoch, reqs := (s.cyc + 2, r) :: trimTrail s.cyc (s.epochRec r.cls).reqs } else s.epochRec k) ∧
    t.flight = s.flight ++ s.epochMsgs 0 none r s.dieList ∧
    (∀ id k : Nat, ¬(id = Obj.DECISION_DROPPED ∧ k = sel 0 0) → t.rd id k = s.rd id k) ∧
    t = { s with epochs := t.epochs, flight := t.flight, regs := t.regs } := by
  have hkey : 0 * 4 + r.cls = r.cls := by omega
  have hissue := issueEpoch_beyond (s := s) (d := 0) (issuer := none) hc (by rwa [hkey])
  rw [hkey] at hissue
  obtain ⟨hframe, hrd⟩ := sendEpochs_hostFrame 0 r s.dieList (s.setEpochRec r.cls
    { last := r.epoch, reqs := (s.cyc + 2, r) :: trimTrail s.cyc (s.epochRec r.cls).reqs })
  simp only [hissue]
  refine ⟨fun k => ?_, sendEpochs_flight 0 none r s.dieList _, hrd, ?_⟩
  · rw [hframe]
    exact epochRec_setEpochRec s _ k _
  · rw [hframe]
    rfl

/-- Settles O5: the record is set and the request sent (R46, R47), or it is counted as stale. -/
theorem epochRequestIssues : Obligations.EpochRequestIssues := by
  refine ⟨fun v s h1 h2 h3 hc hb => ?_, fun v s h1 h2 h3 hs => ?_, fun v s h => ?_⟩
  · obtain ⟨hrec, hflight, hrd, hframe⟩ := issueEpoch_host hc hb
    refine ⟨_, exec_epochRequest_legal h1 h2 h3, ?_, ?_, fun k hk => ?_, ⟨_, hflight, fun m hm => ?_, fun d h0 hd hup => ?_⟩,
      hrd, hframe⟩
    · rw [hrec, if_pos rfl]
    · rw [hrec, if_pos rfl]
      rfl
    · rw [hrec, if_neg hk]
    · obtain ⟨d, hd, rfl⟩ := List.mem_map.1 hm
      obtain ⟨hmem, hne⟩ := List.mem_filter.1 hd
      exact ⟨rfl, (of_decide_eq_true hne).1, List.mem_range.1 hmem, rfl⟩
    · have hto : d ∈ s.dieList.filter
          (fun d => d ≠ 0 ∧ (route s.member.dies 0 d).all (s.hopOpen d (.epoch (epochReqOf v))) = true) :=
        List.mem_filter.2 ⟨List.mem_range.2 hd, decide_eq_true ⟨Nat.ne_of_gt h0, hopOpen_of_routeUp _ hup⟩⟩
      exact ⟨_, List.mem_map_of_mem hto, rfl, rfl, rfl⟩
  · rw [exec_epochRequest_legal h1 h2 h3, issueEpoch_stale (hs.imp_right fun h => by rwa [Nat.zero_mul, Nat.zero_add])]
  · rcases h with h | h <;> simp [exec_epochRequest, unlessError, hostError, h]

end Sys2Proof.Machine
end

section
/-!
PROOFS. A unit applies an epoch request (R48, R49): what it takes, what it publishes, and that its epoch never goes back.
-/

namespace Sys2Proof.Machine

/-- The request that a unit is to apply is beyond the epoch that it has applied (R49). -/
theorem pendingEpoch_beyond {s : State} {d cls k : Nat} {r : EpochReq} (h : s.pendingEpoch d cls k = some r) :
    epochBeyond r.epoch (s.appliedEpoch cls k) = true := by
  unfold State.pendingEpoch at h
  split at h
  · cases h
  · next c r' rest _ =>
    simp only [Option.ite_none_right_eq_some, Option.some.injEq, Bool.and_eq_true] at h
    obtain ⟨⟨hbeyond, _⟩, rfl⟩ := h
    exact hbeyond

/-- The state once unit `u` has taken the SETTING of a request that selects its die (R48). -/
def State.takeSetting (s : State) (cls d u : Nat) (r : EpochReq) : State :=
  if r.selects d then s.applySetting cls d u r else s

/-- The state `t` once the engine of a unit has changed from the instruction cycle that it had in `s` (R273). -/
def State.relevelFrom (t s : State) (cls d u : Nat) : State :=
  if cls = 2 ∧ u < 8 then t.dspRelevel d u (s.dspQ d u)
  else if cls = 3 ∧ 20 ≤ u ∧ u < 28 then t.dspRelevel d (u - 20) (s.dspQ d (u - 20)) else t

/-- The state in which the unit of an entry has taken a request's SETTING and published its epoch. -/
def State.published (s : State) (cls entry : Nat) (r : EpochReq) : State :=
  (s.takeSetting cls (entryDie cls entry) (entryUnit cls entry) r).publish cls entry r (r.selects (entryDie cls entry))

/-- The state in which the unit of an entry has applied a request, with what follows for its engine and for Bell. -/
def State.applyEpoch (s : State) (cls entry : Nat) (r : EpochReq) : State :=
  let t := (s.published cls entry r).relevelFrom s cls (entryDie cls entry) (entryUnit cls entry)
  if cls = 3 ∧ entryUnit cls entry = 28 then t.raise (entryDie cls entry) 383 else t

/-- EPOCH_APPLY changes nothing, or its unit applies the request that it is to apply. -/
theorem exec_epochApply_cases (cls entry : Nat) (s : State) :
    exec (.epochApply cls entry) s = .next s ∨
    ∃ r, s.pendingEpoch (entryDie cls entry) cls entry = some r ∧
      exec (.epochApply cls entry) s = .next (s.applyEpoch cls entry r) := by
  show execEpochApply cls entry s = _ ∨ ∃ r, _ ∧ execEpochApply cls entry s = _
  simp only [execEpochApply]
  split
  · exact .inl rfl
  · split
    · exact .inl rfl
    · next r hr =>
      split
      · exact .inl rfl
      · exact .inr ⟨r, hr, rfl⟩

/-- A unit that is not retired, at its boundary, applies the request that its rail allows. -/
theorem exec_epochApply_applies {cls entry : Nat} {r : EpochReq} {s : State} (hcls : cls < 4)
    (hdie : entryDie cls entry < s.member.dies) (hret : s.unitRetired cls entry = false)
    (hr : s.pendingEpoch (entryDie cls entry) cls entry = some r)
    (hb : s.atBoundary cls (entryDie cls entry) (entryUnit cls entry) = true)
    (hrail : s.railAllows cls (entryDie cls entry) (entryUnit cls entry) r = true) :
    exec (.epochApply cls entry) s = .next (s.applyEpoch cls entry r) := by
  have hunit : ¬(4 ≤ cls ∨ s.member.dies ≤ entryDie cls entry ∨ s.unitRetired cls entry = true) := by
    simp [hret]; omega
  show execEpochApply cls entry s = _
  simp only [execEpochApply, if_neg hunit, hr, hb, hrail]
  rfl

/-! What the application changes. -/

theorem countCycle_frame (s : State) (d band : Nat) :
    s.countCycle d band = { s with dies := (s.countCycle d band).dies, regs := (s.countCycle d band).regs } := by
  simp only [State.countCycle]
  split
  · rfl
  · split
    · rw [inc_frame]; rfl
    · rfl

/-- Taking a SETTING changes generators in class 0, demodulators in class 1, and lanes or the thermal-cycle mark in class 3. -/
theorem applySetting_frame (s : State) (cls d u : Nat) (r : EpochReq) :
    let t := s.applySetting cls d u r
    (cls ≠ 0 → t.gens = s.gens) ∧ (cls ≠ 1 → t.demods = s.demods) ∧
    (¬(cls = 3 ∧ 16 ≤ u ∧ u < 20) → t.lanes = s.lanes) ∧
    t = { s with gens := t.gens, demods := t.demods, lanes := t.lanes, dies := t.dies, regs := t.regs } := by
  match cls with
  | 0 =>
    simp only [State.applySetting]
    split <;> exact ⟨fun h => absurd rfl h, fun _ => rfl, fun _ => rfl, rfl⟩
  | 1 =>
    simp only [State.applySetting]
    split <;> exact ⟨fun _ => rfl, fun h => absurd rfl h, fun _ => rfl, rfl⟩
  | 3 =>
    simp only [State.applySetting]
    split
    · next hlane => exact ⟨fun _ => rfl, fun _ => rfl, fun h => absurd ⟨trivial, hlane⟩ h, rfl⟩
    · split
      · rw [countCycle_frame]
        exact ⟨fun _ => rfl, fun _ => rfl, fun _ => rfl, rfl⟩
      · exact ⟨fun _ => rfl, fun _ => rfl, fun _ => rfl, rfl⟩
  | 2 | _ + 4 => exact ⟨fun _ => rfl, fun _ => rfl, fun _ => rfl, rfl⟩

/-- Taking a request's SETTING changes no parts but those. -/
theorem takeSetting_frame (s : State) (cls d u : Nat) (r : EpochReq) :
    let t := s.takeSetting cls d u r
    t = { s with gens := t.gens, demods := t.demods, lanes := t.lanes, dies := t.dies, regs := t.regs } := by
  simp only [State.takeSetting]
  split
  · exact (applySetting_frame s cls d u r).2.2.2
  · rfl

theorem takeSetting_others (s : State) (cls d u : Nat) (r : EpochReq) :
    let t := s.takeSetting cls d u r
    (cls ≠ 0 → t.gens = s.gens) ∧ (cls ≠ 1 → t.demods = s.demods) ∧
    (¬(cls = 3 ∧ 16 ≤ u ∧ u < 20) → t.lanes = s.lanes) := by
  obtain ⟨hgens, hdemods, hlanes, -⟩ := applySetting_frame s cls d u r
  simp only [State.takeSetting]
  split
  · exact ⟨hgens, hdemods, hlanes⟩
  · exact ⟨fun _ => rfl, fun _ => rfl, fun _ => rfl⟩

/-- A generator that follows takes the bank (R121). -/
theorem gen_takeSetting (s : State) (cls d u k : Nat) (r : EpochReq) :
    (s.takeSetting cls d u r).gen k =
      if cls = 0 ∧ r.selects d = true ∧ k = sel d u ∧ s.rdN Obj.GEN_BANK_FOLLOW k % 2 = 1 then
        { s.gen k with bank := r.setting.setWidth 20 } else s.gen k := by
  rcases eq_or_ne cls 0 with rfl | hc
  · simp only [State.takeSetting, State.applySetting]
    rcases eq_or_ne k (sel d u) with rfl | hk
    · split_ifs <;> simp_all
    · split_ifs <;> simp_all
  · rw [if_neg (fun h => hc h.1)]
    exact congrArg (look {} · k) ((takeSetting_others s cls d u r).1 hc)

/-- A demodulator that follows takes the parameter set (R213). -/
theorem demod_takeSetting (s : State) (cls d u k : Nat) (r : EpochReq) :
    (s.takeSetting cls d u r).demod k =
      if cls = 1 ∧ r.selects d = true ∧ k = sel d u ∧ bit (s.rd Obj.DEMOD_CONTROL k) 1 = true then
        { s.demod k with kset := r.setting.toNat % 2 } else s.demod k := by
  rcases eq_or_ne cls 1 with rfl | hc
  · simp only [State.takeSetting, State.applySetting]
    rcases eq_or_ne k (sel d u) with rfl | hk
    · split_ifs <;> simp_all
    · split_ifs <;> simp_all
  · rw [if_neg (fun h => hc h.1)]
    exact congrArg (look {} · k) ((takeSetting_others s cls d u r).2.1 hc)

/-- A lane takes the band's CTLE preset (R428). -/
theorem lane_takeSetting (s : State) (cls d u k : Nat) (r : EpochReq) :
    (s.takeSetting cls d u r).lane k =
      if cls = 3 ∧ r.selects d = true ∧ 16 ≤ u ∧ u < 20 ∧ k = sel d (u - 16) then
        { s.lane k with ctle := s.preset k (r.setting.toNat % 8) } else s.lane k := by
  by_cases hc : cls = 3 ∧ 16 ≤ u ∧ u < 20
  · obtain ⟨rfl, hlane⟩ := hc
    simp only [State.takeSetting, State.applySetting, if_pos hlane]
    rcases eq_or_ne k (sel d (u - 16)) with rfl | hk
    · split_ifs <;> simp_all
    · split_ifs <;> simp_all
  · rw [if_neg (fun h => hc ⟨h.1, h.2.2.1, h.2.2.2.1⟩)]
    exact congrArg (look {} · k) ((takeSetting_others s cls d u r).2.2 hc)

theorem dspRelevel_frame (s : State) (d k q : Nat) :
    s.dspRelevel d k q = { s with dsps := (s.dspRelevel d k q).dsps, ports := (s.dspRelevel d k q).ports } := by
  simp only [State.dspRelevel]
  split
  · rfl
  · split <;> rfl

/-- An engine whose level changes keeps its registers, its place in the program and its outputs (R273). -/
theorem dspRelevel_keeps_engine (s : State) (d k q j : Nat) :
    ((s.dspRelevel d k q).dsp j).run = (s.dsp j).run ∧ ((s.dspRelevel d k q).dsp j).num = (s.dsp j).num ∧
    ((s.dspRelevel d k q).dsp j).flow = (s.dsp j).flow ∧ ((s.dspRelevel d k q).dsp j).regs = (s.dsp j).regs ∧
    ((s.dspRelevel d k q).dsp j).pend = (s.dsp j).pend ∧
    ((s.dspRelevel d k q).dsp j).outs.map Prod.snd = (s.dsp j).outs.map Prod.snd := by
  simp only [State.dspRelevel]
  split
  · exact ⟨rfl, rfl, rfl, rfl, rfl, rfl⟩
  · rw [dsp_setDsp]
    by_cases hj : j = sel d k
    · rw [if_pos hj, hj]
      refine ⟨rfl, rfl, rfl, rfl, rfl, ?_⟩
      rw [List.map_map]
      refine List.map_congr_left fun o _ => ?_
      simp only [Function.comp_apply]
      split <;> rfl
    · rw [if_neg hj]
      split <;> exact ⟨rfl, rfl, rfl, rfl, rfl, rfl⟩

theorem appl_publish (s : State) (cls k j : Nat) (r : EpochReq) (b : Bool) :
    (s.publish cls k r b).appl j = if j = applKey cls k then
      { s.appl j with pub := pushTrail 128 s.cyc r.epoch (s.appl j).pub,
                      setting := if b then r.setting else (s.appl j).setting } else s.appl j := by
  simp only [State.publish, appl_setAppl]
  split
  · next h => rw [h]
  · rfl

/-- What follows an application for its engine and for Bell: of classes 0 and 1 nothing, else at most one engine's new level and
one event. -/
theorem applyEpoch_cases (s : State) (cls entry : Nat) (r : EpochReq) :
    ∃ t, (t = s.published cls entry r ∨ 2 ≤ cls ∧ ∃ d k q, t = (s.published cls entry r).dspRelevel d k q) ∧
      (s.applyEpoch cls entry r = t ∨ ∃ d p, s.applyEpoch cls entry r = t.raise d p) := by
  refine ⟨(s.published cls entry r).relevelFrom s cls (entryDie cls entry) (entryUnit cls entry), ?_, ?_⟩
  · rw [State.relevelFrom]
    split
    · next h => exact .inr ⟨h.1.ge, _, _, _, rfl⟩
    · split
      · next h => exact .inr ⟨by omega, _, _, _, rfl⟩
      · exact .inl rfl
  · simp only [State.applyEpoch]
    split
    · exact .inr ⟨_, _, rfl⟩
    · exact .inl rfl

/-- Every engine keeps its registers, its place in the program and its outputs. -/
def enginesKept (s t : State) : Prop :=
  ∀ k : Nat, (t.dsp k).run = (s.dsp k).run ∧ (t.dsp k).num = (s.dsp k).num ∧ (t.dsp k).flow = (s.dsp k).flow ∧
    (t.dsp k).regs = (s.dsp k).regs ∧ (t.dsp k).pend = (s.dsp k).pend ∧
    (t.dsp k).outs.map Prod.snd = (s.dsp k).outs.map Prod.snd

/-- What follows an application leaves what the unit has taken and published. -/
theorem applyEpoch_after (s : State) (cls entry : Nat) (r : EpochReq) :
    let p := s.published cls entry r
    let t := s.applyEpoch cls entry r
    (cls < 2 → t.dsps = p.dsps ∧ t.ports = p.ports) ∧ enginesKept p t ∧
    t = { p with chans := t.chans, regs := t.regs, dsps := t.dsps, ports := t.ports } := by
  obtain ⟨u, hu, ht⟩ := applyEpoch_cases s cls entry r
  have hlevel : (cls < 2 → u.dsps = (s.published cls entry r).dsps ∧ u.ports = (s.published cls entry r).ports) ∧
      enginesKept (s.published cls entry r) u ∧
      u = { s.published cls entry r with dsps := u.dsps, ports := u.ports } := by
    rcases hu with rfl | ⟨hcls, d, k, q, rfl⟩
    · exact ⟨fun _ => ⟨rfl, rfl⟩, fun _ => ⟨rfl, rfl, rfl, rfl, rfl, rfl⟩, rfl⟩
    · exact ⟨fun h => absurd hcls (by omega), dspRelevel_keeps_engine _ d k q, dspRelevel_frame _ d k q⟩
  obtain ⟨hlow, heng, hframe⟩ := hlevel
  rcases ht with ht | ⟨d, p, ht⟩
  · rw [ht]
    exact ⟨hlow, heng, by rw [hframe]⟩
  · rw [ht, raise_frame]
    exact ⟨hlow, heng, by rw [hframe]⟩

/-- What an application changes in all. -/
theorem applyEpoch_frame (s : State) (cls entry : Nat) (r : EpochReq) :
    let t := s.applyEpoch cls entry r
    t = { s with applied := t.applied, gens := t.gens, demods := t.demods, lanes := t.lanes, dies := t.dies,
                 chans := t.chans, regs := t.regs, dsps := t.dsps, ports := t.ports } := by
  obtain ⟨-, -, hafter⟩ := applyEpoch_after s cls entry r
  have htake := takeSetting_frame s cls (entryDie cls entry) (entryUnit cls entry) r
  dsimp only at hafter htake ⊢
  rw [hafter, State.published, State.publish, htake]
  rfl

/-- The unit's own record after an application: its epoch, and its SETTING where its die is selected (R48). -/
theorem appl_applyEpoch (s : State) (cls entry k : Nat) (r : EpochReq) :
    (s.applyEpoch cls entry r).appl k = if k = applKey cls entry then
      { s.appl k with pub := pushTrail 128 s.cyc r.epoch (s.appl k).pub,
                      setting := if r.selects (entryDie cls entry) then r.setting else (s.appl k).setting }
      else s.appl k := by
  obtain ⟨-, -, hafter⟩ := applyEpoch_after s cls entry r
  have htake := takeSetting_frame s cls (entryDie cls entry) (entryUnit cls entry) r
  rw [hafter]
  refine (appl_publish _ cls entry k r _).trans ?_
  rw [htake]
  rfl

theorem appliedEpoch_applyEpoch (s : State) (cls entry cls' entry' : Nat) (r : EpochReq) :
    (s.applyEpoch cls entry r).appliedEpoch cls' entry' =
      if applKey cls' entry' = applKey cls entry then r.epoch else s.appliedEpoch cls' entry' := by
  rw [State.appliedEpoch, appl_applyEpoch]
  split <;> rfl

/-- Settles O7: a unit applies only a request beyond the epoch that it has applied (R49). -/
theorem appliedEpochNeverGoesBack : Obligations.AppliedEpochNeverGoesBack := by
  intro cls entry cls' entry' s t h
  rcases exec_epochApply_cases cls entry s with hs | ⟨r, hr, hs⟩
  · obtain rfl : s = t := by simpa [hs] using h
    exact epochAtLeast_refl _
  · obtain rfl : s.applyEpoch cls entry r = t := by simpa [hs] using h
    rw [appliedEpoch_applyEpoch]
    split
    · next hkey =>
      rw [State.appliedEpoch, hkey]
      exact epochAtLeast_of_beyond (pendingEpoch_beyond hr)
    · exact epochAtLeast_refl _

/-- A request that arrives (R46, R47). -/
theorem exec_epochRequestArrive {d : Nat} {s s1 : State} {m : Msg} {r : EpochReq}
    (ha : s.arrived d MsgBody.isEpoch = some (m, s1)) (hm : m.body = .epoch r) :
    exec (.epochRequestArrive d) s = .next (s1.receiveEpoch d r).2 := by
  show execEpochRequestArrive d s = _
  simp only [execEpochRequestArrive, ha, hm]

/-- Settles O6: an arriving request against the record of its die, and a unit that applies one (R46–R49). -/
theorem epochsArriveAndApply : Obligations.EpochsArriveAndApply := by
  refine ⟨fun d s s1 m r ha hm hb => ?_, fun d s s1 m r ha hm hb => ?_,
    fun cls entry r s hcls hdie hret hr hbound hrail => ?_⟩
  · obtain ⟨fl, rfl⟩ : ∃ fl, s1 = { s with flight := fl } := ⟨_, arrived_frame ha⟩
    rw [exec_epochRequestArrive ha hm]
    have hb' : epochBeyond r.epoch (({ s with flight := fl } : State).epochRec (d * 4 + r.cls)).last = true := hb
    rw [receiveEpoch_beyond hb']
    refine ⟨_, rfl, ?_, ?_, fun k hk => ?_, rfl⟩
    · rw [epochRec_setEpochRec, if_pos rfl]
    · rw [epochRec_setEpochRec, if_pos rfl]
      rfl
    · rw [epochRec_setEpochRec, if_neg hk]
      rfl
  · obtain ⟨fl, rfl⟩ : ∃ fl, s1 = { s with flight := fl } := ⟨_, arrived_frame ha⟩
    rw [exec_epochRequestArrive ha hm]
    have hb' : epochBeyond r.epoch (({ s with flight := fl } : State).epochRec (d * 4 + r.cls)).last = false := hb
    rw [receiveEpoch_stale hb']
  · obtain ⟨hlow, heng, hafter⟩ := applyEpoch_after s cls entry r
    have hpub : (s.published cls entry r).dsps = s.dsps ∧ (s.published cls entry r).ports = s.ports := by
      rw [State.published, State.publish, takeSetting_frame]
      exact ⟨rfl, rfl⟩
    refine ⟨_, exec_epochApply_applies hcls hdie hret hr hbound hrail, ?_, ?_, fun k hk => ?_, fun k => ?_, fun k => ?_,
      fun k => ?_, fun h => ?_, fun k => ?_, applyEpoch_frame s cls entry r⟩
    · rw [appliedEpoch_applyEpoch, if_pos rfl]
    · rw [appl_applyEpoch, if_pos rfl]
    · rw [appl_applyEpoch, if_neg hk]
    · rw [← gen_takeSetting, hafter]
      rfl
    · rw [← demod_takeSetting, hafter]
      rfl
    · rw [← lane_takeSetting, hafter]
      rfl
    · exact ⟨(hlow h).1.trans hpub.1, (hlow h).2.trans hpub.2⟩
    · have hdsp : (s.published cls entry r).dsp k = s.dsp k := by simp only [State.dsp, hpub.1]
      rw [← hdsp]
      exact heng k

end Sys2Proof.Machine
end

section
/-!
PROOFS. The Gangway: the fixed routes between dies (R22), links that fail (R25, R256, R554) and wire groups that a spare
replaces (R554, R555).
-/

namespace Sys2Proof.Machine

/-- Settles O46: the routes between the dies of each member, read off pair by pair. -/
theorem routesBetweenDies : Obligations.RoutesBetweenDies := by
  refine ⟨fun i j hi => ?_, fun n i j hn hi => ?_⟩
  · revert j
    revert i
    decide
  · revert j
    revert i
    rcases hn with rfl | rfl
    · decide
    · decide

/-! Links (R25, R554, R555). -/

/-- The far end of a link, by its key. -/
def State.farKey (s : State) (d link : Nat) : Nat :=
  farDie s.member.dies d link * 4 + farLink s.member.dies link

/-- A link that stops changes its two ends and what is to be marked (R25, R256). -/
theorem stopLink_frame (s : State) (d link : Nat) :
    s.stopLink d link = { s with glinks := (s.stopLink d link).glinks, marks := (s.stopLink d link).marks } := rfl

theorem glink_stopLink (s : State) (d link k : Nat) :
    (s.stopLink d link).glink k =
      if k = d * 4 + link ∨ k = s.farKey d link then { s.glink k with up := false } else s.glink k := by
  have hset : (s.stopLink d link).glink k =
      ((s.setGlink (d * 4 + link) { s.glink (d * 4 + link) with up := false }).setGlink (s.farKey d link)
        { s.glink (s.farKey d link) with up := false }).glink k := rfl
  rw [hset, glink_setGlink, glink_setGlink]
  by_cases hfar : k = s.farKey d link
  · simp [hfar]
  · by_cases hnear : k = d * 4 + link
    · subst hnear
      simp [hfar]
    · simp [hfar, hnear]

/-- The state in which a link's failure has been found at both of its ends, before it stops. -/
def State.endsFailed (s : State) (d link : Nat) : State :=
  let s1 := s.setGlink (d * 4 + link) { s.glink (d * 4 + link) with failed := true }
  s1.setGlink (s.farKey d link) { s1.glink (s.farKey d link) with failed := true }

theorem endsFailed_frame (s : State) (d link : Nat) :
    s.endsFailed d link = { s with glinks := (s.endsFailed d link).glinks } := rfl

theorem glink_endsFailed (s : State) (d link k : Nat) :
    (s.endsFailed d link).glink k =
      if k = d * 4 + link ∨ k = s.farKey d link then { s.glink k with failed := true } else s.glink k := by
  simp only [State.endsFailed, glink_setGlink]
  by_cases hfar : k = s.farKey d link
  · subst hfar
    by_cases hnear : s.farKey d link = d * 4 + link <;> simp [hnear]
  · by_cases hnear : k = d * 4 + link
    · subst hnear
      simp [hfar]
    · simp [hfar, hnear]

/-- The state in which a link has failed and stopped, before the failure is logged. -/
def State.linkFailed (s : State) (d link : Nat) : State := (s.endsFailed d link).stopLink d link

theorem exec_gangwayLinkFail {d link : Nat} {s : State} (hl : link < linkCount s.member.dies) (hd : d < s.member.dies) :
    exec (.gangwayLinkFail d link) s = .next ((s.linkFailed d link).log d 0x0C 0 0 link) := by
  have hex : ¬(linkCount s.member.dies ≤ link ∨ s.member.dies ≤ d) := by omega
  show execGangwayLinkFail d link s = _
  rw [execGangwayLinkFail, if_neg hex]
  rfl

theorem linkFailed_frame (s : State) (d link : Nat) :
    s.linkFailed d link = { s with glinks := (s.linkFailed d link).glinks, marks := (s.linkFailed d link).marks } := by
  rw [State.linkFailed, stopLink_frame, endsFailed_frame]

/-- Both ends of a failed link are down, and every other link stays. -/
theorem glink_linkFailed (s : State) (d link k : Nat) :
    (s.linkFailed d link).glink k =
      if k = d * 4 + link ∨ k = s.farKey d link then { s.glink k with up := false, failed := true } else s.glink k := by
  have hfar : (s.endsFailed d link).farKey d link = s.farKey d link := rfl
  rw [State.linkFailed, glink_stopLink, hfar, glink_endsFailed]
  split <;> rfl

theorem marks_stopLink (s : State) (d link : Nat) :
    (s.stopLink d link).marks = s.marks ++ (s.subs.filter (fun p =>
      (p.2.st == .active || (p.2.st == .pending && p.2.awaited)) && (s.mirrorHops p.1).any (fun h =>
        h == (d, link) || h == (farDie s.member.dies d link, farLink s.member.dies link)))).map
      (fun p => (s.cyc + 2, selDie p.1, selUnit p.1)) := rfl

theorem marks_linkFailed (s : State) (d link : Nat) : ∀ m ∈ s.marks, m ∈ (s.linkFailed d link).marks := by
  intro m hm
  rw [State.linkFailed, marks_stopLink]
  exact List.mem_append_left _ hm

/-- A mirror whose updates use the link is to be marked two cycles later (R256). -/
theorem mem_marks_linkFailed (s : State) (d link : Nat) (p : Nat × Sub) (hp : p ∈ s.subs)
    (hst : p.2.st = SubState.active ∨ (p.2.st = SubState.pending ∧ p.2.awaited = true))
    (hhop : (d, link) ∈ s.mirrorHops p.1 ∨
      (farDie s.member.dies d link, farLink s.member.dies link) ∈ s.mirrorHops p.1) :
    (s.cyc + 2, selDie p.1, selUnit p.1) ∈ (s.linkFailed d link).marks := by
  rw [State.linkFailed, marks_stopLink]
  refine List.mem_append_right _ (List.mem_map_of_mem (List.mem_filter.2 ⟨hp, ?_⟩))
  rw [Bool.and_eq_true, List.any_eq_true]
  refine ⟨by simpa using hst, ?_⟩
  have hmember : (s.endsFailed d link).member = s.member := rfl
  rcases hhop with h | h
  · exact ⟨_, h, by simp⟩
  · exact ⟨_, h, by simp [hmember]⟩

/-- Settles O27: what the failed link leaves, and then what the log adds. -/
theorem gangwayFaults : Obligations.GangwayFaults := by
  refine ⟨fun d link k far s hl hd hk hfar => ?_, fun d link s h => ?_, fun d link group s hroom hnew hlt => ?_,
    fun d link group s h => ?_⟩
  · obtain ⟨gs, ms, hfail⟩ : ∃ gs ms, s.linkFailed d link = { s with glinks := gs, marks := ms } :=
      ⟨_, _, linkFailed_frame s d link⟩
    have hexec := exec_gangwayLinkFail hl hd
    have hglink := glink_linkFailed s d link
    have hmarked := mem_marks_linkFailed s d link
    have hkept := marks_linkFailed s d link
    have hkey : s.farKey d link = far := hfar.symm
    rw [hfail] at hexec hmarked hkept
    rw [hfail, ← hk, hkey] at hglink
    have hlog := log_frame { s with glinks := gs, marks := ms } d 0x0C 0 0 link
    refine ⟨_, hexec, ?_, ?_, fun j hj hj' => ?_, fun p hp hst hhop => ?_, fun m hm => ?_,
      fun h => logs_log _ _ _ _ h, fun h => logsLost_log _ _ _ _ h, ?_⟩
    · rw [hlog]
      exact (hglink k).trans (if_pos (.inl rfl))
    · rw [hlog]
      exact (hglink far).trans (if_pos (.inr rfl))
    · rw [hlog]
      exact (hglink j).trans (if_neg (by simp [hj, hj']))
    · rw [hlog]
      exact hmarked p hp hst hhop
    · rw [hlog]
      exact hkept m hm
    · rw [hlog]
  · show execGangwayLinkFail d link s = _
    rw [execGangwayLinkFail, if_pos h]
  · show execGangwaySpareSwap d link group s = _
    simp only [execGangwaySpareSwap, if_pos (⟨hroom, hnew, hlt⟩ : _ ∧ _ ∧ _)]
  · show execGangwaySpareSwap d link group s = _
    have hno : ¬((s.glink (d * 4 + link)).spared.length < 4 ∧ ¬group ∈ (s.glink (d * 4 + link)).spared ∧ group < 40) :=
      fun ⟨hroom, hnew, hlt⟩ => h.elim (Nat.not_le.2 hroom) (·.elim hnew (Nat.not_le.2 hlt))
    simp only [execGangwaySpareSwap, if_neg hno]

end Sys2Proof.Machine
end

section
/-!
PROOFS. Outcome slots: what a write or a clear leaves in its slot and what forwards it (R36–R39, R243, R245, R253).
-/

namespace Sys2Proof.Machine

/-! What forwards a slot's value (R253, R258). -/

theorem sendDevice_frame (s : State) (d slot dev : Nat) (m : DecMsg) :
    s.sendDevice d slot dev m = { s with
      regs := (s.sendDevice d slot dev m).regs, flight := (s.sendDevice d slot dev m).flight,
      routes := (s.sendDevice d slot dev m).routes } := by
  simp only [State.sendDevice, State.departs]
  split
  · rfl
  · split
    · rw [count_frame]
      rfl
    · rfl

theorem forwardView_frame (s : State) (f : Forward) :
    s.forwardView f = { s with
      regs := (s.forwardView f).regs, flight := (s.forwardView f).flight, routes := (s.forwardView f).routes } := by
  simp only [State.forwardView]
  split
  · split
    · rfl
    · rw [inc_frame]
      rfl
  · next dev _ =>
    split
    · next s1 h =>
      obtain rfl : _ = s1 := congrArg Prod.snd h
      rfl
    · rw [sendDevice_frame, inc_frame]

theorem foldl_forwardView_frame (fs : List Forward) (s : State) :
    fs.foldl State.forwardView s = { s with
      regs := (fs.foldl State.forwardView s).regs, flight := (fs.foldl State.forwardView s).flight,
      routes := (fs.foldl State.forwardView s).routes } := by
  induction fs generalizing s with
  | nil => rfl
  | cons f fs ih => rw [List.foldl_cons, ih, forwardView_frame]

/-- Sending a slot's view changes flight, its counters and the egress of routes only. -/
theorem sendUpdates_frame (s : State) (d n : Nat) :
    s.sendUpdates d n = { s with
      regs := (s.sendUpdates d n).regs, flight := (s.sendUpdates d n).flight, routes := (s.sendUpdates d n).routes } :=
  foldl_forwardView_frame _ s

theorem slot_sendUpdates (s : State) (d n k : Nat) : (s.sendUpdates d n).slot k = s.slot k := by
  rw [sendUpdates_frame]
  rfl

/-! Writes (R39, R243). -/

/-- A slot of which a higher-numbered port than `p` has written the value in a cycle (R39). -/
def Slot.later (x : Slot) (cyc p : Nat) : Bool := x.wrote.any (fun w => w.1 == cyc && decide (p < w.2))

/-- A slot once a post has been written to it through a port in a cycle. -/
def Slot.written (x : Slot) (cyc p : Nat) (value : BitVec 8) : Slot :=
  { x with
    pub := pushTrail 8 (cyc + 1) ⟨if x.later cyc p then x.view.value else value, true, x.view.gen + 1⟩ x.pub
    wrote := some (cyc, if x.later cyc p then (x.wrote.map (·.2)).getD p else p)
    clearing := x.clearing || x.cleared == some cyc }

/-- A write replaces its slot, whose view is then sent. -/
theorem writeSlot_eq (s : State) (d p n : Nat) (v : BitVec 8) :
    s.writeSlot d p n v = (s.setSlot (sel d n) ((s.slot (sel d n)).written s.cyc p v)).sendUpdates d n := by
  rcases hw : (s.slot (sel d n)).wrote with _ | ⟨c, q⟩ <;>
    simp [State.writeSlot, State.putView, setSlot_setSlot, Slot.written, Slot.later, hw]

theorem slot_writeSlot (s : State) (d p n k : Nat) (v : BitVec 8) :
    (s.writeSlot d p n v).slot k = if k = sel d n then (s.slot (sel d n)).written s.cyc p v else s.slot k := by
  rw [writeSlot_eq, slot_sendUpdates, slot_setSlot]

theorem writeSlot_frame (s : State) (d p n : Nat) (v : BitVec 8) :
    s.writeSlot d p n v = { s with
      slots := (s.writeSlot d p n v).slots, regs := (s.writeSlot d p n v).regs,
      flight := (s.writeSlot d p n v).flight, routes := (s.writeSlot d p n v).routes } := by
  rw [writeSlot_eq, sendUpdates_frame]
  rfl

/-- The first write of a cycle (R243). -/
theorem view_written_first {x : Slot} {cyc : Nat} (p : Nat) (v : BitVec 8) (h : ∀ w ∈ x.wrote, w.1 ≠ cyc) :
    (x.written cyc p v).view = ⟨v, true, x.view.gen + 1⟩ := by
  have hlater : x.later cyc p = false := by
    rw [Slot.later, Option.any_eq_false]
    intro w hw
    simp [h w hw]
  simp [Slot.written, hlater, Slot.view, pushTrail, newest]

/-- A further write of a cycle: the value of the higher-numbered port stays (R39). -/
theorem view_written_again {x : Slot} {cyc q : Nat} (p : Nat) (v : BitVec 8) (h : x.wrote = some (cyc, q)) :
    (x.written cyc p v).view = ⟨if p < q then x.view.value else v, true, x.view.gen + 1⟩ := by
  have hlater : x.later cyc p = decide (p < q) := by simp [Slot.later, h]
  simp [Slot.written, hlater, Slot.view, pushTrail, newest]

/-! Clears (R245). -/

/-- A slot once it has been cleared in a cycle. -/
def Slot.clearedIn (x : Slot) (cyc : Nat) : Slot :=
  { x with pub := pushTrail 8 (cyc + 1) ⟨0, false, x.view.gen⟩ x.pub, clearing := false, cleared := some cyc }

theorem clearSlot_eq (s : State) (d n : Nat) :
    s.clearSlot d n = (s.setSlot (sel d n) ((s.slot (sel d n)).clearedIn s.cyc)).sendUpdates d n := by
  simp only [State.clearSlot, State.putView, setSlot_setSlot, slot_setSlot, if_true, Slot.clearedIn]

theorem slot_clearSlot (s : State) (d n k : Nat) :
    (s.clearSlot d n).slot k = if k = sel d n then (s.slot (sel d n)).clearedIn s.cyc else s.slot k := by
  rw [clearSlot_eq, slot_sendUpdates, slot_setSlot]

theorem clearSlot_frame (s : State) (d n : Nat) :
    s.clearSlot d n = { s with
      slots := (s.clearSlot d n).slots, regs := (s.clearSlot d n).regs, flight := (s.clearSlot d n).flight,
      routes := (s.clearSlot d n).routes } := by
  rw [clearSlot_eq, sendUpdates_frame]
  rfl

theorem exec_slotClear_now {d n : Nat} {s : State} (h : ∀ w ∈ (s.slot (sel d n)).wrote, w.1 ≠ s.cyc) :
    exec (.slotClear d n) s = .next (s.clearSlot d n) := by
  show execSlotClear d n s = _
  simp only [execSlotClear]
  split
  · next c p hw => exact if_neg (h (c, p) hw)
  · rfl

/-- Settles O25: a port's turn by what is offered to it (R37), and a slot's write or clear by what it met in the cycle (R39,
R245). -/
theorem slotWritesAndClears : Obligations.SlotWritesAndClears := by
  refine ⟨fun d p y ys s h => ?_, fun d p y s h0 hd ho hy => ?_, fun d p s h0 h => ?_, fun d p n v s h => ?_,
    fun d p q n v s h => ?_, fun d p n v s => ⟨fun k hk => ?_, writeSlot_frame s d p n v⟩, fun d n s h => ?_,
    fun d n p s h => ?_⟩
  · show execOutcomePortWrite d p s = _
    simp only [execOutcomePortWrite, h]
  · show execOutcomePortWrite d p s = _
    simp only [execOutcomePortWrite, h0, if_neg (not_or.2 ⟨hd, ho⟩), hy]
  · show execOutcomePortWrite d p s = _
    simp only [execOutcomePortWrite, h0]
    rcases h with h | h | h
    · rw [if_pos (.inl h)]
    · rw [if_pos (.inr h)]
    · have hnone : (List.range 4).findSome? (fun r => (s.offered (d * 16 + p) r).head?) = none := by
        rw [List.findSome?_eq_none_iff]
        intro r hr
        rw [h r (List.mem_range.1 hr)]
        rfl
      rw [hnone]
      exact ite_self _
  · rw [slot_writeSlot, if_pos rfl]
    exact view_written_first p v h
  · rw [slot_writeSlot, if_pos rfl]
    exact view_written_again p v h
  · rw [slot_writeSlot, if_neg hk]
  · refine ⟨_, exec_slotClear_now h, ?_, fun k hk => ?_, clearSlot_frame s d n⟩
    · rw [slot_clearSlot, if_pos rfl]
      rfl
    · rw [slot_clearSlot, if_neg hk]
  · show execSlotClear d n s = _
    simp only [execSlotClear, h, if_true]

end Sys2Proof.Machine
end

section
/-!
PROOFS. Commands on their way into the queues of the tone generators (R29, R30, R32, R108, R109).
-/

namespace Sys2Proof.Machine

/-- The state once generator `g` of die `d` has taken a command that came in time (R29, R32). -/
def State.admitted (s : State) (d g : Nat) (c : GenCmd) : State :=
  (s.seqAccepted c.die c.seq).setGen (sel d g)
    { s.gen (sel d g) with queue := insCmd { c with at_ := s.cyc } (s.gen (sel d g)).queue }

/-- A generator that admits a command takes it into its queue. -/
theorem enqueue_admitted {s : State} {d g : Nat} {c : GenCmd} (h : admits s d g c.stamp = true) :
    s.enqueue d g c = s.admitted d g c := by
  simp only [admits, Bool.and_eq_true, bne_iff_ne, ne_eq, decide_eq_true_eq] at h
  obtain ⟨⟨⟨hon, hroom⟩, hstep⟩, htime⟩ := h
  simp only [State.enqueue, hon, Bool.not_true, Bool.false_eq_true, if_false, if_pos hroom, State.letIn, if_neg hstep,
    if_pos htime]
  rfl

/-- What an admitted command changes: its generator's queue and its sequencer's QFULL. -/
theorem admitted_reads (s : State) (d g : Nat) (c : GenCmd) :
    (∀ k : Nat, (s.admitted d g c).gen k = if k = sel d g then
      { s.gen (sel d g) with queue := insCmd { c with at_ := s.cyc } (s.gen (sel d g)).queue } else s.gen k) ∧
    (∀ k : Nat, (s.admitted d g c).seq k = if k = sel c.die c.seq then
      { s.seq (sel c.die c.seq) with qfull := false } else s.seq k) ∧
    s.admitted d g c = { s with gens := (s.admitted d g c).gens, seqs := (s.admitted d g c).seqs } :=
  ⟨fun k => gen_setGen (s.seqAccepted c.die c.seq) (sel d g) k _, fun k => seq_setSeq s (sel c.die c.seq) k _, rfl⟩

theorem exec_remoteCommandArrive {d g : Nat} {c : GenCmd} {s s1 : State} {m : Msg}
    (ha : s.arrived d MsgBody.isRemote = some (m, s1)) (hm : m.body = .remote g c) :
    exec (.remoteCommandArrive d) s = .next (if m.doomed then s1 else s1.enqueue d g c) := by
  show execRemoteCommandArrive d s = _
  simp only [execRemoteCommandArrive, ha, hm]

/-- Settles O8: taken out of flight, a command on time is admitted (R109), and a refusal or a notice reaches its sequencer
(R32). -/
theorem remoteCommandsArrive : Obligations.RemoteCommandsArrive := by
  refine ⟨fun d g c s s1 m ha hm hdoom hon hroom hstep htime => ?_, fun d g c s s1 m ha hm hdoom => ?_,
    fun d q e g s s1 m ha hm => ?_, fun d q e g s s1 m ha hm hby => ?_⟩ <;>
    obtain ⟨fl, rfl⟩ : ∃ fl, s1 = { s with flight := fl } := ⟨_, arrived_frame ha⟩
  · have hadm : admits { s with flight := fl } d g c.stamp = true := by
      simp only [admits, Bool.and_eq_true, bne_iff_ne, ne_eq, decide_eq_true_eq]
      exact ⟨⟨⟨hon, hroom⟩, hstep⟩, htime⟩
    obtain ⟨hgen, hseq, hframe⟩ := admitted_reads { s with flight := fl } d g c
    refine ⟨({ s with flight := fl } : State).admitted d g c, ?_, (hgen _).trans (if_pos rfl),
      fun k hk => (hgen k).trans (if_neg hk), (hseq _).trans (if_pos rfl), fun k hk => (hseq k).trans (if_neg hk), hframe⟩
    rw [exec_remoteCommandArrive ha hm, hdoom, ← enqueue_admitted hadm]
    rfl
  · rw [exec_remoteCommandArrive ha hm, hdoom]
    rfl
  · refine ⟨({ s with flight := fl } : State).seqRefused d q e g, ?_, ?_, fun k hk => ?_, rfl⟩
    · show execRemoteRefusalReturn d q s = _
      simp only [execRemoteRefusalReturn, ha, hm]
    · exact (seq_setSeq _ _ _ _).trans (if_pos rfl)
    · exact (seq_setSeq _ _ _ _).trans (if_neg hk)
  · refine ⟨({ s with flight := fl } : State).setSeq (sel d q) { s.seq (sel d q) with qfree := true }, ?_, ?_,
      fun k hk => ?_, rfl⟩
    · show execRemoteRefusalReturn d q s = _
      simp only [execRemoteRefusalReturn, ha, hm]
      exact congrArg _ (if_pos hby)
    · exact (seq_setSeq _ _ _ _).trans (if_pos rfl)
    · exact (seq_setSeq _ _ _ _).trans (if_neg hk)

end Sys2Proof.Machine
end

section
/-!
PROOFS. Actions of microwords that command tone generators (R29, R109, R153, R154, R162), and the checks that follow an action
(R134, R168, R263).
-/

namespace Sys2Proof.Machine

/-! The checks that follow an action. -/

/-- Two states of a sequencer with the same word, timeline and execution cycle, and the same causes held (R131, R168). -/
structure SameWord (x y : Seq) : Prop where
  mw : y.mw = x.mw
  t : y.t = x.t
  exec : y.exec = x.exec
  raised : y.raised = x.raised

theorem SameWord.refl (x : Seq) : SameWord x x := ⟨rfl, rfl, rfl, rfl⟩

/-- An action keeps what the checks after it read: the words of the sequencers, their conditions and the slots. -/
structure ActionKeeps (s t : State) : Prop where
  member : t.member = s.member
  clock : t.clock = s.clock
  recent : t.recent = s.recent
  doms : t.doms = s.doms
  slots : t.slots = s.slots
  tableMap : ∀ k : Nat, t.rd Obj.TABLE_MAP k = s.rd Obj.TABLE_MAP k
  word : ∀ k : Nat, SameWord (s.seq k) (t.seq k)

/-- A condition on a mirror reads nothing that the action has changed. -/
theorem waitsOnLost_kept {s t : State} (h : ActionKeeps s t) (d q : Nat) : t.waitsOnLost d q = s.waitsOnLost d q := by
  have hbefore : t.before = s.before := by
    funext id k w delay
    simp only [State.before, h.recent, h.clock]
  have hentry : t.condEntry = s.condEntry := by
    funext k i
    simp only [State.condEntry, State.dwSeen, State.dw, hbefore, h.doms]
  have hmap : t.mapEntries = s.mapEntries := by
    funext k
    have hseen : t.rdSeen Obj.TABLE_MAP k 2 = s.rdSeen Obj.TABLE_MAP k 2 := by
      simp only [State.rdSeen, hbefore, h.tableMap]
    rw [State.mapEntries, hseen, State.mapEntries]
  have hslot : t.slot = s.slot := by
    funext k
    simp only [State.slot, h.slots]
  simp only [State.waitsOnLost, State.sampled, hentry, hmap, hslot, (h.word _).mw]

/-- A word's lateness reads nothing that the action has changed. -/
theorem isLate_kept {s t : State} (h : ActionKeeps s t) (d k : Nat) :
    t.isLate d (t.seq k) = s.isLate d (s.seq k) := by
  simp only [State.isLate, State.lead, h.member, (h.word k).mw, (h.word k).t, (h.word k).exec]

/-- What it is for a word to act now. -/
theorem actsNow_facts {s : State} {d q : Nat} {w : MW} (h : actsNow s d q w = true) :
    s.seqRuns d q = true ∧ (s.seq (sel d q)).phase = .counted ∧ (s.seq (sel d q)).mw = w ∧
    (s.seq (sel d q)).raised = 0 ∧
    (s.isLate d (s.seq (sel d q)) = false ∨ w.lateChk = false ∧ (s.seq (sel d q)).resumed = false) ∧
    (w.wait < 2 ∨ s.waitsOnLost d q = false) := by
  simp only [actsNow, Bool.and_eq_true, beq_iff_eq, Bool.or_eq_true, Bool.not_eq_true', decide_eq_true_eq] at h
  obtain ⟨⟨⟨⟨⟨hruns, hphase⟩, hw⟩, hraised⟩, hlate⟩, hwait⟩ := h
  exact ⟨hruns, hphase, hw, hraised, hlate, hwait⟩

/-- A word that acts now passes the checks after its action, whatever the action does within `ActionKeeps`. -/
theorem checks_pass {s t : State} {d q : Nat} {w : MW} (hact : actsNow s d q w = true) (h : ActionKeeps s t) :
    ((t.lostWait d q).reportLate d q (s.seq (sel d q)).resumed).raiseHeld d q = t := by
  obtain ⟨-, -, hw, hraised, hlate, hwait⟩ := actsNow_facts hact
  have hmw : (t.seq (sel d q)).mw = w := (h.word _).mw.trans hw
  have hnone : (t.seq (sel d q)).raised = 0 := (h.word _).raised.trans hraised
  have hlost : t.lostWait d q = t := by
    refine if_neg fun ⟨hin, _, hon⟩ => ?_
    rcases hwait with hwait | hwait
    · simp only [State.inWait, hmw, Bool.and_eq_true, decide_eq_true_eq] at hin
      omega
    · rw [waitsOnLost_kept h, hwait] at hon
      cases hon
  have hreport : t.reportLate d q (s.seq (sel d q)).resumed = t := by
    simp only [State.reportLate, isLate_kept h, hmw]
    rcases hlate with hlate | ⟨hchk, hres⟩
    · simp [hlate]
    · simp [hchk, hres]
  rw [hlost, hreport]
  exact if_pos hnone

/-- The state in which the action of the current word begins (R146). -/
def State.acting (s : State) (d q : Nat) : State :=
  s.setSeq (sel d q) { s.seq (sel d q) with phase := .counted, resumed := false }

/-- The state in which the action of the current word is done. -/
def State.actDone (s : State) (d q : Nat) : State := s.setSeq (sel d q) { s.seq (sel d q) with phase := .acted }

theorem seq_acting (s : State) (d q k : Nat) : (s.acting d q).seq k =
    if k = sel d q then { s.seq (sel d q) with phase := .counted, resumed := false } else s.seq k := seq_setSeq s _ k _

theorem seq_actDone (s : State) (d q k : Nat) : (s.actDone d q).seq k =
    if k = sel d q then { s.seq (sel d q) with phase := .acted } else s.seq k := seq_setSeq s _ k _

/-- One sequencer changed twice. -/
theorem seq_changed_twice {s t u : State} {j : Nat} {y : Seq} (f : Seq → Seq)
    (ht : ∀ k : Nat, t.seq k = if k = j then y else s.seq k)
    (hu : ∀ k : Nat, u.seq k = if k = j then f (t.seq j) else t.seq k) (k : Nat) :
    u.seq k = if k = j then f y else s.seq k := by
  rw [hu]
  split
  · rw [ht, if_pos rfl]
  · next hk => rw [ht, if_neg hk]

theorem actDone_keeps {s t : State} (h : ActionKeeps s t) (d q : Nat) : ActionKeeps s (t.actDone d q) := by
  refine ⟨h.member, h.clock, h.recent, h.doms, h.slots, h.tableMap, fun k => ?_⟩
  rw [seq_actDone]
  split
  · next hk =>
    obtain ⟨hmw, ht, hexec, hraised⟩ := h.word (sel d q)
    rw [hk]
    exact ⟨hmw, ht, hexec, hraised⟩
  · exact h.word k

/-- What an action row answers for a word that acts now: the action between its beginning and its end, and the checks. -/
theorem actRow_eq {s : State} {d q n : Nat} {e : MwEcc} {w : MW} {is bad : MW → Bool} {f : State → Seq → State}
    (hact : actsNow s d q w = true) (hn : w.act = n) (his : is w = true) (hbad : bad w = false) :
    s.actRow d q n e is bad f =
      .next (((((f (s.acting d q) (s.seq (sel d q))).actDone d q).lostWait d q).reportLate d q
        (s.seq (sel d q)).resumed).raiseHeld d q) := by
  obtain ⟨hruns, hphase, hw, -⟩ := actsNow_facts hact
  subst hw hn
  simp only [State.actRow, hruns, hphase, beq_self_eq_true, Bool.and_self, if_true, his, hbad, unlessError, ne_eq,
    not_true_eq_false, Bool.not_true, Bool.false_eq_true, or_self, if_false]
  rfl

/-- A word that acts now completes with its action done, where the action changes no more than generators, objects other than
TABLE_MAP, flight and its own sequencer, which keeps its word. -/
theorem actRow_acts {s : State} {d q n : Nat} {e : MwEcc} {w : MW} {is bad : MW → Bool} {f : State → Seq → State}
    {gs : Tab Gen} {sq : Tab Seq} {rs : Tab (Tab Word)} {fl : List Msg} {i : Nat} {y : Seq}
    (hact : actsNow s d q w = true) (hn : w.act = n) (his : is w = true) (hbad : bad w = false)
    (hf : f (s.acting d q) (s.seq (sel d q)) =
      { s with gens := gs, seqs := sq, regs := rs, flight := fl, issued := i })
    (hmap : ∀ k : Nat, ({ s with regs := rs } : State).rd Obj.TABLE_MAP k = s.rd Obj.TABLE_MAP k)
    (hseq : ∀ k : Nat, ({ s with seqs := sq } : State).seq k = if k = sel d q then y else s.seq k)
    (hy : SameWord (s.seq (sel d q)) y) :
    ∃ sq', s.actRow d q n e is bad f =
        .next { s with gens := gs, seqs := sq', regs := rs, flight := fl, issued := i } ∧
      ∀ k : Nat, ({ s with seqs := sq' } : State).seq k =
        if k = sel d q then { y with phase := .acted } else s.seq k := by
  have hkeep : ActionKeeps s { s with gens := gs, seqs := sq, regs := rs, flight := fl, issued := i } := by
    refine ⟨rfl, rfl, rfl, rfl, rfl, hmap, fun k => ?_⟩
    have hread : ({ s with gens := gs, seqs := sq, regs := rs, flight := fl, issued := i } : State).seq k = _ := hseq k
    rw [hread]
    split
    · next hk => exact hk ▸ hy
    · exact SameWord.refl _
  rw [actRow_eq hact hn his hbad, hf, checks_pass hact (actDone_keeps hkeep d q)]
  exact ⟨_, rfl, seq_changed_twice (fun x => { x with phase := .acted }) hseq (seq_actDone { s with seqs := sq } d q)⟩

/-! Commands for generators of the own die (R29, R153, R154). -/

/-- The command of a word reaches a generator that admits it. -/
theorem command_reads {s : State} {d q g : Nat} (op : GenOp) (h : admits s d g (s.seq (sel d q)).t = true) :
    ∃ gs sq, (s.acting d q).command d q g (s.seq (sel d q)) op =
        { s with gens := gs, seqs := sq, issued := s.issued + 1 } ∧
      (∀ k : Nat, ({ s with gens := gs } : State).gen k = if k = sel d g then { s.gen (sel d g) with
        queue := insCmd { wordCommand s d q op with at_ := s.cyc } (s.gen (sel d g)).queue } else s.gen k) ∧
      (∀ k : Nat, ({ s with seqs := sq } : State).seq k = if k = sel d q then
        { s.seq (sel d q) with phase := .counted, resumed := false, qfull := false } else s.seq k) := by
  have hacting := seq_acting s d q
  obtain ⟨sq, hsq⟩ : ∃ sq, s.acting d q = { s with seqs := sq } := ⟨_, rfl⟩
  rw [hsq] at hacting ⊢
  obtain ⟨hgen, hseq, hframe⟩ :=
    admitted_reads { s with seqs := sq, issued := s.issued + 1 } d g (wordCommand s d q op)
  exact ⟨_, _, (enqueue_admitted h).trans hframe, hgen,
    seq_changed_twice (fun x => { x with qfull := false }) hacting hseq⟩

/-- A word whose generator admits its command completes with the command queued. -/
theorem command_acts {s : State} {d q g n : Nat} {e : MwEcc} {w : MW} {is bad : MW → Bool} {f : State → Seq → State}
    {op : GenOp} (hact : actsNow s d q w = true) (hn : w.act = n) (his : is w = true) (hbad : bad w = false)
    (hf : f (s.acting d q) (s.seq (sel d q)) = (s.acting d q).command d q g (s.seq (sel d q)) op)
    (hadm : admits s d g (s.seq (sel d q)).t = true) :
    ∃ t, s.actRow d q n e is bad f = .next t ∧ CommandQueued s t d q g op := by
  obtain ⟨gs, sq, hframe, hgen, hseq⟩ := command_reads op hadm
  obtain ⟨sq', hrow, hread⟩ := actRow_acts (e := e) hact hn his hbad (hf.trans hframe) (fun _ => rfl) hseq
    ⟨rfl, rfl, rfl, rfl⟩
  exact ⟨_, hrow, (hgen _).trans (if_pos rfl), fun k hk => (hgen k).trans (if_neg hk), (hread _).trans (if_pos rfl),
    fun k hk => (hread k).trans (if_neg hk), rfl, rfl⟩

/-! Commands for generators of other dies (R109, R162). -/

/-- The command sets out along a route that carries traffic. -/
theorem remote_sent_reads {s : State} {d q die g : Nat} (op : GenOp) (hne : die ≠ d) (hdie : die < s.member.dies)
    (hup : s.routeUp d die = true) :
    ∃ sq, (s.acting d q).remote d q die g (s.seq (sel d q)) op =
        { s with seqs := sq, issued := s.issued + 1, flight := s.flight ++
          [{ due := s.cyc, src := d, dst := die, body := .remote g (wordCommand s d q op), unit := q,
             left := route s.member.dies d die, issuer := some q }] } ∧
      (∀ k : Nat, ({ s with seqs := sq } : State).seq k =
        if k = sel d q then { s.seq (sel d q) with phase := .counted, resumed := false } else s.seq k) := by
  have hacting := seq_acting s d q
  obtain ⟨sq, hsq⟩ : ∃ sq, s.acting d q = { s with seqs := sq } := ⟨_, rfl⟩
  rw [hsq] at hacting ⊢
  refine ⟨sq, ?_, hacting⟩
  rw [State.remote, if_neg hne]
  refine (if_neg (Nat.not_le.2 hdie)).trans (send_up ?_)
  exact (all_hopOpen_remote { s with seqs := sq, issued := s.issued + 1 } d die g _).trans hup

/-- The command is dropped where no route carries it: its die counts it, and its sequencer is to take REMOTE_FAULT (R25). -/
theorem remote_dropped_reads {s : State} {d q die : Nat} (g : Nat) (op : GenOp) (hne : die ≠ d)
    (hdown : s.member.dies ≤ die ∨ s.routeUp d die = false) :
    ∃ sq, (s.acting d q).remote d q die g (s.seq (sel d q)) op =
        { s with seqs := sq, issued := s.issued + 1, regs := (s.inc Obj.DECISION_DROPPED (sel d 0)).regs } ∧
      (∀ k : Nat, ({ s with seqs := sq } : State).seq k = if k = sel d q then { s.seq (sel d q) with
        phase := .counted, resumed := false, faultAt := (s.seq (sel d q)).faultAt ++ [s.cyc + 2] } else s.seq k) := by
  have hacting := seq_acting s d q
  obtain ⟨sq, hsq⟩ : ∃ sq, s.acting d q = { s with seqs := sq } := ⟨_, rfl⟩
  rw [hsq] at hacting ⊢
  have hdrop : ({ s with seqs := sq } : State).remote d q die g (s.seq (sel d q)) op =
      (({ s with seqs := sq, issued := s.issued + 1 } : State).inc Obj.DECISION_DROPPED (sel d 0)).issuerFault d
        (some q) := by
    rw [State.remote, if_neg hne]
    by_cases hdie : s.member.dies ≤ die
    · exact if_pos hdie
    · refine (if_neg hdie).trans (send_down ?_)
      exact (all_hopOpen_remote { s with seqs := sq, issued := s.issued + 1 } d die g _).trans
        (hdown.resolve_left hdie)
  rw [hdrop, inc_frame, regs_inc_congr (t := { s with seqs := sq, issued := s.issued + 1 }) (s := s) rfl]
  exact ⟨_, rfl, seq_changed_twice (fun x => { x with faultAt := x.faultAt ++ [s.cyc + 2] }) hacting
    (fun k => seq_setSeq { s with seqs := sq } (sel d q) k _)⟩

/-- A REMOTE word completes, and its command ends in one of the three ways. -/
theorem remote_acts {s : State} {d q die g n : Nat} {e : MwEcc} {w : MW} {is bad : MW → Bool} {f : State → Seq → State}
    {op : GenOp} (hact : actsNow s d q w = true) (hn : w.act = n) (his : is w = true) (hbad : bad w = false)
    (hf : f (s.acting d q) (s.seq (sel d q)) = (s.acting d q).remote d q die g (s.seq (sel d q)) op) :
    ∃ t, s.actRow d q n e is bad f = .next t ∧ RemoteEnds s t d q die g op := by
  by_cases hdie : die = d
  · by_cases hadm : admits s d g (s.seq (sel d q)).t = true
    · obtain ⟨t, hrow, hqueued⟩ := command_acts (e := e) hact hn his hbad (hf.trans (if_pos hdie)) hadm
      exact ⟨t, hrow, fun _ _ => hqueued, fun h => absurd hdie h, fun h => absurd hdie h⟩
    · exact ⟨_, actRow_eq hact hn his hbad, fun _ h => absurd h hadm, fun h => absurd hdie h, fun h => absurd hdie h⟩
  · by_cases hup : die < s.member.dies ∧ s.routeUp d die = true
    · obtain ⟨sq, hframe, hseq⟩ := remote_sent_reads (g := g) op hdie hup.1 hup.2
      obtain ⟨sq', hrow, hread⟩ := actRow_acts (e := e) hact hn his hbad (hf.trans hframe) (fun _ => rfl) hseq
        ⟨rfl, rfl, rfl, rfl⟩
      refine ⟨_, hrow, fun h => absurd h hdie, fun _ _ _ => ⟨rfl, (hread _).trans (if_pos rfl),
        fun k hk => (hread k).trans (if_neg hk), rfl, rfl⟩, fun _ h => ?_⟩
      rcases h with h | h
      · exact absurd hup.1 (Nat.not_lt.2 h)
      · rw [hup.2] at h
        cases h
    · have hdown : s.member.dies ≤ die ∨ s.routeUp d die = false := by
        by_cases h : die < s.member.dies
        · exact .inr (by simpa [h] using hup)
        · exact .inl (Nat.not_lt.1 h)
      obtain ⟨sq, hframe, hseq⟩ := remote_dropped_reads (q := q) g op hdie hdown
      have hmap : ∀ k : Nat, (s.inc Obj.DECISION_DROPPED (sel d 0)).rd Obj.TABLE_MAP k = s.rd Obj.TABLE_MAP k :=
        fun k => rd_inc_other s (fun h => absurd h.1 (by decide))
      obtain ⟨sq', hrow, hread⟩ := actRow_acts (e := e) hact hn his hbad (hf.trans hframe) hmap hseq
        ⟨rfl, rfl, rfl, rfl⟩
      exact ⟨_, hrow, fun h => absurd h hdie, fun _ h1 h2 => absurd ⟨h1, h2⟩ hup, fun _ _ => ⟨rfl,
        (hread _).trans (if_pos rfl), fun k hk => (hread k).trans (if_neg hk), rfl, rfl⟩⟩

theorem actsNow_mw {s : State} {d q : Nat} {w : MW} (h : actsNow s d q w = true) : (s.seq (sel d q)).mw = w := by
  obtain ⟨-, -, hw, -⟩ := actsNow_facts h
  exact hw

/-- A REMOTE word of a KIND acts on the die, the generator and the fields of its operand (R162). -/
theorem remoteRow_acts {s : State} {d q kind : Nat} {e : MwEcc} {w : MW} {bad : MW → Bool} {f : MW → GenOp}
    (hact : actsNow s d q w = true) (hn : w.act = 0x0B) (hkind : w.op 64 63 = kind) (hlive : kind ≠ 3)
    (hbad : bad w = false) :
    ∃ t, s.remoteRow d q kind e bad f = .next t ∧ RemoteEnds s t d q (w.op 67 65) (w.op 62 56) (f w) := by
  obtain rfl := actsNow_mw hact
  rw [State.remoteRow]
  exact remote_acts hact hn (by simp [hkind]) (by simp [hkind, hlive, hbad]) rfl

/-- Settles O15: each row's operand, as its command (R153, R154, R162). -/
theorem generatorActions : Obligations.GeneratorActions := by
  refine ⟨fun d q e w s hact hn hz hadm => ?_, fun d q e w s hact hn hz hadm => ?_, fun d q e w s hact hn hz hadm => ?_,
    fun d q e w s hact hn hk => ?_, fun d q e w s hact hn hk hz => ?_, fun d q e w s hact hn hk hz => ?_⟩
  · obtain rfl := actsNow_mw hact
    show ∃ t, execPlay d q e s = .next t ∧ _
    rw [execPlay]
    exact command_acts hact hn rfl (bne_eq_false_iff_eq.2 hz) rfl hadm
  · obtain rfl := actsNow_mw hact
    show ∃ t, execFreq d q e s = .next t ∧ _
    rw [execFreq]
    exact command_acts hact hn rfl (bne_eq_false_iff_eq.2 hz) rfl hadm
  · obtain rfl := actsNow_mw hact
    show ∃ t, execPhase d q e s = .next t ∧ _
    rw [execPhase]
    exact command_acts hact hn rfl (bne_eq_false_iff_eq.2 hz) rfl hadm
  · show ∃ t, execRemotePlay d q e s = .next t ∧ _
    exact remoteRow_acts hact hn hk (by decide) rfl
  · show ∃ t, execRemoteFreq d q e s = .next t ∧ _
    exact remoteRow_acts hact hn hk (by decide) (bne_eq_false_iff_eq.2 hz)
  · show ∃ t, execRemotePhase d q e s = .next t ∧ _
    exact remoteRow_acts hact hn hk (by decide) (bne_eq_false_iff_eq.2 hz)

end Sys2Proof.Machine
end


section
/-!
PROOFS. Rules that the time base and the resets share: sticky bits, counters, tables that a command maps, and the wakes of
sleeping units.
-/

namespace Sys2Proof.Machine

/-! Sticky bits and counters. -/

theorem rd_setBit_same (s : State) (id k i : Nat) : (s.setBit id k i).rd id k = s.rd id k ||| word (2 ^ i) :=
  rd_wr_same s id k _

theorem rd_setBit_other (s : State) {id k id' k' : Nat} (i : Nat) (h : ¬(id' = id ∧ k' = k)) :
    (s.setBit id k i).rd id' k' = s.rd id' k' := rd_wr_other s _ h

theorem bit_setBit (s : State) (id k n : Nat) {i : Nat} (hi : i < 72) :
    bit ((s.setBit id k i).rd id k) n = (bit (s.rd id k) n || decide (n = i)) := by
  have hone : (word (2 ^ i)).getLsbD n = decide (n = i) := by
    rw [word, BitVec.getLsbD_ofNat, Nat.testBit_two_pow]
    by_cases h : n = i
    · simp [h, hi]
    · simp [h, Ne.symm h]
  rw [rd_setBit_same, bit, BitVec.getLsbD_or, hone, bit]

theorem toNat_word {n : Nat} (h : n < 2 ^ 72) : (word n).toNat = n := by
  rw [word, BitVec.toNat_ofNat, Nat.mod_eq_of_lt h]

theorem rdN_inc_same {s : State} {id k : Nat} (h : s.rdN id k + 1 < 2 ^ 32) : (s.inc id k).rdN id k = s.rdN id k + 1 := by
  rw [State.inc, State.count, if_pos h, State.rdN, State.wrN, rd_wr_same, toNat_word (by omega)]

/-! Tables. -/

section
variable {α β : Type}

theorem look_eq_or_mem (d : α) (t : Tab α) (k : Nat) : look d t k = d ∨ (k, look d t k) ∈ t := by
  induction t with
  | nil => exact .inl rfl
  | cons p t ih =>
    obtain ⟨j, v⟩ := p
    by_cases h : j = k
    · simp [look, h]
    · simp only [look, if_neg h]
      exact ih.imp_right (List.mem_cons_of_mem _)

theorem look_of_not_mem (d : α) {t : Tab α} {k : Nat} (h : k ∉ t.map Prod.fst) : look d t k = d :=
  (look_eq_or_mem d t k).resolve_right fun hm => h (List.mem_map_of_mem (f := Prod.fst) hm)

/-- A table whose values are mapped reads the mapped values. -/
theorem look_map_snd (d : α) (e : β) {f : α → β} (hf : f d = e) (t : Tab α) (k : Nat) :
    look e (t.map fun p => (p.1, f p.2)) k = f (look d t k) := by
  induction t with
  | nil => exact hf.symm
  | cons p t ih =>
    simp only [List.map_cons, look]
    split
    · rfl
    · exact ih

end

/-! Wakes (R531, R533). -/

theorem beginWake_frame (s : State) (target k time result : Nat) :
    s.beginWake target k time result = { s with sleep := (s.beginWake target k time result).sleep } := by
  simp only [State.beginWake]
  split <;> rfl

theorem wakeDie_frame (s : State) (d result : Nat) : s.wakeDie d result = { s with sleep := (s.wakeDie d result).sleep } := by
  simp only [State.wakeDie]
  split
  · exact beginWake_frame s _ _ _ _
  · rfl

theorem endStandby_frame (s : State) (result : Nat) :
    s.endStandby result = { s with sleep := (s.endStandby result).sleep } := by
  simp only [State.endStandby]
  split
  · refine List.foldlRecOn (motive := fun t : State => t = { s with sleep := t.sleep }) _ _ (beginWake_frame s _ _ _ _)
      fun t ht d _ => ?_
    rw [wakeDie_frame, ht]
  · rfl

/-- A wake cause changes what sleeps and wakes only. -/
theorem wakeCause_frame (s : State) (target k result : Nat) :
    s.wakeCause target k result = { s with sleep := (s.wakeCause target k result).sleep } := by
  simp only [State.wakeCause]
  split_ifs
  · rfl
  · rfl
  · exact endStandby_frame s result
  · exact wakeDie_frame s _ result
  · rfl
  · exact beginWake_frame s _ _ _ _

end Sys2Proof.Machine
end

section
/-!
PROOFS. Steps of device time (R70): what a step changes at once, and what it skips over.
-/

namespace Sys2Proof.Machine

/-! Notices of a free entry (R32). -/

/-- From `s` to `t`, notices of free queue entries have been paid: no queue has changed, what has been put in flight is no
REMOTE command, and of the objects only the drop counters can have changed. -/
structure NoticesPaid (s t : State) : Prop where
  queue : ∀ k : Nat, (t.gen k).queue = (s.gen k).queue
  flight : ∀ m ∈ t.flight, m ∈ s.flight ∨ m.body.isRemote = false
  objects : ∀ id k : Nat, id ≠ Obj.DECISION_DROPPED → t.rd id k = s.rd id k
  frame : t = { s with gens := t.gens, seqs := t.seqs, regs := t.regs, flight := t.flight }

theorem NoticesPaid.refl (s : State) : NoticesPaid s s :=
  ⟨fun _ => rfl, fun _ hm => .inl hm, fun _ _ _ => rfl, rfl⟩

theorem NoticesPaid.trans {s t u : State} (h : NoticesPaid s t) (h' : NoticesPaid t u) : NoticesPaid s u where
  queue k := (h'.queue k).trans (h.queue k)
  flight m hm := (h'.flight m hm).elim (h.flight m) .inr
  objects id k hid := (h'.objects id k hid).trans (h.objects id k hid)
  frame := by rw [h'.frame, h.frame]

theorem noticesPaid_foldl {α : Type} {f : State → α → State} (hf : ∀ s a, NoticesPaid s (f s a)) (l : List α) (s : State) :
    NoticesPaid s (l.foldl f s) :=
  List.foldlRecOn (motive := NoticesPaid s) l f (NoticesPaid.refl s) fun t ht a _ => ht.trans (hf t a)

theorem noticesPaid_notifyFree (s : State) (d g : Nat) (o : Nat × Nat) : NoticesPaid s (s.notifyFree d g o) := by
  simp only [State.notifyFree]
  split_ifs
  · exact ⟨fun _ => rfl, fun _ hm => .inl hm, fun _ _ _ => rfl, rfl⟩
  · exact NoticesPaid.refl s
  · rcases hr : (route s.member.dies d o.1).all (s.hopOpen o.1 (.freed o.2 d g))
    · have hsend : s.send d o.1 g none (.freed o.2 d g) = s.inc Obj.DECISION_DROPPED (sel d 0) := send_down hr
      rw [hsend]
      refine ⟨fun k => ?_, fun m hm => .inl ?_, fun id k hid => rd_inc_other s fun h => hid h.1, ?_⟩
      · rw [inc_frame]
        rfl
      · rwa [inc_frame] at hm
      · rw [inc_frame]
    · rw [send_up hr]
      refine ⟨fun _ => rfl, fun m hm => ?_, fun _ _ _ => rfl, rfl⟩
      rcases List.mem_append.1 hm with hm | hm
      · exact .inl hm
      · rw [List.mem_singleton.1 hm]
        exact .inr rfl

theorem noticesPaid_payOwed (s : State) (d g : Nat) : NoticesPaid s (s.payOwed d g) := by
  simp only [State.payOwed]
  split
  · exact NoticesPaid.refl s
  · refine NoticesPaid.trans (t := s.setGen (sel d g) { s.gen (sel d g) with owed := [] })
      ⟨fun k => ?_, fun _ hm => .inl hm, fun _ _ _ => rfl, rfl⟩
      (noticesPaid_foldl (fun t o => noticesPaid_notifyFree t d g o) _ _)
    rw [gen_setGen]
    split
    · next hk => rw [hk]
    · rfl

/-! What a step changes at once. -/

/-- The commands that have not issued are gone: every queue is empty, and REMOTE commands in flight are marked (R70). -/
structure CommandsDropped (s t : State) : Prop where
  queue : ∀ k : Nat, (t.gen k).queue = []
  flight : ∀ m ∈ t.flight, m.body.isRemote = true → m.doomed = true
  objects : ∀ id k : Nat, id ≠ Obj.DECISION_DROPPED → t.rd id k = s.rd id k
  frame : t = { s with gens := t.gens, seqs := t.seqs, regs := t.regs, flight := t.flight }

/-- The generators with their queues emptied. -/
def emptied (gens : Tab Gen) : Tab Gen :=
  gens.filterMap (fun p : Nat × Gen =>
    let g : Gen := { p.2 with queue := [] }
    if g = {} then none else some (p.1, g))

theorem queue_look_emptied (gens : Tab Gen) (k : Nat) : (look ({} : Gen) (emptied gens) k).queue = [] := by
  rcases look_eq_or_mem ({} : Gen) (emptied gens) k with h | h
  · rw [h]
  · obtain ⟨p, -, hp⟩ := List.mem_filterMap.1 h
    simp only [Option.ite_none_left_eq_some, Option.some.injEq, Prod.mk.injEq] at hp
    rw [← hp.2.2]

theorem commandsDropped (s : State) : CommandsDropped s s.dropCommands := by
  have hpaid := noticesPaid_foldl (fun t k => noticesPaid_payOwed t (selDie k) (selUnit k))
    ((emptied s.gens).map Prod.fst) { s with
      gens := emptied s.gens
      flight := s.flight.map (fun m : Msg => if m.body.isRemote then { m with doomed := true } else m) }
  refine ⟨fun k => (hpaid.queue k).trans (queue_look_emptied s.gens k), fun m hm hrem => ?_, hpaid.objects, hpaid.frame⟩
  rcases hpaid.flight m hm with hm | hm
  · obtain ⟨m', -, rfl⟩ := List.mem_map.1 hm
    split at hrem
    · next h => rw [if_pos h]
    · next h => exact absurd hrem h
  · rw [hm] at hrem
    cases hrem

/-! What a step changes at once (R70). -/

/-- The counted fires of the majority units on a list are forgotten. -/
theorem maj_foldl_forget (f : State → Nat → Maj) (hf : ∀ t k, (f t k).fires = []) (ks : List Nat) (s : State) (k : Nat)
    (hk : k ∈ ks ∨ (s.maj k).fires = []) : ((ks.foldl (fun u k => u.setMaj k (f u k)) s).maj k).fires = [] := by
  induction ks generalizing s with
  | nil => simpa using hk
  | cons j ks ih =>
    refine ih _ ?_
    rw [maj_setMaj]
    by_cases hj : k = j
    · simp [hj, hf]
    · rcases hk with hk | hk
      · exact .inl ((List.mem_cons.1 hk).resolve_left hj)
      · exact .inr (by rwa [if_neg hj])

theorem foldl_setMaj_frame (f : State → Nat → Maj) (ks : List Nat) (s : State) :
    ks.foldl (fun u k => u.setMaj k (f u k)) s = { s with majs := (ks.foldl (fun u k => u.setMaj k (f u k)) s).majs } := by
  refine List.foldlRecOn (motive := fun t : State => t = { s with majs := t.majs }) _ _ rfl fun t ht k _ => ?_
  show t.setMaj k _ = { s with majs := (t.setMaj k _).majs }
  rw [ht]
  rfl

/-- Writing one object of each of some dies changes no other object. -/
theorem foldl_wrN_frame (id : Nat) (n : State → Nat → Nat) (ds : List Nat) (s : State) :
    let t := ds.foldl (fun u d => u.wrN id (sel d 0) (n u d)) s
    t = { s with regs := t.regs } ∧ ∀ id' k : Nat, id' ≠ id → t.rd id' k = s.rd id' k := by
  refine List.foldlRecOn (motive := fun t : State => t = { s with regs := t.regs } ∧
    ∀ id' k : Nat, id' ≠ id → t.rd id' k = s.rd id' k) ds _ ⟨rfl, fun _ _ _ => rfl⟩ fun t ht d _ => ⟨?_, fun id' k h => ?_⟩
  · show t.wrN id (sel d 0) _ = { s with regs := (t.wrN id (sel d 0) _).regs }
    rw [ht.1]
    rfl
  · exact (rd_wr_other t _ fun h' => h h'.1).trans (ht.2 id' k h)

/-- A running average taken against a count that has moved (R80). -/
def LinkAvg.recounted (x : LinkAvg) (delta : Int) : LinkAvg := { x with sumOff2 := x.sumOff2 - 2048 * delta * x.count }

/-- From `s` to `t`, device time has stepped, with what follows at once (R70, R80, R316, R336). -/
structure TimeStepped (s t : State) (v : Time) (kind : StepKind) : Prop where
  clock : t.clock = { s.clock with now := v, lastStep := kind, stepCyc := some s.cyc, stepFrom := s.clock.now }
  queue : ∀ k : Nat, (t.gen k).queue = []
  flight : ∀ m ∈ t.flight, m.body.isRemote = true → m.doomed = true
  anchor : t.cal.anchor.valid = false
  fires : ∀ k : Nat, (t.maj k).fires = []
  steps : s.rdN Obj.TIME_STEPS 0 + 1 < 2 ^ 32 → t.rdN Obj.TIME_STEPS 0 = s.rdN Obj.TIME_STEPS 0 + 1
  links : t.links = s.links.map fun p => (p.1, p.2.recounted ((v.toNat : Int) - (s.now : Int)))
  objects : ∀ id k : Nat, id ≠ Obj.DECISION_DROPPED → id ≠ Obj.BIN_PHASE → id ≠ Obj.TIME_STEPS → t.rd id k = s.rd id k
  frame : t = { s with clock := t.clock, cal := t.cal, links := t.links, gens := t.gens, seqs := t.seqs,
                       flight := t.flight, majs := t.majs, regs := t.regs }

/-- The state in which the count has stepped, with the anchor and the running averages. -/
def State.counted (s : State) (v : Time) (kind : StepKind) (delta : Int) : State := { s with
  clock := { s.clock with now := v, lastStep := kind, stepCyc := some s.cyc, stepFrom := s.clock.now },
  cal := { s.cal with anchor := { s.cal.anchor with valid := false } },
  links := s.links.map fun p => (p.1, p.2.recounted delta) }

theorem setTime_stepped (s : State) (v : Time) (kind : StepKind) : TimeStepped s (s.setTime v kind) v kind := by
  obtain ⟨hqueue, hflight, hobj, hdrop⟩ := commandsDropped s
  set delta : Int := (v.toNat : Int) - (s.now : Int) with hdelta
  set s2 := s.dropCommands.counted v kind delta with hs2
  set s3 := (s2.majs.map Prod.fst).foldl (fun u k => u.setMaj k { u.maj k with
    fires := [], deaf := (u.maj k).deaf.map (fun c => (c + delta).toNat) }) s2 with hs3
  have hmaj := foldl_setMaj_frame (fun u k => { u.maj k with
    fires := [], deaf := (u.maj k).deaf.map (fun c => (c + delta).toNat) }) (s2.majs.map Prod.fst) s2
  set s4 := s3.dieList.foldl (fun u d => u.wrN Obj.BIN_PHASE (sel d 0)
    (((u.rdN Obj.BIN_PHASE (sel d 0) : Int) + delta) % 128).toNat) s3 with hs4
  obtain ⟨hbin, hbinrd⟩ := foldl_wrN_frame Obj.BIN_PHASE
    (fun u d => (((u.rdN Obj.BIN_PHASE (sel d 0) : Int) + delta) % 128).toNat) s3.dieList s3
  have hset : s.setTime v kind = s4.inc Obj.TIME_STEPS 0 := rfl
  rw [← hs4] at hbin hbinrd
  rw [← hs3] at hmaj
  have hframe : s4.inc Obj.TIME_STEPS 0 = { s2 with majs := s3.majs, regs := (s4.inc Obj.TIME_STEPS 0).regs } := by
    rw [inc_frame, hbin, hmaj]
  have hrd : ∀ id k : Nat, id ≠ Obj.DECISION_DROPPED → id ≠ Obj.BIN_PHASE → s4.rd id k = s.rd id k := by
    intro id k h1 h2
    rw [hbinrd id k h2, hmaj]
    exact hobj id k h1
  rw [hset]
  refine ⟨?_, ?_, ?_, ?_, ?_, ?_, ?_, ?_, ?_⟩
  · rw [hframe]
    show s2.clock = _
    rw [hs2, State.counted, hdrop]
  · rw [hframe]
    exact hqueue
  · rw [hframe]
    exact hflight
  · rw [hframe]
    rfl
  · intro k
    rw [hframe]
    refine maj_foldl_forget _ (fun _ _ => rfl) _ s2 k ?_
    by_cases hk : k ∈ s2.majs.map Prod.fst
    · exact .inl hk
    · exact .inr (by rw [State.maj, look_of_not_mem _ hk])
  · intro h
    have hsteps : s4.rdN Obj.TIME_STEPS 0 = s.rdN Obj.TIME_STEPS 0 :=
      congrArg BitVec.toNat (hrd Obj.TIME_STEPS 0 (by decide) (by decide))
    rw [rdN_inc_same (by rwa [hsteps]), hsteps]
  · rw [hframe]
    show s2.links = _
    rw [hs2, State.counted, hdrop]
  · intro id k h1 h2 h3
    rw [rd_inc_other s4 (fun h => h3 h.1)]
    exact hrd id k h1 h2
  · rw [hframe, hs2, State.counted, hdrop]

/-! What a step skips over (R70). -/

theorem mem_insScheduled (t : Nat) (a : Scheduled) (l : List (Nat × Scheduled)) (p : Nat × Scheduled) :
    p ∈ insScheduled t a l ↔ p = (t, a) ∨ p ∈ l := by
  induction l with
  | nil => simp [insScheduled]
  | cons q l ih =>
    simp only [insScheduled]
    split
    · simp
    · simp [ih, or_left_comm]

theorem pairwise_insScheduled (t : Nat) (a : Scheduled) {l : List (Nat × Scheduled)}
    (h : l.Pairwise fun p q => p.1 ≤ q.1) : (insScheduled t a l).Pairwise fun p q => p.1 ≤ q.1 := by
  induction l with
  | nil => simp [insScheduled]
  | cons q l ih =>
    obtain ⟨hq, hl⟩ := List.pairwise_cons.1 h
    simp only [insScheduled]
    split
    · next hlt =>
      refine List.pairwise_cons.2 ⟨fun p hp => ?_, h⟩
      rcases List.mem_cons.1 hp with rfl | hp
      · exact hlt.le
      · exact hlt.le.trans (hq p hp)
    · next hge =>
      refine List.pairwise_cons.2 ⟨fun p hp => ?_, ih hl⟩
      rcases (mem_insScheduled t a l p).1 hp with rfl | hp
      · exact Nat.le_of_not_lt hge
      · exact hq p hp

/-- Actions inserted one after another: they are all there, in order of time. -/
theorem foldl_insScheduled (l acc : List (Nat × Scheduled)) (h : acc.Pairwise fun p q => p.1 ≤ q.1) :
    (l.foldl (fun l p => insScheduled p.1 p.2 l) acc).Pairwise (fun p q => p.1 ≤ q.1) ∧
    ∀ p, p ∈ l.foldl (fun l p => insScheduled p.1 p.2 l) acc ↔ p ∈ l ∨ p ∈ acc := by
  induction l generalizing acc with
  | nil => exact ⟨h, by simp⟩
  | cons q l ih =>
    obtain ⟨hsorted, hmem⟩ := ih _ (pairwise_insScheduled q.1 q.2 h)
    refine ⟨hsorted, fun p => (hmem p).trans ?_⟩
    rw [mem_insScheduled, List.mem_cons]
    tauto

/-- The scheduled actions of a state: fires, the next pulse of SYNC_OUT, and timed wakes. -/
def State.scheduled (s : State) : List (Nat × Scheduled) :=
  s.fires.map (fun f => (f.time.toNat, Scheduled.fire f)) ++
    (match s.clock.syncOutNext with
      | some t => if s.rdN Obj.SYNC_OUT_ENABLE 0 = 1 then [(t.toNat, Scheduled.pulse)] else []
      | none => []) ++
    s.sleep.timers.map (fun t => (t.time, Scheduled.wake t))

theorem skipped_eq (s : State) (a b : Nat) : s.skipped a b =
    (s.scheduled.filter fun p => decide (a < p.1) && decide (p.1 < b)).foldl (fun l p => insScheduled p.1 p.2 l) [] := rfl

theorem mem_skipped {s : State} {a b : Nat} {p : Nat × Scheduled} :
    p ∈ s.skipped a b ↔ p ∈ s.scheduled ∧ a < p.1 ∧ p.1 < b := by
  rw [skipped_eq, (foldl_insScheduled _ [] List.Pairwise.nil).2]
  simp

theorem pairwise_skipped (s : State) (a b : Nat) : (s.skipped a b).Pairwise fun p q => p.1 ≤ q.1 :=
  (foldl_insScheduled _ [] List.Pairwise.nil).1

/-- What a step skips over depends on what is scheduled alone. -/
theorem skipped_congr {s t : State} (h : t.scheduled = s.scheduled) (a b : Nat) : t.skipped a b = s.skipped a b := by
  rw [skipped_eq, skipped_eq, h]

theorem fireNow_frame (s : State) (d c : Nat) :
    s.fireNow d c = { s with chans := (s.fireNow d c).chans, regs := (s.fireNow d c).regs } := by
  simp only [State.fireNow]
  split
  · exact addEvent_frame s d c 16
  · rfl

/-- An action that a step has skipped over does not change device time. -/
theorem now_performSkipped (s : State) (a : Scheduled) : (s.performSkipped a).clock.now = s.clock.now := by
  cases a with
  | fire f => rw [State.performSkipped, fireNow_frame]
  | pulse => rfl
  | wake t => rw [State.performSkipped, wakeCause_frame]

theorem now_stepTime (s : State) (v : Time) (kind : StepKind) : (s.stepTime v kind).clock.now = v := by
  refine List.foldlRecOn (motive := fun t : State => t.clock.now = v) _ _ ?_ fun t ht p _ =>
    (now_performSkipped t p.2).trans ht
  rw [(setTime_stepped s v kind).clock]

/-- A step that skips nothing over changes what it changes at once. -/
theorem stepTime_stepped {s : State} {v : Time} (kind : StepKind) (h : s.skipped s.now v.toNat = []) :
    TimeStepped s (s.stepTime v kind) v kind := by
  have hstep : s.stepTime v kind = s.setTime v kind := by rw [State.stepTime, h]; rfl
  rw [hstep]
  exact setTime_stepped s v kind

/-! TIME_SET (R69, R70). -/

theorem exec_timeSet_accepted {s : State} (v : Time) (h : s.rdN Obj.TIME_SOURCE 0 = 0 ∨ s.isMaster = true)
    (hrun : s.anyRunning = false) : exec (.timeSet v) s = .next (s.stepTime v .host) := by
  show execTimeSet v s = _
  rw [execTimeSet, if_pos (by rcases h with h | h <;> simp [h, hrun])]

theorem exec_timeSet_refused {s : State} (v : Time)
    (h : (s.rdN Obj.TIME_SOURCE 0 ≠ 0 ∧ s.isMaster = false) ∨ s.anyRunning = true) :
    exec (.timeSet v) s = .next (s.setBit Obj.TIME_STATUS 0 5) := by
  show execTimeSet v s = _
  rw [execTimeSet, if_neg (by rcases h with ⟨hsrc, hmaster⟩ | h <;> simp [*])]

/-- Settles O47: both ends of TIME_SET (R69), with the count that a step leaves. -/
theorem timeSetAcceptance : Obligations.TimeSetAcceptance := by
  refine ⟨fun v s hsrc hmaster => ⟨_, exec_timeSet_refused v (.inl ⟨hsrc, hmaster⟩), ?_, fun n hn => ?_,
    fun id k h => rd_setBit_other s 5 h, rfl⟩, fun v s h hrun => ⟨_, exec_timeSet_accepted v h hrun, now_stepTime s v _⟩⟩
  · rw [bit_setBit _ _ _ _ (by decide)]
    simp
  · rw [bit_setBit _ _ _ _ (by decide)]
    simp [hn]

end Sys2Proof.Machine
end

section
/-!
PROOFS. The clocks and their PLLs (R59, R84, R572), device time as it is set and loaded (R69, R70, R82), and the SYNC pins
(R82, R83, R353).
-/

namespace Sys2Proof.Machine

/-! PLL_LOCK (R59, R572). -/

/-- The state in which the PLLs of a die have locked. -/
def State.pllsLocked (s : State) (d : Nat) : State :=
  let s1 := ((s.setDie d { s.die d with plls := BitVec.ofNat 3 (if d < 2 then 7 else 3) }).wrN Obj.PLL_LOCK (sel d 0)
    (if d < 2 then 7 else 3)).setDom (d * 128 + 1) { st := .s0 }
  { s1 with clock := { s.clock with
      lockCyc := if s.dieList.any (fun e => (s.die e).trained) then s.clock.lockCyc else s.cyc,
      holdover := s.clock.holdover && s.dieList.any (fun e => (s.die e).trained) } }

theorem exec_pllLock {d : Nat} {s : State} (hboot : (s.die d).booted = true) (href : s.clock.refclk = true)
    (hback : ∀ c ∈ s.clock.refBack, c + 12500000 ≤ s.cyc) (hplls : (s.die d).plls = 0) :
    exec (.pllLock d) s = .next (s.pllsLocked d) := by
  show execPllLock d s = _
  have hsettled : (match s.clock.refBack with
      | some c => decide (c + 12500000 ≤ s.cyc)
      | none => true) = true := by
    split
    · next c hc => exact decide_eq_true (hback c hc)
    · rfl
  refine if_pos ?_
  rw [hboot, href, hplls, Bool.and_eq_true, Bool.and_eq_true]
  exact ⟨⟨rfl, hsettled⟩, rfl⟩

theorem pllsLocked_reads (s : State) (d : Nat) :
    (s.pllsLocked d).rd Obj.PLL_LOCK (sel d 0) = (if d < 2 then 7 else 3) ∧
    (∀ k : Nat, (s.pllsLocked d).die k = if k = d then { s.die d with plls := if d < 2 then 7 else 3 } else s.die k) ∧
    (∀ k : Nat, (s.pllsLocked d).dom k = if k = d * 128 + 1 then { st := PState.s0 } else s.dom k) ∧
    ∀ id k : Nat, ¬(id = Obj.PLL_LOCK ∧ k = sel d 0) → (s.pllsLocked d).rd id k = s.rd id k := by
  refine ⟨(rd_wr_same _ _ _ _).trans ?_, fun k => (die_setDie s d k _).trans ?_, fun k => ?_,
    fun id k h => rd_wr_other _ _ h⟩
  · split <;> rfl
  · split
    · split <;> rfl
    · rfl
  · show look {} (put {} s.power (d * 128 + 1) { st := .s0 }) k = _
    rw [look_put]
    rfl

/-! REFCLK (R84). -/

/-- The state of a device that has lost REFCLK, before a shutdown is found. -/
def State.refclkLost (s : State) : State := { s.setBit Obj.TIME_STATUS 0 6 with
  clock := { s.clock with refclk := false, refBack := none, holdover := true, aonOnRef := false }
  tattoo := { s.tattoo with align := if s.tattoo.align = Align.aligned then Align.unverified else s.tattoo.align } }

theorem stopCause_running {s : State} (cause die window : Nat) (h : s.shut.st = .running ∨ s.shut.st = .window) :
    s.stopCause cause die window .shutdown =
      { s with shut := { s.shut with waiting := s.shut.waiting ++ [⟨s.cyc + 64, cause, die, window, .shutdown⟩] } } := by
  rw [State.stopCause, if_neg]
  rintro ⟨-, -, hst⟩
  rcases h with h | h <;> simp [h] at hst

theorem stopCause_shut {s : State} {cause : Nat} (die window : Nat) (hc : cause ≠ 3)
    (h : s.shut.st = .shutdown ∨ s.shut.st = .ready) : s.stopCause cause die window .shutdown = s :=
  if_pos ⟨rfl, hc, h⟩

theorem stopCause_frame (s : State) (cause die window : Nat) (kind : StopKind) :
    s.stopCause cause die window kind = { s with shut := (s.stopCause cause die window kind).shut } := by
  simp only [State.stopCause]
  split <;> rfl

theorem exec_refclkLoss (d : Nat) (s : State) :
    exec (.refclkLoss d) s = .next (s.refclkLost.stopCause 4 d 62500000 .shutdown) := rfl

/-! SYNC_IN, SYNC_LOAD and SYNC_OUT (R82, R83, R353). -/

theorem exec_syncInCapture {s : State} (hsrc : s.rdN Obj.TIME_SOURCE 0 = 2) (harm : s.rdN Obj.SYNC_ARM 0 = 1)
    (hnone : s.clock.syncLoadAt = none) (hedge : s.refEdge = true) :
    exec .syncInCapture s = .next { s with clock := { s.clock with syncLoadAt := some (s.cyc + 50) } } := by
  show execSyncInCapture s = _
  rw [execSyncInCapture, if_pos (by simp [hsrc, harm, hnone, hedge])]

/-- The state in which a scheduled load has been taken. -/
def State.loadTaken (s : State) : State := { s with clock := { s.clock with syncLoadAt := none } }

theorem exec_syncLoadApply_loads {c : Nat} {s : State} (hat : s.clock.syncLoadAt = some c) (hc : c ≤ s.cyc)
    (hrun : s.anyRunning = false) : exec .syncLoadApply s =
      .next ((s.loadTaken.stepTime ((s.rd Obj.SYNC_LOAD 0).setWidth 64) .synced).wrN Obj.SYNC_ARM 0 0) := by
  show execSyncLoadApply s = _
  have hrun' : s.loadTaken.anyRunning = false := hrun
  simp only [execSyncLoadApply, hat]
  rw [if_pos hc]
  exact if_neg (ne_true_of_eq_false hrun')

theorem exec_syncLoadApply_refused {c : Nat} {s : State} (hat : s.clock.syncLoadAt = some c) (hc : c ≤ s.cyc)
    (hrun : s.anyRunning = true) : exec .syncLoadApply s = .next (s.loadTaken.setBit Obj.TIME_STATUS 0 5) := by
  show execSyncLoadApply s = _
  have hrun' : s.loadTaken.anyRunning = true := hrun
  simp only [execSyncLoadApply, hat]
  rw [if_pos hc]
  exact if_pos hrun'

theorem exec_syncOutPulse {a : Time} {s : State} (hnext : s.clock.syncOutNext = some a)
    (hon : s.rdN Obj.SYNC_OUT_ENABLE 0 = 1) (htime : a.toNat ≤ s.now) (hedge : s.refEdge = true) :
    exec .syncOutPulse s = .next { s with clock := { s.clock with
      syncOutUntil := s.cyc + 5
      syncOutNext := if s.rd Obj.SYNC_OUT_PERIOD 0 = 0 then none
        else some (a + (s.rd Obj.SYNC_OUT_PERIOD 0).setWidth 64) } } := by
  show execSyncOutPulse s = _
  simp only [execSyncOutPulse, hnext]
  rw [if_pos (by simp [hon, htime, hedge])]

/-- The low 64 bits of a word as a number. -/
theorem bits_63_0 (w : Word) : bits w 63 0 = (w.setWidth 64).toNat := by
  simp [bits]

/-- Settles O11: what the PLLs and REFCLK change, both ends of TIME_SET with what its step skips over (R70), and each of the
SYNC pins. That SYNC_LOAD is read at the load, a pulse for a SYNC_OUT_TIME already past and PLL_LOCK's value through holdover
are the model's choices (log 58); that a discarded load leaves SYNC_ARM is inferred (log 19). -/
theorem clocksTimeAndSyncPins : Obligations.ClocksTimeAndSyncPins := by
  refine ⟨fun d s hboot href hback hplls => ?_, fun d s => ?_, fun s => rfl, fun v s h hrun => exec_timeSet_accepted v h hrun,
    fun a b s => ?_, fun v s h hrun hsteps hskip => ?_, fun v s h => exec_timeSet_refused v h,
    fun s hsrc harm hnone hedge => exec_syncInCapture hsrc harm hnone hedge, fun c s hat hc hrun hskip => ?_,
    fun c s hat hc hrun => exec_syncLoadApply_refused hat hc hrun,
    fun a s hnext hon htime hedge => exec_syncOutPulse hnext hon htime hedge, fun s hedge => ?_⟩
  · obtain ⟨hlock, hdie, hdom, hrd⟩ := pllsLocked_reads s d
    exact ⟨_, exec_pllLock hboot href hback hplls, hlock, by rw [hdom, if_pos rfl], rfl, by rw [hdie, if_pos rfl],
      fun k hk => by rw [hdie, if_neg hk], fun k hk => by rw [hdom, if_neg hk], hrd, rfl⟩
  · have hstop := stopCause_frame s.refclkLost 4 d 62500000 .shutdown
    refine ⟨_, exec_refclkLoss d s, ?_, ?_, fun id k h => ?_, ?_, fun h => ?_, fun h => ?_, ?_⟩
    · rw [hstop]
      rfl
    · rw [hstop]
      exact rd_setBit_same s _ _ 6
    · rw [hstop]
      exact rd_setBit_other s 6 h
    · rw [hstop]
      rfl
    · rw [stopCause_running (s := s.refclkLost) _ _ _ h]
      rfl
    · rw [stopCause_shut (s := s.refclkLost) _ _ (by decide) h]
      rfl
    · rw [hstop]
      rfl
  · refine ⟨pairwise_skipped s a b, fun p hp => (mem_skipped.1 hp).2, fun f hf hlo hhi => mem_skipped.2 ⟨?_, hlo, hhi⟩,
      fun w hw hlo hhi => mem_skipped.2 ⟨?_, hlo, hhi⟩, fun c hc hon hlo hhi => mem_skipped.2 ⟨?_, hlo, hhi⟩⟩
    · exact List.mem_append_left _ (List.mem_append_left _ (List.mem_map_of_mem hf))
    · exact List.mem_append_right _ (List.mem_map_of_mem hw)
    · have hnext : s.clock.syncOutNext = some c := hc
      refine List.mem_append_left _ (List.mem_append_right _ ?_)
      simp [hnext, hon]
  · have hstep := stepTime_stepped .host hskip
    exact ⟨_, exec_timeSet_accepted v h hrun, hstep.clock, hstep.queue, hstep.flight, hstep.anchor, hstep.fires,
      hstep.steps hsteps, hstep.frame⟩
  · rw [bits_63_0] at hskip
    have hsame : s.loadTaken.skipped s.loadTaken.now ((s.rd Obj.SYNC_LOAD 0).setWidth 64).toNat = [] := hskip
    have hstep := stepTime_stepped .synced hsame
    refine ⟨_, exec_syncLoadApply_loads hat hc hrun, hstep.clock, rd_wr_same _ _ _ _, ?_⟩
    rw [State.wrN, State.wr, hstep.frame]
    rfl
  · show execSyncInRise s = _
    rw [execSyncInRise, if_pos hedge]

end Sys2Proof.Machine
end

section
/-!
PROOFS. The calendar and its anchor (R86, R89, R92, R93), and PTP (R85, R87, R88).
-/

namespace Sys2Proof.Machine

/-! The calendar. -/

theorem bits_lt {w : Nat} (v : BitVec w) (hi lo : Nat) : bits v hi lo < 2 ^ (hi + 1 - lo) :=
  Nat.mod_lt _ (Nat.two_pow_pos _)

theorem exec_calSet_bad {w0 w1 : Word} (s : State) (h : bits w0 71 64 ≠ 0 ∨ bits w1 55 0 ≠ 0) :
    exec (.calSet w0 w1) s = .fault .hostError := by
  show execCalSet w0 w1 s = _
  rw [execCalSet, if_pos (by simpa using h)]
  rfl

theorem exec_calSet_legal {w0 w1 : Word} {s : State} (h0 : bits w0 71 64 = 0) (h1 : bits w1 55 0 = 0) :
    exec (.calSet w0 w1) s = if s.rdN Obj.PTP_ENABLE 0 = 1 then .next s else
      .next (s.setCal (bits w0 63 16) ((bits w0 15 0 * 2 ^ 16 + bits w1 71 56) * 2 ^ 32) 0 .host) := by
  show execCalSet w0 w1 s = _
  rw [execCalSet, if_neg (by simp [h0, h1])]
  by_cases h : s.rdN Obj.PTP_ENABLE 0 = 1 <;> simp [h]

/-- A producer raised on every die of a list changes the channels and CHAN_STATUS only. -/
theorem foldl_raise_frame (p : Nat) (ds : List Nat) (s : State) :
    ds.foldl (fun t d => t.raise d p) s = { s with
      chans := (ds.foldl (fun t d => t.raise d p) s).chans, regs := (ds.foldl (fun t d => t.raise d p) s).regs } := by
  refine List.foldlRecOn (motive := fun t : State => t = { s with chans := t.chans, regs := t.regs }) _ _ rfl
    fun t ht d _ => ?_
  rw [raise_frame, ht]

/-- The state in which the anchor has been rewritten for a second that began at a device time and fraction (R89). -/
def State.anchorSet (s : State) (b : Time) (f : Nat) : State :=
  { s with cal := { s.cal with due := none, anchor := ⟨true, s.cal.sec, b, f, s.cal.rate⟩ } }

theorem exec_anchorRefresh {s : State} {b : Time} {f : Nat} (hdue : s.cal.due = some (b, f))
    (hst : s.cal.st.anchored = true) :
    exec .anchorRefresh s = .next (s.dieList.foldl (fun t d => t.raise d 386) (s.anchorSet b f)) := by
  show execAnchorRefresh s = _
  simp only [execAnchorRefresh, hdue]
  exact if_pos hst

/-! Foreign masters (R87). -/

theorem betterMaster_trans {a b c : Announce} (hab : betterMaster a b = true) (hbc : betterMaster b c = true) :
    betterMaster a c = true := by
  simp only [betterMaster, decide_eq_true_eq] at *
  exact List.lt_trans hab hbc

/-- The better of two masters. -/
def pickMaster (b : Announce) (p : Announce × Nat) : Announce := if betterMaster p.1 b then p.1 else b

/-- The best of some foreign masters is one of them or the first, and in that case better than the first. -/
theorem foldl_pickMaster (a : Announce) (ps : List (Announce × Nat)) :
    ps.foldl pickMaster a = a ∨
      (∃ c, (ps.foldl pickMaster a, c) ∈ ps) ∧ betterMaster (ps.foldl pickMaster a) a = true := by
  refine List.foldlRecOn (motive := fun b => b = a ∨ (∃ c, (b, c) ∈ ps) ∧ betterMaster b a = true) _ _ (.inl rfl)
    fun b hb p hp => ?_
  rw [pickMaster]
  split
  · next hbetter =>
    refine .inr ⟨⟨p.2, hp⟩, ?_⟩
    rcases hb with rfl | ⟨-, hb⟩
    · exact hbetter
    · exact betterMaster_trans hbetter hb
  · exact hb

/-- The foreign masters other than the sender of an Announce that have been heard in time. -/
def State.otherMasters (s : State) (a : Announce) : List (Announce × Nat) :=
  s.ptp.foreign.filter (fun p =>
    p.1.master != a.master && decide (s.cyc < p.2 + s.rdN Obj.PTP_ANNOUNCE_TIMEOUT 0 * p.1.interval))

/-- The best master once an Announce has been recorded. -/
def State.bestMaster (s : State) (a : Announce) : Announce := (s.otherMasters a).foldl pickMaster a

/-- Another master than before is chosen. -/
def State.masterChanges (s : State) (b : Announce) : Bool := (s.ptp.master.map (·.master)) != some b.master

/-- PTP and the calendar once an Announce has been recorded. -/
def State.announced (s : State) (a : Announce) : State :=
  let b := s.bestMaster a
  let all := (a, s.cyc) :: s.otherMasters a
  { s with
    ptp := if s.masterChanges b then
        { s.ptp with foreign := all, master := some b, sync := none, ms := none, req := none, good := 0 }
      else { s.ptp with foreign := all, master := some b }
    cal := { s.cal with st := if s.cal.st = CalState.locked ∧ !s.masterChanges b then CalState.locked else .acquiring } }

theorem exec_ptpAnnounceReceive {a : Announce} {s : State} (h : s.ptpHears a.port a.domain = true) :
    exec (.ptpAnnounceReceive a) s = .next (((s.announced a).wr Obj.UTC_OFFSET 0
      ((s.bestMaster a).utcOffset.setWidth 72)).wr Obj.PTP_MASTER_ID 0 ((s.bestMaster a).master.setWidth 72)) :=
  if_pos h

theorem announced_ptp (s : State) (a : Announce) :
    (s.announced a).ptp.foreign = (a, s.cyc) :: s.otherMasters a ∧ (s.announced a).ptp.master = some (s.bestMaster a) := by
  simp only [State.announced]
  split <;> exact ⟨rfl, rfl⟩

/-- The best master is the sender or another that is better. -/
theorem bestMaster_spec (s : State) (a : Announce) :
    (s.bestMaster a = a ∨ ∃ c, (s.bestMaster a, c) ∈ s.ptp.foreign) ∧
    (s.bestMaster a = a ∨ betterMaster (s.bestMaster a) a = true) := by
  rcases foldl_pickMaster a (s.otherMasters a) with h | ⟨⟨c, hc⟩, hb⟩
  · exact ⟨.inl h, .inl h⟩
  · exact ⟨.inr ⟨c, List.mem_of_mem_filter hc⟩, .inr hb⟩

theorem masterChanges_eq_false {s : State} {b : Announce} :
    s.masterChanges b = false ↔ ∃ c ∈ s.ptp.master, c.master = b.master := by
  simp [State.masterChanges]

/-! Sync and Follow_Up (R88). -/

/-- The offset of a master-to-slave difference once a path has been measured. -/
def State.ptpOffset (s : State) (ms : Int) : Int := ms - signed 64 (s.rdN Obj.PTP_MEAN_PATH 0)

/-- What the servo does once a path has been measured: it keeps the difference, publishes the offset, and steps the calendar
where the offset is beyond 1 ms (R88). -/
structure ServoActs (s t : State) (ms : Int) : Prop where
  diff : t.ptp.ms = some ms
  sync : t.ptp.sync = s.ptp.sync
  offset : t.rd Obj.PTP_OFFSET 0 = wordOfInt (s.ptpOffset ms)
  step : 10 ^ 9 < (s.ptpOffset ms).natAbs →
    bit (t.rd Obj.TIME_STATUS 0) 1 = true ∧ t.cal = (s.moveCal (-(s.ptpOffset ms))).cal
  frame : t = { s with ptp := t.ptp, cal := t.cal, regs := t.regs, free := t.free }

/-- The state in which the servo has kept a difference and published its offset. -/
def State.offsetKept (s : State) (ms : Int) : State :=
  ({ s with ptp := { s.ptp with ms := some ms } } : State).wr Obj.PTP_OFFSET 0 (wordOfInt (s.ptpOffset ms))

/-- The calendar steps by an offset. -/
def State.calStepped (s : State) (off : Int) : State :=
  (({ s with ptp := { s.ptp with good := 0 } } : State).moveCal (-off)).setBit Obj.TIME_STATUS 0 1

/-- The small offsets in a row, this one among them. -/
def State.goodSyncs (s : State) (off : Int) : Nat := if off.natAbs ≤ 10 ^ 6 then s.ptp.good + 1 else 0

/-- The calendar's rate is steered, and it locks after sixteen small offsets in a row. -/
def State.calSteered (s : State) (off : Int) : State :=
  let s3 : State := { s.take.2 with
    cal := { s.cal with rate := ((s.take.1 % 400000001 : Nat) : Int) - 200000000 }, ptp := { s.ptp with good := s.goodSyncs off } }
  if 16 ≤ s.goodSyncs off then
    let s4 := { s3 with cal := { s3.cal with st := .locked }, ptp := { s3.ptp with lockedOnce := true } }
    if s3.ptp.lockedOnce then s4 else (s4.moveCal (-off)).setBit Obj.TIME_STATUS 0 1
  else s3

theorem servo_of_path {s : State} (ms : Int) (hpath : s.ptp.havePath = true) : s.servo ms =
    if 10 ^ 9 < (s.ptpOffset ms).natAbs then (s.offsetKept ms).calStepped (s.ptpOffset ms)
    else (s.offsetKept ms).calSteered (s.ptpOffset ms) := by
  unfold State.servo
  exact if_neg (by simp [hpath])

theorem calSteered_keeps (s : State) (off : Int) :
    (s.calSteered off).ptp.ms = s.ptp.ms ∧ (s.calSteered off).ptp.sync = s.ptp.sync ∧
    (s.calSteered off).rd Obj.PTP_OFFSET 0 = s.rd Obj.PTP_OFFSET 0 ∧
    s.calSteered off = { s with ptp := (s.calSteered off).ptp, cal := (s.calSteered off).cal,
                                regs := (s.calSteered off).regs, free := (s.calSteered off).free } := by
  have hid : ¬(Obj.PTP_OFFSET = Obj.TIME_STATUS ∧ 0 = 0) := by decide
  simp only [State.calSteered]
  split
  · split
    · exact ⟨rfl, rfl, rfl, rfl⟩
    · exact ⟨rfl, rfl, rd_setBit_other _ 1 hid, rfl⟩
  · exact ⟨rfl, rfl, rfl, rfl⟩

theorem servo_acts {s : State} (ms : Int) (hpath : s.ptp.havePath = true) : ServoActs s (s.servo ms) ms := by
  have hid : ¬(Obj.PTP_OFFSET = Obj.TIME_STATUS ∧ 0 = 0) := by decide
  rw [servo_of_path ms hpath]
  split
  · refine ⟨rfl, rfl, (rd_setBit_other _ 1 hid).trans (rd_wr_same _ _ _ _), fun _ => ⟨?_, rfl⟩, rfl⟩
    rw [State.calStepped, bit_setBit _ _ _ _ (by decide)]
    simp
  · next hsmall =>
    obtain ⟨hms, hsync, hoff, hframe⟩ := calSteered_keeps (s.offsetKept ms) (s.ptpOffset ms)
    exact ⟨hms, hsync, hoff.trans (rd_wr_same _ _ _ _), fun h => absurd h hsmall, hframe⟩

theorem exec_ptpSyncReceive {m : PtpSync} {s : State} (hfrom : s.fromMaster m.port m.domain m.master = true) :
    exec (.ptpSyncReceive m) s = if m.twoStep = true then
        .next { s with ptp := { s.ptp with sync := some (m.seq, s.calPs - Config.phyLatency) } }
      else .next (s.servo (s.calPs - Config.phyLatency - m.origin)) := by
  show execPtpSyncReceive m s = _
  simp only [execPtpSyncReceive, hfrom]
  rfl

theorem exec_ptpFollowUpReceive {m : PtpFollowUp} {t2 : Int} {s : State} (hsync : s.ptp.sync = some (m.seq, t2))
    (hfrom : s.fromMaster m.port m.domain m.master = true) : exec (.ptpFollowUpReceive m) s =
      .next (({ s with ptp := { s.ptp with sync := none } } : State).servo (t2 - m.origin)) := by
  show execPtpFollowUpReceive m s = _
  simp only [execPtpFollowUpReceive, hsync, hfrom]
  exact if_pos (by simp)

theorem exec_ptpDelayReqSend {s : State} (hon : s.rdN Obj.PTP_ENABLE 0 = 1) (hmaster : s.ptp.master.isSome = true)
    (hms : s.ptp.ms.isSome = true) : exec .ptpDelayReqSend s = .next { s with
      sent := s.sent ++ [.delayReq (s.rdN Obj.PTP_PORT 0) s.ptp.reqSeq]
      ptp := { s.ptp with
        req := some (s.ptp.reqSeq, s.calPs + Config.phyLatency), reqSeq := (s.ptp.reqSeq + 1) % 65536 } } := by
  show execPtpDelayReqSend s = _
  rw [execPtpDelayReqSend, if_pos (by simp [hon, hmaster, hms])]

theorem exec_ptpDelayRespReceive {m : PtpDelayResp} {t3 ms : Int} {s : State} (hreq : s.ptp.req = some (m.seq, t3))
    (hms : s.ptp.ms = some ms) (hfrom : s.fromMaster m.port m.domain m.master = true) :
    exec (.ptpDelayRespReceive m) s = .next (({ s with ptp := { s.ptp with req := none, havePath := true } } : State).wr
      Obj.PTP_MEAN_PATH 0 (wordOfInt (mean (ms + (m.received - t3)) 2))) := by
  show execPtpDelayRespReceive m s = _
  simp only [execPtpDelayRespReceive, hreq, hms, hfrom]
  exact if_pos (by simp)

theorem exec_ptpAnnounceTimeout {m : Announce} {h : Nat} {s : State} (hon : s.rdN Obj.PTP_ENABLE 0 = 1)
    (hmaster : s.ptp.master = some m) (hheard : s.ptp.foreign.find? (fun p => p.1.master == m.master) = some (m, h))
    (hpast : h + s.rdN Obj.PTP_ANNOUNCE_TIMEOUT 0 * m.interval ≤ s.cyc) :
    exec .ptpAnnounceTimeout s = .next { s with
      cal := if s.cal.st = .locked then { s.cal with st := .holdover } else s.cal
      ptp := { s.ptp with master := none, good := 0 } } := by
  show execPtpAnnounceTimeout s = _
  simp only [execPtpAnnounceTimeout, hmaster, hheard]
  refine (if_pos (by simp [hpast, hon])).trans ?_
  congr 2
  split <;> rfl

/-- Settles O13: the calendar as the host sets it and its anchor, the choice among the masters heard, and the servo for each
kind of Sync. How masters compare, the picosecond reading, the offset and the correction by the PHY latency follow IEEE 1588
by presumption (log 12). -/
theorem calendarAndPtp : Obligations.CalendarAndPtp := by
  refine ⟨fun w0 w1 s h0 h1 hoff => ?_, fun w0 w1 s h0 h1 hon => ?_, fun w0 w1 s h => exec_calSet_bad s h,
    fun b f s hdue hst => ?_, fun a s h => ?_, fun m s hfrom htwo => ?_, fun m s hfrom htwo hpath => ?_,
    fun m t2 s hsync hfrom hpath => ?_, fun s hon hmaster hms => exec_ptpDelayReqSend hon hmaster hms,
    fun m t3 ms s hreq hms hfrom => exec_ptpDelayRespReceive hreq hms hfrom,
    fun m h s hon hmaster hheard hpast => exec_ptpAnnounceTimeout hon hmaster hheard hpast⟩
  · rw [exec_calSet_legal h0 h1, if_neg hoff, State.setCal, Nat.mod_eq_of_lt (bits_lt w0 63 16)]
  · rw [exec_calSet_legal h0 h1, if_pos hon]
  · have hraise := foldl_raise_frame 386 s.dieList (s.anchorSet b f)
    refine ⟨_, exec_anchorRefresh hdue hst, ?_, ?_⟩
    · rw [hraise]
      rfl
    · rw [hraise]
      rfl
  · obtain ⟨hforeign, hmaster⟩ := announced_ptp s a
    have hid : ¬(Obj.UTC_OFFSET = Obj.PTP_MASTER_ID ∧ 0 = 0) := by decide
    refine ⟨_, exec_ptpAnnounceReceive h, congrArg List.head? hforeign, fun b hb => ?_,
      congrArg Option.isSome hmaster, rfl, fun hlock hsame => ?_, fun hother => ?_, rfl⟩
    · obtain rfl : s.bestMaster a = b := Option.some.inj (hmaster.symm.trans hb)
      exact ⟨(bestMaster_spec s a).1, (bestMaster_spec s a).2, (rd_wr_other _ _ hid).trans (rd_wr_same _ _ _ _),
        rd_wr_same _ _ _ _⟩
    · have hkept : s.masterChanges (s.bestMaster a) = false := masterChanges_eq_false.2 (hsame _ hmaster)
      exact if_pos ⟨hlock, by rw [hkept]; rfl⟩
    · refine if_neg fun ⟨hlock, hkept⟩ => ?_
      obtain ⟨c, hc, hcb⟩ := masterChanges_eq_false.1 (by simpa using hkept)
      exact hother.elim (fun h => h hlock) fun h => h _ hmaster c hc hcb
  · rw [exec_ptpSyncReceive hfrom, if_pos htwo]
  · obtain ⟨hms, -, hoff, hstep, hframe⟩ := servo_acts (s.calPs - Config.phyLatency - m.origin) hpath
    refine ⟨_, ?_, hms, hoff, hstep, hframe⟩
    rw [exec_ptpSyncReceive hfrom, if_neg (ne_true_of_eq_false htwo)]
  · obtain ⟨hms, hsync', hoff, -, hframe⟩ :=
      servo_acts (s := { s with ptp := { s.ptp with sync := none } }) (t2 - m.origin) hpath
    exact ⟨_, exec_ptpFollowUpReceive hsync hfrom, hsync', hms, hoff, hframe⟩

end Sys2Proof.Machine
end

section
/-!
PROOFS. Tattoo (R72–R76, R80, R81): markers sent and received, the averages of a port, alignment, and a master that is lost.
-/

namespace Sys2Proof.Machine

/-! Markers are sent (R72, R74). -/

/-- The port of a die with a marker due that carries a master and its hop count. -/
def State.portMarked (s : State) (master hops d : Nat) : LinkAvg :=
  { s.link d with
    markerDue := true, sent := some ⟨master, hops, 1024 * s.now + 64 * s.clock.phase.toNat, (s.link d).trip⟩ }

/-- A marker is made due on the port of a die. -/
def State.markPort (master hops : Nat) (t : State) (d : Nat) : State := t.setLink d (t.portMarked master hops d)

theorem foldl_markPort_frame (master hops : Nat) (ds : List Nat) (s : State) :
    ds.foldl (State.markPort master hops) s = { s with links := (ds.foldl (State.markPort master hops) s).links } := by
  refine List.foldlRecOn (motive := fun t : State => t = { s with links := t.links }) _ _ rfl fun t ht d _ => ?_
  rw [State.markPort, ht]
  rfl

/-- Markers made due on some ports, each once: what those ports and the others hold. -/
theorem link_foldl_markPort (master hops : Nat) {ds : List Nat} (hnd : ds.Nodup) (s : State) (d : Nat) :
    (ds.foldl (State.markPort master hops) s).link d = if d ∈ ds then s.portMarked master hops d else s.link d := by
  induction ds generalizing s with
  | nil => simp
  | cons e ds ih =>
    obtain ⟨hne, hds⟩ := List.nodup_cons.1 hnd
    rw [List.foldl_cons, ih hds, State.markPort, link_setLink]
    by_cases hd : d = e
    · subst hd
      simp [hne]
    · have hmarked : (s.setLink e (s.portMarked master hops e)).portMarked master hops d = s.portMarked master hops d := by
        simp only [State.portMarked, link_setLink, if_neg hd]
        rfl
      simp [hd, hmarked]

/-- The ports that a marker leaves by: those that are up, but for the one that the device takes its time from. -/
def State.markerPorts (s : State) (port : Option Nat) : List Nat :=
  s.dieList.filter (fun d => s.portUp d && port != some d)

theorem nodup_markerPorts (s : State) (port : Option Nat) : (s.markerPorts port).Nodup :=
  List.nodup_range.filter _

theorem mem_markerPorts {s : State} {port : Option Nat} {d : Nat} :
    d ∈ s.markerPorts port ↔ d < s.member.dies ∧ s.portUp d = true ∧ port ≠ some d := by
  simp [State.markerPorts, State.dieList]

/-- The state in which a marker has been made due on its ports. -/
def State.markersSent (s : State) (master hops : Nat) (port : Option Nat) : State :=
  let t := (s.markerPorts port).foldl (State.markPort master hops) s
  { t with tattoo := { t.tattoo with sentAt := some t.cyc } }

theorem markersSent_frame (s : State) (master hops : Nat) (port : Option Nat) :
    (s.markersSent master hops port).tattoo = { s.tattoo with sentAt := some s.cyc } ∧
    s.markersSent master hops port =
      { s with links := (s.markersSent master hops port).links, tattoo := (s.markersSent master hops port).tattoo } := by
  have h := foldl_markPort_frame master hops (s.markerPorts port) s
  simp only [State.markersSent]
  rw [h]
  exact ⟨rfl, rfl⟩

theorem link_markersSent (s : State) (master hops : Nat) (port : Option Nat) (d : Nat) :
    (s.markersSent master hops port).link d =
      if d < s.member.dies ∧ s.portUp d = true ∧ port ≠ some d then s.portMarked master hops d else s.link d := by
  have h := link_foldl_markPort master hops (nodup_markerPorts s port) s d
  simp only [mem_markerPorts] at h
  exact h

/-- The interval since the last marker has passed. -/
theorem markerDue_of_past {s : State} (h : ∀ c ∈ s.tattoo.sentAt, c + 65536 ≤ s.cyc) :
    (match s.tattoo.sentAt with
      | none => true
      | some c => decide (c + 65536 ≤ s.cyc)) = true := by
  split
  · rfl
  · next c hc => exact decide_eq_true (h c hc)

theorem exec_tattooMarkerSend_master {s : State} (hdue : ∀ c ∈ s.tattoo.sentAt, c + 65536 ≤ s.cyc)
    (hmaster : s.isMaster = true) :
    exec .tattooMarkerSend s = .next (s.markersSent (s.rdN Obj.CROSSING_DEVICE 0) 0 none) := by
  show execTattooMarkerSend s = _
  unfold execTattooMarkerSend
  simp only [hmaster, if_true]
  exact if_pos (by rw [Bool.and_eq_true]; exact ⟨markerDue_of_past hdue, rfl⟩)

theorem isMaster_of_isFollower {s : State} (h : s.isFollower = true) : s.isMaster = false := by
  simp only [State.isFollower, Bool.and_eq_true, Bool.not_eq_true'] at h
  exact h.2

theorem exec_tattooMarkerSend_follower {m h p : Nat} {s : State} (hdue : ∀ c ∈ s.tattoo.sentAt, c + 65536 ≤ s.cyc)
    (hfollow : s.isFollower = true) (halign : s.tattoo.align = Align.aligned) (hport : s.tattoo.follow = some (m, h, p)) :
    exec .tattooMarkerSend s = .next (s.markersSent m h (some p)) := by
  show execTattooMarkerSend s = _
  unfold execTattooMarkerSend
  simp only [isMaster_of_isFollower hfollow, hport, hfollow, halign]
  exact if_pos (by rw [Bool.and_eq_true]; exact ⟨markerDue_of_past hdue, rfl⟩)

/-! A marker is received (R73, R74, R81). -/

/-- The port once a marker's echo is due and its master noted. -/
def State.markerNoted (s : State) (d : Nat) (m : Marker) : State :=
  s.setLink d { s.link d with
    echoDue := some (m.sent, s.cyc)
    heard := (m.master, m.hops, s.cyc) :: (s.link d).heard.filter (fun h => h.1 != m.master) }

/-- A running average as it stands for the lowest-numbered master that its port hears. -/
def LinkAvg.averaging (y : LinkAvg) (low : Option Nat) : LinkAvg :=
  if y.avgOf = low then y else { y with avgOf := low, count := 0, sumTrip := 0, sumOff2 := 0 }

/-- A marker with a round trip enters the average of its master until 256 are in it (R73). -/
def LinkAvg.take (y : LinkAvg) (low : Option Nat) (m : Marker) (arrived : Nat) : LinkAvg :=
  match m.trip with
  | some trip =>
    if y.count < 256 ∧ low = some m.master then { y with
      count := y.count + 1, sumTrip := y.sumTrip + trip
      sumOff2 := y.sumOff2 + (2 * (m.sent : Int) + (trip : Int) - 2 * (arrived : Int)) }
    else y
  | none => y

theorem noteMarker_eq (s : State) (d : Nat) (m : Marker) (arrived : Nat) :
    s.noteMarker d m arrived = (s.markerNoted d m).setLink d
      ((((s.markerNoted d m).link d).averaging ((s.markerNoted d m).lowestOn d)).take ((s.markerNoted d m).lowestOn d)
        m arrived) := by
  unfold State.noteMarker LinkAvg.take
  rcases m.trip with _ | trip
  · rfl
  · exact (apply_ite ((s.markerNoted d m).setLink d) _ _ _).symm

theorem LinkAvg.take_keeps (y : LinkAvg) (low : Option Nat) (m : Marker) (arrived : Nat) :
    (y.take low m arrived).echoDue = y.echoDue ∧ (y.take low m arrived).heard = y.heard := by
  simp only [LinkAvg.take]
  split
  · split <;> exact ⟨rfl, rfl⟩
  · exact ⟨rfl, rfl⟩

theorem LinkAvg.averaging_keeps (y : LinkAvg) (low : Option Nat) :
    (y.averaging low).echoDue = y.echoDue ∧ (y.averaging low).heard = y.heard := by
  simp only [LinkAvg.averaging]
  split <;> exact ⟨rfl, rfl⟩

theorem link_noteMarker (s : State) (d : Nat) (m : Marker) (arrived e : Nat) :
    (s.noteMarker d m arrived).link e = if e = d then
      (((s.markerNoted d m).link d).averaging ((s.markerNoted d m).lowestOn d)).take ((s.markerNoted d m).lowestOn d) m arrived
    else s.link e := by
  rw [noteMarker_eq, link_setLink]
  split
  · rfl
  · next he => rw [State.markerNoted, link_setLink, if_neg he]

theorem noteMarker_frame (s : State) (d : Nat) (m : Marker) (arrived : Nat) :
    s.noteMarker d m arrived = { s with links := (s.noteMarker d m arrived).links } := by
  rw [noteMarker_eq]
  rfl

/-- What a port has to echo and has heard once a marker has been noted. -/
theorem noteMarker_notes (s : State) (d : Nat) (m : Marker) (arrived : Nat) :
    ((s.noteMarker d m arrived).link d).echoDue = some (m.sent, s.cyc) ∧
    ((s.noteMarker d m arrived).link d).heard =
      (m.master, m.hops, s.cyc) :: (s.link d).heard.filter (fun h => h.1 != m.master) := by
  rw [link_noteMarker, if_pos rfl]
  obtain ⟨hecho, hheard⟩ := LinkAvg.take_keeps
    (((s.markerNoted d m).link d).averaging ((s.markerNoted d m).lowestOn d)) ((s.markerNoted d m).lowestOn d) m arrived
  obtain ⟨hecho', hheard'⟩ := LinkAvg.averaging_keeps ((s.markerNoted d m).link d) ((s.markerNoted d m).lowestOn d)
  rw [hecho, hecho', hheard, hheard', State.markerNoted, link_setLink, if_pos rfl]
  exact ⟨rfl, rfl⟩

theorem foldl_min_of_le {m : Nat} {ms : List Nat} (h : ∀ x ∈ ms, m ≤ x) : ms.foldl min m = m :=
  List.foldlRecOn (motive := fun b => b = m) ms min rfl fun _ hb x hx => by rw [hb, Nat.min_eq_left (h x hx)]

/-- The marker's master is the lowest-numbered of its port where none heard within the window is lower (R81; log 58). -/
theorem lowestOn_markerNoted {s : State} {d : Nat} {m : Marker}
    (h : ∀ h ∈ (s.link d).heard, s.cyc < h.2.2 + 1048576 → m.master ≤ h.1) :
    (s.markerNoted d m).lowestOn d = some m.master := by
  have hheard : ((s.markerNoted d m).link d).heard =
      (m.master, m.hops, s.cyc) :: (s.link d).heard.filter (fun h => h.1 != m.master) := by
    rw [State.markerNoted, link_setLink, if_pos rfl]
  have hcyc : (s.markerNoted d m).cyc = s.cyc := rfl
  simp only [State.lowestOn, State.heardOn, hheard, hcyc]
  rw [List.filter_cons_of_pos (by simp)]
  simp only [List.map_cons]
  rw [foldl_min_of_le]
  intro x hx
  simp only [List.mem_map, List.mem_filter, decide_eq_true_eq] at hx
  obtain ⟨-, ⟨p, ⟨⟨hp, -⟩, hrecent⟩, rfl⟩, rfl⟩ := hx
  exact h p hp hrecent

/-- A marker with a round trip, of the master that its port averages, enters the average (R73). -/
theorem noteMarker_counts {s : State} {d arrived trip : Nat} {m : Marker} (htrip : m.trip = some trip)
    (havg : (s.link d).avgOf = some m.master) (hcount : (s.link d).count < 256)
    (hlow : ∀ h ∈ (s.link d).heard, s.cyc < h.2.2 + 1048576 → m.master ≤ h.1) :
    ((s.noteMarker d m arrived).link d).count = (s.link d).count + 1 ∧
    ((s.noteMarker d m arrived).link d).sumTrip = (s.link d).sumTrip + trip ∧
    ((s.noteMarker d m arrived).link d).sumOff2 =
      (s.link d).sumOff2 + (2 * (m.sent : Int) + trip - 2 * arrived) := by
  rw [link_noteMarker, if_pos rfl, lowestOn_markerNoted hlow, State.markerNoted, link_setLink, if_pos rfl]
  simp [LinkAvg.averaging, LinkAvg.take, havg, htrip, hcount]

/-- A master hears a lower-numbered one (R81). -/
def State.demotedBy (s : State) (m : Marker) : Bool := s.isMaster && decide (m.master < s.rdN Obj.CROSSING_DEVICE 0)

/-- What a device does on a marker of a lower-numbered master, or where it hears two masters (R81). -/
def State.conflictNoted (s : State) (m : Marker) : State :=
  { (if s.demotedBy m || decide (1 < (s.heardPorts.map (·.1)).eraseDups.length) then s.setBit Obj.TIME_STATUS 0 3 else s) with
    tattoo := if s.demotedBy m then
        { s.tattoo with demoted := true, began := some s.cyc, align := .never, once := false }
      else s.tattoo }

/-- A follower follows the lowest-numbered master by its best port (R74, R81). -/
def State.portChosen (s : State) (m : Marker) : State :=
  if s.isFollower then
    match s.choosePort with
    | some (fm, fh, fp) => { s with tattoo := { s.tattoo with
        follow := some (fm, fh + 1, fp), heardAt := if m.master = fm then s.cyc else s.tattoo.heardAt } }
    | none => s
  else s

/-- The state in which a marker that a port has noted has been received. -/
def State.markerTaken (s : State) (m : Marker) : State :=
  if s.tattooRuns then (s.conflictNoted m).portChosen m else s

theorem exec_markerReceive (d arrived : Nat) (m : Marker) (s : State) :
    exec (.markerReceive d m arrived) s = .next ((s.noteMarker d m arrived).markerTaken m) := by
  show execMarkerReceive d m arrived s = _
  unfold execMarkerReceive State.markerTaken
  by_cases hruns : (s.noteMarker d m arrived).tattooRuns = true
  · rw [if_pos hruns]
    refine (if_neg (by simp [hruns])).trans ?_
    unfold State.portChosen
    by_cases hfollow : ((s.noteMarker d m arrived).conflictNoted m).isFollower = true
    · rw [if_pos hfollow]
      refine (if_pos hfollow).trans ?_
      show (match ((s.noteMarker d m arrived).conflictNoted m).choosePort with
        | some (fm, fh, fp) => _
        | none => _) = _
      rcases ((s.noteMarker d m arrived).conflictNoted m).choosePort with _ | ⟨fm, fh, fp⟩ <;> rfl
    · rw [if_neg hfollow]
      exact if_neg hfollow
  · rw [if_neg hruns]
    exact if_pos (by simp [hruns])

/-- What is noted of a conflict changes the Tattoo state and TIME_STATUS only. -/
theorem conflictNoted_frame (s : State) (m : Marker) :
    s.conflictNoted m = { s with tattoo := (s.conflictNoted m).tattoo, regs := (s.conflictNoted m).regs } := by
  simp only [State.conflictNoted]
  split <;> rfl

theorem portChosen_frame (s : State) (m : Marker) : s.portChosen m = { s with tattoo := (s.portChosen m).tattoo } := by
  simp only [State.portChosen]
  split
  · split <;> rfl
  · rfl

theorem markerTaken_frame (s : State) (m : Marker) :
    s.markerTaken m = { s with tattoo := (s.markerTaken m).tattoo, regs := (s.markerTaken m).regs } := by
  rw [State.markerTaken]
  split
  · rw [portChosen_frame, conflictNoted_frame]
  · rfl

theorem demoted_portChosen (s : State) (m : Marker) : (s.portChosen m).tattoo.demoted = s.tattoo.demoted := by
  simp only [State.portChosen]
  split
  · split <;> rfl
  · rfl

/-- A master that hears a lower-numbered one (R81). -/
theorem markerTaken_demotes {s : State} {m : Marker} (hmaster : s.isMaster = true)
    (hlow : m.master < s.rdN Obj.CROSSING_DEVICE 0) :
    (s.markerTaken m).tattoo.demoted = true ∧ bit ((s.markerTaken m).rd Obj.TIME_STATUS 0) 3 = true := by
  have hruns : s.tattooRuns = true := by
    simp only [State.isMaster, Bool.and_eq_true] at hmaster
    exact hmaster.1.1
  have hdemoted : s.demotedBy m = true := by simp [State.demotedBy, hmaster, hlow]
  rw [State.markerTaken, if_pos hruns]
  refine ⟨?_, ?_⟩
  · rw [demoted_portChosen, State.conflictNoted, if_pos hdemoted]
  · rw [portChosen_frame]
    show bit ((s.conflictNoted m).rd Obj.TIME_STATUS 0) 3 = true
    have hrd : (s.conflictNoted m).rd Obj.TIME_STATUS 0 = (s.setBit Obj.TIME_STATUS 0 3).rd Obj.TIME_STATUS 0 := by
      rw [State.conflictNoted, hdemoted, Bool.true_or, if_pos rfl]
      rfl
    rw [hrd, bit_setBit _ _ _ _ (by decide)]
    simp

/-! The first master that a follower hears (R74, R81). -/

theorem flatMap_ite_eq_singleton {α : Type} {ds : List Nat} {d : Nat} (x : α) (hnd : ds.Nodup) (hd : d ∈ ds) :
    ds.flatMap (fun e => if e = d then [x] else []) = [x] := by
  induction ds with
  | nil => cases hd
  | cons e ds ih =>
    obtain ⟨hne, hds⟩ := List.nodup_cons.1 hnd
    rw [List.flatMap_cons]
    by_cases he : e = d
    · subst he
      have hrest : ds.flatMap (fun e' => if e' = e then [x] else []) = [] := by
        rw [List.flatMap_eq_nil_iff]
        intro e' he'
        exact if_neg fun h : e' = e => hne (h ▸ he')
      rw [if_pos rfl, hrest]
      rfl
    · rw [if_neg he, ih hds ((List.mem_cons.1 hd).resolve_left fun h => he h.symm)]
      rfl

/-- A marker on a port of a device that has heard none: its master is the only one heard. -/
theorem heardPorts_noteMarker_first {s : State} {d : Nat} (m : Marker) (arrived : Nat) (hd : d < s.member.dies)
    (hnone : ∀ e : Nat, e < s.member.dies → (s.link e).heard = []) :
    (s.noteMarker d m arrived).heardPorts = [(m.master, m.hops, d)] := by
  have hmember : (s.noteMarker d m arrived).dieList = s.dieList := by rw [noteMarker_frame]; rfl
  have hcyc : (s.noteMarker d m arrived).cyc = s.cyc := by rw [noteMarker_frame]
  rw [State.heardPorts, hmember, ← flatMap_ite_eq_singleton (m.master, m.hops, d) List.nodup_range
    (List.mem_range.2 hd)]
  refine List.flatMap_congr fun e he => ?_
  have hheard : ((s.noteMarker d m arrived).link e).heard = if e = d then [(m.master, m.hops, s.cyc)] else [] := by
    split
    · next h =>
      rw [h, (noteMarker_notes s d m arrived).2, hnone d hd]
      rfl
    · next h => rw [link_noteMarker, if_neg h, hnone e (List.mem_range.1 he)]
  rw [State.heardOn, hheard, hcyc]
  split
  · next h => simp [h]
  · rfl

/-- A follower that hears one master on one port follows it (R74). -/
theorem markerTaken_follows {s : State} {d : Nat} {m : Marker} (hfollow : s.isFollower = true)
    (hports : s.heardPorts = [(m.master, m.hops, d)]) :
    (s.markerTaken m).tattoo.follow = some (m.master, m.hops + 1, d) ∧ (s.markerTaken m).tattoo.heardAt = s.cyc := by
  have hruns : s.tattooRuns = true := by
    simp only [State.isFollower, Bool.and_eq_true] at hfollow
    exact hfollow.1
  have hquiet : s.conflictNoted m = s := by
    have hdemoted : s.demotedBy m = false := by rw [State.demotedBy, isMaster_of_isFollower hfollow, Bool.false_and]
    rw [State.conflictNoted, hdemoted, hports]
    rfl
  have hchosen : s.choosePort = some (m.master, m.hops, d) := by
    simp [State.choosePort, hports]
  rw [State.markerTaken, if_pos hruns, hquiet, State.portChosen, if_pos hfollow]
  simp only [hchosen, if_true]
  exact ⟨trivial, trivial⟩

/-! Averages (R73, R75, R76, R80). -/

/-- The port's average published, and begun anew. -/
def State.averagePublished (s : State) (d : Nat) : State :=
  ((s.setLink d { s.link d with count := 0, sumTrip := 0, sumOff2 := 0 }).wrN Obj.LINK_DELAY (sel d 0)
    (mean ((s.link d).sumTrip : Int) 512).toNat).wr Obj.LINK_OFFSET (sel d 0) (wordOfInt (mean (s.link d).sumOff2 512))

/-- An object that a published average leaves. -/
theorem rd_averagePublished_other (s : State) (d : Nat) {id k : Nat} (hdelay : id ≠ Obj.LINK_DELAY)
    (hoff : id ≠ Obj.LINK_OFFSET) : (s.averagePublished d).rd id k = s.rd id k :=
  (rd_wr_other _ _ fun h => hoff h.1).trans (rd_wr_other _ _ fun h => hdelay h.1)

theorem averagePublished_reads (s : State) (d : Nat) :
    (s.averagePublished d).rd Obj.LINK_DELAY (sel d 0) = word (mean ((s.link d).sumTrip : Int) 512).toNat ∧
    (s.averagePublished d).rd Obj.LINK_OFFSET (sel d 0) = wordOfInt (mean (s.link d).sumOff2 512) ∧
    (∀ e : Nat, (s.averagePublished d).link e =
      if e = d then { s.link d with count := 0, sumTrip := 0, sumOff2 := 0 } else s.link e) ∧
    s.averagePublished d = { s with links := (s.averagePublished d).links, regs := (s.averagePublished d).regs } := by
  have hid : ¬(Obj.LINK_DELAY = Obj.LINK_OFFSET ∧ sel d 0 = sel d 0) := fun h => absurd h.1 (by decide)
  exact ⟨(rd_wr_other _ _ hid).trans (rd_wr_same _ _ _ _), rd_wr_same _ _ _ _, fun e => link_setLink s d e _, rfl⟩

/-- The role of a device depends on TIME_SOURCE, TATTOO_ROLE and what it has heard as a master. -/
theorem isFollower_congr {s t : State} (hsrc : t.rd Obj.TIME_SOURCE 0 = s.rd Obj.TIME_SOURCE 0)
    (hrole : t.rd Obj.TATTOO_ROLE 0 = s.rd Obj.TATTOO_ROLE 0) (htattoo : t.tattoo.demoted = s.tattoo.demoted) :
    t.isFollower = s.isFollower := by
  simp only [State.isFollower, State.isMaster, State.tattooRuns, State.rdN, hsrc, hrole, htattoo]

theorem isFollower_averagePublished (s : State) (d : Nat) : (s.averagePublished d).isFollower = s.isFollower :=
  isFollower_congr (rd_averagePublished_other s d (by decide) (by decide))
    (rd_averagePublished_other s d (by decide) (by decide)) rfl

theorem exec_markerAverage {d : Nat} {s : State} (h : 256 ≤ (s.link d).count) : exec (.markerAverage d) s =
    if s.isFollower = true ∧ s.tattoo.follow.map (fun x : Nat × Nat × Nat => x.2.2) = some d then
      .next ((s.averagePublished d).track (mean (s.link d).sumOff2 512))
    else .next (s.averagePublished d) := by
  show execMarkerAverage d s = _
  unfold execMarkerAverage
  refine (if_neg (Nat.not_lt.2 h)).trans ?_
  show (if ((s.averagePublished d).isFollower && _) = true then _ else _) = _
  rw [isFollower_averagePublished]
  refine if_congr ?_ rfl rfl
  rw [Bool.and_eq_true, beq_iff_eq]
  rfl

/-- An event added to a channel changes no object but CHAN_STATUS. -/
theorem rd_addEvent_other (s : State) (d c : Nat) (m : BitVec 5) {id : Nat} (k : Nat) (h : id ≠ Obj.CHAN_STATUS) :
    (s.addEvent d c m).rd id k = s.rd id k := by
  simp only [State.addEvent]
  split
  · split
    · rfl
    · simp only [State.chanBit]
      split
      · exact rd_setBit_other _ 2 fun h' => h h'.1
      · rfl
  · rfl

/-- An action that a step has skipped over changes neither the ports nor any object but CHAN_STATUS. -/
theorem performSkipped_keeps (s : State) (a : Scheduled) :
    (s.performSkipped a).links = s.links ∧
    ∀ id k : Nat, id ≠ Obj.CHAN_STATUS → (s.performSkipped a).rd id k = s.rd id k := by
  cases a with
  | fire f =>
    rw [State.performSkipped, State.fireNow]
    split
    · exact ⟨by rw [addEvent_frame], fun id k h => rd_addEvent_other _ _ _ _ k h⟩
    · exact ⟨rfl, fun _ _ _ => rfl⟩
  | pulse => exact ⟨rfl, fun _ _ _ => rfl⟩
  | wake t =>
    rw [State.performSkipped, wakeCause_frame]
    exact ⟨rfl, fun _ _ _ => rfl⟩

/-- From `s` to `t` no average has gained or lost a marker, and only the objects of a step of device time, of fires and
TIME_STATUS can have changed. -/
structure AveragesKept (s t : State) : Prop where
  count : ∀ k : Nat, (t.link k).count = (s.link k).count
  objects : ∀ id k : Nat, id ∉ [Obj.DECISION_DROPPED, Obj.BIN_PHASE, Obj.TIME_STEPS, Obj.CHAN_STATUS, Obj.TIME_STATUS] →
    t.rd id k = s.rd id k

theorem AveragesKept.trans {s t u : State} (h : AveragesKept s t) (h' : AveragesKept t u) : AveragesKept s u :=
  ⟨fun k => (h'.count k).trans (h.count k), fun id k hid => (h'.objects id k hid).trans (h.objects id k hid)⟩

theorem averagesKept_setTime (s : State) (v : Time) (kind : StepKind) : AveragesKept s (s.setTime v kind) := by
  have hstep := setTime_stepped s v kind
  refine ⟨fun k => ?_, fun id k hid => ?_⟩
  · have hlook := look_map_snd ({} : LinkAvg) ({} : LinkAvg)
      (f := fun x => x.recounted ((v.toNat : Int) - (s.now : Int))) (by simp [LinkAvg.recounted]) s.links k
    rw [State.link, hstep.links, hlook]
    rfl
  · simp only [List.mem_cons, not_or] at hid
    obtain ⟨hdrop, hbin, hsteps, -⟩ := hid
    exact hstep.objects id k hdrop hbin hsteps

theorem averagesKept_stepTime (s : State) (v : Time) (kind : StepKind) : AveragesKept s (s.stepTime v kind) := by
  refine List.foldlRecOn (motive := AveragesKept s) _ _ (averagesKept_setTime s v kind) fun t ht p _ => ht.trans ?_
  obtain ⟨hlinks, hobj⟩ := performSkipped_keeps t p.2
  refine ⟨fun k => by rw [State.link, hlinks, State.link], fun id k hid => hobj id k ?_⟩
  simp only [List.mem_cons, not_or] at hid
  exact hid.2.2.2.1

theorem averagesKept_align (s : State) (o : Int) : AveragesKept s (s.align o) := by
  simp only [State.align]
  split
  · exact ⟨fun _ => rfl, fun _ _ _ => rfl⟩
  · have hkept := averagesKept_stepTime s (BitVec.ofInt 64 ((s.now : Int) + (alignStep o).1)) .tattoo
    exact ⟨hkept.count, hkept.objects⟩

/-- DLY moved by at most one step towards a figure (R76). -/
def towards (cur want : Int) : Int := if cur < want then cur + 1 else if want < cur then cur - 1 else cur

/-- DLY follows an averaged offset by one step (R76). -/
def State.dlyMoved (s : State) (o : Int) : State :=
  { s with tattoo := { s.tattoo with dly := (towards s.tattoo.dly (1024 - o)).toNat, align := .aligned } }

/-- A follower that hears its master again within one cycle of its time takes the DLY of the offset (R80). -/
def State.dlyTaken (s : State) (o : Int) : State :=
  { s with tattoo := { s.tattoo with align := .aligned, lost := false, pending := false, dly := (1024 - o).toNat } }

theorem track_eq (s : State) (o : Int) : s.track o =
    if s.clock.holdover then s else if !s.tattoo.once then s.align o
    else if s.tattoo.lost then
      if -1023 ≤ o ∧ o ≤ 1024 then s.dlyTaken o else (s.setBit Obj.TIME_STATUS 0 2).align o
    else if s.tattoo.align = .aligning then s.align o
    else if 1024 - o < 0 ∨ 2047 < 1024 - o then s.align o else s.dlyMoved o := rfl

/-- What a follower does with an average leaves the averages. -/
theorem averagesKept_track (s : State) (o : Int) : AveragesKept s (s.track o) := by
  rw [track_eq]
  split_ifs
  · exact ⟨fun _ => rfl, fun _ _ _ => rfl⟩
  · exact averagesKept_align s o
  · exact ⟨fun _ => rfl, fun _ _ _ => rfl⟩
  · refine AveragesKept.trans (t := s.setBit Obj.TIME_STATUS 0 2) ⟨fun _ => rfl, fun id k hid => ?_⟩
      (averagesKept_align _ o)
    simp only [List.mem_cons, not_or] at hid
    exact rd_setBit_other s 2 fun h => hid.2.2.2.2.1 h.1
  · exact averagesKept_align s o
  · exact averagesKept_align s o
  · exact ⟨fun _ => rfl, fun _ _ _ => rfl⟩

/-- A DLY moved towards a figure that is not negative. -/
theorem toNat_towards (cur : Nat) {want : Int} (h : 0 ≤ want) :
    (((towards cur want).toNat : Int) = cur ∨ ((towards cur want).toNat : Int) = cur + 1 ∨
      ((towards cur want).toNat : Int) = cur - 1) ∧
    ((cur : Int) < want → (towards cur want).toNat = cur + 1) ∧
    (want < (cur : Int) → (towards cur want).toNat = cur - 1) ∧ ((cur : Int) = want → (towards cur want).toNat = cur) := by
  rcases lt_trichotomy (cur : Int) want with hlt | heq | hgt
  · rw [towards, if_pos hlt]
    omega
  · rw [towards, if_neg heq.not_lt, if_neg heq.symm.not_lt]
    omega
  · rw [towards, if_neg hgt.not_gt, if_pos hgt]
    omega

/-- A first alignment with no sequencer running (R75). -/
theorem track_first {s : State} (o : Int) (hold : s.clock.holdover = false) (honce : s.tattoo.once = false)
    (hrun : s.anyRunning = false) :
    s.track o = { s.stepTime (BitVec.ofInt 64 ((s.now : Int) + (alignStep o).1)) .tattoo with
      tattoo := { (s.stepTime (BitVec.ofInt 64 ((s.now : Int) + (alignStep o).1)) .tattoo).tattoo with
        pending := false, align := .aligned, once := true, lost := false, dly := (alignStep o).2 } } := by
  rw [track_eq, if_neg (ne_true_of_eq_false hold), if_pos (by simp [honce]), State.align,
    if_neg (ne_true_of_eq_false hrun)]

/-- An aligned follower moves its DLY by one step (R76). -/
theorem track_aligned {s : State} (o : Int) (hold : s.clock.holdover = false) (honce : s.tattoo.once = true)
    (hlost : s.tattoo.lost = false) (halign : s.tattoo.align = Align.aligned) (hlo : 0 ≤ 1024 - o) (hhi : 1024 - o ≤ 2047) :
    s.track o = { s with tattoo := { s.tattoo with dly := (towards s.tattoo.dly (1024 - o)).toNat } } := by
  have hin : ¬(1024 - o < 0 ∨ 2047 < 1024 - o) := by omega
  have hmoved : s.dlyMoved o = { s with tattoo := { s.tattoo with dly := (towards s.tattoo.dly (1024 - o)).toNat } } := by
    rw [State.dlyMoved, ← halign]
  rw [track_eq, if_neg (ne_true_of_eq_false hold), if_neg (by simp [honce]), if_neg (ne_true_of_eq_false hlost),
    if_neg (by simp [halign]), if_neg hin, hmoved]

/-- A port whose average starts again. -/
def LinkAvg.begunAnew (x : LinkAvg) : LinkAvg := { x with count := 0, sumTrip := 0, sumOff2 := 0 }

theorem exec_markerLoss {s : State} (hfollow : s.isFollower = true) (hlost : s.tattoo.lost = false)
    (hport : s.tattoo.follow.isSome = true) (hpast : s.tattoo.heardAt + 1048576 ≤ s.cyc) :
    exec .markerLoss s = .next { s.setBit Obj.TIME_STATUS 0 0 with
      tattoo := { s.tattoo with
        lost := true, lossAt := s.cyc, align := if s.tattoo.align = .aligned then Align.unverified else s.tattoo.align }
      links := s.links.map fun p => (p.1, p.2.begunAnew) } := by
  obtain ⟨p, hp⟩ := Option.isSome_iff_exists.1 hport
  show execMarkerLoss s = _
  simp only [execMarkerLoss, hp]
  refine (if_pos ?_).trans rfl
  simp [hfollow, hlost, hpast]

/-- Settles O12: what each marker makes due on its ports or enters in an average, what a completed average does to device
time and DLY, and a master that is lost. -/
theorem tattoo : Obligations.Tattoo := by
  refine ⟨fun s hdue hmaster => ?_, fun m h p s hdue hfollow halign hport => ?_, fun d arrived m s => ?_,
    fun d s hcount => ?_, fun d m h s hcount hfollow hport honce hold hrun hskip => ?_,
    fun d m h s hcount hfollow hport honce hlost halign hold hlo hhi => ?_, fun s hfollow hlost hport hpast => ?_⟩
  · obtain ⟨htattoo, hframe⟩ := markersSent_frame s (s.rdN Obj.CROSSING_DEVICE 0) 0 none
    have hlink := link_markersSent s (s.rdN Obj.CROSSING_DEVICE 0) 0 none
    refine ⟨_, exec_tattooMarkerSend_master hdue hmaster, fun d hd hup => ?_, fun d hdown => ?_, htattoo, hframe⟩
    · rw [hlink, if_pos ⟨hd, hup, by simp⟩]
      exact ⟨rfl, rfl⟩
    · rw [hlink, if_neg (by simp [hdown])]
  · obtain ⟨htattoo, hframe⟩ := markersSent_frame s m h (some p)
    have hlink := link_markersSent s m h (some p)
    refine ⟨_, exec_tattooMarkerSend_follower hdue hfollow halign hport, fun d hd hup hne => ?_, ?_, fun d hdown => ?_,
      htattoo, hframe⟩
    · rw [hlink, if_pos ⟨hd, hup, by simpa using hne.symm⟩]
      exact ⟨rfl, rfl⟩
    · rw [hlink, if_neg (by simp)]
    · rw [hlink, if_neg (by simp [hdown])]
  · have htaken := markerTaken_frame (s.noteMarker d m arrived) m
    have hnoted := noteMarker_frame s d m arrived
    obtain ⟨hecho, hheard⟩ := noteMarker_notes s d m arrived
    refine ⟨_, exec_markerReceive d arrived m s, ?_, ?_, fun h hh hne => ?_, fun trip htrip havg hcount hlow => ?_,
      fun hfollow hd hnone => ?_, fun hmaster hlow => ?_, fun e he => ?_, ?_⟩
    · rw [htaken]
      exact hecho
    · rw [htaken]
      exact congrArg List.head? hheard
    · rw [htaken]
      show h ∈ ((s.noteMarker d m arrived).link d).heard
      rw [hheard]
      exact List.mem_cons_of_mem _ (List.mem_filter.2 ⟨hh, by simpa using hne⟩)
    · rw [htaken]
      exact noteMarker_counts htrip havg hcount hlow
    · have hports := heardPorts_noteMarker_first m arrived hd hnone
      have hfollow' : (s.noteMarker d m arrived).isFollower = true := by rw [hnoted]; exact hfollow
      obtain ⟨hport, hat⟩ := markerTaken_follows hfollow' hports
      exact ⟨hport, hat.trans (by rw [hnoted])⟩
    · refine markerTaken_demotes ?_ ?_
      · rw [hnoted]
        exact hmaster
      · rw [hnoted]
        exact hlow
    · rw [htaken]
      show (s.noteMarker d m arrived).link e = s.link e
      rw [link_noteMarker, if_neg he]
    · rw [htaken, hnoted]
  · obtain ⟨hdelay, hoff, hlink, hframe⟩ := averagePublished_reads s d
    have hkept := averagesKept_track (s.averagePublished d) (mean (s.link d).sumOff2 512)
    rw [exec_markerAverage hcount]
    split
    · next hfollow =>
      refine ⟨_, rfl, (hkept.objects _ _ (by decide)).trans hdelay, (hkept.objects _ _ (by decide)).trans hoff,
        (hkept.count d).trans (by rw [hlink, if_pos rfl]), fun e _ hno => ?_, fun hno => ?_⟩
      · rw [hfollow.1] at hno
        cases hno
      · rcases hno with hno | hno
        · rw [hfollow.1] at hno
          cases hno
        · exact absurd hfollow.2 hno
    · exact ⟨_, rfl, hdelay, hoff, by rw [hlink, if_pos rfl], fun e he _ => by rw [hlink, if_neg he], fun _ => hframe⟩
  · obtain ⟨-, -, -, hframe⟩ := averagePublished_reads s d
    have hdue : s.isFollower = true ∧ s.tattoo.follow.map (fun x : Nat × Nat × Nat => x.2.2) = some d :=
      ⟨hfollow, by rw [hport]; rfl⟩
    have hsame : (s.averagePublished d).scheduled = s.scheduled := by
      have hon : (s.averagePublished d).rd Obj.SYNC_OUT_ENABLE 0 = s.rd Obj.SYNC_OUT_ENABLE 0 :=
        rd_averagePublished_other s d (by decide) (by decide)
      simp only [State.scheduled, State.rdN, hon]
      rfl
    have hnow : (s.averagePublished d).now = s.now := rfl
    have hstep := stepTime_stepped (s := s.averagePublished d) .tattoo ((skipped_congr hsame _ _).trans hskip)
    rw [exec_markerAverage hcount, if_pos hdue, track_first (s := s.averagePublished d) _ hold honce hrun, hnow]
    refine ⟨_, rfl, ?_, rfl, rfl, rfl, ?_⟩
    · exact congrArg Clock.now hstep.clock
    · rw [hstep.frame, hframe]
  · obtain ⟨-, -, -, hframe⟩ := averagePublished_reads s d
    have hdue : s.isFollower = true ∧ s.tattoo.follow.map (fun x : Nat × Nat × Nat => x.2.2) = some d :=
      ⟨hfollow, by rw [hport]; rfl⟩
    rw [exec_markerAverage hcount, if_pos hdue,
      track_aligned (s := s.averagePublished d) _ hold honce hlost halign hlo hhi]
    obtain ⟨hstep, hup, hdown, hsame⟩ := toNat_towards s.tattoo.dly hlo
    exact ⟨_, rfl, hstep, hup, hdown, hsame, rfl, rfl⟩
  · refine ⟨_, exec_markerLoss hfollow hlost hport hpast, ?_, rfl, rfl, rfl, fun k => ?_, rfl⟩
    · show bit ((s.setBit Obj.TIME_STATUS 0 0).rd Obj.TIME_STATUS 0) 0 = true
      rw [bit_setBit _ _ _ _ (by decide)]
      simp
    · exact congrArg LinkAvg.count (look_map_snd ({} : LinkAvg) ({} : LinkAvg) (f := LinkAvg.begunAnew) rfl s.links k)

end Sys2Proof.Machine
end

section
/-!
PROOFS. Power-up and the resets (R572–R582): a unit reset and the memories of a state whose table of DOMAIN objects lists one
object twice.
-/

namespace Sys2Proof.Machine

/-- RESET of sequencer 2 of die 0, which is powered, waits at the head of the queue, and the table of DOMAIN objects lists the
control stores twice, the first time without an instance. The second listing is hidden: the store reads its default. -/
def twiceListed : State := { landAt (headOf 12 6 6) resetSeq with
  power := [(36, ⟨.s0⟩)]
  doms := (Obj.CS_DATA, []) :: (Obj.CS_DATA, [(2, [(0, 5)])]) :: (landAt (headOf 12 6 6) resetSeq).doms }

/-- The premises of a unit reset are met. -/
theorem resetUnit_due_twiceListed :
    headIs twiceListed .resetUnit (reqOfHead (headOf 12 6 6) resetSeq) = true ∧
    newInSession twiceListed (reqOfHead (headOf 12 6 6) resetSeq) = true ∧
    (reqOfHead (headOf 12 6 6) resetSeq).field 0 1 = 0 ∧ 2 = (reqOfHead (headOf 12 6 6) resetSeq).objSel 1 ∧
    twiceListed.object ((reqOfHead (headOf 12 6 6) resetSeq).objId 1) 2 =
      some ⟨Obj.SEQ_COMMAND, .u8, .wo, false, 10, 0⟩ ∧
    twiceListed.domKept (selDie 2) (unitDomain 10 (selUnit 2)) = true := by decide +kernel

theorem dw_twiceListed : twiceListed.dw Obj.CS_DATA 2 0 = 0 := by decide +kernel

/-- The reset drops listings without an instance, and the hidden one comes to light. -/
theorem dw_resetUnit_twiceListed : (match exec .resetUnit twiceListed with
    | .next t => t.dw Obj.CS_DATA 2 0
    | _ => 0) = 5 := by decide +kernel

/-- Refutes O52, by its clause that a unit reset changes no memory (R579): a reset of sequencer 2 changes its control store
where the table of DOMAIN objects lists the stores twice. A table in canonical form lists no object twice, but the statement
does not ask for that form, as that of O58 does. The model's choices that the other clauses rest on (logs 9, 31, 44 and 46)
play no part. -/
theorem not_powerUpAndResets : ¬ Obligations.PowerUpAndResets := by
  unfold Obligations.PowerUpAndResets
  rintro ⟨-, -, -, -, -, -, -, -, -, -, -, hreset, -⟩
  obtain ⟨hhead, hnew, hscope, hsel, hobj, hkept⟩ := resetUnit_due_twiceListed
  obtain ⟨t, hexec, -, -, -, hmem, -⟩ := hreset _ 2 _ twiceListed hhead hnew hscope hsel hobj
    (.inr (by decide)) (fun h => absurd h (by decide)) hkept
  have hshown := dw_resetUnit_twiceListed
  rw [hexec] at hshown
  have hsame : t.dw Obj.CS_DATA 2 0 = twiceListed.dw Obj.CS_DATA 2 0 := hmem Obj.CS_DATA 2 0 (by decide) (by decide)
  rw [dw_twiceListed] at hsame
  exact absurd (hshown.symm.trans hsame) (by decide)

end Sys2Proof.Machine
end

section
/-!
PROOFS. RF outputs: the predistortion commit (R113), and what takes effect at the boundary of an output (R76, R79, R114, R118).
-/

namespace Sys2Proof.Machine

/-! Words of DOMAIN objects copied to other objects. -/

theorem copyWords_succ (s : State) (src dst k n : Nat) : s.copyWords src dst k (n + 1) =
    (s.copyWords src dst k n).setDw dst k n ((s.copyWords src dst k n).dw src k n) := by
  simp only [State.copyWords, List.range_succ, List.foldl_append, List.foldl_cons, List.foldl_nil]

/-- Commands that each change the DOMAIN objects only, one after another, change nothing else. -/
theorem foldl_doms_frame (f : State → Nat → State) (hf : ∀ t i, f t i = { t with doms := (f t i).doms }) (l : List Nat)
    (s : State) : l.foldl f s = { s with doms := (l.foldl f s).doms } := by
  refine List.foldlRecOn (motive := fun t : State => t = { s with doms := t.doms }) _ _ rfl fun t ht i _ => ?_
  rw [hf, ht]

theorem copyWords_frame (s : State) (src dst k n : Nat) :
    s.copyWords src dst k n = { s with doms := (s.copyWords src dst k n).doms } :=
  foldl_doms_frame _ (fun _ _ => rfl) _ s

theorem dw_copyWords (s : State) {src dst : Nat} (k n : Nat) (hne : src ≠ dst) (id j w : Nat) :
    (s.copyWords src dst k n).dw id j w = if id = dst ∧ j = k ∧ w < n then s.dw src k w else s.dw id j w := by
  induction n generalizing id j w with
  | zero => simp [State.copyWords]
  | succ n ih =>
    rw [copyWords_succ]
    by_cases h : id = dst ∧ j = k ∧ w = n
    · obtain ⟨rfl, rfl, rfl⟩ := h
      rw [dw_setDw_same, ih, if_neg (fun h => hne h.1), if_pos ⟨rfl, rfl, w.lt_succ_self⟩]
    · rw [dw_setDw_other _ _ h, ih]
      exact if_congr (by omega) rfl rfl

/-- The four shadow sections lie directly below the active ones, and those below the words of the FIR (R124). -/
theorem chain_objects : Obj.IIR_ACTIVE_0 = Obj.IIR_SHADOW_0 + 4 ∧ Obj.IIR_ACTIVE_0 + 4 ≤ Obj.FIR_SHADOW ∧
    Obj.FIR_SHADOW < Obj.FIR_ACTIVE := by decide

/-- The shadows of the first `n` IIR sections copied to the active chain. -/
def State.sectionsCopied (s : State) (k n : Nat) : State :=
  (List.range n).foldl (fun t i => t.copyWords (Obj.IIR_SHADOW_0 + i) (Obj.IIR_ACTIVE_0 + i) k 2) s

theorem sectionsCopied_succ (s : State) (k n : Nat) : s.sectionsCopied k (n + 1) =
    (s.sectionsCopied k n).copyWords (Obj.IIR_SHADOW_0 + n) (Obj.IIR_ACTIVE_0 + n) k 2 := by
  simp only [State.sectionsCopied, List.range_succ, List.foldl_append, List.foldl_cons, List.foldl_nil]

theorem sectionsCopied_frame (s : State) (k n : Nat) :
    s.sectionsCopied k n = { s with doms := (s.sectionsCopied k n).doms } :=
  foldl_doms_frame _ (fun t _ => copyWords_frame t _ _ k 2) _ s

/-- A copy of at most four sections reads none that it has written. -/
theorem dw_sectionsCopied (s : State) (k : Nat) {n : Nat} (hn : n ≤ 4) (id j w : Nat) :
    (s.sectionsCopied k n).dw id j w =
      if Obj.IIR_ACTIVE_0 ≤ id ∧ id < Obj.IIR_ACTIVE_0 + n ∧ j = k ∧ w < 2 then s.dw (id - 4) k w else s.dw id j w := by
  obtain ⟨hsection, -, -⟩ := chain_objects
  induction n generalizing id j w with
  | zero => exact (if_neg (by omega)).symm
  | succ n ih =>
    rw [sectionsCopied_succ, dw_copyWords _ _ _ (by omega), ih (by omega), ih (by omega)]
    by_cases h : id = Obj.IIR_ACTIVE_0 + n ∧ j = k ∧ w < 2
    · obtain ⟨rfl, rfl, hw⟩ := h
      rw [if_pos ⟨rfl, rfl, hw⟩, if_neg (by omega), if_pos (by omega)]
      congr 1
      omega
    · rw [if_neg h]
      exact if_congr (by omega) rfl rfl

/-- The state in which every shadow coefficient of an output is in its active chain (R113). -/
def State.chainCopied (s : State) (k : Nat) : State :=
  (s.sectionsCopied k 4).copyWords Obj.FIR_SHADOW Obj.FIR_ACTIVE k 16

theorem chainCopied_frame (s : State) (k : Nat) : s.chainCopied k = { s with doms := (s.chainCopied k).doms } := by
  rw [State.chainCopied, copyWords_frame, sectionsCopied_frame]

theorem outs_chainCopied (s : State) (k : Nat) : (s.chainCopied k).outs = s.outs := by
  rw [chainCopied_frame]

theorem dw_chainCopied_section (s : State) (k : Nat) {i w : Nat} (hi : i < 4) (hw : w < 2) :
    (s.chainCopied k).dw (Obj.IIR_ACTIVE_0 + i) k w = s.dw (Obj.IIR_SHADOW_0 + i) k w := by
  obtain ⟨hsection, hfir, hactive⟩ := chain_objects
  rw [State.chainCopied, dw_copyWords _ _ _ hactive.ne, if_neg (by omega), dw_sectionsCopied _ _ le_rfl,
    if_pos (by omega)]
  congr 1
  omega

theorem dw_chainCopied_fir (s : State) (k : Nat) {w : Nat} (hw : w < 16) :
    (s.chainCopied k).dw Obj.FIR_ACTIVE k w = s.dw Obj.FIR_SHADOW k w := by
  obtain ⟨hsection, hfir, hactive⟩ := chain_objects
  rw [State.chainCopied, dw_copyWords _ _ _ hactive.ne, if_pos ⟨rfl, rfl, hw⟩, dw_sectionsCopied _ _ le_rfl,
    if_neg (by omega)]

theorem dw_chainCopied_other (s : State) {k id j w : Nat} (h : ¬(j = k ∧ ((id = Obj.FIR_ACTIVE ∧ w < 16) ∨
    (Obj.IIR_ACTIVE_0 ≤ id ∧ id < Obj.IIR_ACTIVE_0 + 4 ∧ w < 2)))) : (s.chainCopied k).dw id j w = s.dw id j w := by
  obtain ⟨hsection, hfir, hactive⟩ := chain_objects
  rw [State.chainCopied, dw_copyWords _ _ _ hactive.ne, if_neg (by omega), dw_sectionsCopied _ _ le_rfl,
    if_neg (by omega)]

/-! PD_COMMIT_APPLY (R113). -/

/-- The states of the IIR stages, those of the first `n` stages that `p` tells cleared. -/
def statesCleared (p : Nat → Bool) (l : List IirState) (n : Nat) : List IirState :=
  (List.range n).foldl (fun a i => if p i then setAt a i {} else a) l

theorem statesCleared_succ (p : Nat → Bool) (l : List IirState) (n : Nat) : statesCleared p l (n + 1) =
    if p n then (statesCleared p l n).set n {} else statesCleared p l n := by
  simp only [statesCleared, List.range_succ, List.foldl_append, List.foldl_cons, List.foldl_nil, setAt]

theorem getD_set_default (l : List IirState) (n i : Nat) :
    (l.set n ({} : IirState)).getD i {} = if i = n then {} else l.getD i {} := by
  simp only [List.getD_eq_getElem?_getD, List.getElem?_set]
  split <;> split <;> simp_all

theorem getD_statesCleared (p : Nat → Bool) (l : List IirState) (n i : Nat) :
    (statesCleared p l n).getD i ({} : IirState) = if i < n ∧ p i = true then {} else l.getD i {} := by
  induction n with
  | zero => simp [statesCleared]
  | succ n ih =>
    rw [statesCleared_succ]
    split
    · next hp =>
      rw [getD_set_default, ih]
      by_cases hi : i = n
      · rw [if_pos hi, if_pos ⟨by omega, hi ▸ hp⟩]
      · rw [if_neg hi]
        exact if_congr (by simp only [and_congr_left_iff]; omega) rfl rfl
    · next hp =>
      rw [ih]
      refine if_congr (and_congr_left fun hpi => ?_) rfl rfl
      have hi : i ≠ n := fun h => hp (h ▸ hpi)
      omega

/-- The state in which an armed commit has been carried out (R113). -/
def State.committed (s : State) (k : Nat) : State :=
  (s.chainCopied k).setOut k { s.out k with
    commit := false
    iirI := statesCleared ((s.chainCopied k).bypassed k) (s.out k).iirI 4
    iirQ := statesCleared ((s.chainCopied k).bypassed k) (s.out k).iirQ 4 }

theorem exec_pdCommitApply_copies {d o : Nat} {s : State} (harm : (s.out (sel d o)).commit = true)
    (hidle : s.outIdle d o = true) (hgood : ∀ i < 4, iirBad (s.dw (Obj.IIR_SHADOW_0 + i) (sel d o) 1) = false) :
    exec (.pdCommitApply d o) s = .next (s.committed (sel d o)) := by
  show execPdCommitApply d o s = _
  have hnone : (List.range 4).any (fun i => iirBad (s.dw (Obj.IIR_SHADOW_0 + i) (sel d o) 1)) = false :=
    List.any_eq_false.mpr fun i hi => ne_true_of_eq_false (hgood i (List.mem_range.mp hi))
  rw [execPdCommitApply, if_pos (by rw [harm, hidle]; rfl), if_neg (ne_true_of_eq_false hnone)]
  rfl

theorem exec_pdCommitApply_refused {d o i : Nat} {s : State} (harm : (s.out (sel d o)).commit = true)
    (hidle : s.outIdle d o = true) (hi : i < 4)
    (hbad : iirBad (s.dw (Obj.IIR_SHADOW_0 + i) (sel d o) 1) = true) :
    exec (.pdCommitApply d o) s = .fault .hostError := by
  show execPdCommitApply d o s = _
  have hany : (List.range 4).any (fun i => iirBad (s.dw (Obj.IIR_SHADOW_0 + i) (sel d o) 1)) = true :=
    List.any_eq_true.mpr ⟨i, List.mem_range.mpr hi, hbad⟩
  rw [execPdCommitApply, if_pos (by rw [harm, hidle]; rfl), if_pos hany]
  rfl

theorem committed_frame (s : State) (k : Nat) :
    s.committed k = { s with doms := (s.committed k).doms, outs := (s.committed k).outs } := by
  have hchain := chainCopied_frame s k
  rw [State.committed]
  generalize s.chainCopied k = t at hchain ⊢
  rw [hchain]
  rfl

theorem dw_committed (s : State) (k id j w : Nat) : (s.committed k).dw id j w = (s.chainCopied k).dw id j w := by
  simp only [State.committed, State.dw, setOut_frame]

theorem out_committed_other (s : State) {k j : Nat} (h : j ≠ k) : (s.committed k).out j = s.out j := by
  rw [State.committed, out_setOut, if_neg h, State.out, outs_chainCopied, State.out]

theorem out_committed_same (s : State) (k : Nat) : (s.committed k).out k = { s.out k with
    commit := false
    iirI := statesCleared ((s.chainCopied k).bypassed k) (s.out k).iirI 4
    iirQ := statesCleared ((s.chainCopied k).bypassed k) (s.out k).iirQ 4 } := by
  rw [State.committed, out_setOut, if_pos rfl]

/-- What a commit leaves in a stage, for I as for Q: a stage is bypassed as its shadow tells. -/
theorem getD_statesCleared_bypassed (s : State) (k : Nat) (l : List IirState) {i : Nat} (hi : i < 4) :
    (statesCleared ((s.chainCopied k).bypassed k) l 4).getD i ({} : IirState) =
      if bit (s.dw (Obj.IIR_SHADOW_0 + i) k 0) 24 then ({} : IirState) else l.getD i {} := by
  rw [getD_statesCleared, State.bypassed, dw_chainCopied_section s k hi (by decide)]
  exact if_congr (and_iff_right hi) rfl rfl

/-! OUTPUT_MODE_APPLY, OUTPUT_SETTLING_END and DLY_APPLY (R76, R79, R114, R118). -/

/-- An output that has taken what was written to it, in a cycle in which it is idle (R114, R118). -/
def State.outApplied (s : State) (d o : Nat) : RfOut :=
  let k := sel d o
  let x := s.out k
  let change := s.rdN Obj.OUT_MODE k != x.mode || s.rdN Obj.FS_CURRENT k != x.current
  let long := if s.outIdle d (o + 1) then s.rdN Obj.FIR_LONG k != 0 else x.firLong
  { x with
    mode := s.rdN Obj.OUT_MODE k
    current := s.rdN Obj.FS_CURRENT k
    headroom := s.rdN Obj.HEADROOM k
    firLong := long
    written := long != (s.rdN Obj.FIR_LONG k != 0)
    settle := if change then s.cyc + 25000 else x.settle
    settling := x.settling || change }

theorem exec_outputModeApply {d o : Nat} {s : State} (hpend : s.modePending (sel d o) = true)
    (hidle : s.outIdle d o = true) (hkept : s.domKept d (domOut o) = true) :
    exec (.outputModeApply d o) s = .next (s.setOut (sel d o) (s.outApplied d o)) := by
  show execOutputModeApply d o s = _
  rw [execOutputModeApply, if_pos (by rw [hpend, hidle, hkept]; rfl)]
  rfl

theorem outApplied_changed {d o : Nat} {s : State}
    (h : (s.outApplied d o).mode ≠ (s.out (sel d o)).mode ∨ (s.outApplied d o).current ≠ (s.out (sel d o)).current) :
    (s.outApplied d o).settling = true ∧ (s.outApplied d o).settle = s.cyc + 25000 := by
  have hchange : (s.rdN Obj.OUT_MODE (sel d o) != (s.out (sel d o)).mode ||
      s.rdN Obj.FS_CURRENT (sel d o) != (s.out (sel d o)).current) = true := by
    rwa [Bool.or_eq_true, bne_iff_ne, bne_iff_ne]
  exact ⟨(congrArg _ hchange).trans (Bool.or_true _), if_pos hchange⟩

theorem outApplied_unchanged {d o : Nat} {s : State}
    (h : (s.outApplied d o).mode = (s.out (sel d o)).mode ∧ (s.outApplied d o).current = (s.out (sel d o)).current) :
    (s.outApplied d o).settling = (s.out (sel d o)).settling ∧ (s.outApplied d o).settle = (s.out (sel d o)).settle := by
  have hsame : (s.rdN Obj.OUT_MODE (sel d o) != (s.out (sel d o)).mode ||
      s.rdN Obj.FS_CURRENT (sel d o) != (s.out (sel d o)).current) = false := by
    rwa [Bool.or_eq_false_iff, bne_eq_false_iff_eq, bne_eq_false_iff_eq]
  exact ⟨(congrArg _ hsame).trans (Bool.or_false _), if_neg (ne_true_of_eq_false hsame)⟩

theorem exec_outputSettlingEnd {d o : Nat} {s : State} (hset : (s.out (sel d o)).settling = true)
    (hcome : (s.out (sel d o)).settle ≤ s.cyc) :
    exec (.outputSettlingEnd d o) s = .next (s.setOut (sel d o) { s.out (sel d o) with settling := false }) := by
  show execOutputSettlingEnd d o s = _
  rw [execOutputSettlingEnd, if_pos (by rw [hset, Bool.true_and]; exact decide_eq_true hcome)]

theorem exec_dlyApply {d o : Nat} {s : State} (hidle : s.outIdle d o = true) :
    exec (.dlyApply d o) s = .next (s.setOut (sel d o) { s.out (sel d o) with dly := s.dlyTarget d o }) := by
  show execDlyApply d o s = _
  rw [execDlyApply, if_pos hidle]

/-- Settles O10: both ends of a commit, what it leaves in the active chain and in the IIR states (R113), and what an output
takes at its boundary. The DLY that DLY_APPLY takes (`State.dlyTarget`) is not let below 0 and has no bound above: R76 and R79
state neither, and both are the model's choices (log 58). The other output of the pair is the next one, as an odd output takes
no FIR_LONG (R114). -/
theorem predistortionAndOutputModes : Obligations.PredistortionAndOutputModes := by
  unfold Obligations.PredistortionAndOutputModes
  refine ⟨fun d o b s => rfl, fun d o s harm hidle hgood => ?_,
    fun d o i s harm hidle hi hbad => exec_pdCommitApply_refused harm hidle hi hbad,
    fun d o s hpend hidle hkept => ?_, fun d o s hset hcome => exec_outputSettlingEnd hset hcome,
    fun d o s hidle => exec_dlyApply hidle⟩
  · refine ⟨_, exec_pdCommitApply_copies harm hidle hgood, ?_⟩
    simp only [dw_committed, out_committed_same]
    exact ⟨fun i w => dw_chainCopied_section s _, fun w => dw_chainCopied_fir s _, fun id k w => dw_chainCopied_other s,
      fun i => getD_statesCleared_bypassed s _ _, fun i => getD_statesCleared_bypassed s _ _, trivial,
      fun k => out_committed_other s, committed_frame s _⟩
  · have hout : (s.setOut (sel d o) (s.outApplied d o)).out (sel d o) = s.outApplied d o :=
      (out_setOut _ _ _ _).trans (if_pos rfl)
    refine ⟨_, exec_outputModeApply hpend hidle hkept, ?_⟩
    rw [hout]
    exact ⟨rfl, rfl, rfl, rfl, outApplied_changed, outApplied_unchanged, rfl, rfl,
      fun k hk => (out_setOut _ _ _ _).trans (if_neg hk), rfl⟩

end Sys2Proof.Machine
end

section
/-!
PROOFS. How a word of a sequencer begins, and how its action row goes on from there (R133, R146, R173).
-/

namespace Sys2Proof.Machine

/-! Sequencers replaced. -/

/-- Of two replacements of a sequencer the second stands. -/
theorem setSeq_setSeq (s : State) (k : Nat) (x y : Seq) : (s.setSeq k x).setSeq k y = s.setSeq k y := by
  simp [State.setSeq]

theorem seq_setSeq_same (s : State) (k : Nat) (x : Seq) : (s.setSeq k x).seq k = x := (seq_setSeq s k k x).trans (if_pos rfl)

theorem seq_setSeq_other (s : State) {k j : Nat} (x : Seq) (h : j ≠ k) : (s.setSeq k x).seq j = s.seq j :=
  (seq_setSeq s k j x).trans (if_neg h)

/-! Words that begin (R133, R173). -/

/-- A corrected fetch changes the objects, the control stores and the fault log only. -/
theorem csCorrect_frame (s : State) (d q addr : Nat) : s.csCorrect d q addr =
    { s with regs := (s.csCorrect d q addr).regs, stores := (s.csCorrect d q addr).stores,
             dies := (s.csCorrect d q addr).dies } := by
  simp only [State.csCorrect]
  split_ifs
  · rw [inc_frame]; rfl
  · rw [log_frame, inc_frame]; rfl
  · rw [log_frame, inc_frame]; rfl

theorem csFetched_frame (s : State) (d q addr : Nat) (e : MwEcc) : s.csFetched d q addr e =
    { s with regs := (s.csFetched d q addr e).regs, stores := (s.csFetched d q addr e).stores,
             dies := (s.csFetched d q addr e).dies } := by
  simp only [State.csFetched]
  split_ifs
  · rw [csCorrect_frame, csCorrect_frame s]
  · exact csCorrect_frame s d q addr
  · exact csCorrect_frame s d q addr
  · rfl

/-- The sequencer as its word `w` has been fetched in its execution cycle (R133). -/
def Seq.fetched (x : Seq) (now : Nat) (w : MW) : Seq :=
  { x with mw := w, exec := now, last := x.addr, skipBreak := false, waitFault := false }

/-- What it is for a word to begin. -/
theorem beginsWord_facts {s : State} {d q : Nat} {e : MwEcc} {w : MW} (h : beginsWord s d q e w = true) :
    s.wordDue d q = true ∧ s.breakHere (sel d q) = false ∧ eccLost e = false ∧
    2 * (s.seq (sel d q)).addr ∉ (s.store (sel d q)).poison ∧ 2 * (s.seq (sel d q)).addr + 1 ∉ (s.store (sel d q)).poison ∧
    s.fetchMw (sel d q) (s.seq (sel d q)).addr = w ∧ mwBad w = false := by
  simpa only [beginsWord, Bool.and_eq_true, Bool.not_eq_true', List.contains_eq_mem, decide_eq_false_iff_not, beq_iff_eq,
    and_assoc] using h

/-- What it is for a word to be due (R133, R136). -/
theorem wordDue_facts {s : State} {d q : Nat} (h : s.wordDue d q = true) :
    s.seqRuns d q = true ∧ (s.seq (sel d q)).phase = .ready := by
  simp only [State.wordDue, Bool.and_eq_true, beq_iff_eq] at h
  obtain ⟨⟨⟨hruns, hphase⟩, -⟩, -⟩ := h
  exact ⟨hruns, hphase⟩

/-- A word that begins goes on as fetched, its corrections counted. -/
theorem beginWord_eq {s : State} {d q : Nat} {e : MwEcc} {w : MW} (h : beginsWord s d q e w = true)
    (f : State → Seq → Out) : s.beginWord d q e f =
      f (s.csFetched d q (s.seq (sel d q)).addr e) ((s.seq (sel d q)).fetched s.now w) := by
  obtain ⟨-, hbreak, hecc, hlow, hhigh, hfetch, hbad⟩ := beginsWord_facts h
  have hseq : (s.csFetched d q (s.seq (sel d q)).addr e).seq (sel d q) = s.seq (sel d q) := by rw [csFetched_frame]; rfl
  simp only [State.beginWord, hbreak, Bool.false_and, Bool.false_eq_true, if_false, hecc, hlow, hhigh, or_self, hfetch, hbad,
    hseq, Seq.fetched]

/-- A word that has begun is the sequencer's current one, half done. -/
theorem beginState_half {s : State} {d q : Nat} {e : MwEcc} {w : MW} (h : beginsWord s d q e w = true) :
    (beginState s d q e w).seqRuns d q = true ∧
    (beginState s d q e w).seq (sel d q) = (s.seq (sel d q)).begun s.now w := by
  have hread : (beginState s d q e w).seq (sel d q) = (s.seq (sel d q)).begun s.now w := seq_setSeq_same _ _ _
  refine ⟨?_, hread⟩
  have hdom : (beginState s d q e w).domOn d (domSeq q) = s.domOn d (domSeq q) := by
    rw [beginState, csFetched_frame]
    rfl
  have hruns := (wordDue_facts (beginsWord_facts h).1).1
  rw [State.seqRuns, hread, hdom]
  exact hruns

/-- The action of a word on the state in which the word stands half done, with the checks that follow it (R146). -/
def State.actWord (s : State) (d q : Nat) (bad : MW → Bool) (f : State → Seq → State) (x : Seq) : Out :=
  let t := f (s.setSeq (sel d q) { x with phase := .counted, resumed := false }) x
  unlessError (bad x.mw) ((((t.actDone d q).lostWait d q).reportLate d q x.resumed).raiseHeld d q)

/-- What an action row answers for a word that is half done. -/
theorem actRow_half {s : State} {d q n : Nat} {e : MwEcc} {is bad : MW → Bool} {f : State → Seq → State}
    (hruns : s.seqRuns d q = true) (hphase : (s.seq (sel d q)).phase = .counted) (hn : (s.seq (sel d q)).mw.act = n)
    (his : is (s.seq (sel d q)).mw = true) : s.actRow d q n e is bad f = s.actWord d q bad f (s.seq (sel d q)) := by
  rw [State.actRow]
  exact (if_pos (by rw [hruns, hphase]; rfl)).trans (if_neg (by simp [hn, his]))

/-- What an action row answers for a word that is due and has no counter operation. -/
theorem actRow_due {s : State} {d q n : Nat} {e : MwEcc} {w : MW} {is bad : MW → Bool} {f : State → Seq → State}
    (h : beginsWord s d q e w = true) (hcnt : w.cntOp = 0) (hn : w.act = n) (his : is w = true) :
    s.actRow d q n e is bad f =
      (s.csFetched d q (s.seq (sel d q)).addr e).actWord d q bad f ((s.seq (sel d q)).fetched s.now w) := by
  obtain ⟨hdue, -⟩ := beginsWord_facts h
  obtain ⟨-, hready⟩ := wordDue_facts hdue
  have hact : ((s.seq (sel d q)).fetched s.now w).mw = w := rfl
  rw [State.actRow]
  refine (if_neg (by simp [hready])).trans ((if_pos hdue).trans ((beginWord_eq h _).trans ?_))
  exact (if_neg (not_not.2 hcnt)).trans (if_neg (by simp [hact, hn, his]))

/-- An action row runs a word from its beginning as it runs one that has begun, where its action reads nothing of the word's
progress (R146). -/
theorem actRow_begins {s : State} {d q n : Nat} {e : MwEcc} {w : MW} {is bad : MW → Bool} {f : State → Seq → State}
    (h : beginsWord s d q e w = true) (hcnt : w.cntOp = 0) (hf : ∀ t x p, f t { x with phase := p } = f t x)
    (hn : w.act = n) (his : is w = true) : s.actRow d q n e is bad f = (beginState s d q e w).actRow d q n e is bad f := by
  obtain ⟨hruns, hseq⟩ := beginState_half h
  have hact : ∀ t, f t ((s.seq (sel d q)).begun s.now w) = f t ((s.seq (sel d q)).fetched s.now w) := 
    fun t => hf t ((s.seq (sel d q)).fetched s.now w) .counted
  rw [actRow_due h hcnt hn his, actRow_half hruns (by rw [hseq]; rfl) (by rw [hseq]; exact hn) (by rw [hseq]; exact his), hseq,
    State.actWord, State.actWord, beginState, setSeq_setSeq, hact]
  rfl

/-- TRET of a word on the state in which the word stands half done, with the causes that it held (R171, R172). -/
def State.tretWord (s : State) (d q : Nat) (x : Seq) : Out :=
  let t := (s.setSeq (sel d q) { x with phase := .counted, resumed := false }).reportLate d q x.resumed
  unlessError (x.mw.op 67 0 != 0) ((List.range 8).reverse.foldl
    (fun v c => if (t.seq (sel d q)).raised.getLsbD c then v.raiseCause d q c else v)
    ((t.setSeq (sel d q) { t.seq (sel d q) with raised := 0 }).tret d q))

theorem exec_tret_half {s : State} {d q : Nat} {e : MwEcc} (hruns : s.seqRuns d q = true)
    (hphase : (s.seq (sel d q)).phase = .counted) (hn : (s.seq (sel d q)).mw.act = 0x0E) :
    exec (.tret d q e) s = s.tretWord d q (s.seq (sel d q)) := by
  show execTret d q e s = _
  rw [execTret]
  exact (if_pos (by rw [hruns, hphase]; rfl)).trans (if_neg (not_not.2 hn))

theorem exec_tret_due {s : State} {d q : Nat} {e : MwEcc} {w : MW} (h : beginsWord s d q e w = true) (hcnt : w.cntOp = 0)
    (hn : w.act = 0x0E) : exec (.tret d q e) s =
      (s.csFetched d q (s.seq (sel d q)).addr e).tretWord d q ((s.seq (sel d q)).fetched s.now w) := by
  obtain ⟨hdue, -⟩ := beginsWord_facts h
  obtain ⟨-, hready⟩ := wordDue_facts hdue
  show execTret d q e s = _
  rw [execTret]
  refine (if_neg (by simp [hready])).trans ((if_pos hdue).trans ((beginWord_eq h _).trans ?_))
  exact (if_neg (not_not.2 hcnt)).trans (if_neg (not_not.2 hn))

theorem exec_tret_begins {s : State} {d q : Nat} {e : MwEcc} {w : MW} (h : beginsWord s d q e w = true)
    (hcnt : w.cntOp = 0) (hn : w.act = 0x0E) : exec (.tret d q e) s = exec (.tret d q e) (beginState s d q e w) := by
  obtain ⟨hruns, hseq⟩ := beginState_half h
  rw [exec_tret_due h hcnt hn, exec_tret_half hruns (by rw [hseq]; rfl) (by rw [hseq]; exact hn), hseq, State.tretWord,
    State.tretWord, beginState, setSeq_setSeq]
  rfl

theorem acqRow_begins {s : State} {d q op : Nat} {e : MwEcc} {w : MW} (h : beginsWord s d q e w = true) (hcnt : w.cntOp = 0)
    (hn : w.act = 0x08) (hop : w.op 67 66 = op) : s.acqRow d q op e = (beginState s d q e w).acqRow d q op e := by
  rw [State.acqRow, State.acqRow]
  exact actRow_begins h hcnt (fun _ _ _ => rfl) hn (by simp [hop])

theorem biasRow_begins {s : State} {d q op : Nat} {e : MwEcc} {w : MW} (h : beginsWord s d q e w = true) (hcnt : w.cntOp = 0)
    (hn : w.act = 0x09) (hop : w.op 41 40 = op) : s.biasRow d q op e = (beginState s d q e w).biasRow d q op e := by
  rw [State.biasRow, State.biasRow]
  exact actRow_begins h hcnt (fun _ _ _ => rfl) hn (beq_iff_eq.2 hop)

theorem remoteRow_begins {s : State} {d q kind : Nat} {e : MwEcc} {w : MW} {bad : MW → Bool} {f : MW → GenOp}
    (h : beginsWord s d q e w = true) (hcnt : w.cntOp = 0) (hn : w.act = 0x0B) (hkind : w.op 64 63 = kind) :
    s.remoteRow d q kind e bad f = (beginState s d q e w).remoteRow d q kind e bad f := by
  rw [State.remoteRow, State.remoteRow]
  exact actRow_begins h hcnt (fun _ _ _ => rfl) hn (by simp [hkind])

/-- Beginning a word leaves the family member as it is, which EPOCH's operand is checked against (R54). -/
theorem execEpoch_begins {s : State} {d q : Nat} {e : MwEcc} {w : MW} (h : beginsWord s d q e w = true) (hcnt : w.cntOp = 0)
    (hn : w.act = 0x0D) : execEpoch d q e s = execEpoch d q e (beginState s d q e w) := by
  have hmember : (beginState s d q e w).member = s.member := by
    rw [beginState, csFetched_frame]
    rfl
  rw [execEpoch, execEpoch, hmember]
  exact actRow_begins h hcnt (fun _ _ _ => rfl) hn rfl

/-- Settles O14: a row that has fetched its word goes on as on the state in which the word has begun (R133, R146, R173), row by
row for the codes and forms of actions. -/
theorem wordsBeginWithTheirAction : Obligations.WordsBeginWithTheirAction := by
  unfold Obligations.WordsBeginWithTheirAction
  intro d q e w s h hcnt
  exact ⟨
    fun hn => show execSeqNop d q e s = execSeqNop d q e _ from actRow_begins h hcnt (fun _ _ _ => rfl) hn rfl,
    fun hn => show execPlay d q e s = execPlay d q e _ from actRow_begins h hcnt (fun _ _ _ => rfl) hn rfl,
    fun hn => show execFreq d q e s = execFreq d q e _ from actRow_begins h hcnt (fun _ _ _ => rfl) hn rfl,
    fun hn => show execPhase d q e s = execPhase d q e _ from actRow_begins h hcnt (fun _ _ _ => rfl) hn rfl,
    fun hn => show execMark d q e s = execMark d q e _ from actRow_begins h hcnt (fun _ _ _ => rfl) hn rfl,
    fun hn => show execEvent d q e s = execEvent d q e _ from actRow_begins h hcnt (fun _ _ _ => rfl) hn rfl,
    fun hn => show execSeqPost d q e s = execSeqPost d q e _ from actRow_begins h hcnt (fun _ _ _ => rfl) hn rfl,
    fun hn => show execRead d q e s = execRead d q e _ from actRow_begins h hcnt (fun _ _ _ => rfl) hn rfl,
    fun hn hf => show execAcqArm d q e s = execAcqArm d q e _ from acqRow_begins h hcnt hn hf,
    fun hn hf => show execAcqForce d q e s = execAcqForce d q e _ from acqRow_begins h hcnt hn hf,
    fun hn hf => show execAcqStop d q e s = execAcqStop d q e _ from acqRow_begins h hcnt hn hf,
    fun hn hf => show execBiasActEnqueue d q e s = execBiasActEnqueue d q e _ from biasRow_begins h hcnt hn hf,
    fun hn hf => show execBiasActStart d q e s = execBiasActStart d q e _ from biasRow_begins h hcnt hn hf,
    fun hn hf => show execBiasActStop d q e s = execBiasActStop d q e _ from biasRow_begins h hcnt hn hf,
    fun hn hf => show execBiasActFlush d q e s = execBiasActFlush d q e _ from biasRow_begins h hcnt hn hf,
    fun hn => show execMsg d q e s = execMsg d q e _ from actRow_begins h hcnt (fun _ _ _ => rfl) hn rfl,
    fun hn hf => show execRemotePlay d q e s = execRemotePlay d q e _ from remoteRow_begins h hcnt hn hf,
    fun hn hf => show execRemoteFreq d q e s = execRemoteFreq d q e _ from remoteRow_begins h hcnt hn hf,
    fun hn hf => show execRemotePhase d q e s = execRemotePhase d q e _ from remoteRow_begins h hcnt hn hf,
    fun hn => show execCntld d q e s = execCntld d q e _ from actRow_begins h hcnt (fun _ _ _ => rfl) hn rfl,
    fun hn => show execEpoch d q e s = execEpoch d q e _ from execEpoch_begins h hcnt hn,
    exec_tret_begins h hcnt⟩

end Sys2Proof.Machine
end

section
/-!
PROOFS. Actions that enter the stamped-action buffer (R135, R136, R155–R164).
-/

namespace Sys2Proof.Machine

/-- An action entered in the buffer between the beginning and the end of its word. -/
theorem actDone_stamp (s : State) (d q : Nat) (a : StampAct) :
    ((s.acting d q).stamp (sel d q) (s.seq (sel d q)) a).actDone d q = stampState s d q a := by
  simp only [State.stamp, State.acting, State.actDone, stampState, seq_setSeq_same, setSeq_setSeq]
  rfl

/-- A stamped action keeps what the checks after it read. -/
theorem stampState_keeps (s : State) (d q : Nat) (a : StampAct) : ActionKeeps s (stampState s d q a) := by
  refine ⟨rfl, rfl, rfl, rfl, rfl, fun _ => rfl, fun k => ?_⟩
  by_cases hk : k = sel d q
  · subst hk
    rw [stampState, seq_setSeq_same]
    exact ⟨rfl, rfl, rfl, rfl⟩
  · rw [stampState, seq_setSeq_other s _ hk]
    exact SameWord.refl _

/-- A row whose action is a stamped one completes with it in the buffer. -/
theorem stampRow_acts {s : State} {d q n : Nat} {e : MwEcc} {w : MW} {is bad : MW → Bool} {f : State → Seq → State}
    {a : StampAct} (hact : actsNow s d q w = true) (hn : w.act = n) (his : is w = true) (hbad : bad w = false)
    (hf : f (s.acting d q) (s.seq (sel d q)) = (s.acting d q).stamp (sel d q) (s.seq (sel d q)) a) :
    s.actRow d q n e is bad f = .next (stampState s d q a) := by
  rw [actRow_eq hact hn his hbad, hf, actDone_stamp, checks_pass hact (stampState_keeps s d q a)]

/-- An ACQ word of each operation (R159). -/
theorem acqRow_acts {s : State} {d q op : Nat} {e : MwEcc} {w : MW} (hact : actsNow s d q w = true) (hn : w.act = 0x08)
    (hop : w.op 67 66 = op) (hlive : op ≠ 3) (hbad : acqBad w = false) :
    s.acqRow d q op e = .next (stampState s d q (.acq op (w.op 65 64) (w.op 63 53) (w.op 52 42))) := by
  obtain rfl := actsNow_mw hact
  subst hop
  rw [State.acqRow]
  exact stampRow_acts hact hn (by simp) (by simp [hlive, hbad]) rfl

/-- A BIAS word of each operation (R160). -/
theorem biasRow_acts {s : State} {d q op : Nat} {e : MwEcc} {w : MW} (hact : actsNow s d q w = true) (hn : w.act = 0x09)
    (hop : w.op 41 40 = op) (hz : w.op 39 0 = 0) :
    s.biasRow d q op e = .next (stampState s d q (.bias (w.op 67 62) (BitVec.ofNat 20 (w.op 61 42)) op)) := by
  obtain rfl := actsNow_mw hact
  rw [State.biasRow]
  exact stampRow_acts hact hn (beq_iff_eq.2 hop) (bne_eq_false_iff_eq.2 hz) rfl

/-- Settles O16: each row's operand, as the entry it makes in the buffer. The order of entries of one cycle is the model's
choice (log 56). -/
theorem stampedActions : Obligations.StampedActions := by
  unfold Obligations.StampedActions
  refine ⟨fun d q e w s hact hn hz => ?mark, fun d q e w s hact hn hz => ?event, fun d q e w s hact hn hz => ?post,
    fun d q e w s hact hn hop hz => ?arm, fun d q e w s hact hn hop hz => ?force, fun d q e w s hact hn hop hz => ?stop,
    fun d q e w s hact hn hop hz => ?enqueue, fun d q e w s hact hn hop hz => ?biasStart,
    fun d q e w s hact hn hop hz => ?biasStop, fun d q e w s hact hn hop hz => ?flush, fun d q e w s hact hn hz => ?msg,
    fun d q e w s hact hn hz hlegal => ?epoch⟩
  case mark =>
    obtain rfl := actsNow_mw hact
    show execMark d q e s = _
    exact stampRow_acts hact hn rfl (bne_eq_false_iff_eq.2 hz) rfl
  case event =>
    obtain rfl := actsNow_mw hact
    show execEvent d q e s = _
    exact stampRow_acts hact hn rfl (bne_eq_false_iff_eq.2 hz) rfl
  case post =>
    obtain rfl := actsNow_mw hact
    show execSeqPost d q e s = _
    exact stampRow_acts hact hn rfl (bne_eq_false_iff_eq.2 hz) rfl
  case arm => exact show execAcqArm d q e s = _ from acqRow_acts hact hn hop (by decide) hz
  case force => exact show execAcqForce d q e s = _ from acqRow_acts hact hn hop (by decide) hz
  case stop => exact show execAcqStop d q e s = _ from acqRow_acts hact hn hop (by decide) hz
  case enqueue => exact show execBiasActEnqueue d q e s = _ from biasRow_acts hact hn hop hz
  case biasStart => exact show execBiasActStart d q e s = _ from biasRow_acts hact hn hop hz
  case biasStop => exact show execBiasActStop d q e s = _ from biasRow_acts hact hn hop hz
  case flush => exact show execBiasActFlush d q e s = _ from biasRow_acts hact hn hop hz
  case msg =>
    obtain rfl := actsNow_mw hact
    show execMsg d q e s = _
    exact stampRow_acts hact hn rfl (bne_eq_false_iff_eq.2 hz) rfl
  case epoch =>
    obtain rfl := actsNow_mw hact
    show execEpoch d q e s = _
    refine stampRow_acts hact hn rfl ?_ rfl
    simp [hz, hlegal]

end Sys2Proof.Machine
end

section
/-!
PROOFS. Return from a trap (R171): the word that resumes where the trap frame holds a TIME that no word has.
-/

namespace Sys2Proof.Machine

/-- TRET with its reserved operand bits 0 (R171). -/
def tretWord : MW := 0x0E#144 <<< 68

/-- Sequencer 0 of die 0 runs on a domain that is on, in a handler whose TRET has done its counter operation. The frame is of a
waiting word with WAIT 0 and a TIME of 2^24, one more than the field's 24 bits hold. -/
def overlongFrame : State := { State.reset with
  power := [(34, { st := .s0 })]
  seqs := [(0, { run := .running, phase := .counted, mw := tretWord, inHandler := true,
                 frame := { resumable := true, waiting := true, time := 2 ^ 24 } })] }

/-- The premises of a return to a waiting word are met. -/
theorem tret_due_overlongFrame : actsNow overlongFrame 0 0 tretWord = true ∧ tretWord.act = 0x0E ∧ tretWord.op 67 0 = 0 ∧
    (overlongFrame.seq (sel 0 0)).inHandler = true ∧ (overlongFrame.seq (sel 0 0)).frame.resumable = true ∧
    (overlongFrame.seq (sel 0 0)).frame.waiting = true ∧ (overlongFrame.seq (sel 0 0)).pend = 0 ∧
    (overlongFrame.seq (sel 0 0)).frame.wait = 0 := by decide +kernel

/-- The TIME carries into the place of WAIT. -/
theorem wait_tret_overlongFrame : (match exec (.tret 0 0 ⟨.clean, .clean⟩) overlongFrame with
    | .next t => (t.seq (sel 0 0)).mw.wait
    | _ => 0) = 1 := by decide +kernel

/-- Refutes O17, by its clause that the word to which TRET returns waits with the WAIT of its frame (R171): where the frame
holds a TIME beyond 24 bits, the word takes another WAIT. A frame that a trap saves holds the TIME of a word, which has 24 bits
(R131), but the statement does not ask for that. -/
theorem not_immediateActionsAndCounters : ¬ Obligations.ImmediateActionsAndCounters := by
  unfold Obligations.ImmediateActionsAndCounters
  rintro ⟨-, -, -, -, -, hreturn, -⟩
  obtain ⟨hact, hcode, hzero, hhandler, hresumable, hwaiting, hpend, hframe⟩ := tret_due_overlongFrame
  obtain ⟨t, hexec, -, -, -, -, -, hwait, -⟩ := hreturn 0 0 ⟨.clean, .clean⟩ tretWord overlongFrame hact hcode hzero hhandler
    hresumable hwaiting hpend
  have hone := wait_tret_overlongFrame
  rw [hexec] at hone
  rw [hframe] at hwait
  exact absurd (hone.symm.trans hwait) (by decide)

end Sys2Proof.Machine
end

section
/-!
PROOFS. What the sequencer rows share: counters that the host wrote (R178), producers raised, halting (R165), and the freshness
captures of a sample (R150).
-/

namespace Sys2Proof.Machine

/-! Counters that the host wrote (R178). -/

/-- The objects once a counter that the host wrote has taken its value: the counter's number and the value. -/
def counterTaken (k : Nat) (regs : Tab (Tab Word)) (p : Nat × Nat) : Tab (Tab Word) :=
  put [] regs (Obj.SEQ_COUNTER_0 + p.1)
    (put (objDefault (Obj.SEQ_COUNTER_0 + p.1) k) (look [] regs (Obj.SEQ_COUNTER_0 + p.1)) k (word p.2))

theorem foldl_wrN_counters (k : Nat) (ps : List (Nat × Nat)) (s : State) :
    ps.foldl (fun t p => t.wrN (Obj.SEQ_COUNTER_0 + p.1) k p.2) s = { s with regs := ps.foldl (counterTaken k) s.regs } := by
  induction ps generalizing s with
  | nil => rfl
  | cons p ps ih => exact ih _

/-- What settling writes, where the sequencer is then replaced. -/
theorem settle_setSeq (s : State) (k : Nat) (x : Seq) : (s.settle k).setSeq k x =
    { s.setSeq k x with regs := (s.seq k).cntWrites.foldl (counterTaken k) s.regs } := by
  rw [State.settle]
  split_ifs with h
  · rw [List.isEmpty_iff.1 h]
    rfl
  · rw [foldl_wrN_counters]
    exact congrArg (fun t : State => { t with regs := (s.seq k).cntWrites.foldl (counterTaken k) s.regs })
      (setSeq_setSeq s k { s.seq k with cntWrites := [] } x)

/-- Settling changes the objects and the sequencer only. -/
theorem settle_frame (s : State) (k : Nat) : s.settle k =
    { s with seqs := (s.settle k).seqs, regs := (s.seq k).cntWrites.foldl (counterTaken k) s.regs } := by
  rw [State.settle]
  split_ifs with h
  · rw [List.isEmpty_iff.1 h]
    rfl
  · rw [foldl_wrN_counters]
    rfl

theorem seq_settle_same (s : State) (k : Nat) : (s.settle k).seq k = { s.seq k with cntWrites := [] } := by
  rw [State.settle]
  split_ifs with h
  · rw [← List.isEmpty_iff.1 h]
  · rw [foldl_wrN_counters]
    exact seq_setSeq_same s k _

theorem seq_settle_other (s : State) {k j : Nat} (h : j ≠ k) : (s.settle k).seq j = s.seq j := by
  rw [State.settle]
  split_ifs
  · rfl
  · rw [foldl_wrN_counters]
    exact seq_setSeq_other s _ h

theorem rd_counterTaken (s : State) (k n : Nat) (p : Nat × Nat) :
    ({ s with regs := counterTaken k s.regs p } : State).rd (Obj.SEQ_COUNTER_0 + n) k =
      if p.1 == n then word p.2 else s.rd (Obj.SEQ_COUNTER_0 + n) k := by
  show (s.wrN (Obj.SEQ_COUNTER_0 + p.1) k p.2).rd (Obj.SEQ_COUNTER_0 + n) k = _
  split_ifs with h
  · rw [← beq_iff_eq.1 h]
    exact rd_wr_same s _ _ _
  · exact rd_wr_other s _ fun h' => h (beq_iff_eq.2 (Nat.add_left_cancel h'.1).symm)

/-- Of several values written to one counter the last stands. -/
theorem rd_foldl_counterTaken (s : State) (k n : Nat) (ps : List (Nat × Nat)) :
    ({ s with regs := ps.foldl (counterTaken k) s.regs } : State).rd (Obj.SEQ_COUNTER_0 + n) k =
      ((ps.reverse.find? (fun p : Nat × Nat => p.1 == n)).map (fun p : Nat × Nat => word p.2)).getD
        (s.rd (Obj.SEQ_COUNTER_0 + n) k) := by
  induction ps using List.reverseRecOn with
  | nil => rfl
  | append_singleton ps p ih =>
    rw [List.foldl_append, List.reverse_append, List.reverse_singleton, List.singleton_append, List.find?_cons]
    refine (rd_counterTaken { s with regs := ps.foldl (counterTaken k) s.regs } k n p).trans ?_
    cases h : p.1 == n
    · exact ih
    · rfl

theorem rd_settle_counter (s : State) (k n : Nat) : (s.settle k).rd (Obj.SEQ_COUNTER_0 + n) k =
    (((s.seq k).cntWrites.reverse.find? (fun p : Nat × Nat => p.1 == n)).map (fun p : Nat × Nat => word p.2)).getD
      (s.rd (Obj.SEQ_COUNTER_0 + n) k) := by
  rw [settle_frame]
  exact rd_foldl_counterTaken s k n _

/-! Producers raised. -/

/-- An event on a channel reads no sequencer. -/
theorem addEvent_seqs (s : State) (sq : Tab Seq) (d c : Nat) (m : BitVec 5) :
    ({ s with seqs := sq } : State).addEvent d c m = { s.addEvent d c m with seqs := sq } := by
  have hchan : ({ s with seqs := sq } : State).chan = s.chan := rfl
  have hcyc : ({ s with seqs := sq } : State).cyc = s.cyc := rfl
  cases h : takeFirst (fun e => e.raised == s.cyc) (s.chan (sel d c)).events with
  | none =>
    simp only [State.addEvent, hchan, hcyc, h]
    rfl
  | some p =>
    simp only [State.addEvent, State.chanBit, hchan, hcyc, h]
    split_ifs <;> rfl

theorem offer_seqs (sq : Tab Seq) (d p : Nat) (cs : List Nat) (s : State) :
    ({ s with seqs := sq } : State).offer d p cs = { s.offer d p cs with seqs := sq } := by
  induction cs generalizing s with
  | nil => rfl
  | cons c cs ih =>
    have hseen : ({ s with seqs := sq } : State).rdSeen = s.rdSeen := rfl
    simp only [State.offer, hseen]
    split_ifs
    · exact ih s
    · rw [addEvent_seqs]
      exact ih (s.addEvent d c _)

/-- A producer's event reads no sequencer. -/
theorem raise_seqs (s : State) (sq : Tab Seq) (d p : Nat) :
    ({ s with seqs := sq } : State).raise d p = { s.raise d p with seqs := sq } := by
  have hruns : ({ s with seqs := sq } : State).dieRuns d = s.dieRuns d := rfl
  have hchans : ({ s with seqs := sq } : State).setChannels d = s.setChannels d := rfl
  by_cases hon : s.dieRuns d = true
  · by_cases hsig : 112 ≤ p ∧ p < 160 ∧ (p - 112) % 6 < 4
    · simp only [State.raise, hruns, hchans, offer_seqs, hon, hsig, and_self, if_true, addEvent_seqs]
    · simp only [State.raise, hruns, hchans, offer_seqs, hon, hsig, if_true, if_false]
  · simp only [State.raise, hruns, hon, Bool.false_eq_true, if_false]

/-! Halting (R165). -/

/-- The sequencer once it has halted (R165). -/
def Seq.stopped (x : Seq) : Seq :=
  { x with run := .halted, phase := .ready, pend := 0, raised := 0, inHandler := false, skipBreak := false, resumed := false,
           faultAt := [], cntWrites := [] }

theorem haltSeq_eq (s : State) (d q : Nat) :
    s.haltSeq d q = ((s.settle (sel d q)).setSeq (sel d q) (s.seq (sel d q)).stopped).raise d (7 * q + 5) := by
  simp only [State.haltSeq, seq_settle_same]
  rfl

/-- A sequencer that halts: what becomes of it, and what its producer raises. -/
theorem haltSeq_halts (s : State) (d q : Nat) :
    (s.haltSeq d q).seq (sel d q) = (s.seq (sel d q)).stopped ∧
    (∀ k : Nat, k ≠ sel d q → (s.haltSeq d q).seq k = s.seq k) ∧
    s.haltSeq d q = { (s.settle (sel d q)).raise d (7 * q + 5) with seqs := (s.haltSeq d q).seqs } := by
  have hseq : ∀ k, (s.haltSeq d q).seq k = ((s.settle (sel d q)).setSeq (sel d q) (s.seq (sel d q)).stopped).seq k := by
    intro k
    rw [haltSeq_eq, raise_frame]
    rfl
  refine ⟨(hseq _).trans (seq_setSeq_same _ _ _), fun k hk => ?_, ?_⟩
  · rw [hseq, seq_setSeq_other _ _ hk, seq_settle_other s hk]
  · rw [haltSeq_eq, State.setSeq, raise_seqs]

/-! Freshness captures (R150). -/

/-- From `s` to `t` only the counts that sequencer `k`'s freshness entries captured have changed. -/
structure FreshOnly (s t : State) (k : Nat) : Prop where
  own : t.seq k = { s.seq k with fresh := (t.seq k).fresh }
  others : ∀ j : Nat, j ≠ k → t.seq j = s.seq j
  frame : t = { s with seqs := t.seqs }

theorem FreshOnly.refl (s : State) (k : Nat) : FreshOnly s s k := ⟨rfl, fun _ _ => rfl, rfl⟩

theorem FreshOnly.trans {s t u : State} {k : Nat} (h : FreshOnly s t k) (h' : FreshOnly t u k) : FreshOnly s u k where
  own := by rw [h'.own, h.own]
  others j hj := (h'.others j hj).trans (h.others j hj)
  frame := by rw [h'.frame, h.frame]

theorem freshOnly_recapture (s : State) (d q i : Nat) : FreshOnly s (s.recapture d q i) (sel d q) := by
  simp only [State.recapture]
  split_ifs
  · refine ⟨?_, fun j hj => seq_setSeq_other s _ hj, rfl⟩
    rw [seq_setSeq_same]
    rfl
  · exact FreshOnly.refl s _

theorem freshOnly_recaptures (d q : Nat) (is : List Nat) (s : State) :
    FreshOnly s (is.foldl (fun t i => t.recapture d q i) s) (sel d q) :=
  List.foldlRecOn (motive := fun t => FreshOnly s t (sel d q)) is _ (FreshOnly.refl s _) fun t ht i _ =>
    ht.trans (freshOnly_recapture t d q i)

/-! Samples (R138). -/

/-- The sampled table index (R143). -/
def State.sampledIndex (s : State) (d q : Nat) : Nat :=
  (s.mapEntries (sel d q)).foldl (fun (n : Nat) (p : Nat × Nat) => if s.condValue d q p.2 then n + 2 ^ p.1 else n) 0

/-- What a sample leaves: COND and the index as sampled now, and of the rest only captures and what is to be consumed. -/
theorem sample_reads (s : State) (d q : Nat) (w : MW) (timedOut : Bool) :
    (s.sample d q w timedOut).seq (sel d q) = { s.seq (sel d q) with
      cond := !timedOut && s.condValue d q w.cond, index := s.sampledIndex d q, sampleCyc := s.now, phase := .sampled,
      eaten := ((s.sample d q w timedOut).seq (sel d q)).eaten,
      fresh := ((s.sample d q w timedOut).seq (sel d q)).fresh } ∧
    (∀ k : Nat, k ≠ sel d q → (s.sample d q w timedOut).seq k = s.seq k) ∧
    s.sample d q w timedOut = { s with seqs := (s.sample d q w timedOut).seqs } := by
  have hfresh := freshOnly_recaptures d q ((s.sampled (sel d q) w).filter (s.condSource d q)) s
  simp only [State.sample]
  refine ⟨?_, fun k hk => (seq_setSeq_other _ _ hk).trans (hfresh.others k hk), ?_⟩
  · rw [seq_setSeq_same]
    conv_lhs => rw [hfresh.own]
    rfl
  · conv_lhs => rw [hfresh.frame]
    rfl

end Sys2Proof.Machine
end

section
/-!
PROOFS. Branches (R137–R144, R178).
-/

namespace Sys2Proof.Machine

/-- The sequencer at its next word, of a given T and ready in a given cycle (R141). -/
def Seq.goneOn (x : Seq) (addr : Nat) (t : Time) (ready : Nat) : Seq :=
  { x with phase := .ready, addr := addr, t := t, ready := ready, cntWrites := [] }

theorem goneOn_atNext (x : Seq) (addr : Nat) : x.goneOn addr (if 2 ≤ x.mw.wait then x.succT else x.plainT)
    (if 2 ≤ x.mw.wait then x.sampleCyc + 4 else x.exec + 1) = x.atNext addr := rfl

/-- The successor is chosen where no cause waits for the branch. -/
theorem goOn_eq {s : State} {d q : Nat} (addr : Nat) (t : Time) (ready : Nat) (h : (s.seq (sel d q)).raised = 0) :
    s.goOn d q addr t ready =
      (s.settle (sel d q)).setSeq (sel d q) ((s.seq (sel d q)).goneOn addr t ready) := by
  rw [State.goOn, seq_settle_same, State.raiseHeld, seq_setSeq_same]
  exact if_pos h

/-- Of two replacements of a sequencer the second stands, whatever is settled between them. -/
theorem setSeq_settle_setSeq (s : State) (k : Nat) (x y : Seq) (h : x.cntWrites = (s.seq k).cntWrites) :
    ((s.setSeq k x).settle k).setSeq k y = (s.settle k).setSeq k y := by
  rw [settle_setSeq, settle_setSeq, seq_setSeq_same, h, setSeq_setSeq]
  rfl

/-- What it is for a branch to resolve now. -/
theorem branchesNow_facts {s : State} {d q n : Nat} (h : branchesNow s d q n = true) :
    s.seqRuns d q = true ∧ (s.seq (sel d q)).mw.br = n ∧ (s.seq (sel d q)).raised = 0 ∧
    (2 ≤ (s.seq (sel d q)).mw.wait → (s.seq (sel d q)).phase = .sampled) ∧
    ((s.seq (sel d q)).mw.wait < 2 → (s.seq (sel d q)).phase = .acted ∧ (s.seq (sel d q)).exec ≤ s.now ∧
      (n = 0 ∨ 4 ≤ n ∨ (s.seq (sel d q)).sampleAt ≤ s.now ∧ s.sampleBad (sel d q) (s.seq (sel d q)).mw = false)) := by
  simp only [branchesNow, Bool.and_eq_true, beq_iff_eq] at h
  obtain ⟨⟨⟨hruns, hbr⟩, hraised⟩, hwhen⟩ := h
  refine ⟨hruns, hbr, hraised, fun hw => ?_, fun hw => ?_⟩
  · rw [if_pos hw] at hwhen
    exact beq_iff_eq.1 hwhen
  · rw [if_neg (Nat.not_le.2 hw)] at hwhen
    simpa [and_assoc, or_assoc] using hwhen

/-- A branch row after a condition wait, or of a branch that takes no sample. -/
theorem brRow_taken {s : State} {d q n : Nat} {f : State → Seq → Nat × State} (h : branchesNow s d q n = true)
    (hn : 2 ≤ (s.seq (sel d q)).mw.wait ∨ ¬(n = 1 ∨ n = 2 ∨ n = 3)) :
    s.brRow d q n f = .next ((f s (s.seq (sel d q))).2.goOn d q (f s (s.seq (sel d q))).1
      (if 2 ≤ (s.seq (sel d q)).mw.wait then (s.seq (sel d q)).succT else (s.seq (sel d q)).plainT)
      (if 2 ≤ (s.seq (sel d q)).mw.wait then (s.seq (sel d q)).sampleCyc + 4 else (s.seq (sel d q)).exec + 1)) := by
  obtain ⟨hruns, hbr, -, hwaited, hplain⟩ := branchesNow_facts h
  by_cases hw : 2 ≤ (s.seq (sel d q)).mw.wait
  · simp [State.brRow, hruns, hbr, hw, hwaited hw]
  · obtain ⟨hphase, hexec, -⟩ := hplain (Nat.lt_of_not_le hw)
    simp [State.brRow, hruns, hbr, hw, hphase, Nat.not_lt.2 hexec, hn.resolve_left hw]

/-- A branch row that takes its sample in this cycle (R138). -/
theorem brRow_samples {s : State} {d q n : Nat} {f : State → Seq → Nat × State} (h : branchesNow s d q n = true)
    (hw : (s.seq (sel d q)).mw.wait < 2) (hn : n = 1 ∨ n = 2 ∨ n = 3) :
    s.brRow d q n f =
      .next ((f (s.sample d q (s.seq (sel d q)).mw false) ((s.sample d q (s.seq (sel d q)).mw false).seq (sel d q))).2.goOn d q
        (f (s.sample d q (s.seq (sel d q)).mw false) ((s.sample d q (s.seq (sel d q)).mw false).seq (sel d q))).1
        (s.seq (sel d q)).plainT (((s.sample d q (s.seq (sel d q)).mw false).seq (sel d q)).sampleCyc + 4)) := by
  obtain ⟨hruns, hbr, -, -, hplain⟩ := branchesNow_facts h
  obtain ⟨hphase, hexec, hsample⟩ := hplain hw
  have hlegal : (s.seq (sel d q)).sampleAt ≤ s.now ∧ s.sampleBad (sel d q) (s.seq (sel d q)).mw = false := by
    rcases hsample with h0 | h4 | hlegal
    · omega
    · omega
    · exact hlegal
  simp [State.brRow, hruns, hbr, Nat.not_le.2 hw, hphase, Nat.not_lt.2 hexec, hn, Nat.not_lt.2 hlegal.1, hlegal.2]

/-- A taken branch that changes objects only. -/
theorem brRow_writes {s u : State} {d q n addr : Nat} {f : State → Seq → Nat × State} (h : branchesNow s d q n = true)
    (hn : 2 ≤ (s.seq (sel d q)).mw.wait ∨ ¬(n = 1 ∨ n = 2 ∨ n = 3)) (hf : f s (s.seq (sel d q)) = (addr, u))
    (hu : u.seqs = s.seqs) :
    s.brRow d q n f = .next ((u.settle (sel d q)).setSeq (sel d q) ((s.seq (sel d q)).atNext addr)) := by
  obtain ⟨-, -, hraised, -⟩ := branchesNow_facts h
  have hseq : u.seq (sel d q) = s.seq (sel d q) := by rw [State.seq, hu, State.seq]
  rw [brRow_taken h hn, hf, goOn_eq _ _ _ (by rw [hseq]; exact hraised), hseq, goneOn_atNext]

/-- A taken branch that leaves the state as it is. -/
theorem brRow_goes {s : State} {d q n addr : Nat} {f : State → Seq → Nat × State} (h : branchesNow s d q n = true)
    (hn : 2 ≤ (s.seq (sel d q)).mw.wait ∨ ¬(n = 1 ∨ n = 2 ∨ n = 3)) (hf : f s (s.seq (sel d q)) = (addr, s)) :
    s.brRow d q n f = .next ((s.settle (sel d q)).setSeq (sel d q) ((s.seq (sel d q)).atNext addr)) :=
  brRow_writes h hn hf rfl

/-- A taken branch that changes the objects of the state `u`, and of its sequencer what a successor keeps. -/
theorem brRow_changes {s u : State} {d q n addr : Nat} {y : Seq} {f : State → Seq → Nat × State}
    (h : branchesNow s d q n = true) (hn : ¬(n = 1 ∨ n = 2 ∨ n = 3)) (hf : f s (s.seq (sel d q)) = (addr, u.setSeq (sel d q) y))
    (hu : u.seqs = s.seqs) (hraised : y.raised = 0) (hcnt : y.cntWrites = (s.seq (sel d q)).cntWrites) :
    s.brRow d q n f = .next ((u.settle (sel d q)).setSeq (sel d q) (y.goneOn addr
      (if 2 ≤ (s.seq (sel d q)).mw.wait then (s.seq (sel d q)).succT else (s.seq (sel d q)).plainT)
      (if 2 ≤ (s.seq (sel d q)).mw.wait then (s.seq (sel d q)).sampleCyc + 4 else (s.seq (sel d q)).exec + 1))) := by
  have hseq : u.seq (sel d q) = s.seq (sel d q) := by rw [State.seq, hu, State.seq]
  rw [brRow_taken h (.inr hn), hf, goOn_eq _ _ _ (by rw [seq_setSeq_same]; exact hraised), seq_setSeq_same,
    setSeq_settle_setSeq _ _ _ _ (by rw [hcnt, hseq])]

/-- The sequencer has gone on to address `addr` after a sample of this cycle, and of the rest only the counters that the host
wrote have changed (R138, R141). -/
def SampledOn (s t : State) (d q addr : Nat) : Prop :=
  (t.seq (sel d q)).addr = addr ∧ (t.seq (sel d q)).t = (s.seq (sel d q)).plainT ∧
  (t.seq (sel d q)).ready = s.now + 4 ∧ (t.seq (sel d q)).phase = WordPhase.ready ∧
  (∀ k : Nat, k ≠ sel d q → t.seq k = s.seq k) ∧ t = { s.settle (sel d q) with seqs := t.seqs }

/-- A branch that samples in this cycle chooses by what it sampled. -/
theorem brRow_sampled {s : State} {d q n addr : Nat} {f : State → Seq → Nat × State} (h : branchesNow s d q n = true)
    (hw : (s.seq (sel d q)).mw.wait < 2) (hn : n = 1 ∨ n = 2 ∨ n = 3)
    (hf : ∀ (u : State) (y : Seq), u = { s with seqs := u.seqs } → y.mw = (s.seq (sel d q)).mw →
      y.cond = s.condValue d q (s.seq (sel d q)).mw.cond → y.index = s.sampledIndex d q → y.sampleCyc = s.now →
      f u y = (addr, u)) :
    ∃ t, s.brRow d q n f = .next t ∧ SampledOn s t d q addr := by
  obtain ⟨-, -, hraised, -⟩ := branchesNow_facts h
  obtain ⟨hown, hothers, hframe⟩ := sample_reads s d q (s.seq (sel d q)).mw false
  rw [brRow_samples h hw hn]
  generalize s.sample d q (s.seq (sel d q)).mw false = u at *
  have hchoice : f u (u.seq (sel d q)) = (addr, u) :=
    hf u _ hframe (by rw [hown]) (by rw [hown]; rfl) (by rw [hown]) (by rw [hown])
  have hsettled : (u.settle (sel d q)) = { s.settle (sel d q) with seqs := (u.settle (sel d q)).seqs } := by
    have hcnt : (u.seq (sel d q)).cntWrites = (s.seq (sel d q)).cntWrites := by rw [hown]
    rw [settle_frame s, settle_frame u, hcnt]
    generalize (u.settle (sel d q)).seqs = sq
    rw [hframe]
  rw [hchoice]
  refine ⟨_, rfl, ?_⟩
  rw [goOn_eq _ _ _ (by rw [hown]; exact hraised), hown]
  refine ⟨?_, ?_, ?_, ?_, fun k hk => ?_, ?_⟩
  · rw [seq_setSeq_same]; rfl
  · rw [seq_setSeq_same]; rfl
  · rw [seq_setSeq_same]; rfl
  · rw [seq_setSeq_same]; rfl
  · rw [seq_setSeq_other _ _ hk, seq_settle_other u hk, hothers k hk]
  · rw [State.setSeq, hsettled]

/-! The rows (R142–R144). -/

theorem exec_brCall {d q : Nat} {s : State} (h : branchesNow s d q 4 = true) (hroom : (s.seq (sel d q)).sp < 8) :
    exec (.brCall d q) s = .next ((s.settle (sel d q)).setSeq (sel d q)
      { (s.seq (sel d q)).atNext (s.seq (sel d q)).mw.alt with
        cells := (s.seq (sel d q)).cells8.set (s.seq (sel d q)).sp (s.seq (sel d q)).mw.next,
        sp := (s.seq (sel d q)).sp + 1 }) := by
  obtain ⟨-, -, hraised, -⟩ := branchesNow_facts h
  show execBrCall d q s = _
  rw [execBrCall]
  refine brRow_changes (u := s) (y := { s.seq (sel d q) with
    cells := (s.seq (sel d q)).cells8.set (s.seq (sel d q)).sp (s.seq (sel d q)).mw.next,
    sp := (s.seq (sel d q)).sp + 1 }) h (by decide) ?_ rfl hraised rfl
  exact if_neg (Nat.not_le.2 hroom)

/-- A call on a full return stack loses its oldest entry (R144). -/
theorem exec_brCall_full {d q : Nat} {s : State} (h : branchesNow s d q 4 = true) (hfull : 8 ≤ (s.seq (sel d q)).sp) :
    exec (.brCall d q) s = .next (((s.setBit Obj.SEQ_STATUS (sel d q) 13).settle (sel d q)).setSeq (sel d q)
      { (s.seq (sel d q)).atNext (s.seq (sel d q)).mw.alt with
        cells := (s.seq (sel d q)).cells8.drop 1 ++ [(s.seq (sel d q)).mw.next] }) := by
  obtain ⟨-, -, hraised, -⟩ := branchesNow_facts h
  show execBrCall d q s = _
  rw [execBrCall]
  refine brRow_changes (u := s.setBit Obj.SEQ_STATUS (sel d q) 13) (y := { s.seq (sel d q) with
    cells := (s.seq (sel d q)).cells8.drop 1 ++ [(s.seq (sel d q)).mw.next] }) h (by decide) ?_ rfl hraised rfl
  exact if_pos hfull

theorem exec_brReturn {d q : Nat} {s : State} (h : branchesNow s d q 5 = true) (hsome : 0 < (s.seq (sel d q)).sp) :
    exec (.brReturn d q) s = .next ((s.settle (sel d q)).setSeq (sel d q)
      { (s.seq (sel d q)).atNext ((s.seq (sel d q)).cells8.getD ((s.seq (sel d q)).sp - 1) 0) with
        sp := (s.seq (sel d q)).sp - 1 }) := by
  obtain ⟨-, -, hraised, -⟩ := branchesNow_facts h
  show execBrReturn d q s = _
  rw [execBrReturn]
  refine brRow_changes (u := s) (y := { s.seq (sel d q) with sp := (s.seq (sel d q)).sp - 1 }) h (by decide) ?_ rfl
    hraised rfl
  exact if_neg (Nat.ne_of_gt hsome)

/-- A return on an empty stack goes to NEXT (R144). -/
theorem exec_brReturn_empty {d q : Nat} {s : State} (h : branchesNow s d q 5 = true) (hempty : (s.seq (sel d q)).sp = 0) :
    exec (.brReturn d q) s = .next (((s.setBit Obj.SEQ_STATUS (sel d q) 14).settle (sel d q)).setSeq (sel d q)
      ((s.seq (sel d q)).atNext (s.seq (sel d q)).mw.next)) := by
  show execBrReturn d q s = _
  rw [execBrReturn]
  exact brRow_writes h (.inr (by decide)) (if_pos hempty) rfl

theorem exec_brLoop_done {d q : Nat} {s : State} (h : branchesNow s d q 6 = true)
    (hzero : s.counter (sel d q) (s.seq (sel d q)).latch = 0) :
    exec (.brLoop d q) s = .next ((s.settle (sel d q)).setSeq (sel d q)
      ((s.seq (sel d q)).atNext (s.seq (sel d q)).mw.next)) := by
  show execBrLoop d q s = _
  rw [execBrLoop]
  exact brRow_goes h (.inr (by decide)) (if_pos hzero)

theorem exec_brLoop_again {d q : Nat} {s : State} (h : branchesNow s d q 6 = true)
    (hmore : 0 < s.counter (sel d q) (s.seq (sel d q)).latch) :
    exec (.brLoop d q) s = .next (((s.wrN (Obj.SEQ_COUNTER_0 + (s.seq (sel d q)).latch) (sel d q)
      (s.counter (sel d q) (s.seq (sel d q)).latch - 1)).settle (sel d q)).setSeq (sel d q)
      ((s.seq (sel d q)).atNext (s.seq (sel d q)).mw.alt)) := by
  have hfits : s.counter (sel d q) (s.seq (sel d q)).latch < 16777216 := Nat.mod_lt _ (by decide)
  show execBrLoop d q s = _
  rw [execBrLoop]
  refine brRow_writes h (.inr (by decide)) ((if_neg (Nat.ne_of_gt hmore)).trans ?_) rfl
  rw [State.setCounter, Nat.mod_eq_of_lt (by omega)]

/-- A table branch that samples in this cycle reads the entry of the index that it sampled (R143). -/
theorem exec_brTable_sampled {d q : Nat} {s : State} (h : branchesNow s d q 3 = true) (hw : (s.seq (sel d q)).mw.wait < 2) :
    ∃ t, exec (.brTable d q) s = .next t ∧ SampledOn s t d q (s.tableEntry (sel d q) (s.sampledIndex d q) 0) := by
  show ∃ t, execBrTable d q s = .next t ∧ _
  rw [execBrTable]
  refine brRow_sampled h hw (.inr (.inr rfl)) fun u y hu _ _ hindex hcyc => ?_
  have hentry : u.tableEntry = s.tableEntry := by rw [hu]; rfl
  have hnow : u.now = s.now := by rw [hu]; rfl
  rw [hentry, hnow, hindex, hcyc, Nat.sub_self]

theorem exec_brHalt {d q : Nat} {s : State} (hruns : s.seqRuns d q = true) (hphase : (s.seq (sel d q)).phase = .acted)
    (hbr : (s.seq (sel d q)).mw.br = 7) (hexec : (s.seq (sel d q)).exec ≤ s.now) :
    exec (.brHalt d q) s = .next (s.haltSeq d q) := by
  show execBrHalt d q s = _
  simp [execBrHalt, hruns, hphase, hbr, hexec]

/-- Settles O18: each row's successor, by whether the word waited, samples now or takes no sample (R137, R138); BR HALT halts
(R165); and what settling leaves of the counters (R178). -/
theorem branches : Obligations.Branches := by
  unfold Obligations.Branches
  refine ⟨fun d q s h => ?next, fun d q s h hw => ?condalt, fun d q s h hw => ?condaltNow, fun d q s h hw => ?condnext,
    fun d q s h hw => ?condnextNow, fun d q s h hw => ?table, fun d q s h hw => exec_brTable_sampled h hw,
    fun d q s => exec_brCall, fun d q s => exec_brCall_full, fun d q s => exec_brReturn, fun d q s => exec_brReturn_empty,
    fun d q s => exec_brLoop_done, fun d q s => exec_brLoop_again, fun d q s hruns hphase hbr hexec => ?halt,
    fun k s => ⟨seq_settle_same s k, rd_settle_counter s k⟩⟩
  case next =>
    show execBrNext d q s = _
    exact brRow_goes h (.inr (by decide)) rfl
  case condalt =>
    show execBrCondalt d q s = _
    exact brRow_goes h (.inl hw) rfl
  case condaltNow =>
    show ∃ t, execBrCondalt d q s = .next t ∧ SampledOn s t d q _
    refine brRow_sampled h hw (.inl rfl) fun u y _ hmw hcond _ _ => ?_
    rw [hmw, hcond]
  case condnext =>
    show execBrCondnext d q s = _
    exact brRow_goes h (.inl hw) rfl
  case condnextNow =>
    show ∃ t, execBrCondnext d q s = .next t ∧ SampledOn s t d q _
    refine brRow_sampled h hw (.inr (.inl rfl)) fun u y _ hmw hcond _ _ => ?_
    rw [hmw, hcond]
  case table =>
    show execBrTable d q s = _
    exact brRow_goes h (.inl hw) rfl
  case halt => exact ⟨_, exec_brHalt hruns hphase hbr hexec, haltSeq_halts s d q⟩

end Sys2Proof.Machine
end

section
/-!
PROOFS. The ends of condition waits (R137, R138), and the delivery of stamped actions (R135, R136, R155–R164).
-/

namespace Sys2Proof.Machine

/-! Waits. -/

/-- The wait of sequencer `q` of die `d` has ended in this cycle, with T for the successor, and nothing else has changed. -/
structure WaitEnded (s t : State) (d q : Nat) (timedOut : Bool) (succT : Nat) : Prop where
  cond : (t.seq (sel d q)).cond = (!timedOut && s.condValue d q (s.seq (sel d q)).mw.cond)
  phase : (t.seq (sel d q)).phase = .sampled
  sampleCyc : (t.seq (sel d q)).sampleCyc = s.now
  timedOut : (s.seq (sel d q)).mw.wait = 3 → (t.seq (sel d q)).timedOut = timedOut
  succT : (t.seq (sel d q)).succT = BitVec.ofNat 64 succT
  others : ∀ k : Nat, k ≠ sel d q → t.seq k = s.seq k
  frame : t = { s with seqs := t.seqs }

theorem endWait_ends {s : State} {d q : Nat} (timedOut : Bool) (succT : Nat)
    (hlegal : s.sampleBad (sel d q) (s.seq (sel d q)).mw = false) :
    ∃ t, s.endWait d q timedOut succT = .next t ∧ WaitEnded s t d q timedOut succT := by
  obtain ⟨hown, hothers, hframe⟩ := sample_reads s d q (s.seq (sel d q)).mw timedOut
  simp only [State.endWait, unlessError, hlegal, Bool.false_eq_true, if_false]
  generalize s.sample d q (s.seq (sel d q)).mw timedOut = u at *
  refine ⟨_, rfl, ?_, ?_, ?_, fun hw => ?_, ?_, fun k hk => ?_, ?_⟩
  · rw [seq_setSeq_same, hown]
  · rw [seq_setSeq_same, hown]
  · rw [seq_setSeq_same, hown]
  · rw [seq_setSeq_same]
    exact if_pos hw
  · rw [seq_setSeq_same]
  · rw [seq_setSeq_other _ _ hk, hothers k hk]
  · conv_lhs => rw [State.setSeq, hframe]
    rfl

/-- A WAIT 10 word that finds its condition true (R137). -/
theorem exec_seqConditionMet_open {s : State} {d q : Nat} (hin : s.inWait d q = true)
    (hcond : s.condValue d q (s.seq (sel d q)).mw.cond = true) (hw : (s.seq (sel d q)).mw.wait = 2) :
    exec (.seqConditionMet d q) s =
      s.endWait d q false (max (s.seq (sel d q)).t.toNat (s.now + 38) + (s.seq (sel d q)).mw.time) := by
  show execSeqConditionMet d q s = _
  simp [execSeqConditionMet, hin, hcond, hw]

/-- A WAIT 11 word that finds its condition true at or before D − 38, or at a late word's single sample (R137). -/
theorem exec_seqConditionMet_limited {s : State} {d q : Nat} (hin : s.inWait d q = true)
    (hcond : s.condValue d q (s.seq (sel d q)).mw.cond = true) (hw : (s.seq (sel d q)).mw.wait = 3)
    (hwhen : s.now ≤ (s.seq (sel d q)).deadline - 38 ∨ s.now = (s.seq (sel d q)).s0) :
    exec (.seqConditionMet d q) s = s.endWait d q false (if s.now ≤ (s.seq (sel d q)).deadline - 38
      then max (s.seq (sel d q)).t.toNat (s.now + 38) else (s.seq (sel d q)).deadline) := by
  show execSeqConditionMet d q s = _
  by_cases hearly : s.now ≤ (s.seq (sel d q)).deadline - 38
  · simp [execSeqConditionMet, hin, hcond, hw, hearly]
  · simp only [execSeqConditionMet, hin, hcond, hw, hearly, Bool.not_true, Bool.or_self, Bool.false_eq_true, if_false,
      Nat.reduceEqDiff]
    exact if_pos (hwhen.resolve_left hearly)

/-- A WAIT 11 word that has passed D − 38, or finds its condition false there (R137). -/
theorem exec_seqWaitTimeout {s : State} {d q : Nat} (hin : s.inWait d q = true) (hw : (s.seq (sel d q)).mw.wait = 3)
    (hwhen : max (s.seq (sel d q)).s0 ((s.seq (sel d q)).deadline - 38) < s.now ∨
      (max (s.seq (sel d q)).s0 ((s.seq (sel d q)).deadline - 38) = s.now ∧
        s.condValue d q (s.seq (sel d q)).mw.cond = false)) :
    exec (.seqWaitTimeout d q) s = s.endWait d q true (s.seq (sel d q)).deadline := by
  show execSeqWaitTimeout d q s = _
  rw [execSeqWaitTimeout]
  refine if_pos ?_
  rw [hin, hw, Bool.true_and, beq_self_eq_true, Bool.true_and, Bool.or_eq_true, Bool.and_eq_true, Bool.not_eq_true']
  exact hwhen.imp decide_eq_true (And.imp_left decide_eq_true)

/-! Deliveries. -/

/-- The action at the head of the buffer is delivered once it has come due (R136). -/
theorem exec_stampedActionDeliver {s : State} {d q due stamp : Nat} {a : StampAct} {rest : List Stamped}
    (hbuf : (s.seq (sel d q)).buf = ⟨due, stamp, a⟩ :: rest) (hdue : due ≤ s.now) (hon : s.domOn d (domSeq q) = true) :
    exec (.stampedActionDeliver d q) s =
      .next ((s.setSeq (sel d q) { s.seq (sel d q) with buf := rest }).perform d q stamp a) := by
  show execStampedActionDeliver d q s = _
  simp [execStampedActionDeliver, hbuf, hdue, hon]

/-- What each action does as it takes effect (R155–R164). -/
theorem perform_cases (u : State) (d q stamp : Nat) (a : StampAct) :
    (∀ (tag : BitVec 32) (record signal : Bool), a = .mark tag record signal →
      u.perform d q stamp a = (if signal then (if record then u.markRecord d q tag stamp else u).raise d (7 * q + 4)
        else if record then u.markRecord d q tag stamp else u)) ∧
    (∀ p : Nat, a = .event p → u.perform d q stamp a = u.raise d (7 * q + p)) ∧
    (∀ (n : Nat) (v : BitVec 8), a = .post n v → u.perform d q stamp a = (if 256 ≤ n ∧ n < 512
      then u.offerPost d (q / 2) u.cyc n v (.seq q) else u.setBit Obj.SEQ_STATUS (sel d q) 17)) ∧
    (∀ op kind first last : Nat, a = .acq op kind first last → u.perform d q stamp a = u.acqAct d op kind first last) ∧
    (∀ (o op : Nat) (c : BitVec 20), a = .bias o c op → u.perform d q stamp a = u.biasAct d q o c op) ∧
    (∀ (g : Nat) (m : BitVec 32), a = .msg g m → u.perform d q stamp a = u.dspMail d g q m) ∧
    (∀ r : EpochReq, a = .epoch r → u.perform d q stamp a = u.issueEpoch d (some q) r) := by
  refine ⟨?_, ?_, ?_, ?_, ?_, ?_, ?_⟩
  · rintro _ _ _ rfl; rfl
  · rintro _ rfl; rfl
  · rintro _ _ rfl; rfl
  · rintro _ _ _ _ rfl; rfl
  · rintro _ _ _ rfl; rfl
  · rintro _ _ rfl; rfl
  · rintro _ rfl; rfl

/-- Settles O19: each end of a wait is a sample of this cycle with the successor's T (R137, R138); a delivery takes the head off
the buffer, and it takes effect (R136). -/
theorem waitsAndDeliveries : Obligations.WaitsAndDeliveries := by
  unfold Obligations.WaitsAndDeliveries
  refine ⟨fun d q s hin hcond hlegal hw => ?met, fun d q s hin hcond hlegal hw hwhen => ?limited,
    fun d q s hin hlegal hw hwhen => ?timeout, fun d q due stamp a rest s u hbuf hdue hon hu => ?deliver⟩
  case met =>
    obtain ⟨t, hend, hcond', hphase, hcyc, -, hsucc, hothers, hframe⟩ := endWait_ends false
      (max (s.seq (sel d q)).t.toNat (s.now + 38) + (s.seq (sel d q)).mw.time) hlegal
    rw [exec_seqConditionMet_open hin hcond hw]
    exact ⟨t, hend, hcond'.trans hcond, hphase, hcyc, hsucc, hothers, hframe⟩
  case limited =>
    obtain ⟨t, hend, hcond', hphase, -, htimed, hsucc, hothers, hframe⟩ := endWait_ends false
      (if s.now ≤ (s.seq (sel d q)).deadline - 38 then max (s.seq (sel d q)).t.toNat (s.now + 38)
        else (s.seq (sel d q)).deadline) hlegal
    rw [exec_seqConditionMet_limited hin hcond hw hwhen]
    exact ⟨t, hend, hcond'.trans hcond, hphase, htimed hw, hsucc, hothers, hframe⟩
  case timeout =>
    obtain ⟨t, hend, hcond, hphase, -, htimed, hsucc, hothers, hframe⟩ := endWait_ends true (s.seq (sel d q)).deadline hlegal
    rw [exec_seqWaitTimeout hin hw hwhen]
    exact ⟨t, hend, hcond, hphase, htimed hw, hsucc, hothers, hframe⟩
  case deliver =>
    subst hu
    exact ⟨_, exec_stampedActionDeliver hbuf hdue hon, perform_cases _ d q stamp a⟩

end Sys2Proof.Machine
end

section
/-!
PROOFS. The commands of SEQ_COMMAND (R150, R165): what START captures and clears, and the commands that ABORT removes (R32).
-/

namespace Sys2Proof.Machine

/-! START (R150, R165). -/

theorem freeInputs_frame (s : State) (d q : Nat) (evc : BitVec 4) (ns : List Nat) :
    ns.foldl (fun t n => if evc.getLsbD n then t.freeInput d (10 * q + 2 + n) else t) s =
      { s with chans := (ns.foldl (fun t n => if evc.getLsbD n then t.freeInput d (10 * q + 2 + n) else t) s).chans } := by
  refine List.foldlRecOn (motive := fun t : State => t = { s with chans := t.chans }) ns _ rfl fun t ht n _ => ?_
  split_ifs
  · rw [State.freeInput, State.setChan, ht]
  · exact ht

/-- A sample sees the count that was captured for it in this cycle. -/
theorem seen_capture {α : Type} (e v : α) (c : Nat) (old rest : Trail α) :
    seen e (old.filter (fun p => decide (c < p.1)) ++ (c, v) :: rest) c = v := by
  induction old with
  | nil => simp [seen]
  | cons p old ih =>
    by_cases h : c < p.1
    · simp [h, seen, Nat.not_le.2 h, ih]
    · simp [h, ih]

/-- The freshness entry `i` of sequencer `q` of die `d` has captured the generation count that its slot shows in `s`. -/
def Captured (s t : State) (d q i : Nat) : Prop :=
  seen 0 (look [] (t.seq (sel d q)).fresh i) s.cyc =
    (s.slotSeen (sel d (ebits (s.condEntry (sel d q) i) 9 0))).gen.toNat

theorem captured_recapture {s t : State} {d q i : Nat} (h : FreshOnly s t (sel d q))
    (hfresh : entrySource (s.condEntry (sel d q) i) = 2) : Captured s (t.recapture d q i) d q i := by
  have hentry : t.condEntry = s.condEntry := by rw [h.frame]; rfl
  have hslot : t.slotSeen = s.slotSeen := by rw [h.frame]; rfl
  have hcyc : t.cyc = s.cyc := by rw [h.frame]
  rw [Captured, State.recapture, hentry]
  simp only [hfresh, if_true, seq_setSeq_same, Seq.capture, look_put_same, hslot, hcyc, List.append_assoc,
    List.singleton_append]
  exact seen_capture _ _ _ _ _

/-- A capture for one entry leaves those of the others. -/
theorem fresh_recapture_other (t : State) (d q : Nat) {i j : Nat} (h : i ≠ j) :
    look [] ((t.recapture d q j).seq (sel d q)).fresh i = look [] (t.seq (sel d q)).fresh i := by
  simp only [State.recapture]
  split_ifs
  · rw [seq_setSeq_same]
    exact look_put_other _ _ h
  · rfl

theorem captured_recaptures {s : State} {d q i : Nat} {is : List Nat} (hi : i ∈ is)
    (hfresh : entrySource (s.condEntry (sel d q) i) = 2) :
    Captured s (is.foldl (fun t i => t.recapture d q i) s) d q i := by
  induction is using List.reverseRecOn with
  | nil => cases hi
  | append_singleton is j ih =>
    rw [List.foldl_append]
    by_cases hj : i = j
    · subst hj
      exact captured_recapture (freshOnly_recaptures d q is s) hfresh
    · have hin : i ∈ is := (List.mem_append.1 hi).resolve_right fun h => hj (List.mem_singleton.1 h)
      rw [Captured, List.foldl_cons, List.foldl_nil, fresh_recapture_other _ d q hj]
      exact ih hin

/-- The captures of START over a list of freshness entries, and the task events `ns` freed (R150). -/
def State.capturesOf (s : State) (d q : Nat) (is ns : List Nat) : State :=
  let t := is.foldl (fun t i => t.recapture d q i) s
  let evc := (s.seq (sel d q)).evc
  ns.foldl (fun t n => if evc.getLsbD n then t.freeInput d (10 * q + 2 + n) else t)
    (t.setSeq (sel d q) { t.seq (sel d q) with evc := 0, eaten := none })

theorem captures_eq (s : State) (d q : Nat) : s.captures d q = s.capturesOf d q (List.range 64) (List.range 4) := rfl

/-- The freshness entries `is` have captured, the task events are cleared, and of the rest only Bell channels have changed
(R150). -/
structure CapturesDone (s t : State) (d q : Nat) (is : List Nat) : Prop where
  own : t.seq (sel d q) = { s.seq (sel d q) with evc := 0, eaten := none, fresh := (t.seq (sel d q)).fresh }
  fresh : ∀ i ∈ is, entrySource (s.condEntry (sel d q) i) = 2 → Captured s t d q i
  others : ∀ k : Nat, k ≠ sel d q → t.seq k = s.seq k
  frame : t = { s with seqs := t.seqs, chans := t.chans }

theorem capturesOf_done (s : State) (d q : Nat) (is ns : List Nat) : CapturesDone s (s.capturesOf d q is ns) d q is := by
  have honly := freshOnly_recaptures d q is s
  have hcaptured : ∀ i ∈ is, entrySource (s.condEntry (sel d q) i) = 2 →
      Captured s (is.foldl (fun t i => t.recapture d q i) s) d q i := fun i => captured_recaptures
  rw [State.capturesOf]
  generalize is.foldl (fun t i => t.recapture d q i) s = u at *
  dsimp only
  rw [freeInputs_frame]
  generalize State.chans _ = ch
  have hown : ({ u.setSeq (sel d q) { u.seq (sel d q) with evc := 0, eaten := none } with chans := ch } : State).seq (sel d q) =
      { u.seq (sel d q) with evc := 0, eaten := none } := seq_setSeq_same u _ _
  refine ⟨?_, fun i hi hfresh => ?_, fun k hk => (seq_setSeq_other u _ hk).trans (honly.others k hk), ?_⟩
  · rw [hown]
    conv_lhs => rw [honly.own]
  · rw [Captured, hown]
    exact hcaptured i hi hfresh
  · conv_lhs => rw [honly.frame]
    rfl

/-- The sequencer as START sets it going (R165). -/
def Seq.started (x : Seq) (addr : Nat) (t : Time) (ready : Nat) : Seq :=
  { x with run := .running, phase := .ready, addr := addr, t := t, ready := ready, sp := 0, frame := {}, inHandler := false,
           pend := 0, raised := 0, timedOut := false, qfull := false, qfree := false, refusedBy := none, skipBreak := false,
           resumed := false, waitFault := false }

/-- The sequencer has started with a T: nothing else has changed but Bell channels and the count of free values (R165). -/
structure SeqStarted (s t : State) (d q : Nat) (time : Time) : Prop where
  own : t.seq (sel d q) = { (s.seq (sel d q)).started (s.rdN Obj.SEQ_START_ADDR (sel d q) % 16384) time
    (t.seq (sel d q)).ready with evc := 0, eaten := none, fresh := (t.seq (sel d q)).fresh }
  ready : s.now < (t.seq (sel d q)).ready
  fresh : ∀ i : Nat, i < 64 → entrySource (s.condEntry (sel d q) i) = 2 → Captured s t d q i
  others : ∀ k : Nat, k ≠ sel d q → t.seq k = s.seq k
  frame : t = { s with seqs := t.seqs, chans := t.chans, free := s.free + 1 }

/-- START before its captures: a free value is taken for the cycle in which the first word is ready (log 1). -/
def State.setGoing (s : State) (d q : Nat) (time : Time) : State :=
  ({ s with free := s.free + 1 } : State).setSeq (sel d q)
    ((s.seq (sel d q)).started (s.rdN Obj.SEQ_START_ADDR (sel d q) % 16384) time (s.now + 1 + Config.freeNat s.free))

theorem startSeq_eq (s : State) (d q : Nat) (time : Time) :
    s.startSeq d q time = (s.setGoing d q time).capturesOf d q (List.range 64) (List.range 4) := captures_eq _ d q

theorem startSeq_starts (s : State) (d q : Nat) (time : Time) : SeqStarted s (s.startSeq d q time) d q time := by
  obtain ⟨hown, hfresh, hothers, hframe⟩ := capturesOf_done (s.setGoing d q time) d q (List.range 64) (List.range 4)
  rw [← startSeq_eq] at hown hfresh hothers hframe
  rw [State.setGoing, seq_setSeq_same] at hown
  have hready : ((s.startSeq d q time).seq (sel d q)).ready = s.now + 1 + Config.freeNat s.free := by
    rw [hown]
    rfl
  refine ⟨?_, ?_, fun i hi => hfresh i (List.mem_range.2 hi), fun k hk => ?_, ?_⟩
  · rw [hready]
    exact hown
  · omega
  · exact (hothers k hk).trans (seq_setSeq_other _ _ hk)
  · exact hframe

end Sys2Proof.Machine
end

section
/-!
PROOFS. HALT, ABORT, ARM and DISARM (R165, R32).
-/

namespace Sys2Proof.Machine

/-! HALT (R165). -/

theorem haltSeq_frame (s : State) (d q : Nat) : s.haltSeq d q =
    { s with seqs := (s.haltSeq d q).seqs, chans := (s.haltSeq d q).chans, regs := (s.haltSeq d q).regs } := by
  rw [haltSeq_eq, raise_frame, settle_setSeq]
  rfl

theorem haltCommand_running {s : State} {d q : Nat} (h : (s.seq (sel d q)).run = .running) :
    s.haltCommand d q = s.haltSeq d q := by simp only [State.haltCommand, h]

theorem haltCommand_armed {s : State} {d q : Nat} (h : (s.seq (sel d q)).run = .armed) :
    s.haltCommand d q = s.setSeq (sel d q) { s.seq (sel d q) with run := .halted } := by simp only [State.haltCommand, h]

theorem haltCommand_halted {s : State} {d q : Nat} (h : (s.seq (sel d q)).run = .halted) : s.haltCommand d q = s := by
  simp only [State.haltCommand, h]

/-- After HALT the sequencer is halted, and of the rest only Bell channels and objects have changed. -/
theorem haltCommand_halts (s : State) (d q : Nat) :
    ((s.haltCommand d q).seq (sel d q)).run = .halted ∧ (∀ k : Nat, k ≠ sel d q → (s.haltCommand d q).seq k = s.seq k) ∧
    s.haltCommand d q = { s with
      seqs := (s.haltCommand d q).seqs, chans := (s.haltCommand d q).chans, regs := (s.haltCommand d q).regs } := by
  cases h : (s.seq (sel d q)).run with
  | halted =>
    rw [haltCommand_halted h]
    exact ⟨h, fun _ _ => rfl, rfl⟩
  | armed =>
    rw [haltCommand_armed h]
    exact ⟨by rw [seq_setSeq_same], fun k hk => seq_setSeq_other _ _ hk, rfl⟩
  | running =>
    obtain ⟨hown, hothers, -⟩ := haltSeq_halts s d q
    rw [haltCommand_running h]
    exact ⟨by rw [hown]; rfl, hothers, haltSeq_frame s d q⟩

/-! ABORT: notices of the entries that it frees (R32). -/

/-- From `s` to `t` notices of free entries have gone out: of the sequencers only QFREE has changed, and nothing else but
objects and messages in flight. -/
structure NoticesOut (s t : State) : Prop where
  seq : ∀ k : Nat, t.seq k = { s.seq k with qfree := (t.seq k).qfree }
  frame : t = { s with seqs := t.seqs, regs := t.regs, flight := t.flight }

theorem NoticesOut.refl (s : State) : NoticesOut s s := ⟨fun _ => rfl, rfl⟩

theorem NoticesOut.trans {s t u : State} (h : NoticesOut s t) (h' : NoticesOut t u) : NoticesOut s u where
  seq k := by rw [h'.seq, h.seq]
  frame := by rw [h'.frame, h.frame]

theorem noticesOut_notifyFree (s : State) (d g : Nat) (o : Nat × Nat) : NoticesOut s (s.notifyFree d g o) := by
  simp only [State.notifyFree]
  split_ifs
  · refine ⟨fun k => ?_, rfl⟩
    rw [seq_setSeq]
    split_ifs with hk
    · rw [hk]
    · rfl
  · exact NoticesOut.refl s
  · rcases hr : (route s.member.dies d o.1).all (s.hopOpen o.1 (.freed o.2 d g))
    · have hsend : s.send d o.1 g none (.freed o.2 d g) = s.inc Obj.DECISION_DROPPED (sel d 0) := send_down hr
      rw [hsend, inc_frame]
      exact ⟨fun _ => rfl, rfl⟩
    · rw [send_up hr]
      exact ⟨fun _ => rfl, rfl⟩

/-- What a generator that pays its notices leaves: its own notices owed, QFREE of sequencers, objects and flight apart,
everything. -/
theorem payOwed_reads (s : State) (d g : Nat) :
    (∀ k : Nat, (s.payOwed d g).gen k = { s.gen k with owed := ((s.payOwed d g).gen k).owed }) ∧
    (∀ k : Nat, k ≠ sel d g → (s.payOwed d g).gen k = s.gen k) ∧
    (∀ k : Nat, (s.payOwed d g).seq k = { s.seq k with qfree := ((s.payOwed d g).seq k).qfree }) ∧
    s.payOwed d g = { s with
      gens := (s.payOwed d g).gens, seqs := (s.payOwed d g).seqs, regs := (s.payOwed d g).regs,
      flight := (s.payOwed d g).flight } := by
  simp only [State.payOwed]
  split_ifs
  · exact ⟨fun _ => rfl, fun _ _ => rfl, fun _ => rfl, rfl⟩
  · obtain ⟨hseq, hframe⟩ := List.foldlRecOn
      (motive := NoticesOut (s.setGen (sel d g) { s.gen (sel d g) with owed := [] })) (s.gen (sel d g)).owed
      (fun t o => t.notifyFree d g o) (NoticesOut.refl _) fun t ht o _ => ht.trans (noticesOut_notifyFree t d g o)
    generalize (s.gen (sel d g)).owed.foldl _ _ = t at *
    have hgen : ∀ k, t.gen k = if k = sel d g then { s.gen (sel d g) with owed := [] } else s.gen k := fun k => by
      rw [hframe]
      exact gen_setGen s (sel d g) k _
    refine ⟨fun k => ?_, fun k hk => (hgen k).trans (if_neg hk), hseq, ?_⟩
    · rw [hgen]
      split_ifs with hk
      · rw [hk]
      · rfl
    · rw [hframe]
      rfl

theorem sel_injective (d : Nat) : Function.Injective (sel d) := fun _ _ h => Nat.add_left_cancel h

/-! ABORT: commands removed (R165). -/

/-- The sequencer's commands leave the queue of generator `g` of its die. -/
def State.dropCommandsOf (s : State) (d q g : Nat) : State :=
  let x := s.gen (sel d g)
  if x.queue.any (fun c => c.die == d && c.seq == q) then
    (s.setGen (sel d g) { x with queue := x.queue.filter (fun c => !(c.die == d && c.seq == q)) }).payOwed d g
  else s

/-- From `s` to `t` the commands of sequencer `q` of die `d` have left the queues of its generators `gs`: of the sequencers
only QFREE has changed, and of those generators only the queue and the notices owed. -/
structure CommandsOff (s t : State) (d q : Nat) (gs : List Nat) : Prop where
  queue : ∀ g ∈ gs, (t.gen (sel d g)).queue = (s.gen (sel d g)).queue.filter (fun c => !(c.die == d && c.seq == q))
  gen : ∀ k : Nat, t.gen k = { s.gen k with queue := (t.gen k).queue, owed := (t.gen k).owed }
  others : ∀ k : Nat, (∀ g ∈ gs, k ≠ sel d g) → t.gen k = s.gen k
  seq : ∀ k : Nat, t.seq k = { s.seq k with qfree := (t.seq k).qfree }
  frame : t = { s with seqs := t.seqs, gens := t.gens, regs := t.regs, flight := t.flight }

theorem CommandsOff.refl (s : State) (d q : Nat) : CommandsOff s s d q [] :=
  ⟨fun _ h => absurd h List.not_mem_nil, fun _ => rfl, fun _ _ => rfl, fun _ => rfl, rfl⟩

theorem commandsOff_one (s : State) (d q g : Nat) : CommandsOff s (s.dropCommandsOf d q g) d q [g] := by
  simp only [State.dropCommandsOf]
  split_ifs with hany
  · obtain ⟨hgen, hothers, hseq, hframe⟩ := payOwed_reads (s.setGen (sel d g) { s.gen (sel d g) with
      queue := (s.gen (sel d g)).queue.filter (fun c => !(c.die == d && c.seq == q)) }) d g
    have hset := gen_setGen s (sel d g)
    refine ⟨fun g' hg' => ?_, fun k => ?_, fun k hk => ?_, hseq, hframe⟩
    · rw [List.mem_singleton.1 hg', hgen, hset, if_pos rfl]
    · rw [hgen, hset]
      split_ifs with hk
      · rw [hk]
      · rfl
    · rw [hothers k (hk g (List.mem_singleton_self g)), hset, if_neg (hk g (List.mem_singleton_self g))]
  · refine ⟨fun g' hg' => ?_, fun _ => rfl, fun _ _ => rfl, fun _ => rfl, rfl⟩
    rw [List.mem_singleton.1 hg', eq_comm, List.filter_eq_self]
    rw [Bool.not_eq_true, List.any_eq_false] at hany
    intro c hc
    rw [Bool.not_eq_true']
    exact Bool.eq_false_iff.2 (hany c hc)

theorem CommandsOff.trans {s t u : State} {d q g : Nat} {gs : List Nat} (h : CommandsOff s t d q gs)
    (h' : CommandsOff t u d q [g]) : CommandsOff s u d q (gs ++ [g]) where
  queue g' hg' := by
    have hbefore : ((t.gen (sel d g')).queue.filter fun c => !(c.die == d && c.seq == q)) =
        (s.gen (sel d g')).queue.filter fun c => !(c.die == d && c.seq == q) := by
      by_cases hin : g' ∈ gs
      · rw [h.queue g' hin, List.filter_filter]
        simp only [Bool.and_self]
      · rw [h.others (sel d g') fun g'' hg'' he => hin ((sel_injective d he).symm ▸ hg'')]
    by_cases hg : g' = g
    · rw [h'.queue g' (List.mem_singleton.2 hg), hbefore]
    · have hin : g' ∈ gs := (List.mem_append.1 hg').resolve_right fun hs => hg (List.mem_singleton.1 hs)
      rw [h'.others _ fun g'' hg'' he => hg ((sel_injective d he).trans (List.mem_singleton.1 hg'')), h.queue g' hin]
  gen k := by rw [h'.gen, h.gen]
  others k hk := (h'.others k fun g' hg' => hk g' (List.mem_append_right gs hg')).trans
    (h.others k fun g' hg' => hk g' (List.mem_append_left [g] hg'))
  seq k := by rw [h'.seq, h.seq]
  frame := by rw [h'.frame, h.frame]

theorem commandsOff (d q : Nat) (gs : List Nat) (s : State) :
    CommandsOff s (gs.foldl (fun t g => t.dropCommandsOf d q g) s) d q gs := by
  induction gs using List.reverseRecOn with
  | nil => exact CommandsOff.refl s d q
  | append_singleton gs g ih =>
    rw [List.foldl_append]
    exact ih.trans (commandsOff_one _ d q g)

/-- The sequencer once HALT has taken effect and its buffer is empty. -/
def State.emptiedBuf (s : State) (d q : Nat) : State :=
  (s.haltCommand d q).setSeq (sel d q) { (s.haltCommand d q).seq (sel d q) with buf := [] }

theorem exec_seqAbort (d q : Nat) (s : State) : exec (.seqAbort d q) s =
    .next ((List.range 128).foldl (fun t g => t.dropCommandsOf d q g) (s.emptiedBuf d q)) := rfl

/-- What ABORT leaves (R165). -/
theorem abort_reads (s : State) (d q : Nat) : ∃ t, exec (.seqAbort d q) s = .next t ∧
    (t.seq (sel d q)).run = SeqRun.halted ∧ (t.seq (sel d q)).buf = [] ∧
    (∀ g : Nat, g < 128 → (t.gen (sel d g)).queue =
      (s.gen (sel d g)).queue.filter (fun c => !(c.die == d && c.seq == q))) ∧
    (∀ k : Nat, k ≠ sel d q → t.seq k = { s.seq k with qfree := (t.seq k).qfree }) ∧
    (∀ k : Nat, t.gen k = { s.gen k with queue := (t.gen k).queue, owed := (t.gen k).owed }) ∧
    (∀ k : Nat, (∀ g : Nat, g < 128 → k ≠ sel d g) → t.gen k = s.gen k) ∧
    t = { s with seqs := t.seqs, gens := t.gens, chans := t.chans, regs := t.regs, flight := t.flight } := by
  obtain ⟨hrun, hothers, hframe⟩ := haltCommand_halts s d q
  have hbuf : s.emptiedBuf d q = { s with
      seqs := (s.emptiedBuf d q).seqs, chans := (s.emptiedBuf d q).chans, regs := (s.emptiedBuf d q).regs } := by
    rw [State.emptiedBuf, hframe]
    rfl
  have hgen : (s.emptiedBuf d q).gen = s.gen := by
    rw [hbuf]
    rfl
  have hseq := seq_setSeq (s.haltCommand d q) (sel d q)
  obtain ⟨hqueue, hgens, hfar, hseqs, hrest⟩ := commandsOff d q (List.range 128) (s.emptiedBuf d q)
  rw [exec_seqAbort]
  generalize (List.range 128).foldl (fun t g => t.dropCommandsOf d q g) (s.emptiedBuf d q) = t at *
  refine ⟨t, rfl, ?_, ?_, fun g hg => ?_, fun k hk => ?_, fun k => ?_, fun k hk => ?_, ?_⟩
  · rw [hseqs, State.emptiedBuf, hseq, if_pos rfl]
    exact hrun
  · rw [hseqs, State.emptiedBuf, hseq, if_pos rfl]
  · rw [hqueue g (List.mem_range.2 hg), hgen]
  · rw [hseqs, State.emptiedBuf, hseq, if_neg hk, hothers k hk]
  · rw [hgens, hgen]
  · rw [hfar k fun g hg => hk g (List.mem_range.1 hg), hgen]
  · rw [hrest, hbuf]

/-! The rows. -/

theorem exec_seqStart {s : State} {d q : Nat} (hrun : (s.seq (sel d q)).run ≠ .running) (hon : s.domOn d (domSeq q) = true)
    (haddr : s.rdN Obj.SEQ_START_ADDR (sel d q) < 2 ^ 14) :
    exec (.seqStart d q) s = .next (s.startSeq d q (s.startTime (sel d q))) := by
  show execSeqStart d q s = _
  have hlegal : decide (2 ^ 14 ≤ s.rdN Obj.SEQ_START_ADDR (sel d q)) = false := decide_eq_false (Nat.not_le.2 haddr)
  rw [execSeqStart, hlegal]
  exact if_neg (by simp [hrun, hon])

/-- Settles O20: START by what it captures and clears (R150, R165), HALT and ABORT by the state the sequencer is in, ABORT's
queues by induction on the generators of the die (R32), ARM and DISARM by their conditions. The cycle in which the first word is
ready is a free value (log 1); that an armed sequencer which returns to halted raises no HALTED is the model's choice (log 57). -/
theorem sequencerCommands : Obligations.SequencerCommands := by
  unfold Obligations.SequencerCommands
  refine ⟨fun d q s hrun hon haddr => ?start, fun d q s hnot => ?startIdle, fun d q s hrun => ?halt, fun d q s hrun => ?haltArmed,
    fun d q s hrun => ?haltIdle, fun d q s => abort_reads s d q, fun d q s hrun hon => ?arm, fun d q s hrun => ?disarm,
    fun d q s hnot => ?armIdle, fun d q s hrun => ?disarmIdle⟩
  case start =>
    obtain ⟨hown, hready, hfresh, hothers, hframe⟩ := startSeq_starts s d q (s.startTime (sel d q))
    rw [show s.rdN Obj.SEQ_START_ADDR (sel d q) % 16384 = _ from Nat.mod_eq_of_lt haddr] at hown
    exact ⟨_, exec_seqStart hrun hon haddr, hown, hready, hfresh, hothers, hframe⟩
  case startIdle => exact if_pos (hnot.imp_right fun h => by rw [h]; rfl)
  case halt =>
    obtain ⟨hown, hothers, hframe⟩ := haltSeq_halts s d q
    exact ⟨_, congrArg Host.Outcome.next (haltCommand_running hrun), hown, hothers, hframe⟩
  case haltArmed => exact congrArg Host.Outcome.next (haltCommand_armed hrun)
  case haltIdle => exact congrArg Host.Outcome.next (haltCommand_halted hrun)
  case arm => exact if_pos ⟨hrun, hon⟩
  case disarm => exact if_pos hrun
  case armIdle =>
    refine if_neg fun h => ?_
    rcases hnot with hrun | hoff
    · exact hrun h.1
    · rw [hoff] at h
      cases h.2
  case disarmIdle => exact if_neg hrun

end Sys2Proof.Machine
end

section
/-!
PROOFS. Task inputs of a sequencer (R166, R168–R170, R362), and its control store's scrubber (R174–R176).
-/

namespace Sys2Proof.Machine

/-! Events delivered (R362). -/

/-- From `s` to `t` only Bell channels and two of their objects have changed. -/
structure ChannelsOnly (s t : State) : Prop where
  objects : ∀ id k : Nat, id ≠ Obj.CHAN_STATUS → id ≠ Obj.CHAN_EVENTS → t.rd id k = s.rd id k
  frame : t = { s with chans := t.chans, regs := t.regs }

theorem ChannelsOnly.trans {s t u : State} (h : ChannelsOnly s t) (h' : ChannelsOnly t u) : ChannelsOnly s u where
  objects id k h1 h2 := (h'.objects id k h1 h2).trans (h.objects id k h1 h2)
  frame := by rw [h'.frame, h.frame]

theorem channelsOnly_setChan (s : State) (k : Nat) (x : Chan) : ChannelsOnly s (s.setChan k x) := ⟨fun _ _ _ _ => rfl, rfl⟩

theorem channelsOnly_chanBit (s : State) (k i : Nat) : ChannelsOnly s (s.chanBit k i) := by
  rw [State.chanBit]
  split_ifs
  · exact ⟨fun _ _ h _ => rd_setBit_other s i fun h' => h h'.1, rfl⟩
  · exact ⟨fun _ _ _ _ => rfl, rfl⟩

theorem channelsOnly_chanInc (s : State) (k : Nat) : ChannelsOnly s (s.chanInc Obj.CHAN_EVENTS k) := by
  rw [State.chanInc]
  split_ifs
  · exact ⟨fun _ _ _ h => rd_inc_other s fun h' => h h'.1, by rw [inc_frame]⟩
  · exact ⟨fun _ _ _ _ => rfl, rfl⟩

/-- An event that takes effect at a task input leaves the sequencers and their objects. -/
theorem deliver_channelsOnly {s s1 : State} {d c : Nat} {busy : Bool} {v : BellEvent}
    (h : s.deliver d c busy = (some v, s1)) : ChannelsOnly s s1 := by
  simp only [State.deliver] at h
  split at h
  · split at h
    · cases h
    · split_ifs at h <;> cases h
  · split at h
    · cases h
    · by_cases hlast : (s.chan (sel d c)).lastAt = some s.cyc
      · rw [if_pos hlast] at h
        cases h
      · rw [if_neg hlast] at h
        cases h
        refine (ChannelsOnly.trans ?_ (channelsOnly_setChan _ _ _)).trans (channelsOnly_chanInc _ _)
        split_ifs
        · exact (channelsOnly_setChan _ _ _).trans (channelsOnly_chanBit _ _ _)
        · exact channelsOnly_setChan _ _ _

/-- What the sequencers read is as before. -/
theorem ChannelsOnly.seq {s t : State} (h : ChannelsOnly s t) : t.seq = s.seq := by rw [h.frame]; rfl

theorem ChannelsOnly.now {s t : State} (h : ChannelsOnly s t) : t.now = s.now := by rw [h.frame]; rfl

theorem ChannelsOnly.seqRuns {s t : State} (h : ChannelsOnly s t) : t.seqRuns = s.seqRuns := by rw [h.frame]; rfl

theorem ChannelsOnly.trapVector {s t : State} (h : ChannelsOnly s t) : t.trapVector = s.trapVector := by rw [h.frame]; rfl

theorem ChannelsOnly.rdN {s t : State} (h : ChannelsOnly s t) {id : Nat} (k : Nat) (h1 : id ≠ Obj.CHAN_STATUS)
    (h2 : id ≠ Obj.CHAN_EVENTS) : t.rdN id k = s.rdN id k := by rw [State.rdN, h.objects id k h1 h2, State.rdN]

theorem ChannelsOnly.breakHere {s t : State} (h : ChannelsOnly s t) (k : Nat) : t.breakHere k = s.breakHere k := by
  simp only [State.breakHere, h.seq, h.objects Obj.BREAK_ADDR k (by decide) (by decide),
    h.objects Obj.TRAP_ENABLE k (by decide) (by decide)]

theorem ChannelsOnly.wordDue {s t : State} (h : ChannelsOnly s t) (d q : Nat) : t.wordDue d q = s.wordDue d q := by
  have hexec : ∀ k, t.execCycle k = s.execCycle k := fun k => by
    rw [State.execCycle, State.lookahead, h.seq, h.rdN k (by decide) (by decide), State.execCycle, State.lookahead]
  simp only [State.wordDue]
  rw [h.seqRuns, h.seq, hexec, h.now]

/-! Traps (R168–R170). -/

/-- Trap `c` has been taken in this cycle: the frame holds what is interrupted, and the handler's first word is ready (R169,
R170). -/
structure TrapTaken (s t : State) (d q c : Nat) : Prop where
  inHandler : (t.seq (sel d q)).inHandler = true
  cause : (t.seq (sel d q)).frame.cause = c
  resumable : (t.seq (sel d q)).frame.resumable = true
  waiting : (t.seq (sel d q)).frame.waiting = ((s.seq (sel d q)).phase == .acted)
  addr : (t.seq (sel d q)).frame.addr = (s.seq (sel d q)).addr
  stamp : (t.seq (sel d q)).frame.t = (s.seq (sel d q)).t
  latch : (t.seq (sel d q)).frame.latch = (s.seq (sel d q)).latch
  sp : (t.seq (sel d q)).frame.sp = (s.seq (sel d q)).sp
  handler : (t.seq (sel d q)).addr = s.trapVector (sel d q) c
  ready : (t.seq (sel d q)).ready = s.now + 4
  timeline : (t.seq (sel d q)).t = BitVec.ofNat 64 (s.now + 38)
  pend : (t.seq (sel d q)).pend = (s.seq (sel d q)).pend
  others : ∀ k : Nat, k ≠ sel d q → t.seq k = s.seq k
  frame : t = { s with seqs := t.seqs, chans := t.chans, regs := t.regs }

theorem takeTrap_taken (s : State) (d q c : Nat) : TrapTaken s (s.takeTrap d q c true) d q c := by
  have hsettled := settle_frame s (sel d q)
  have hvector : (s.settle (sel d q)).trapVector = s.trapVector := by rw [hsettled]; rfl
  have hnow : (s.settle (sel d q)).now = s.now := by rw [hsettled]; rfl
  simp only [State.takeTrap, seq_settle_same, hvector, hnow]
  constructor
  case others => exact fun k hk => (seq_setSeq_other _ _ hk).trans (seq_settle_other s hk)
  case frame =>
    rw [settle_setSeq]
    rfl
  all_goals rw [seq_setSeq_same]

/-- A trap taken as an event takes effect interrupts what stood before the event. -/
theorem TrapTaken.afterEvent {s s1 t : State} {d q c : Nat} (h : TrapTaken s1 t d q c) (hsame : ChannelsOnly s s1) :
    TrapTaken s t d q c where
  inHandler := h.inHandler
  cause := h.cause
  resumable := h.resumable
  waiting := hsame.seq ▸ h.waiting
  addr := hsame.seq ▸ h.addr
  stamp := hsame.seq ▸ h.stamp
  latch := hsame.seq ▸ h.latch
  sp := hsame.seq ▸ h.sp
  handler := hsame.trapVector ▸ h.handler
  ready := hsame.now ▸ h.ready
  timeline := hsame.now ▸ h.timeline
  pend := hsame.seq ▸ h.pend
  others := hsame.seq ▸ h.others
  frame := by rw [h.frame, hsame.frame]

/-- An enabled cause that meets a sequencer between words, outside a handler and at no breakpoint, is taken (R168). -/
theorem raiseCause_taken {s : State} {d q c : Nat} (hruns : s.seqRuns d q = true)
    (hen : bit (s.rd Obj.TRAP_ENABLE (sel d q)) c = true) (hout : (s.seq (sel d q)).inHandler = false)
    (hphase : (s.seq (sel d q)).phase = .ready) (hfree : s.wordDue d q = false ∨ s.breakHere (sel d q) = false) :
    s.raiseCause d q c = s.takeTrap d q c true := by
  have hnot : ¬(c < 6 ∧ s.wordDue d q = true ∧ s.breakHere (sel d q) = true) := by
    rintro ⟨-, hdue, hbreak⟩
    rcases hfree with h | h
    · rw [hdue] at h
      cases h
    · rw [hbreak] at h
      cases h
  simp [State.raiseCause, hruns, hen, hout, hphase, hnot]

/-- An enabled cause below BREAKPOINT that meets a due word at a breakpoint, outside a handler, waits for its trap (R168). -/
theorem raiseCause_behind {s : State} {d q c : Nat} (hc : c < 6) (hdue : s.wordDue d q = true)
    (hbreak : s.breakHere (sel d q) = true) (hen : bit (s.rd Obj.TRAP_ENABLE (sel d q)) c = true)
    (hout : (s.seq (sel d q)).inHandler = false) :
    s.raiseCause d q c = (s.takeTrap d q 6 true).pendTrap (sel d q) c := by
  obtain ⟨hruns, hphase⟩ := wordDue_facts hdue
  simp [State.raiseCause, hruns, hen, hout, hphase, hc, hdue, hbreak]

/-- A cause that is not yet pending becomes so, and nothing else changes (R172). -/
theorem pendTrap_free {s : State} {k c : Nat} (h : (s.seq k).pend = 0) :
    s.pendTrap k c = s.setSeq k { s.seq k with pend := oneBit 8 c } := by
  simp [State.pendTrap, h]

/-! The rows of the task inputs. -/

theorem seqAsleep_of_on {s : State} {d q : Nat} (h : s.domOn d (domSeq q) = true) : s.seqAsleep d q = false := by
  rw [State.seqAsleep, h]
  rfl

theorem on_of_seqRuns {s : State} {d q : Nat} (h : s.seqRuns d q = true) : s.domOn d (domSeq q) = true := by
  rw [State.seqRuns, Bool.and_eq_true] at h
  exact h.2

theorem exec_seqStartTask {s s1 : State} {d q : Nat} {v : BellEvent} (hon : s.domOn d (domSeq q) = true)
    (hdel : s.deliver d (10 * q) false = (some v, s1)) (harmed : (s1.seq (sel d q)).run = .armed) :
    exec (.seqStartTask d q) s =
      .next (s1.startSeq d q (s1.clock.now + BitVec.ofNat 64 (s1.rdN Obj.SEQ_START_OFFSET (sel d q)))) := by
  show execSeqStartTask d q s = _
  rw [execSeqStartTask, seqAsleep_of_on hon, hdel]
  exact if_pos harmed

theorem exec_seqStopTask {s s1 : State} {d q : Nat} {v : BellEvent} (hon : s.domOn d (domSeq q) = true)
    (hdel : s.deliver d (10 * q + 1) false = (some v, s1)) :
    exec (.seqStopTask d q) s = .next (s1.haltCommand d q) := by
  show execSeqStopTask d q s = _
  rw [execSeqStopTask, seqAsleep_of_on hon, hdel]

theorem exec_seqEvcTask {s s1 : State} {d q n : Nat} {v : BellEvent} (hn : n < 4) (hon : s.domOn d (domSeq q) = true)
    (hfree : (s.seq (sel d q)).evc.getLsbD n = false) (hdel : s.deliver d (10 * q + 2 + n) false = (some v, s1)) :
    exec (.seqEvcTask d q n) s =
      .next (s1.setSeq (sel d q) { s1.seq (sel d q) with evc := (s1.seq (sel d q)).evc ||| oneBit 4 n }) := by
  show execSeqEvcTask d q n s = _
  rw [execSeqEvcTask, if_neg (Nat.not_le.2 hn)]
  simp only [hfree, seqAsleep_of_on hon, Bool.or_self, hdel]

theorem exec_seqEvtTask {s s1 : State} {d q n : Nat} {v : BellEvent} (hn : n < 4) (hon : s.domOn d (domSeq q) = true)
    (hdel : s.deliver d (10 * q + 6 + n) false = (some v, s1)) :
    exec (.seqEvtTask d q n) s = .next (s1.raiseCause d q n) := by
  show execSeqEvtTask d q n s = _
  rw [execSeqEvtTask, if_neg (Nat.not_le.2 hn), seqAsleep_of_on hon, hdel]

/-! The scrubber (R174–R176). -/

theorem rd_log_other (s : State) (d cls action unit detail : Nat) {id : Nat} (k : Nat) (h : id ≠ Obj.FAULT_LOG_LOST) :
    (s.log d cls action unit detail).rd id k = s.rd id k := by
  simp only [State.log]
  split_ifs
  · rfl
  · exact rd_inc_other _ fun h' => h h'.1

/-- What a correction leaves of the control store's scrubber, and of the other stores; and that it is counted (R173, R176). -/
theorem csCorrect_reads (s : State) (d q addr : Nat) :
    ((s.csCorrect d q addr).store (sel d q)).next = (s.store (sel d q)).next ∧
    ((s.csCorrect d q addr).store (sel d q)).due = (s.store (sel d q)).due ∧
    (∀ k : Nat, k ≠ sel d q → (s.csCorrect d q addr).store k = s.store k) ∧
    (s.csCorrect d q addr).rd Obj.CS_CORRECTED (sel d q) = (s.inc Obj.CS_CORRECTED (sel d q)).rd Obj.CS_CORRECTED (sel d q) := by
  have hset : ∀ (k : Nat) (y : StoreProt), ((s.inc Obj.CS_CORRECTED (sel d q)).setStore (sel d q) y).store k =
      if k = sel d q then y else s.store k := fun k y => by
    rw [inc_frame]
    exact store_setStore s (sel d q) k y
  have hlog : ∀ (t : State) (a b c e : Nat), (t.log d a b c e).store = t.store := fun t a b c e => by
    rw [log_frame]
    rfl
  simp only [State.csCorrect]
  split_ifs
  · simp only [hset]
    exact ⟨rfl, rfl, fun k hk => if_neg hk, rfl⟩
  · have hwr : ∀ (t : State) (n : Nat), (t.wrN Obj.CS_SPARES_USED (sel d q) n).store = t.store := fun _ _ => rfl
    simp only [hlog, hwr, hset]
    refine ⟨rfl, rfl, fun k hk => if_neg hk, ?_⟩
    rw [rd_log_other _ _ _ _ _ _ _ (by decide)]
    exact rd_wr_other _ _ fun h => absurd h.1 (by decide)
  · simp only [hlog, hset]
    refine ⟨rfl, rfl, fun k hk => if_neg hk, ?_⟩
    rw [rd_log_other _ _ _ _ _ _ _ (by decide)]
    rfl

/-- The store whose scrubber has read its next word, in this cycle: when it reads the word after (R174). -/
def State.scrubbed (s : State) (k : Nat) : StoreProt :=
  { s.store k with
    next := ((s.store k).next + 1) % 32768
    due := if s.cyc < (s.store k).due + 512 then (s.store k).due + 512 else s.cyc + 512 }

/-- What the scrubber leaves of a word, by what its check bits say (R174). -/
def State.scrubResult (s : State) (d q : Nat) (e : Ecc) : State :=
  let w := (s.store (sel d q)).next
  let t := s.setStore (sel d q) (s.scrubbed (sel d q))
  match e with
  | .clean => t
  | .corrected => t.csCorrect d q (w / 2)
  | .uncorrectable =>
    s.setStore (sel d q) { s.scrubbed (sel d q) with
      poison := if w ∈ (s.store (sel d q)).poison then (s.store (sel d q)).poison else w :: (s.store (sel d q)).poison }

theorem exec_csScrub {s : State} {d q : Nat} (e : Ecc) (hdue : (s.store (sel d q)).due ≤ s.cyc)
    (hon : s.domOn d (domSeq q) = true) : exec (.csScrub d q e) s = .next (s.scrubResult d q e) := by
  have hread := store_setStore s (sel d q) (sel d q) (s.scrubbed (sel d q))
  rw [if_pos rfl] at hread
  show execCsScrub d q e s = _
  rw [execCsScrub]
  refine (if_neg (by simp [Nat.not_lt.2 hdue, hon])).trans ?_
  cases e with
  | clean => rfl
  | corrected => rfl
  | uncorrectable =>
    show Host.Outcome.next ((s.setStore (sel d q) (s.scrubbed (sel d q))).setStore (sel d q)
      { (s.setStore (sel d q) (s.scrubbed (sel d q))).store (sel d q) with poison :=
        if (s.store (sel d q)).next ∈ ((s.setStore (sel d q) (s.scrubbed (sel d q))).store (sel d q)).poison
        then ((s.setStore (sel d q) (s.scrubbed (sel d q))).store (sel d q)).poison
        else (s.store (sel d q)).next :: ((s.setStore (sel d q) (s.scrubbed (sel d q))).store (sel d q)).poison }) = _
    rw [hread, State.setStore, State.setStore, put_put]
    rfl

/-- What a scrubber's read leaves, of this store and of the others. -/
theorem scrubResult_reads (s : State) (d q : Nat) (e : Ecc) :
    ((s.scrubResult d q e).store (sel d q)).next = ((s.store (sel d q)).next + 1) % 32768 ∧
    ((s.scrubResult d q e).store (sel d q)).due =
      (if s.cyc < (s.store (sel d q)).due + 512 then (s.store (sel d q)).due + 512 else s.cyc + 512) ∧
    (∀ k : Nat, k ≠ sel d q → (s.scrubResult d q e).store k = s.store k) ∧
    s.scrubResult d q e = { s with
      stores := (s.scrubResult d q e).stores, regs := (s.scrubResult d q e).regs, dies := (s.scrubResult d q e).dies } := by
  have hread := store_setStore s (sel d q)
  cases e with
  | clean =>
    refine ⟨?_, ?_, fun k hk => (hread k _).trans (if_neg hk), rfl⟩
    · rw [State.scrubResult, hread, if_pos rfl]
      rfl
    · rw [State.scrubResult, hread, if_pos rfl]
      rfl
  | corrected =>
    obtain ⟨hnext, hdue, hothers, -⟩ := csCorrect_reads (s.setStore (sel d q) (s.scrubbed (sel d q))) d q
      ((s.store (sel d q)).next / 2)
    rw [hread, if_pos rfl] at hnext hdue
    refine ⟨hnext, hdue, fun k hk => (hothers k hk).trans ((hread k _).trans (if_neg hk)), ?_⟩
    rw [State.scrubResult, csCorrect_frame]
    rfl
  | uncorrectable =>
    refine ⟨?_, ?_, fun k hk => (hread k _).trans (if_neg hk), rfl⟩
    · rw [State.scrubResult, hread, if_pos rfl]
      rfl
    · rw [State.scrubResult, hread, if_pos rfl]
      rfl

theorem poison_scrubResult_clean (s : State) (d q : Nat) :
    ((s.scrubResult d q .clean).store (sel d q)).poison = (s.store (sel d q)).poison := by
  rw [State.scrubResult, store_setStore, if_pos rfl]
  rfl

theorem rd_scrubResult_corrected (s : State) (d q : Nat) :
    (s.scrubResult d q .corrected).rd Obj.CS_CORRECTED (sel d q) =
      (s.inc Obj.CS_CORRECTED (sel d q)).rd Obj.CS_CORRECTED (sel d q) := by
  obtain ⟨-, -, -, hcounted⟩ := csCorrect_reads (s.setStore (sel d q) (s.scrubbed (sel d q))) d q
    ((s.store (sel d q)).next / 2)
  refine hcounted.trans ?_
  rw [State.rd, State.rd]
  rw [regs_inc_congr (t := s.setStore (sel d q) (s.scrubbed (sel d q))) (s := s) rfl]

theorem mem_poison_scrubResult (s : State) (d q : Nat) :
    (s.store (sel d q)).next ∈ ((s.scrubResult d q .uncorrectable).store (sel d q)).poison := by
  rw [State.scrubResult, store_setStore, if_pos rfl]
  dsimp only
  split_ifs with hin
  · exact hin
  · exact List.mem_cons_self

/-- Settles O21: an event that takes effect leaves the sequencers and their objects, so that START starts an armed one (R166), STOP
halts it, EVCn holds the event and EVTn raises its cause, which a word due at a breakpoint puts behind BREAKPOINT (R168); and the
scrubber by what the check bits say (R174). The cycle in which the first word after START is ready is a free value (log 1). -/
theorem sequencerTasksAndScrub : Obligations.SequencerTasksAndScrub := by
  unfold Obligations.SequencerTasksAndScrub
  refine ⟨fun d q v s s1 hon hdel harmed => ?start, fun d q v s s1 hon hdel hrun => ?stop,
    fun d q n v s s1 hn hon hfree hdel => ?evc, fun d q n v s s1 hn hruns hdel hen hout hphase hfree => ?evt,
    fun d q e s hdue hon => ?scrub, fun d q n v s s1 hn hdel hen hout hdue hbreak hpend => ?breakpoint⟩
  case start =>
    have hsame := deliver_channelsOnly hdel
    have hclock : s1.clock.now = s.clock.now := by rw [hsame.frame]
    obtain ⟨hown, hready, -, hothers, hframe⟩ := startSeq_starts s1 d q
      (s1.clock.now + BitVec.ofNat 64 (s1.rdN Obj.SEQ_START_OFFSET (sel d q)))
    rw [hsame.now] at hready
    rw [hsame.seq] at hothers
    refine ⟨_, exec_seqStartTask hon hdel (by rw [hsame.seq]; exact harmed), ?_, ?_, ?_, hready, hothers, ?_⟩
    · rw [hown]
      rfl
    · rw [hown, ← hsame.rdN (id := Obj.SEQ_START_ADDR) _ (by decide) (by decide)]
      rfl
    · rw [hown, ← hclock, ← hsame.rdN (id := Obj.SEQ_START_OFFSET) _ (by decide) (by decide)]
      rfl
    · rw [hframe, hsame.frame]
  case stop =>
    have hsame := deliver_channelsOnly hdel
    obtain ⟨hhalted, hothers, hframe⟩ := haltCommand_halts s1 d q
    rw [hsame.seq] at hothers
    refine ⟨_, exec_seqStopTask hon hdel, hhalted, hothers, ?_⟩
    rw [hframe, hsame.frame]
  case evc =>
    have hsame := deliver_channelsOnly hdel
    rw [exec_seqEvcTask hn hon hfree hdel, hsame.seq]
  case evt =>
    have hsame := deliver_channelsOnly hdel
    have hraise : s1.raiseCause d q n = s1.takeTrap d q n true := by
      refine raiseCause_taken ?_ ?_ ?_ ?_ ?_
      · rw [hsame.seqRuns, hruns]
      · rw [hsame.objects _ _ (by decide) (by decide), hen]
      · rw [hsame.seq, hout]
      · rw [hsame.seq, hphase]
      · rwa [hsame.wordDue, hsame.breakHere]
    obtain ⟨hin, hcause, hres, hwait, haddr, hstamp, hlatch, hsp, hvector, hready, htime, -, hothers, hframe⟩ :=
      (takeTrap_taken s1 d q n).afterEvent hsame
    rw [hphase] at hwait
    exact ⟨_, (exec_seqEvtTask hn (on_of_seqRuns hruns) hdel).trans (congrArg _ hraise), hin, hcause, hres, hwait, haddr,
      hstamp, hlatch, hsp, hvector, hready, htime, hothers, hframe⟩
  case scrub =>
    obtain ⟨hnext, hdue', hothers, hframe⟩ := scrubResult_reads s d q e
    refine ⟨_, exec_csScrub e hdue hon, hnext, hdue', ?_, ?_, ?_, hothers, hframe⟩
    · rintro rfl
      exact ⟨poison_scrubResult_clean s d q, rfl⟩
    · rintro rfl
      exact rd_scrubResult_corrected s d q
    · rintro rfl
      exact ⟨mem_poison_scrubResult s d q, rfl⟩
  case breakpoint =>
    have hsame := deliver_channelsOnly hdel
    obtain ⟨hruns, -⟩ := wordDue_facts hdue
    have hraise : s1.raiseCause d q n = (s1.takeTrap d q 6 true).pendTrap (sel d q) n := by
      refine raiseCause_behind (by omega) ?_ ?_ ?_ ?_
      · rw [hsame.wordDue, hdue]
      · rw [hsame.breakHere, hbreak]
      · rw [hsame.objects _ _ (by decide) (by decide), hen]
      · rw [hsame.seq, hout]
    obtain ⟨hin, hcause, -, -, haddr, -, -, -, hvector, -, -, hkept, hothers, hframe⟩ :=
      (takeTrap_taken s1 d q 6).afterEvent hsame
    rw [pendTrap_free (hkept.trans hpend)] at hraise
    refine ⟨_, (exec_seqEvtTask hn (on_of_seqRuns hruns) hdel).trans (congrArg _ hraise), ?_⟩
    rw [seq_setSeq_same]
    refine ⟨hin, hcause, rfl, haddr, hvector, fun k hk => (seq_setSeq_other _ _ hk).trans (hothers k hk), ?_⟩
    rw [hframe]
    rfl

end Sys2Proof.Machine
end

section
/-!
PROOFS. RF inputs take a written mode and range, and a detector tone stops when its input leaves array mode (R187, R318).
-/

namespace Sys2Proof.Machine

/-! Tones that stop (R318). -/

/-- Records in progress that are finished early change the buffer and TONE_STATUS only (R345). -/
theorem truncate_frame (s : State) (d t : Nat) :
    s.truncate d t = { s with acqs := (s.truncate d t).acqs, regs := (s.truncate d t).regs } := by
  rcases hc : (s.tone (sel d t)).collecting with _ | ⟨id, left⟩ <;> rcases hb : (s.tone (sel d t)).block with _ | ⟨id', n⟩ <;>
    simp only [State.truncate, hc, hb] <;> rfl

/-- A tone once it has stopped, its gate closed (R318). -/
def Tone.stopped (x : Tone) : Tone :=
  { x with on := false, armed := false, collecting := none, filled := none, block := none }

theorem stopTone_frame (s : State) (k : Nat) :
    s.stopTone k = { s with
      tones := (s.stopTone k).tones, acqs := (s.stopTone k).acqs, regs := (s.stopTone k).regs } := by
  simp only [State.stopTone]
  rw [truncate_frame]
  rfl

theorem tone_stopTone (s : State) (k j : Nat) :
    (s.stopTone k).tone j = if j = k then (s.tone k).stopped else s.tone j := by
  simp only [State.stopTone]
  rw [truncate_frame]
  exact tone_setTone _ _ _ _

theorem foldl_stopTone_frame (ks : List Nat) (s : State) :
    ks.foldl State.stopTone s = { s with
      tones := (ks.foldl State.stopTone s).tones, acqs := (ks.foldl State.stopTone s).acqs,
      regs := (ks.foldl State.stopTone s).regs } := by
  refine List.foldlRecOn (motive := fun t : State => t = { s with tones := t.tones, acqs := t.acqs, regs := t.regs }) _ _ rfl
    fun t ht k _ => ?_
  rw [stopTone_frame, ht]

theorem tone_foldl_stopTone (ks : List Nat) (s : State) (j : Nat) :
    (ks.foldl State.stopTone s).tone j = if j ∈ ks then (s.tone j).stopped else s.tone j := by
  induction ks generalizing s with
  | nil => rfl
  | cons k ks ih =>
    rw [List.foldl_cons, ih, tone_stopTone]
    by_cases hj : j = k
    · subst hj
      simp [Tone.stopped]
    · simp [hj]

/-- The tones of an input that the state lists. -/
def State.inputTones (s : State) (d i : Nat) : List Nat :=
  (s.tones.filter (fun p => selDie p.1 == d && selUnit p.1 / 256 == i)).map Prod.fst

theorem stopTones_eq (s : State) (d i : Nat) : s.stopTones d i = (s.inputTones d i).foldl State.stopTone s :=
  (List.foldl_map).symm

/-- A tone that the state does not list is stopped already. -/
theorem tone_stopTones (s : State) (d i j : Nat) : (s.stopTones d i).tone j =
    if selDie j = d ∧ selUnit j / 256 = i then (s.tone j).stopped else s.tone j := by
  rw [stopTones_eq, tone_foldl_stopTone]
  by_cases hlisted : j ∈ s.tones.map Prod.fst
  · have hmem : j ∈ s.inputTones d i ↔ selDie j = d ∧ selUnit j / 256 = i := by
      obtain ⟨p, hp, rfl⟩ := List.mem_map.1 hlisted
      constructor
      · intro h
        obtain ⟨q, hq, hqp⟩ := List.mem_map.1 h
        obtain ⟨-, hof⟩ := List.mem_filter.1 hq
        rw [← hqp]
        simpa using hof
      · intro h
        exact List.mem_map_of_mem (List.mem_filter.2 ⟨hp, by simpa using h⟩)
    simp only [hmem]
  · have hidle : s.tone j = {} := look_of_not_mem _ hlisted
    rw [hidle]
    exact (ite_self _).trans (ite_self _).symm

theorem selDie_sel {n : Nat} (d : Nat) (h : n < 8192) : selDie (sel d n) = d := by
  rw [selDie, sel]
  omega

theorem selUnit_sel {n : Nat} (d : Nat) (h : n < 8192) : selUnit (sel d n) = n := by
  rw [selUnit, sel]
  omega

/-! An input at its boundary (R187). -/

/-- An input that takes a mode and a range in cycle `cyc` (R187, R233). -/
def RfIn.applied (x : RfIn) (cyc mode range : Nat) : RfIn := { x with
  mode := mode, range := range, written := none, settling := x.settling || range != x.range,
  settle := if range = x.range then x.settle else cyc + 1250,
  rot := { x.rot with abandoned := x.rot.abandoned || (range != x.range && x.rot.begun && !x.rot.held) } }

/-- The tones of an input stop where the written mode has it leave array mode (R318). -/
def State.arrayLeft (s : State) (d i : Nat) : State :=
  if (s.rfIn (sel d i)).mode = 1 ∧ s.rdN Obj.INPUT_MODE (sel d i) ≠ 1 then s.stopTones d i else s

theorem arrayLeft_frame (s : State) (d i : Nat) :
    s.arrayLeft d i = { s with
      tones := (s.arrayLeft d i).tones, acqs := (s.arrayLeft d i).acqs, regs := (s.arrayLeft d i).regs } := by
  rw [State.arrayLeft]
  split
  · rw [stopTones_eq]
    exact foldl_stopTone_frame _ s
  · rfl

theorem rfIn_arrayLeft (s : State) (d i k : Nat) : (s.arrayLeft d i).rfIn k = s.rfIn k := by
  rw [arrayLeft_frame]
  rfl

theorem inputBoundary_of {s : State} {d i c : Nat} (hw : (s.rfIn (sel d i)).written = some c)
    (harray : (s.rfIn (sel d i)).mode = 1 → c < s.cyc)
    (hidle : (s.rfIn (sel d i)).mode ≠ 1 →
      s.wireRuns (sel d i) = false ∧ ∀ j : Nat, j < 16 → s.demodOpen d (16 * i + j) = false) :
    s.inputBoundary d i = true := by
  simp only [State.inputBoundary, hw]
  split
  · next hmode => exact decide_eq_true (harray hmode)
  · next hmode =>
    obtain ⟨hwire, hopen⟩ := hidle hmode
    have hnone : (List.range 16).any (fun m => s.demodOpen d (16 * i + m)) = false := by
      rw [List.any_eq_false]
      intro m hm
      rw [hopen m (List.mem_range.1 hm)]
      exact Bool.false_ne_true
    rw [hnone, hwire]
    rfl

theorem Rotation.abandoned_ite (x : Rotation) (b : Bool) :
    (if b = true then { x with abandoned := true } else x) = { x with abandoned := x.abandoned || b } := by
  cases b
  · rw [Bool.or_false, if_neg Bool.false_ne_true]
  · rw [Bool.or_true, if_pos rfl]

theorem settle_ite (range range' a b : Nat) :
    (if (range != range') = true then a else b) = if range = range' then b else a := by
  by_cases h : range = range' <;> simp [h]

theorem exec_inputModeApply {s : State} {d i : Nat} (hat : s.inputBoundary d i = true)
    (hmode : s.rdN Obj.INPUT_MODE (sel d i) ≤ 1) (hrange : s.rdN Obj.INPUT_RANGE (sel d i) ≤ 3) :
    exec (.inputModeApply d i) s = .next ((s.arrayLeft d i).setRfIn (sel d i)
      ((s.rfIn (sel d i)).applied s.cyc (s.rdN Obj.INPUT_MODE (sel d i)) (s.rdN Obj.INPUT_RANGE (sel d i)))) := by
  have hlegal : (decide (1 < s.rdN Obj.INPUT_MODE (sel d i)) || decide (3 < s.rdN Obj.INPUT_RANGE (sel d i))) = false := by
    simp [hmode, hrange]
  have hin := rfIn_arrayLeft s d i (sel d i)
  show execInputModeApply d i s = _
  simp only [execInputModeApply, hat, hlegal, unlessError, Bool.not_true, Bool.false_eq_true, if_false]
  rw [State.arrayLeft] at hin ⊢
  rw [hin]
  rw [Rotation.abandoned_ite, settle_ite]
  rfl

theorem exec_inputSettlingEnd {s : State} {d i : Nat} (hset : (s.rfIn (sel d i)).settling = true)
    (hcome : (s.rfIn (sel d i)).settle ≤ s.cyc) :
    exec (.inputSettlingEnd d i) s = .next (s.setRfIn (sel d i) { s.rfIn (sel d i) with settling := false }) := by
  show execInputSettlingEnd d i s = _
  rw [execInputSettlingEnd, if_pos (by rw [hset, Bool.true_and]; exact decide_eq_true hcome)]

end Sys2Proof.Machine
end

section
/-!
PROOFS. READ windows open (R192, R199–R202, R204).
-/

namespace Sys2Proof.Machine

/-! What a window's opening writes in the objects. -/

theorem rd_count_same (s : State) (id k n : Nat) : (s.count id k n).rd id k =
    if s.rdN id k + n < 2 ^ 32 then word (s.rdN id k + n) else (Config.pastLimit id k).setWidth 72 := by
  simp only [State.count, State.wrN]
  split <;> exact rd_wr_same s id k _

/-- What a counter reads once raised depends on its value alone. -/
theorem rd_count_congr {s t : State} {id k : Nat} (n : Nat) (h : t.rd id k = s.rd id k) :
    (t.count id k n).rd id k = (s.count id k n).rd id k := by
  rw [rd_count_same, rd_count_same, State.rdN, h, State.rdN]

/-! An earlier window ends (R200). -/

/-- A demodulator whose open window ends in the cycle before `c` (R200). -/
def Demod.cutShort (x : Demod) (c : Nat) : Demod :=
  { x with windows := x.windows.map (fun w => if w.start < c ∧ c ≤ w.last then { w with last := c - 1 } else w) }

theorem cutShort_of_closed {x : Demod} {c : Nat}
    (h : x.windows.any (fun w => decide (w.start < c) && decide (c ≤ w.last)) = false) : x.cutShort c = x := by
  have hsame : x.windows.map (fun w => if w.start < c ∧ c ≤ w.last then { w with last := c - 1 } else w) = x.windows := by
    refine (List.map_congr_left fun w hw => if_neg ?_).trans (List.map_id' _)
    have hclosed := List.any_eq_false.1 h w hw
    simpa using hclosed
  rw [Demod.cutShort, hsame]

theorem phaseNow_cutShort (x : Demod) (c c' : Nat) : (x.cutShort c).phaseNow c' = x.phaseNow c' := rfl

/-- From `s` to `t`, a demodulator has been replaced; beside it, DEMOD_STATUS, TRUNCATED_READS and raw capture may have
changed. -/
structure DemodReplaced (s t : State) (k : Nat) (x : Demod) : Prop where
  demod : ∀ j : Nat, t.demod j = if j = k then x else s.demod j
  objects : ∀ id j : Nat, id ≠ Obj.DEMOD_STATUS → id ≠ Obj.TRUNCATED_READS → t.rd id j = s.rd id j
  frame : t = { s with demods := t.demods, regs := t.regs, acqs := t.acqs }

theorem truncateWindow_replaces (s : State) (d m : Nat) :
    DemodReplaced s (s.truncateWindow d m) (sel d m) ((s.demod (sel d m)).cutShort s.cyc) ∧
      (s.truncateWindow d m).acqs = s.acqs := by
  simp only [State.truncateWindow]
  split
  · refine ⟨⟨fun j => ?_, fun id j hst htr => ?_, ?_⟩, ?_⟩
    · rw [inc_frame]
      exact demod_setDemod s (sel d m) j _
    · rw [rd_inc_other _ fun h => htr h.1, rd_setBit_other _ _ fun h => hst h.1]
      rfl
    · rw [inc_frame]
      rfl
    · rw [inc_frame]
      rfl
  · next h =>
    rw [cutShort_of_closed (by simpa using h)]
    refine ⟨⟨fun j => ?_, fun _ _ _ _ => rfl, rfl⟩, rfl⟩
    split
    · next hj => rw [hj]
    · rfl

/-! The trace of a window is offered (R214). -/

theorem traceOffer_reads (s : State) (d m len : Nat) (phase freq : BitVec 48) :
    let t := (s.traceOffer d m len phase freq).2
    t.demods = s.demods ∧ (∀ id j : Nat, id ≠ Obj.DEMOD_STATUS → t.rd id j = s.rd id j) ∧
      t = { s with regs := t.regs, acqs := t.acqs } := by
  simp only [State.traceOffer]
  split
  · exact ⟨rfl, fun _ _ _ => rfl, rfl⟩
  · exact ⟨rfl, fun id j hst => rd_setBit_other s 7 fun h => hst h.1, rfl⟩

/-! A window opens (R192, R199, R204). -/

/-- The running phase at the first cycle of a window (R192). -/
def State.runPhase (s : State) (k : Nat) : BitVec 48 :=
  if bit (s.rd Obj.DEMOD_CONTROL k) 0 then 0 else (s.demod k).phaseNow s.cyc

/-- The phase that a window latches: DEMOD_PHASE added to the running phase (R190). -/
def State.startPhase (s : State) (k : Nat) : BitVec 48 := s.runPhase k + (s.rd Obj.DEMOD_PHASE k).setWidth 48 <<< 16

/-- The frequency word that a window latches (R192). -/
def State.freqWord (s : State) (k : Nat) : BitVec 48 := (s.rd Obj.DEMOD_FREQ k).setWidth 48

/-- The parameter set that a window latches (R204). -/
def State.appliedSet (s : State) (k : Nat) : List Word :=
  lookRange 0 (look [] (look [] s.doms (if (s.demod k).kset = 0 then Obj.DEMOD_SET_0 else Obj.DEMOD_SET_1)) k) 0 10

/-- The window that a READ opens in this cycle, with the record that takes its trace (R192, R199, R204). -/
def State.newWindow (s : State) (d m : Nat) (r : ReadReq) (taken : Option Nat) : Window :=
  { start := s.cyc, time := s.clock.now, last := s.cyc + r.len - 1, trace := taken, nopost := r.nopost,
    kset := (s.demod (sel d m)).kset,
    phase := s.startPhase (sel d m), freq := s.freqWord (sel d m),
    settling := decide (s.cyc < (s.rfIn (sel d (m / 16))).settle), set := s.appliedSet (sel d m) }

/-- A demodulator once a READ has opened a window in this cycle (R192, R199, R200). -/
def State.opened (s : State) (d m : Nat) (r : ReadReq) (taken : Option Nat) : Demod :=
  { (s.demod (sel d m)).cutShort s.cyc with
    windows := ((s.demod (sel d m)).cutShort s.cyc).windows ++ [s.newWindow d m r taken],
    phase := s.runPhase (sel d m), phaseAt := s.cyc, freq := s.freqWord (sel d m), next := none }

/-- The record that raw capture gives to the trace of a READ, and the state in which it has been offered (R214). -/
def State.traceTaken (s : State) (d m : Nat) (r : ReadReq) (phase freq : BitVec 48) : Option Nat × State :=
  if r.trace then s.traceOffer d m r.len phase freq else (none, s)

theorem traceTaken_reads (s : State) (d m : Nat) (r : ReadReq) (phase freq : BitVec 48) :
    let p := s.traceTaken d m r phase freq
    p.2.demods = s.demods ∧ (∀ id j : Nat, id ≠ Obj.DEMOD_STATUS → p.2.rd id j = s.rd id j) ∧
      p.2 = { s with regs := p.2.regs, acqs := p.2.acqs } ∧ (r.trace = false → p = (none, s)) := by
  simp only [State.traceTaken]
  split
  · next h =>
    obtain ⟨hdemods, hobjects, hframe⟩ := traceOffer_reads s d m r.len phase freq
    exact ⟨hdemods, hobjects, hframe, fun h' => absurd (h.symm.trans h') (by decide)⟩
  · exact ⟨rfl, fun _ _ _ => rfl, rfl, fun _ => rfl⟩

theorem openWindow_opens (s : State) (d m : Nat) (r : ReadReq) :
    ∃ taken, DemodReplaced s (s.openWindow d m r) (sel d m) (s.opened d m r taken) ∧
      (r.trace = false → taken = none ∧ (s.openWindow d m r).acqs = s.acqs) := by
  obtain ⟨⟨hdemod, hobjects, hframe⟩, hacqs⟩ := truncateWindow_replaces s d m
  generalize hu : s.truncateWindow d m = u at hdemod hobjects hframe hacqs
  have hfreq : u.rd Obj.DEMOD_FREQ (sel d m) = s.rd Obj.DEMOD_FREQ (sel d m) := hobjects _ _ (by decide) (by decide)
  have hcontrol : u.rd Obj.DEMOD_CONTROL (sel d m) = s.rd Obj.DEMOD_CONTROL (sel d m) :=
    hobjects _ _ (by decide) (by decide)
  have hoffset : u.rd Obj.DEMOD_PHASE (sel d m) = s.rd Obj.DEMOD_PHASE (sel d m) := hobjects _ _ (by decide) (by decide)
  have hcut : u.demod (sel d m) = (s.demod (sel d m)).cutShort s.cyc := (hdemod _).trans (if_pos rfl)
  have hdoms : u.doms = s.doms := by rw [hframe]
  obtain ⟨tdemods, tobjects, tframe, tnone⟩ :=
    traceTaken_reads u d m r (s.startPhase (sel d m)) (s.freqWord (sel d m))
  generalize hp : u.traceTaken d m r (s.startPhase (sel d m)) (s.freqWord (sel d m)) = p at tdemods tobjects tframe tnone
  have htdemod : ∀ j, p.2.demod j = u.demod j := fun j => congrArg (look ({} : Demod) · j) tdemods
  have hopen : s.openWindow d m r = p.2.setDemod (sel d m) (s.opened d m r p.1) := by
    simp only [State.traceTaken, State.startPhase, State.runPhase, State.freqWord] at hp
    simp only [State.openWindow, hu, hfreq, hcontrol, hoffset, hcut, hdoms, phaseNow_cutShort, hp, htdemod]
    rfl
  refine ⟨p.1, ⟨fun j => ?_, fun id j hst htr => ?_, ?_⟩, fun h => ?_⟩ <;> rw [hopen]
  · rw [demod_setDemod, htdemod, hdemod]
    split <;> rfl
  · exact (tobjects id j hst).trans (hobjects id j hst htr)
  · rw [tframe, hframe]
    rfl
  · rw [tnone h]
    exact ⟨rfl, hacqs⟩

/-! READs that are due (R199, R201, R202). -/

/-- The READs of a demodulator whose windows open now leave it (R199). -/
def State.readsTaken (s : State) (d m : Nat) : State :=
  s.setDemod (sel d m) { s.demod (sel d m) with
    reads := (s.demod (sel d m)).reads.filter (fun r => !decide (r.opens ≤ s.now)) }

/-- Of several READs those beyond one are counted as collided (R201). -/
def State.readsCollided (s : State) (d m n : Nat) : State :=
  if n = 0 then s.readsTaken d m
  else ((s.readsTaken d m).setBit Obj.DEMOD_STATUS (sel d m) 4).count Obj.COLLIDED_READS (sel d m) n

/-- Of two READs that of the higher-numbered sequencer (R201). -/
def ReadReq.higher (a b : ReadReq) : ReadReq := if a.seq < b.seq then b else a

theorem exec_windowOpen_refused {s : State} {d m : Nat} {r : ReadReq} {rest : List ReadReq}
    (hdue : (s.demod (sel d m)).reads.filter (fun r => decide (r.opens ≤ s.now)) = r :: rest)
    (href : s.readRefused d m = true) :
    exec (.windowOpen d m) s = .next (((s.readsTaken d m).setBit Obj.DEMOD_STATUS (sel d m) 6).count
      Obj.REFUSED_READS (sel d m) (rest.length + 1)) := by
  show execWindowOpen d m s = _
  simp only [execWindowOpen, hdue, href, if_true]
  rfl

theorem exec_windowOpen_opens {s t : State} {d m : Nat} {r : ReadReq} {rest : List ReadReq}
    (hdue : (s.demod (sel d m)).reads.filter (fun r => decide (r.opens ≤ s.now)) = r :: rest)
    (href : s.readRefused d m = false) (hfreq : bits (s.rd Obj.DEMOD_FREQ (sel d m)) 63 48 = 0)
    (hcontrol : bits (s.rd Obj.DEMOD_CONTROL (sel d m)) 31 2 = 0)
    (ht : (s.readsCollided d m rest.length).openWindow d m (rest.foldl ReadReq.higher r) = t)
    (hset : setBad (((t.demod (sel d m)).windows.getLast?.map (·.set)).getD []) = false) :
    exec (.windowOpen d m) s = .next t := by
  have hmarked : (if rest.isEmpty = true then s.readsTaken d m
      else ((s.readsTaken d m).setBit Obj.DEMOD_STATUS (sel d m) 4).count Obj.COLLIDED_READS (sel d m) rest.length) =
      s.readsCollided d m rest.length := by
    cases rest <;> rfl
  have hexec : execWindowOpen d m s = unlessError (bits (s.rd Obj.DEMOD_FREQ (sel d m)) 63 48 != 0 ||
      bits (s.rd Obj.DEMOD_CONTROL (sel d m)) 31 2 != 0 ||
      setBad (((t.demod (sel d m)).windows.getLast?.map (·.set)).getD [])) t := by
    rw [← ht, ← hmarked]
    simp only [execWindowOpen, hdue, href, Bool.false_eq_true, if_false]
    rfl
  show execWindowOpen d m s = _
  rw [hexec, hfreq, hcontrol, hset]
  rfl

theorem readsCollided_reads (s : State) (d m n : Nat) :
    let t := s.readsCollided d m n
    (∀ j : Nat, t.demod j = (s.readsTaken d m).demod j) ∧
    (∀ id j : Nat, id ≠ Obj.DEMOD_STATUS → id ≠ Obj.COLLIDED_READS → t.rd id j = s.rd id j) ∧
    (n ≠ 0 → t.rd Obj.COLLIDED_READS (sel d m) =
      (s.count Obj.COLLIDED_READS (sel d m) n).rd Obj.COLLIDED_READS (sel d m)) ∧
    t = { s with demods := t.demods, regs := t.regs } := by
  simp only [State.readsCollided]
  split
  · next hn => exact ⟨fun _ => rfl, fun _ _ _ _ => rfl, fun h => absurd hn h, rfl⟩
  · refine ⟨fun j => ?_, fun id j hst hcol => ?_, fun _ => ?_, ?_⟩
    · rw [count_frame]
      rfl
    · rw [rd_count_other _ _ fun h => hcol h.1, rd_setBit_other _ _ fun h => hst h.1]
      rfl
    · exact rd_count_congr n (rd_setBit_other _ _ fun h => absurd h.1 (by decide))
    · rw [count_frame]
      rfl

/-- Neither the READs that leave nor the collided ones that are counted change what a window latches. -/
theorem opened_readsCollided (s : State) (d m n : Nat) (r : ReadReq) (taken : Option Nat) :
    (s.readsCollided d m n).opened d m r taken = { s.opened d m r taken with
      reads := (s.demod (sel d m)).reads.filter (fun r => !decide (r.opens ≤ s.now)) } := by
  obtain ⟨hdemod, hobjects, -, hframe⟩ := readsCollided_reads s d m n
  generalize s.readsCollided d m n = u at hdemod hobjects hframe
  have hfreq : u.rd Obj.DEMOD_FREQ (sel d m) = s.rd Obj.DEMOD_FREQ (sel d m) := hobjects _ _ (by decide) (by decide)
  have hcontrol : u.rd Obj.DEMOD_CONTROL (sel d m) = s.rd Obj.DEMOD_CONTROL (sel d m) :=
    hobjects _ _ (by decide) (by decide)
  have hoffset : u.rd Obj.DEMOD_PHASE (sel d m) = s.rd Obj.DEMOD_PHASE (sel d m) := hobjects _ _ (by decide) (by decide)
  have hleft := (hdemod (sel d m)).trans ((demod_setDemod s _ _ _).trans (if_pos rfl))
  have hinputs : u.rfIn = s.rfIn := by rw [hframe]; rfl
  have hclock : u.clock = s.clock := by rw [hframe]
  have hdoms : u.doms = s.doms := by rw [hframe]
  simp only [State.opened, State.newWindow, State.startPhase, State.runPhase, State.freqWord, State.appliedSet, State.cyc,
    hfreq, hcontrol, hoffset, hleft, hinputs, hclock, hdoms]
  rfl

/-- The governing READ opens its window, the others are counted (R199–R201). -/
theorem readsCollided_openWindow (s : State) (d m n : Nat) (r : ReadReq) :
    let t := (s.readsCollided d m n).openWindow d m r
    ∃ taken, t.demod (sel d m) = { s.opened d m r taken with
        reads := (s.demod (sel d m)).reads.filter (fun r => !decide (r.opens ≤ s.now)) } ∧
      (∀ k : Nat, k ≠ sel d m → t.demod k = s.demod k) ∧
      (n ≠ 0 → t.rd Obj.COLLIDED_READS (sel d m) =
        (s.count Obj.COLLIDED_READS (sel d m) n).rd Obj.COLLIDED_READS (sel d m)) ∧
      t = { s with demods := t.demods, regs := t.regs, acqs := t.acqs } ∧
      (r.trace = false → taken = none ∧ t.acqs = s.acqs) := by
  obtain ⟨udemod, -, ucollided, uframe⟩ := readsCollided_reads s d m n
  obtain ⟨taken, ⟨tdemod, tobjects, tframe⟩, hnone⟩ := openWindow_opens (s.readsCollided d m n) d m r
  refine ⟨taken, ?_, fun k hk => ?_, fun hn => ?_, ?_, fun h => ?_⟩
  · rw [tdemod, if_pos rfl, opened_readsCollided]
  · rw [tdemod, if_neg hk, udemod]
    exact (demod_setDemod s _ _ _).trans (if_neg hk)
  · rw [tobjects _ _ (by decide) (by decide), ucollided hn]
  · rw [tframe, uframe]
  · obtain ⟨htaken, hacqs⟩ := hnone h
    refine ⟨htaken, hacqs.trans ?_⟩
    rw [uframe]

end Sys2Proof.Machine
end

section
/-!
PROOFS. READ windows close (R197, R206–R210, R216), and what the statement on inputs and windows says.
-/

namespace Sys2Proof.Machine

/-! A window closes (R197, R206–R210). -/

/-- An uncorrectable weight word of a window is noted and logged (R216). -/
def State.weightLost (s : State) (d m w : Nat) : State :=
  let a := m * 2048 + w % 2048
  (((s.setBit Obj.DEMOD_STATUS (sel d m) 8).inc Obj.WEIGHT_UNCORR_COUNT (sel d 0)).wrN Obj.WEIGHT_UNCORR_ADDR (sel d 0) a).log
    d 0x04 0 (sel d m) a

theorem weightLost_frame (s : State) (d m w : Nat) :
    s.weightLost d m w = { s with dies := (s.weightLost d m w).dies, regs := (s.weightLost d m w).regs } := by
  obtain ⟨regs, hnoted⟩ : ∃ regs, ((s.setBit Obj.DEMOD_STATUS (sel d m) 8).inc Obj.WEIGHT_UNCORR_COUNT (sel d 0)).wrN
      Obj.WEIGHT_UNCORR_ADDR (sel d 0) (m * 2048 + w % 2048) = { s with regs := regs } :=
    ⟨_, by rw [inc_frame]; rfl⟩
  rw [State.weightLost, hnoted, log_frame]

/-- Bad weight words change the objects and the fault log only (R216). -/
theorem badWeights_frame (s : State) (d m : Nat) (bad : List Nat) :
    s.badWeights d m bad = { s with dies := (s.badWeights d m bad).dies, regs := (s.badWeights d m bad).regs } := by
  have heq : s.badWeights d m bad = bad.foldl (fun t w => t.weightLost d m w) s := rfl
  rw [heq]
  refine List.foldlRecOn (motive := fun t : State => t = { s with dies := t.dies, regs := t.regs }) bad _ rfl
    fun t ht w _ => ?_
  rw [weightLost_frame, ht]

theorem traceClosed_frame (s : State) (d n : Nat) (record : Option Nat) :
    s.traceClosed d n record = { s with acqs := (s.traceClosed d n record).acqs } := by
  simp only [State.traceClosed]
  split <;> rfl

/-- The value of a window's point under its weights and samples (R206–R208). -/
def Window.value (w : Window) (suspect : Bool) (p : Int × Int) : BitVec 8 :=
  BitVec.ofNat 8 (w.kset * 16 + b2n suspect * 8 + b2n (discriminate w.set p.1 p.2).2 * 4 + (discriminate w.set p.1 p.2).1)

/-- A demodulator whose oldest complete window has given its result (R210). -/
def Demod.closed (x : Demod) (w : Window) (rest : List Window) (p : Int × Int) (v : BitVec 8) : Demod :=
  { x with windows := rest,
           results := x.results ++ [⟨w.last, BitVec.ofInt 36 p.1 ++ BitVec.ofInt 36 p.2, w.time, v, w.nopost, false⟩] }

/-- What a window's end notes beside its result: corrected and bad weight words (R216), SUSPECT (R219) and the trace's end
(R214). -/
def State.closeNoted (s : State) (d m n : Nat) (w : Window) (bad : List Nat) (fixed : Nat) (suspect : Bool) : State :=
  let t := (s.count Obj.WEIGHT_CORRECTED (sel d 0) fixed).badWeights d m bad
  (if suspect then t.setBit Obj.DEMOD_STATUS (sel d m) 3 else t).traceClosed d n w.trace

theorem closeNoted_frame (s : State) (d m n : Nat) (w : Window) (bad : List Nat) (fixed : Nat) (suspect : Bool) :
    let t := s.closeNoted d m n w bad fixed suspect
    t = { s with regs := t.regs, dies := t.dies, acqs := t.acqs } := by
  simp only [State.closeNoted]
  rw [traceClosed_frame]
  cases suspect
  · rw [if_neg Bool.false_ne_true, badWeights_frame, count_frame]
  · rw [if_pos rfl, setBit_frame, badWeights_frame, count_frame]

/-- A value posted on the fixed timeline of its window, unless NOPOST is set (R209, R210). -/
def State.valuePosted (s : State) (d m : Nat) (w : Window) (v : BitVec 8) : State :=
  if w.nopost then s else s.offerPost d (m / 16) (w.last + 21) m v (.disc m)

/-- A demodulator replaced as its window closes, with what is noted and posted. -/
theorem windowClosed_reads (s : State) (d m n : Nat) (x : Demod) (w : Window) (bad : List Nat) (fixed : Nat) (suspect : Bool)
    (v : BitVec 8) :
    let t := ((s.setDemod (sel d m) x).closeNoted d m n w bad fixed suspect).valuePosted d m w v
    (∀ k : Nat, t.demod k = if k = sel d m then x else s.demod k) ∧
    (w.nopost = false → ∀ k : Nat, t.port k = if k = d * 16 + m / 16 then { s.port (d * 16 + m / 16) with
      posts := (s.port (d * 16 + m / 16)).posts ++ [Post.mk (w.last + 21) m v (.disc m)] } else s.port k) ∧
    (w.nopost = true → t.ports = s.ports) ∧
    t = { s with demods := t.demods, ports := t.ports, regs := t.regs, dies := t.dies, acqs := t.acqs } := by
  have hnoted := closeNoted_frame (s.setDemod (sel d m) x) d m n w bad fixed suspect
  generalize (s.setDemod (sel d m) x).closeNoted d m n w bad fixed suspect = u at hnoted
  have hdemod : ∀ k : Nat, u.demod k = if k = sel d m then x else s.demod k := fun k => by
    rw [hnoted]
    exact demod_setDemod s _ k _
  have hports : u.ports = s.ports := by
    rw [hnoted]
    rfl
  have hport : u.port = s.port := by
    rw [hnoted]
    rfl
  have hframe : u = { s with demods := u.demods, regs := u.regs, dies := u.dies, acqs := u.acqs } := by
    rw [hnoted]
    rfl
  simp only [State.valuePosted]
  split
  · next hno =>
    refine ⟨hdemod, fun h => absurd (h.symm.trans hno) (by decide), fun _ => hports, ?_⟩
    rw [hframe]
  · next hpost =>
    refine ⟨hdemod, fun _ k => ?_, fun h => absurd h hpost, ?_⟩
    · rw [State.offerPost, port_setPort, hport]
    · rw [hframe]
      rfl

theorem exec_windowClose {s : State} {d m n : Nat} {w : Window} {rest : List Window} (bad : List Nat) (fixed : Nat)
    {p : Int × Int} {suspect : Bool}
    (hw : takeFirst (fun w : Window => decide (w.last + 14 ≤ s.cyc)) (s.demod (sel d m)).windows = some (w, rest))
    (hn : n = w.last + 1 - w.start)
    (hp : p = iqPoint w bad (decimatedFrom d (m / 16) w.start w.phase w.freq n))
    (hs : suspect = (clippedOver d (m / 16) w.start n || w.settling || !bad.isEmpty)) :
    exec (.windowClose d m () () bad fixed) s = .next (((s.setDemod (sel d m)
      ((s.demod (sel d m)).closed w rest p (w.value suspect p))).closeNoted d m n w bad fixed suspect).valuePosted d m w
        (w.value suspect p)) := by
  show execWindowClose d m () () bad fixed s = _
  simp only [execWindowClose, hw, ← hn, ← hp, ← hs]
  rfl

/-- Settles O22: an input takes the written mode and range at its boundary (R187) and its tones stop with array mode (R318);
of the READs that are due the governing one opens its window (R199–R201) or all are refused (R202); a window that closes
gives its point, and its post unless NOPOST is set (R197, R206–R210). The samples are those of a free signal through free
filter coefficients (log 62). -/
theorem inputsAndWindows : Obligations.InputsAndWindows := by
  unfold Obligations.InputsAndWindows
  refine ⟨fun d i c mode range s hw harray hidle hmode hlegal hrange hrlegal => ?mode,
    fun d i s hset hcome => exec_inputSettlingEnd hset hcome,
    fun d m r top rest set run phase s hdue href htop hfreq hcontrol hset hgood hrun hphase => ?opens,
    fun d m r rest s hdue href => exec_windowOpen_refused hdue href,
    fun d m fixed n bad w rest sum p suspect v s hw hn hsum hp hsuspect hv => ?close⟩
  case mode =>
    subst hmode hrange
    have hin : ∀ x : RfIn, ((s.arrayLeft d i).setRfIn (sel d i) x).rfIn (sel d i) = x := fun x =>
      (rfIn_setRfIn _ _ _ _).trans (if_pos rfl)
    have htone : ∀ (x : RfIn) (k : Nat), ((s.arrayLeft d i).setRfIn (sel d i) x).tone k = (s.arrayLeft d i).tone k :=
      fun _ _ => rfl
    refine ⟨_, exec_inputModeApply (inputBoundary_of hw harray hidle) hlegal hrlegal, ?_⟩
    rw [hin]
    refine ⟨rfl, rfl, fun k hk => ?_, fun h1 h0 n hn hni => ?_, fun h => ?_, fun k hk => ?_, ?_⟩
    · rw [rfIn_setRfIn, if_neg hk, rfIn_arrayLeft]
    · rw [htone, State.arrayLeft, if_pos ⟨h1, by omega⟩, tone_stopTones,
        if_pos ⟨selDie_sel d (by omega), by rw [selUnit_sel d (by omega), hni]⟩]
      exact ⟨rfl, rfl, rfl⟩
    · rw [State.arrayLeft, if_neg (by tauto)]
      rfl
    · rw [htone, State.arrayLeft]
      split
      · rw [tone_stopTones, if_neg (by tauto)]
      · rfl
    · rw [arrayLeft_frame]
      rfl
  case opens =>
    subst hrun hphase hset
    obtain rfl : top = rest.foldl ReadReq.higher r := htop
    obtain ⟨taken, hdemod, hothers, hcollided, hframe, hnone⟩ :=
      readsCollided_openWindow s d m rest.length (rest.foldl ReadReq.higher r)
    generalize htop : rest.foldl ReadReq.higher r = top at hdemod hothers hcollided hframe hnone ⊢
    generalize ht : (s.readsCollided d m rest.length).openWindow d m top = t at hdemod hothers hcollided hframe hnone
    have hwindows : (t.demod (sel d m)).windows =
        ((s.demod (sel d m)).cutShort s.cyc).windows ++ [s.newWindow d m top taken] := by rw [hdemod]; rfl
    have hnewest : (t.demod (sel d m)).windows.getLast? = some (s.newWindow d m top taken) := by
      rw [hwindows, List.getLast?_concat]
    refine ⟨t, exec_windowOpen_opens hdue href hfreq hcontrol (by rw [htop, ht]) ?_, ?_, ?_,
      ⟨s.newWindow d m top taken, hnewest, rfl, hnone⟩,
      fun h => hcollided (mt List.length_eq_zero_iff.1 h), hothers, hframe⟩
    · rw [hnewest]
      exact hgood
    · rw [hdemod]
      rfl
    · rw [hwindows, List.dropLast_concat]
      rfl
  case close =>
    obtain rfl : v = w.value suspect p := hv
    have hpoint : p = iqPoint w bad (decimatedFrom d (m / 16) w.start w.phase w.freq n) := by
      rw [hp, hsum]
      rfl
    obtain ⟨hdemod, hport, hports, hframe⟩ := windowClosed_reads s d m n
      ((s.demod (sel d m)).closed w rest p (w.value suspect p)) w bad fixed suspect (w.value suspect p)
    exact ⟨_, exec_windowClose bad fixed hw hn hpoint hsuspect, (hdemod _).trans (if_pos rfl),
      fun h => ⟨(hport h _).trans (if_pos rfl), fun k hk => (hport h k).trans (if_neg hk)⟩, hports,
      fun k hk => (hdemod k).trans (if_neg hk), hframe⟩

end Sys2Proof.Machine
end

section
/-!
PROOFS. Slices of an RF input: rotation, calibration, retirement and restoration (R222–R233).
-/

namespace Sys2Proof.Machine

/-! What the writes of objects leave. -/

theorem rfIn_setRfIn_same (s : State) (k : Nat) (x : RfIn) : (s.setRfIn k x).rfIn k = x :=
  (rfIn_setRfIn s k k x).trans (if_pos rfl)

theorem rfIn_setRfIn_other (s : State) {k j : Nat} (x : RfIn) (h : j ≠ k) : (s.setRfIn k x).rfIn j = s.rfIn j :=
  (rfIn_setRfIn s k j x).trans (if_neg h)

theorem rfIn_inc (s : State) (id k j : Nat) : (s.inc id k).rfIn j = s.rfIn j := by
  rw [inc_frame]
  rfl

theorem rfIn_log (s : State) (d cls action unit detail j : Nat) : (s.log d cls action unit detail).rfIn j = s.rfIn j := by
  rw [log_frame]
  rfl

theorem dw_congr {s t : State} (h : t.doms = s.doms) (id k w : Nat) : t.dw id k w = s.dw id k w := by
  rw [State.dw, h, State.dw]

/-! Corrections (R222). -/

theorem correction_of_corr {s : State} {k slice : Nat} {c : Int × Int × Int}
    (h : (s.rfIn k).rot.corr[slice]? = some c) : s.correction k slice = c := by
  simp only [State.correction, h]

theorem corrections_congr {s t : State} {k : Nat} (hcorr : (t.rfIn k).rot.corr = (s.rfIn k).rot.corr)
    (hdoms : t.doms = s.doms) : t.corrections k = s.corrections k := by
  refine List.map_congr_left fun slice _ => ?_
  simp only [State.correction, hcorr, dw_congr hdoms]

theorem getElem?_corrections_set (s : State) (k : Nat) {slice : Nat} (c : Int × Int × Int) (h : slice < 17) :
    ((s.corrections k).set slice c)[slice]? = some c :=
  List.getElem?_set_self (by simpa [State.corrections] using h)

/-! A step of rotation ends or begins (R223, R224, R233). -/

/-- A rotation whose step begins in a cycle, at the first or again (R224, R233). -/
def Rotation.anew (r : Rotation) (cyc : Nat) : Rotation :=
  { r with begun := true, held := false, start := cyc, calibrated := false, failed := false, abandoned := false,
           undo := none }

/-- A rotation once the calibrated slice and the slice of the next position have changed places (R223). -/
def Rotation.swapped (r : Rotation) (cyc : Nat) (hold : Bool) : Rotation :=
  { r with step := r.step + 1, start := cyc, out := r.pos.getD ((r.step + 1) % 16) 0,
           pos := r.pos.set ((r.step + 1) % 16) r.out, calibrated := false, failed := false, held := hold,
           done := r.done + 1, restoring := r.restoring && r.failed }

/-- A correction that waits for the slice out of service enters it (R222). -/
def State.waitingEntered (s : State) (k : Nat) : State :=
  if (s.rfIn k).rot.fresh.contains (s.rfIn k).rot.out then s.enterTrim k (s.rfIn k).rot.out else s

theorem waitingEntered_reads (s : State) (k : Nat) :
    let r := (s.rfIn k).rot
    let t := s.waitingEntered k
    (∃ corr fresh, t.rfIn k = { s.rfIn k with rot := { r with corr := corr, fresh := fresh } } ∧
      (r.out ∈ r.fresh → r.out < 17 → corr[r.out]? = some (trimOf (s.dw Obj.IN_TRIM k r.out)))) ∧
    (∀ j : Nat, j ≠ k → t.rfIn j = s.rfIn j) ∧ t = { s with inputs := t.inputs } := by
  dsimp only [State.waitingEntered]
  split
  · exact ⟨⟨_, _, rfIn_setRfIn_same _ _ _, fun _ h => getElem?_corrections_set s k _ h⟩,
      fun j hj => rfIn_setRfIn_other _ _ hj, rfl⟩
  · next h =>
    exact ⟨⟨_, _, rfl, fun hmem => absurd (List.contains_iff_mem.2 hmem) h⟩, fun _ _ => rfl, rfl⟩

/-- The step of an input ends with the swap (R223). -/
def State.swapped (s : State) (k : Nat) (hold : Bool) : State :=
  let t := s.waitingEntered k
  (t.setRfIn k { t.rfIn k with rot := (t.rfIn k).rot.swapped s.cyc hold }).inc Obj.CAL_STEPS k

/-- What ROTATION_STEP does at a frame boundary of an input that is on and has no retired slice. -/
theorem exec_rotationStep {d i : Nat} {s : State} (hon : s.domOn d (domIn i) = true)
    (hnone : s.retiredSlice (sel d i) = none) (hframe : s.atFrame = true) :
    let x := s.rfIn (sel d i)
    let hold := bit (s.rd Obj.CAL_CONTROL (sel d i)) 0
    exec (.rotationStep d i) s = .next (
      if x.rot.begun = false ∨ x.rot.held = true then
        s.setRfIn (sel d i) { x with rot := if hold then { x.rot with begun := true, held := true } else x.rot.anew s.cyc }
      else if s.cyc < x.rot.start + 154400 then s
      else if x.rot.retire then s.retireSlice d i x.rot.out
      else if x.rot.abandoned then s.setRfIn (sel d i) { x with rot := x.rot.anew s.cyc }
      else s.swapped (sel d i) hold) := by
  have hguard : (!s.domOn d (domIn i) || (s.retiredSlice (sel d i)).isSome || !s.atFrame) = false := by
    rw [hon, hnone, hframe]
    rfl
  obtain ⟨⟨corr, fresh, hin, -⟩, -⟩ := waitingEntered_reads s (sel d i)
  rw [State.waitingEntered] at hin
  show execRotationStep d i s = _
  simp only [execRotationStep, hguard, Bool.or_eq_true, Bool.not_eq_true', Bool.false_eq_true, if_false, State.swapped,
    State.waitingEntered, hin]
  split_ifs <;> rfl

theorem swapped_reads (s : State) (k : Nat) (hold : Bool) :
    let r := (s.rfIn k).rot
    let t := s.swapped k hold
    (∃ corr fresh, t.rfIn k = { s.rfIn k with
      rot := ({ r with corr := corr, fresh := fresh } : Rotation).swapped s.cyc hold }) ∧
    (r.out ∈ r.fresh → r.out < 17 → t.correction k r.out = trimOf (s.dw Obj.IN_TRIM k r.out)) ∧
    t.regs = (s.inc Obj.CAL_STEPS k).regs ∧
    (∀ j : Nat, j ≠ k → t.rfIn j = s.rfIn j) ∧ t = { s with inputs := t.inputs, regs := t.regs } := by
  obtain ⟨⟨corr, fresh, hin, hcorr⟩, hothers, hframe⟩ := waitingEntered_reads s k
  have hread : (s.swapped k hold).rfIn k =
      { s.rfIn k with rot := ({ (s.rfIn k).rot with corr := corr, fresh := fresh } : Rotation).swapped s.cyc hold } := by
    rw [State.swapped, rfIn_inc, rfIn_setRfIn_same, hin]
  have hregs : (s.waitingEntered k).regs = s.regs := by
    rw [hframe]
  refine ⟨⟨corr, fresh, hread⟩, fun hmem hlt => correction_of_corr ?_,
    regs_inc_congr (t := State.setRfIn _ _ _) hregs _ k, fun j hj => ?_, ?_⟩
  · rw [hread]
    exact hcorr hmem hlt
  · rw [State.swapped, rfIn_inc, rfIn_setRfIn_other _ _ hj, hothers j hj]
  · rw [State.swapped, inc_frame, hframe]
    rfl

/-! Retirement and restoration (R230, R231). -/

theorem retiredSlice_put {s : State} {k : Nat} {x : Nat × List Nat} {slices : Tab (Nat × List Nat)}
    (h : s.nv.slices = put (0, []) slices k x) :
    s.retiredSlice k = if x.1 = 0 then none else some (x.1 - 1) := by
  obtain ⟨n, pos⟩ := x
  rw [State.retiredSlice, h, look_put_same]
  cases n <;> rfl

theorem retireSlice_reads (s : State) (d i slice : Nat) :
    let t := s.retireSlice d i slice
    t.retiredSlice (sel d i) = some slice ∧
    (∀ j : Nat, t.rfIn j = if j = sel d i then { s.rfIn (sel d i) with
      rot := { (s.rfIn (sel d i)).rot with figuresAt := s.cyc, retire := false } } else s.rfIn j) ∧
    t.rd Obj.SPUR_AT_RETIRE (sel d i) = s.rd Obj.SPUR_IMAGE (sel d i) ∧
    t = { s with inputs := t.inputs, regs := t.regs, dies := t.dies, nv := t.nv } := by
  dsimp only [State.retireSlice]
  refine ⟨?_, fun j => ?_, ?_, ?_⟩
  · refine (retiredSlice_put (x := (slice + 1, (s.rfIn (sel d i)).rot.pos)) (slices := s.nv.slices) ?_).trans rfl
    rw [log_frame]
    rfl
  · rw [rfIn_log]
    exact rfIn_setRfIn _ _ j _
  · rw [rd_log_other _ _ _ _ _ _ _ (by decide), rd_wr_same]
  · rw [log_frame]
    rfl

/-- A rotation that is to start anew with a restored slice out of service (R231). -/
def Rotation.restored (r : Rotation) (slice : Nat) : Rotation :=
  { r with begun := false, step := 0, out := slice, done := 0, held := false, retire := false, restoring := true }

/-- SLICE_RESTORE of the retired slice's number (R231). -/
theorem exec_sliceRestore_retired {d i v : Nat} {s : State} (h : s.retiredSlice (sel d i) = some v) :
    ∃ t, exec (.sliceRestore d i v) s = .next t ∧ t.retiredSlice (sel d i) = none ∧
      (∀ j : Nat, t.rfIn j = if j = sel d i then { s.rfIn (sel d i) with rot := (s.rfIn (sel d i)).rot.restored v }
        else s.rfIn j) ∧
      t = { s with inputs := t.inputs, nv := t.nv } := by
  refine ⟨_, if_pos h, (retiredSlice_put (x := (0, [])) rfl).trans rfl,
    fun j => rfIn_setRfIn _ _ j _, rfl⟩

/-! Calibrations end (R225, R227, R228). -/

/-- SKEW_HELD and SKEW_HOLDS note a skew estimate that is held (R227). -/
def State.skewNoted (s : State) (k : Nat) (m : CalMeas) : State :=
  if m.skewHeld then (s.setBit Obj.CAL_STATUS k 18).inc Obj.SKEW_HOLDS k else s

theorem skewNoted_frame (s : State) (k : Nat) (m : CalMeas) :
    s.skewNoted k m = { s with regs := (s.skewNoted k m).regs } := by
  rw [State.skewNoted]
  split
  · rw [inc_frame]
    rfl
  · rfl

theorem rd_skewNoted_other (s : State) (k : Nat) (m : CalMeas) {id : Nat} (j : Nat) (hstatus : id ≠ Obj.CAL_STATUS)
    (hholds : id ≠ Obj.SKEW_HOLDS) : (s.skewNoted k m).rd id j = s.rd id j := by
  rw [State.skewNoted]
  split
  · rw [rd_inc_other _ fun h => hholds h.1, rd_setBit_other _ _ fun h => hstatus h.1]
  · rfl

/-- The corrections that a measurement gives the slice out of service: its skew is the previous one where the estimate is
held (R225, R227). -/
def State.newCorrection (s : State) (k : Nat) (m : CalMeas) : Int × Int × Int :=
  (m.offset, m.gain, if m.skewHeld then (s.correction k (s.rfIn k).rot.out).2.2 else m.skew)

/-- The input whose slice out of service has passed its calibration (R225, R228). -/
def State.calPassed (s : State) (k : Nat) (m : CalMeas) : RfIn :=
  { s.rfIn k with rot := { (s.rfIn k).rot with
    calibrated := true, undo := if m.handoverOk then none else some (s.correction k (s.rfIn k).rot.out) } }

/-- A step whose calibration is to end: it runs, is not abandoned, and its calibration has not ended (R225). -/
structure CalRuns (s : State) (k : Nat) : Prop where
  whole : s.retiredSlice k = none
  begun : (s.rfIn k).rot.begun = true
  rotating : (s.rfIn k).rot.held = false
  running : (s.rfIn k).rot.calibrated = false
  kept : (s.rfIn k).rot.abandoned = false
  due : (s.rfIn k).rot.start + 154272 ≤ s.cyc

theorem exec_sliceCalibrationEnd {d i : Nat} {s : State} (m : CalMeas) (hon : s.domOn d (domIn i) = true)
    (hrun : CalRuns s (sel d i)) :
    exec (.sliceCalibrationEnd d i m) s = .next (
      if calFails m then (s.skewNoted (sel d i) m).calFailed d i
      else ((s.skewNoted (sel d i) m).setRfIn (sel d i) (s.calPassed (sel d i) m)).loadCorrection (sel d i)
        (s.newCorrection (sel d i) m)) := by
  obtain ⟨hnone, hbegun, hheld, hcal, hkept, hdue⟩ := hrun
  have hguard : (!(s.rfIn (sel d i)).rot.begun || (s.rfIn (sel d i)).rot.held || (s.rfIn (sel d i)).rot.calibrated ||
      (s.rfIn (sel d i)).rot.abandoned || (s.retiredSlice (sel d i)).isSome ||
      decide (s.cyc < (s.rfIn (sel d i)).rot.start + 154272) || !s.domOn d (domIn i)) = false := by
    rw [hbegun, hheld, hcal, hkept, hnone, hon, decide_eq_false (Nat.not_lt.2 hdue)]
    rfl
  have hin : (s.skewNoted (sel d i) m).rfIn (sel d i) = s.rfIn (sel d i) := by
    rw [skewNoted_frame]
    rfl
  show execSliceCalibrationEnd d i m s = _
  simp only [execSliceCalibrationEnd, hguard, Bool.false_eq_true, if_false]
  rw [State.skewNoted] at hin ⊢
  rw [hin]
  split <;> rfl

/-- A correction loaded into the slice out of service; IN_TRIM reads it unless a written one waits for the slice (R222). -/
theorem loadCorrection_reads (s : State) (k : Nat) (c : Int × Int × Int) :
    let r := (s.rfIn k).rot
    let t := s.loadCorrection k c
    (∀ j : Nat, t.rfIn j = if j = k then { s.rfIn k with rot := { r with corr := (s.corrections k).set r.out c } }
      else s.rfIn j) ∧
    (r.out ∈ r.fresh → t.doms = s.doms) ∧
    (r.out ∉ r.fresh → t.doms = (s.setDw Obj.IN_TRIM k r.out (trimWord c)).doms) ∧
    t = { s with inputs := t.inputs, doms := t.doms } := by
  dsimp only [State.loadCorrection]
  split
  · next h => exact ⟨fun j => rfIn_setRfIn _ _ j _, fun _ => rfl, fun hno => absurd (List.contains_iff_mem.1 h) hno, rfl⟩
  · next h => exact ⟨fun j => rfIn_setRfIn _ _ j _, fun hmem => absurd (List.contains_iff_mem.2 hmem) h, fun _ => rfl, rfl⟩

/-- An input whose slice has failed its calibration, for the third time or not (R228, R230). -/
def RfIn.calFailed (x : RfIn) (third : Bool) : RfIn :=
  { x with rot := { x.rot with calibrated := true, failed := true, retire := x.rot.retire || third } }

/-- CAL_STATUS and CAL_FAILURES note the failure of a slice (R228). -/
def State.failureNoted (s : State) (k slice : Nat) : State :=
  ((s.wr Obj.CAL_STATUS k (s.rd Obj.CAL_STATUS k &&& ~~~word (0x1F * 2 ^ 19) ||| word (slice * 2 ^ 19))).setBit
    Obj.CAL_STATUS k 17).inc Obj.CAL_FAILURES k

theorem failureNoted_frame (s : State) (k slice : Nat) :
    s.failureNoted k slice = { s with regs := (s.failureNoted k slice).regs } := by
  rw [State.failureNoted, inc_frame, setBit_frame]
  rfl

theorem failureNoted_reads (s : State) (k slice : Nat) :
    bit ((s.failureNoted k slice).rd Obj.CAL_STATUS k) 17 = true ∧
    (s.failureNoted k slice).rd Obj.CAL_FAILURES k = (s.inc Obj.CAL_FAILURES k).rd Obj.CAL_FAILURES k := by
  have hne : Obj.CAL_FAILURES ≠ Obj.CAL_STATUS := by decide
  constructor
  · rw [State.failureNoted, rd_inc_other _ fun h => hne h.1.symm, bit_setBit _ _ _ _ (by decide), decide_eq_true rfl,
      Bool.or_true]
  · refine rd_count_congr 1 ?_
    rw [rd_setBit_other _ _ fun h => hne h.1]
    exact rd_wr_other _ _ fun h => hne h.1

theorem calFailed_eq (s : State) (d i : Nat) : ∃ third detail nv,
    s.calFailed d i = ({ (s.setRfIn (sel d i) ((s.rfIn (sel d i)).calFailed third)).failureNoted (sel d i)
      (s.rfIn (sel d i)).rot.out with nv := nv } : State).log d 0x07 0 (sel d i) detail :=
  ⟨_, _, _, rfl⟩

/-- A calibration fails: the slice keeps its corrections and the failure is counted (R228). -/
theorem calFailed_reads (s : State) (d i : Nat) :
    let t := s.calFailed d i
    (∃ third, ∀ j : Nat, t.rfIn j = if j = sel d i then (s.rfIn (sel d i)).calFailed third else s.rfIn j) ∧
    bit (t.rd Obj.CAL_STATUS (sel d i)) 17 = true ∧
    t.rd Obj.CAL_FAILURES (sel d i) = (s.inc Obj.CAL_FAILURES (sel d i)).rd Obj.CAL_FAILURES (sel d i) ∧
    t = { s with inputs := t.inputs, regs := t.regs, dies := t.dies, nv := t.nv } := by
  obtain ⟨third, detail, nv, h⟩ := calFailed_eq s d i
  obtain ⟨hbit, hcount⟩ := failureNoted_reads (s.setRfIn (sel d i) ((s.rfIn (sel d i)).calFailed third)) (sel d i)
    (s.rfIn (sel d i)).rot.out
  have hnoted := failureNoted_frame (s.setRfIn (sel d i) ((s.rfIn (sel d i)).calFailed third)) (sel d i)
    (s.rfIn (sel d i)).rot.out
  simp only [h]
  generalize (s.setRfIn (sel d i) ((s.rfIn (sel d i)).calFailed third)).failureNoted (sel d i)
    (s.rfIn (sel d i)).rot.out = u at hbit hcount hnoted
  refine ⟨⟨third, fun j => ?_⟩, ?_, ?_, ?_⟩
  · rw [rfIn_log, hnoted]
    exact rfIn_setRfIn _ _ _ _
  · rw [rd_log_other _ _ _ _ _ _ _ (by decide)]
    exact hbit
  · rw [rd_log_other _ _ _ _ _ _ _ (by decide)]
    exact hcount.trans (rd_count_congr 1 rfl)
  · rw [log_frame, hnoted]
    rfl

theorem exec_qualityFigures {d i : Nat} {s : State} (offset image : BitVec 16) (hon : s.domOn d (domIn i) = true)
    (hdue : (s.retiredSlice (sel d i) = none ∧ 17 ≤ (s.rfIn (sel d i)).rot.done) ∨
      ((s.retiredSlice (sel d i)).isSome = true ∧ (s.rfIn (sel d i)).rot.figuresAt + 2624800 ≤ s.cyc)) :
    exec (.qualityFigures d i offset image) s = .next (((s.setRfIn (sel d i) { s.rfIn (sel d i) with
      rot := { (s.rfIn (sel d i)).rot with done := 0, figuresAt := s.cyc } }).wr Obj.SPUR_OFFSET (sel d i)
        (offset.setWidth 72)).wr Obj.SPUR_IMAGE (sel d i) (image.setWidth 72)) := by
  refine if_pos (Bool.and_eq_true_iff.2 ⟨?_, hon⟩)
  obtain ⟨hnone, hdone⟩ | ⟨hsome, hfigures⟩ := hdue
  · rw [hnone]
    exact decide_eq_true hdone
  · rw [if_pos hsome]
    exact decide_eq_true hfigures

/-- A calibration within its ranges, with what becomes of the corrections (R222, R225). -/
theorem exec_sliceCalibrationEnd_passes {d i : Nat} {s : State} {m : CalMeas} (hon : s.domOn d (domIn i) = true)
    (hrun : CalRuns s (sel d i)) (hm : calFails m = false) :
    let k := sel d i
    let r := (s.rfIn k).rot
    ∃ t, exec (.sliceCalibrationEnd d i m) s = .next t ∧
      (∀ j : Nat, t.rfIn j = if j = k then { s.rfIn k with rot := { (s.calPassed k m).rot with
        corr := (s.corrections k).set r.out (s.newCorrection k m) } } else s.rfIn j) ∧
      (r.out ∈ r.fresh → t.doms = s.doms) ∧
      (r.out ∉ r.fresh → t.doms = (s.setDw Obj.IN_TRIM k r.out (trimWord (s.newCorrection k m))).doms) ∧
      t = { s with inputs := t.inputs, regs := t.regs, doms := t.doms } := by
  have hexec := exec_sliceCalibrationEnd m hon hrun
  obtain ⟨regs, hnoted⟩ : ∃ regs, s.skewNoted (sel d i) m = { s with regs := regs } := ⟨_, skewNoted_frame s _ m⟩
  rw [if_neg (by rw [hm]; decide), hnoted] at hexec
  obtain ⟨hin, hkept, hset, hframe⟩ := loadCorrection_reads (({ s with regs := regs } : State).setRfIn (sel d i)
    (s.calPassed (sel d i) m)) (sel d i) (s.newCorrection (sel d i) m)
  have hpassed : (({ s with regs := regs } : State).setRfIn (sel d i) (s.calPassed (sel d i) m)).rfIn (sel d i) =
      s.calPassed (sel d i) m := rfIn_setRfIn_same _ _ _
  have hcorr : (({ s with regs := regs } : State).setRfIn (sel d i) (s.calPassed (sel d i) m)).corrections (sel d i) =
      s.corrections (sel d i) := by
    refine corrections_congr ?_ rfl
    rw [hpassed]
    rfl
  rw [hpassed] at hin hkept hset
  rw [hcorr] at hin
  refine ⟨_, hexec, fun j => ?_, hkept, hset, ?_⟩
  · rw [hin]
    split
    · rfl
    · next hj => exact rfIn_setRfIn_other _ _ hj
  · rw [hframe]
    rfl

/-- A calibration beyond its ranges (R228). -/
theorem exec_sliceCalibrationEnd_fails {d i : Nat} {s : State} {m : CalMeas} (hon : s.domOn d (domIn i) = true)
    (hrun : CalRuns s (sel d i)) (hm : calFails m = true) :
    let k := sel d i
    ∃ t third, exec (.sliceCalibrationEnd d i m) s = .next t ∧
      (∀ j : Nat, t.rfIn j = if j = k then (s.rfIn k).calFailed third else s.rfIn j) ∧
      bit (t.rd Obj.CAL_STATUS k) 17 = true ∧
      t.rd Obj.CAL_FAILURES k = (s.inc Obj.CAL_FAILURES k).rd Obj.CAL_FAILURES k ∧
      t = { s with inputs := t.inputs, regs := t.regs, dies := t.dies, nv := t.nv } := by
  have hexec := exec_sliceCalibrationEnd m hon hrun
  have hcount := rd_skewNoted_other s (sel d i) m (id := Obj.CAL_FAILURES) (sel d i) (by decide) (by decide)
  obtain ⟨regs, hnoted⟩ : ∃ regs, s.skewNoted (sel d i) m = { s with regs := regs } := ⟨_, skewNoted_frame s _ m⟩
  rw [if_pos hm, hnoted] at hexec
  rw [hnoted] at hcount
  obtain ⟨⟨third, hin⟩, hbit, hfailures, hframe⟩ := calFailed_reads { s with regs := regs } d i
  refine ⟨_, third, hexec, hin, hbit, hfailures.trans (rd_count_congr 1 hcount), ?_⟩
  rw [hframe]

/-- Settles O23: at a frame boundary a step of rotation begins, ends with the swap or with the retirement, or restarts
(R223, R224, R230, R233); a calibration gives the slice its corrections or is counted as failed (R222, R225, R228); the
figures are published (R232) and a retired slice returns (R231). -/
theorem sliceRotation : Obligations.SliceRotation := by
  unfold Obligations.SliceRotation
  refine ⟨fun d i s hon hnone hframe hidle hgo => ?begins, fun d i s hon hnone hframe hidle hhold => ?held,
    fun d i s hon hnone hframe hbegun hheld hret hkept hdue => ?swaps,
    fun d i s hon hnone hframe hbegun hheld hret hdue => ?retires,
    fun d i s hon hnone hframe hbegun hheld hret hab hdue => ?restarts,
    fun d i m s hon hnone hbegun hheld hcal hkept hdue hm => ?passes,
    fun d i m s hon hnone hbegun hheld hcal hkept hdue hm => ?fails,
    fun d i offset image s hon hdue => exec_qualityFigures offset image hon hdue,
    fun d i v s h => ?restores, fun d i v s h => if_neg h, fun d i s => rfl, fun d i s => rfl⟩
  case begins =>
    rw [exec_rotationStep hon hnone hframe, if_pos hidle, hgo]
    rfl
  case held =>
    rw [exec_rotationStep hon hnone hframe, if_pos hidle, hhold]
    rfl
  case swaps =>
    obtain ⟨⟨corr, fresh, hin⟩, hcorr, hregs, hothers, hunch⟩ :=
      swapped_reads s (sel d i) (bit (s.rd Obj.CAL_CONTROL (sel d i)) 0)
    refine ⟨s.swapped (sel d i) (bit (s.rd Obj.CAL_CONTROL (sel d i)) 0), ?_, ?_⟩
    · rw [exec_rotationStep hon hnone hframe, if_neg (by simp [hbegun, hheld]), if_neg (Nat.not_lt.2 hdue),
        if_neg (by simp [hret]), if_neg (by simp [hkept])]
    · rw [hin]
      exact ⟨rfl, rfl, rfl, rfl, rfl, rfl, hcorr, hregs, hothers, hunch⟩
  case retires =>
    obtain ⟨hslice, hin, hspur, hunch⟩ := retireSlice_reads s d i (s.rfIn (sel d i)).rot.out
    refine ⟨s.retireSlice d i (s.rfIn (sel d i)).rot.out, ?_, hslice, (hin _).trans (if_pos rfl), hspur,
      fun j hj => (hin j).trans (if_neg hj), hunch⟩
    rw [exec_rotationStep hon hnone hframe, if_neg (by simp [hbegun, hheld]), if_neg (Nat.not_lt.2 hdue), if_pos hret]
  case restarts =>
    rw [exec_rotationStep hon hnone hframe, if_neg (by simp [hbegun, hheld]), if_neg (Nat.not_lt.2 hdue),
      if_neg (by simp [hret]), if_pos hab]
    rfl
  case passes =>
    obtain ⟨t, hexec, hin, hwaits, htrim, hunch⟩ :=
      exec_sliceCalibrationEnd_passes hon ⟨hnone, hbegun, hheld, hcal, hkept, hdue⟩ hm
    have hself := (hin (sel d i)).trans (if_pos rfl)
    refine ⟨t, hexec, ?_⟩
    rw [hself]
    refine ⟨rfl, rfl, fun hout => correction_of_corr ?_, hwaits, fun hno => ?_, fun j hj => (hin j).trans (if_neg hj),
      fun id k w hother => ?_, hunch⟩
    · rw [hself]
      exact getElem?_corrections_set s (sel d i) _ hout
    · exact (dw_congr (htrim hno) _ _ _).trans (dw_setDw_same _ _ _ _ _)
    · by_cases hmem : (s.rfIn (sel d i)).rot.out ∈ (s.rfIn (sel d i)).rot.fresh
      · exact dw_congr (hwaits hmem) _ _ _
      · exact (dw_congr (htrim hmem) _ _ _).trans (dw_setDw_other _ _ hother)
  case fails =>
    obtain ⟨t, third, hexec, hin, hbit, hcount, hunch⟩ :=
      exec_sliceCalibrationEnd_fails hon ⟨hnone, hbegun, hheld, hcal, hkept, hdue⟩ hm
    refine ⟨t, hexec, ?_⟩
    rw [(hin (sel d i)).trans (if_pos rfl)]
    exact ⟨rfl, rfl, rfl, hbit, hcount, by rw [hunch], fun j hj => (hin j).trans (if_neg hj), hunch⟩
  case restores =>
    obtain ⟨t, hexec, hnone, hin, hunch⟩ := exec_sliceRestore_retired h
    refine ⟨t, hexec, hnone, ?_⟩
    rw [(hin (sel d i)).trans (if_pos rfl)]
    exact ⟨rfl, rfl, rfl, fun j hj => (hin j).trans (if_neg hj), hunch⟩

end Sys2Proof.Machine
end

section
/-!
PROOFS. Wire checks of an RF input (R234–R238).
-/

namespace Sys2Proof.Machine

/-! Producers raised (R353). -/

/-- An event offered to channels changes no object but CHAN_STATUS. -/
theorem rd_offer_other (d p : Nat) (cs : List Nat) (s : State) {id : Nat} (k : Nat) (h : id ≠ Obj.CHAN_STATUS) :
    (s.offer d p cs).rd id k = s.rd id k := by
  induction cs generalizing s with
  | nil => rfl
  | cons c cs ih =>
    simp only [State.offer]
    rw [ih]
    split
    · rfl
    · exact rd_addEvent_other s d c _ k h

/-- A producer's event changes no object but CHAN_STATUS. -/
theorem rd_raise_other (s : State) (d p : Nat) {id : Nat} (k : Nat) (h : id ≠ Obj.CHAN_STATUS) :
    (s.raise d p).rd id k = s.rd id k := by
  simp only [State.raise]
  split_ifs
  · rw [rd_addEvent_other _ _ _ _ _ h, rd_addEvent_other _ _ _ _ _ h, rd_offer_other _ _ _ _ _ h]
  · exact rd_offer_other d p _ s k h
  · rfl

/-! Verdicts and requests (R235, R237, R238). -/

theorem wireVerdict_sel (s : State) (d v : Nat) {i : Nat} (hi : i < 8) :
    s.wireVerdict (sel d i) v = ((s.setRfIn (sel d i) { s.rfIn (sel d i) with
      wire := { ended := s.clock.now } }).wrN Obj.WIRE_RESULT (sel d i) v).raise d (179 + 2 * i) := by
  have hproducer : 178 + 2 * i + 1 = 179 + 2 * i := by omega
  rw [State.wireVerdict, selDie_sel d (by omega), selUnit_sel d (by omega), hproducer]

theorem wireVerdict_reads (s : State) (k v : Nat) :
    let t := s.wireVerdict k v
    t.rd Obj.WIRE_RESULT k = word v ∧
    (∀ id j : Nat, id ≠ Obj.WIRE_RESULT → id ≠ Obj.CHAN_STATUS → t.rd id j = s.rd id j) ∧
    (∀ j : Nat, t.rfIn j = if j = k then { s.rfIn k with wire := { ended := s.clock.now } } else s.rfIn j) ∧
    t = { s with inputs := t.inputs, regs := t.regs, chans := t.chans } := by
  dsimp only [State.wireVerdict]
  refine ⟨?_, fun id j hres hchan => ?_, fun j => ?_, ?_⟩
  · rw [rd_raise_other _ _ _ _ (by decide)]
    exact rd_wr_same _ _ _ _
  · rw [rd_raise_other _ _ _ _ hchan]
    exact rd_wr_other _ _ fun h => hres h.1
  · rw [raise_frame]
    exact rfIn_setRfIn _ _ _ _
  · rw [raise_frame]
    rfl

/-- A check waits or runs on an input (R235). -/
def State.wireBusy (s : State) (k : Nat) : Bool := (s.rfIn k).wire.waiting || s.wireRuns k

theorem wireBusy_iff (s : State) (k : Nat) :
    s.wireBusy k = true ↔ (s.rfIn k).wire.waiting = true ∨ s.wireRuns k = true := by
  rw [State.wireBusy, Bool.or_eq_true]

theorem wireBusy_of_idle {s : State} {k : Nat} (hwait : (s.rfIn k).wire.waiting = false) (hrun : s.wireRuns k = false) :
    s.wireBusy k = false := by
  rw [State.wireBusy, hwait, hrun, Bool.or_false]

theorem wireRequest_busy {s : State} {k : Nat} (h : (s.rfIn k).wire.waiting = true ∨ s.wireRuns k = true) :
    s.wireRequest k = s := if_pos ((wireBusy_iff s k).2 h)

theorem wireRequest_waits {s : State} {k : Nat} (hwait : (s.rfIn k).wire.waiting = false) (hrun : s.wireRuns k = false)
    (hmode : (s.rfIn k).mode ≠ 1) :
    s.wireRequest k = s.setRfIn k { s.rfIn k with wire := { (s.rfIn k).wire with waiting := true } } :=
  (if_neg (Bool.eq_false_iff.1 (wireBusy_of_idle hwait hrun))).trans (if_neg hmode)

theorem wireRequest_refused {s : State} {k : Nat} (hwait : (s.rfIn k).wire.waiting = false) (hrun : s.wireRuns k = false)
    (hmode : (s.rfIn k).mode = 1) : s.wireRequest k = s.wireVerdict k 4 :=
  (if_neg (Bool.eq_false_iff.1 (wireBusy_of_idle hwait hrun))).trans (if_pos hmode)

theorem exec_wireStart (d i : Nat) (s : State) : exec (.wireStart d i) s = .next (s.wireRequest (sel d i)) := rfl

theorem exec_wireCheckAuto_due {d i : Nat} {s : State} (hperiod : 0 < bits (s.rd Obj.WIRE_CONFIG (sel d i)) 23 8)
    (hpassed : (s.rfIn (sel d i)).wire.ended.toNat + bits (s.rd Obj.WIRE_CONFIG (sel d i)) 23 8 * 1250000000 ≤ s.now) :
    exec (.wireCheckAuto d i) s = .next (s.wireRequest (sel d i)) := if_pos ⟨hperiod, hpassed⟩

theorem exec_wireCancel (d i : Nat) (s : State) :
    exec (.wireCancel d i) s = if s.wireBusy (sel d i) then .next (s.wireVerdict (sel d i) 5) else .next s := rfl

/-! Rounds (R235). -/

theorem intCast_wireCurrent (s : State) (k : Nat) :
    (s.wireCurrent k : Int) = if bit (s.rd Obj.WIRE_CONFIG k) 0 then 10 else 1 := by
  rw [State.wireCurrent]
  split <;> rfl

theorem exec_wireCheckBegin {d i : Nat} {s : State} (hwait : (s.rfIn (sel d i)).wire.waiting = true)
    (hat : s.atRound d = true) (hmode : (s.rfIn (sel d i)).mode = 0) (hon : s.domOn d (domIn i) = true)
    (hclosed : s.windowOpen d i = false)
    (hnone : ∀ j : Nat, j < 16 → (s.demod (sel d (16 * i + j))).opensNow s.now = false) :
    exec (.wireCheckBegin d i) s = .next (s.setRfIn (sel d i) { s.rfIn (sel d i) with
      wire := { (s.rfIn (sel d i)).wire with
        waiting := false, round := 1, current := s.wireCurrent (sel d i), amps := s.wireCurrent (sel d i), at_ := s.cyc,
        beyond := false } }) := by
  have hopening : (List.range 16).any (fun m => (s.demod (sel d (16 * i + m))).opensNow s.now) = false := by
    rw [List.any_eq_false]
    intro m hm
    rw [hnone m (List.mem_range.1 hm)]
    exact Bool.false_ne_true
  refine if_pos ?_
  rw [hwait, hat, hmode, hon, hclosed, hopening]
  rfl

/-- A check whose round ends in a cycle with a reading (R235). -/
def Wire.roundEnded (w : Wire) (cyc : Nat) (reading : Int) : Wire :=
  match w.round with
  | 1 => { w with at_ := cyc, round := 2 }
  | 2 => { w with at_ := cyc, round := 3, vPlus := reading, current := -w.current }
  | 3 => { w with at_ := cyc, round := 4 }
  | _ => { w with at_ := cyc, vMinus := reading, current := 0, beyond := true }

theorem exec_wireCheckRound {d i : Nat} {s : State} (v : Int) (hat : s.atRound d = true)
    (hrun : s.wireRuns (sel d i) = true) (hgoes : (s.rfIn (sel d i)).wire.beyond = false)
    (hlater : (s.rfIn (sel d i)).wire.at_ + 2 ≤ s.cyc) :
    exec (.wireCheckRound d i v) s = .next (s.setRfIn (sel d i) { s.rfIn (sel d i) with
      wire := (s.rfIn (sel d i)).wire.roundEnded s.cyc v }) := by
  rw [State.wireRuns] at hrun
  refine if_pos ?_
  rw [hat, hrun, hgoes, decide_eq_true hlater]
  rfl

theorem roundEnded_reads (w : Wire) (cyc : Nat) (v : Int) :
    let x := w.roundEnded cyc v
    x.at_ = cyc ∧ (w.round = 1 → x.round = 2 ∧ x.current = w.current) ∧
    (w.round = 2 → x.round = 3 ∧ x.vPlus = v ∧ x.current = -w.current) ∧
    (w.round = 3 → x.round = 4 ∧ x.current = w.current) ∧
    (w.round = 4 → x.vMinus = v ∧ x.current = 0 ∧ x.beyond = true) := by
  refine ⟨?_, fun h => ?_, fun h => ?_, fun h => ?_, fun h => ?_⟩
  · rw [Wire.roundEnded]
    split <;> rfl
  all_goals
    simp only [Wire.roundEnded, h]
    trivial

/-! Results (R234, R236, R237). -/

/-- The difference of the two readings of a check, in 10 nV (R234). -/
def Wire.diff (w : Wire) : Int := w.vPlus - w.vMinus

/-- The divisor that makes the difference of a check a resistance in 0.1 Ω: 20 times its current in µA (R234, R236). -/
def Wire.den (w : Wire) : Int := 20 * (w.amps : Int)

/-- The resistance of a check is beyond the measurable range of its current (R236, log 63). -/
def Wire.beyondRange (w : Wire) : Bool :=
  decide (w.diff < 0) || decide ((if w.amps = 10 then 50000 else 500000 : Int) * w.den < w.diff)

/-- WIRE_RESISTANCE of a check (R234, R237). -/
def Wire.ohms (w : Wire) : Nat := if w.beyondRange then 0xFFFFFFFF else (roundOpen 234 w.diff w.den.toNat).toNat

/-- A check finds the loop open, for an expected resistance and a tolerance (R237). -/
def Wire.isOpen (w : Wire) (want tol : Nat) : Bool :=
  w.beyondRange || decide ((want : Int) * (100 + tol) * w.den < w.diff * 100)

/-- A check finds the loop shorted, for an expected resistance and a tolerance (R237). -/
def Wire.isShort (w : Wire) (want tol : Nat) : Bool := decide (w.diff * 100 < (want : Int) * (100 - (tol : Int)) * w.den)

/-- WIRE_RESISTANCE and WIRE_RESULT_TIME published (R234, R240). -/
def State.ohmsPublished (s : State) (k n : Nat) : State :=
  (s.wrN Obj.WIRE_RESISTANCE k n).wr Obj.WIRE_RESULT_TIME k (s.clock.now.setWidth 72)

theorem ohmsPublished_reads (s : State) (k n : Nat) :
    let t := s.ohmsPublished k n
    t.rd Obj.WIRE_RESULT_TIME k = s.clock.now.setWidth 72 ∧ t.rd Obj.WIRE_RESISTANCE k = word n ∧
    t = { s with regs := t.regs } := by
  have hne : Obj.WIRE_RESISTANCE ≠ Obj.WIRE_RESULT_TIME := by decide
  exact ⟨rd_wr_same _ _ _ _, (rd_wr_other _ _ fun h => hne h.1).trans (rd_wr_same _ _ _ _), rfl⟩

/-- WIRE_FAULT raised where a check finds a fault (R237). -/
def State.wireFault (s : State) (d i : Nat) (bad : Bool) : State := if bad then s.raise d (178 + 2 * i) else s

theorem wireFault_reads (s : State) (d i : Nat) (bad : Bool) :
    (∀ id k : Nat, id ≠ Obj.CHAN_STATUS → (s.wireFault d i bad).rd id k = s.rd id k) ∧
    s.wireFault d i bad = { s with regs := (s.wireFault d i bad).regs, chans := (s.wireFault d i bad).chans } := by
  rw [State.wireFault]
  split
  · exact ⟨fun _ k h => rd_raise_other s d _ k h, raise_frame s d _⟩
  · exact ⟨fun _ _ _ => rfl, rfl⟩

/-- The state in which a check has published its result and its verdict (R237). -/
def State.wireResolved (s : State) (d i n verdict : Nat) (bad : Bool) : State :=
  ((s.ohmsPublished (sel d i) n).wireFault d i bad).wireVerdict (sel d i) verdict

theorem wireResolved_reads (s : State) (d i n verdict : Nat) (bad : Bool) :
    let t := s.wireResolved d i n verdict bad
    t.rd Obj.WIRE_RESULT (sel d i) = word verdict ∧
    t.rd Obj.WIRE_RESULT_TIME (sel d i) = s.clock.now.setWidth 72 ∧
    t.rd Obj.WIRE_RESISTANCE (sel d i) = word n ∧
    (∀ j : Nat, t.rfIn j = if j = sel d i then { s.rfIn (sel d i) with wire := { ended := s.clock.now } }
      else s.rfIn j) ∧
    t = { s with inputs := t.inputs, regs := t.regs, chans := t.chans } := by
  dsimp only [State.wireResolved]
  obtain ⟨htime, hohms, hpublished⟩ := ohmsPublished_reads s (sel d i) n
  generalize s.ohmsPublished (sel d i) n = p at htime hohms hpublished ⊢
  obtain ⟨hrd, hfault⟩ := wireFault_reads p d i bad
  generalize p.wireFault d i bad = u at hrd hfault ⊢
  obtain ⟨hverdict, hobjects, hin, hframe⟩ := wireVerdict_reads u (sel d i) verdict
  have hu : u = { s with regs := u.regs, chans := u.chans } := by
    rw [hfault, hpublished]
  refine ⟨hverdict, ?_, ?_, fun j => (hin j).trans ?_, hframe.trans ?_⟩
  · rw [hobjects _ _ (by decide) (by decide), hrd _ _ (by decide), htime]
  · rw [hobjects _ _ (by decide) (by decide), hrd _ _ (by decide), hohms]
  · rw [hu]
    rfl
  · rw [hu]

theorem exec_wireCheckResult {d i want tol : Nat} {w : Wire} {s : State} (hw : w = (s.rfIn (sel d i)).wire)
    (hend : w.beyond = true) (hwant : want = s.rdN Obj.WIRE_EXPECTED (sel d i))
    (htol : tol = bits (s.rd Obj.WIRE_CONFIG (sel d i)) 7 1) (hlow : 0 < tol) (hhigh : tol ≤ 100) :
    exec (.wireCheckResult d i) s = .next (s.wireResolved d i w.ohms
      (if w.isOpen want tol then 2 else if w.isShort want tol then 3 else 1) (w.isOpen want tol || w.isShort want tol)) := by
  subst hw hwant htol
  have hlegal : (bits (s.rd Obj.WIRE_CONFIG (sel d i)) 7 1 == 0 ||
      decide (100 < bits (s.rd Obj.WIRE_CONFIG (sel d i)) 7 1)) = false := by
    rw [beq_eq_false_iff_ne.2 (by omega), decide_eq_false (by omega)]
    rfl
  show execWireCheckResult d i s = _
  rw [execWireCheckResult, if_neg (by rw [hend]; decide)]
  simp only [hlegal, unlessError, Bool.false_eq_true, if_false]
  rfl

/-- A verdict as WIRE_RESULT reads it (R242). -/
theorem word_verdict (opened short : Bool) :
    word (if opened then 2 else if short then 3 else 1) = if opened then 2 else if short then 3 else 1 := by
  cases opened
  · cases short <;> rfl
  · rfl

/-- Settles O24: a check is requested, refused in array mode and cancelled (R235, R238), begins and runs its rounds (R235),
and publishes its resistance and verdict (R234, R236, R237). A refused or cancelled check counts as the previous one, and
each polarity is one operand (log 37); a negative resistance lies outside the range (log 63), and the rounding of
WIRE_RESISTANCE is free (log 11). -/
theorem wireChecks : Obligations.WireChecks := by
  unfold Obligations.WireChecks
  refine ⟨fun d i s hwait hrun hmode => ?waits, fun d i s hwait hrun hmode hperiod hpassed => ?autoWaits,
    fun d i s hi hwait hrun hmode => ?refused, fun d i s hi hwait hrun hmode hperiod hpassed => ?autoRefused,
    fun d i s hbusy => ?ignored, fun d i s hwait hrun => ?nothingToCancel, fun d i s hi hbusy => ?cancelled,
    fun d i s hwait hat hmode hon hclosed hnone => ?begins, fun d i v s hat hrun hgoes hlater => ?rounds,
    fun d i tol v den want beyond opened short s hi hend htol hlow hhigh hv hden hwant hbeyond hopened hshort => ?result⟩
  case waits => rw [exec_wireStart, wireRequest_waits hwait hrun hmode]
  case autoWaits => rw [exec_wireCheckAuto_due hperiod hpassed, wireRequest_waits hwait hrun hmode]
  case refused => rw [exec_wireStart, wireRequest_refused hwait hrun hmode, wireVerdict_sel s d 4 hi]
  case autoRefused =>
    rw [exec_wireCheckAuto_due hperiod hpassed, wireRequest_refused hwait hrun hmode, wireVerdict_sel s d 4 hi]
  case ignored => rw [exec_wireStart, wireRequest_busy hbusy]
  case nothingToCancel =>
    rw [exec_wireCancel, wireBusy_of_idle hwait hrun]
    rfl
  case cancelled => rw [exec_wireCancel, if_pos ((wireBusy_iff s _).2 hbusy), wireVerdict_sel s d 5 hi]
  case begins =>
    rw [exec_wireCheckBegin hwait hat hmode hon hclosed hnone, intCast_wireCurrent]
    rfl
  case rounds =>
    obtain ⟨hmoved, h1, h2, h3, h4⟩ := roundEnded_reads (s.rfIn (sel d i)).wire s.cyc v
    refine ⟨_, exec_wireCheckRound v hat hrun hgoes hlater, ?_⟩
    rw [rfIn_setRfIn_same]
    exact ⟨hmoved, h1, h2, h3, h4, fun k hk => rfIn_setRfIn_other _ _ hk, rfl⟩
  case result =>
    subst hopened hshort hbeyond hv hden hwant
    obtain ⟨hverdict, htime, hohms, hin, hframe⟩ := wireResolved_reads s d i (s.rfIn (sel d i)).wire.ohms _ _
    refine ⟨_, exec_wireCheckResult rfl hend rfl htol hlow hhigh, hverdict.trans (word_verdict _ _), htime, hohms, ?_,
      fun k hk => (hin k).trans (if_neg hk), hframe⟩
    rw [hin, if_pos rfl]

end Sys2Proof.Machine
end

section
/-!
PROOFS. Subscriptions (R248–R262): how one is configured, its forward entry installed and removed, and an update received.
-/

namespace Sys2Proof.Machine

/-! Requests for removal (R252, R262). -/

theorem askRemoval_frame (s : State) (dev : Option Nat) (d n stag : Nat) :
    s.askRemoval dev d n stag = { s with removals := (s.askRemoval dev d n stag).removals } := by
  simp only [State.askRemoval]
  split <;> rfl

/-- Once asked for, a removal is outstanding, whether or not it was so before. -/
theorem mem_removals_askRemoval (s : State) (dev : Option Nat) (d n stag : Nat) :
    ∃ r ∈ (s.askRemoval dev d n stag).removals, r.2 = (d, n, stag) := by
  simp only [State.askRemoval]
  split
  · next h =>
    obtain ⟨r, hr, heq⟩ := List.any_eq_true.1 h
    exact ⟨r, hr, eq_of_beq heq⟩
  · exact ⟨_, List.mem_append_right _ (List.mem_singleton_self _), rfl⟩

/-! UNREACH (R256). -/

theorem setUnreach_frame (s : State) (k : Nat) (b : Bool) :
    s.setUnreach k b = { s with slots := (s.setUnreach k b).slots } := by
  simp only [State.setUnreach]
  split <;> rfl

/-- What becomes of the slots when UNREACH of one of them is set. -/
theorem setUnreach_reads (s : State) (k : Nat) (b : Bool) :
    ((s.setUnreach k b).slot k).unreach = b ∧ (∀ j : Nat, ((s.setUnreach k b).slot j).view = (s.slot j).view) ∧
    (∀ j : Nat, j ≠ k → (s.setUnreach k b).slot j = s.slot j) := by
  simp only [State.setUnreach]
  split
  · next h => exact ⟨h, fun _ => rfl, fun _ _ => rfl⟩
  · refine ⟨?_, fun j => ?_, fun j hj => ?_⟩
    · rw [slot_setSlot, if_pos rfl]
    · rw [slot_setSlot]
      split
      · next h => rw [h]; rfl
      · rfl
    · rw [slot_setSlot, if_neg hj]

/-! SUB_CONFIG (R252, R270). -/

/-- The removal of a subscription's forward entry has been asked for, where it may have one. -/
def State.removalAsked (s : State) (d n : Nat) : State :=
  let x := s.sub (sel d n)
  if x.st = .active ∨ x.st = .pending ∨ x.st = .unreachable then
    s.askRemoval (s.subSource n (sel d n)) d n x.stag
  else s

theorem removalAsked_frame (s : State) (d n : Nat) :
    s.removalAsked d n = { s with removals := (s.removalAsked d n).removals } := by
  simp only [State.removalAsked]
  split
  · rw [askRemoval_frame]
  · rfl

theorem slot_removalAsked (s : State) (d n k : Nat) : (s.removalAsked d n).slot k = s.slot k := by
  rw [removalAsked_frame]
  rfl

/-- A write of SUB_CONFIG has disabled the subscription that stood. -/
def State.subEnded (s : State) (d n : Nat) : State :=
  if (s.sub (sel d n)).st = .off then s else (s.removalAsked d n).setUnreach (sel d n) false

theorem subEnded_frame (s : State) (d n : Nat) : s.subEnded d n =
    { s with slots := (s.subEnded d n).slots, removals := (s.subEnded d n).removals } := by
  simp only [State.subEnded]
  split
  · rfl
  · rw [setUnreach_frame, removalAsked_frame]

theorem subEnded_asks {s : State} {d n : Nat}
    (h : (s.sub (sel d n)).st = .active ∨ (s.sub (sel d n)).st = .pending ∨ (s.sub (sel d n)).st = .unreachable) :
    ∃ r ∈ (s.subEnded d n).removals, r.2 = (d, n, (s.sub (sel d n)).stag) := by
  have hon : (s.sub (sel d n)).st ≠ .off := by rcases h with h | h | h <;> simp [h]
  have hasked : s.removalAsked d n = s.askRemoval (s.subSource n (sel d n)) d n (s.sub (sel d n)).stag := if_pos h
  rw [State.subEnded, if_neg hon, setUnreach_frame, hasked]
  exact mem_removals_askRemoval s _ d n _

theorem subEnded_slots (s : State) (d n : Nat) :
    ((s.sub (sel d n)).st ≠ .off → ((s.subEnded d n).slot (sel d n)).unreach = false) ∧
    (∀ k : Nat, ((s.subEnded d n).slot k).view = (s.slot k).view) ∧
    (∀ k : Nat, k ≠ sel d n → (s.subEnded d n).slot k = s.slot k) := by
  by_cases hoff : (s.sub (sel d n)).st = .off
  · rw [State.subEnded, if_pos hoff]
    exact ⟨fun h => absurd hoff h, fun _ => rfl, fun _ _ => rfl⟩
  · obtain ⟨hunreach, hview, hother⟩ := setUnreach_reads (s.removalAsked d n) (sel d n) false
    rw [State.subEnded, if_neg hoff]
    exact ⟨fun _ => hunreach, fun k => (hview k).trans (congrArg _ (slot_removalAsked s d n k)),
      fun k hk => (hother k hk).trans (slot_removalAsked s d n k)⟩

/-- A legal write of SUB_CONFIG has disabled the subscription that stood and started the one it names. -/
def State.subConfigured (s : State) (d n : Nat) (v : Word) : State :=
  let s2 := (s.subEnded d n).wr Obj.SUB_CONFIG (sel d n) v
  s2.setSub (sel d n) { stag := (s.sub (sel d n)).stag, st := if bit v 31 then s2.subStart d n else .off }

theorem exec_subConfig (d n : Nat) (v : Word) (s : State) :
    exec (.subConfig d n v) s = unlessError (bits v 30 21 != 0) (s.subConfigured d n v) := rfl

theorem exec_subConfig_legal {d n : Nat} {v : Word} {s : State} (h : bits v 30 21 = 0) :
    exec (.subConfig d n v) s = .next (s.subConfigured d n v) := by
  simp [exec_subConfig, unlessError, h]

theorem subConfigured_frame (s : State) (d n : Nat) (v : Word) : s.subConfigured d n v =
    { s with subs := (s.subConfigured d n v).subs, regs := (s.subConfigured d n v).regs,
             slots := (s.subConfigured d n v).slots, removals := (s.subConfigured d n v).removals } := by
  rw [State.subConfigured, subEnded_frame]
  rfl

theorem rd_subConfigured_same (s : State) (d n : Nat) (v : Word) :
    (s.subConfigured d n v).rd Obj.SUB_CONFIG (sel d n) = v := rd_wr_same _ _ _ _

theorem rd_subConfigured_other (s : State) {d n id k : Nat} (v : Word) (h : ¬(id = Obj.SUB_CONFIG ∧ k = sel d n)) :
    (s.subConfigured d n v).rd id k = s.rd id k := by
  have hwr : (s.subConfigured d n v).rd id k = (s.subEnded d n).rd id k := rd_wr_other _ v h
  rw [hwr, subEnded_frame]
  rfl

/-- How a subscription starts depends on no subscription, so it reads the same before and after it is entered. -/
theorem sub_subConfigured_same (s : State) (d n : Nat) (v : Word) :
    (s.subConfigured d n v).sub (sel d n) =
      { stag := (s.sub (sel d n)).stag, st := if bit v 31 then (s.subConfigured d n v).subStart d n else .off } := by
  rw [State.subConfigured, sub_setSub, if_pos rfl]
  rfl

theorem sub_subConfigured_other (s : State) {d n k : Nat} (v : Word) (h : k ≠ sel d n) :
    (s.subConfigured d n v).sub k = s.sub k := by
  rw [State.subConfigured, sub_setSub, if_neg h, subEnded_frame]
  rfl

/-! FORWARD_ENTRY_INSTALL (R249, R251, R262). -/

/-- An entry for a mirror of this device has its slot's view on its way, whether it replaces an update of this cycle or is a
new one (R253). -/
theorem forwardView_sends (s : State) {f : Forward} (h : f.dev = none) :
    ∃ m ∈ (s.forwardView f).flight, m.body = .update ⟨s.cyc, none, f.srcDie, f.srcSlot, f.mDie, f.mSlot, f.stag,
      (s.slot (sel f.srcDie f.srcSlot)).view⟩ := by
  simp only [State.forwardView, h]
  split
  · next hany =>
    obtain ⟨m, hm, hsame⟩ := List.any_eq_true.1 hany
    refine ⟨_, List.mem_map_of_mem hm, ?_⟩
    rw [if_pos hsame]
  · exact ⟨_, List.mem_append_right _ (List.mem_singleton_self _), rfl⟩

/-- An entry for a mirror of this device uses no route to another device. -/
theorem forwardView_frame_own (s : State) {f : Forward} (h : f.dev = none) :
    s.forwardView f = { s with regs := (s.forwardView f).regs, flight := (s.forwardView f).flight } := by
  simp only [State.forwardView, h]
  split
  · rfl
  · rw [inc_frame]
    rfl

theorem install_frame (s : State) (f : Forward) : s.install f =
    { s with forwards := s.forwards ++ [f], regs := (s.install f).regs, flight := (s.install f).flight,
             routes := (s.install f).routes } :=
  forwardView_frame _ f

theorem install_frame_own (s : State) {f : Forward} (h : f.dev = none) : s.install f =
    { s with forwards := s.forwards ++ [f], regs := (s.install f).regs, flight := (s.install f).flight } :=
  forwardView_frame_own _ h

/-- The conditions under which an entry for a mirror of this device is installed or refused (R249, R250). -/
structure Installable (s : State) (d n : Nat) : Prop where
  pending : (s.sub (sel d n)).st = .pending
  unawaited : (s.sub (sel d n)).awaited = false
  within : n < 768
  booted : (s.die (s.subDie (sel d n))).booted = true
  reached : (s.subRoute d n).isSome = true

/-- The entry for a mirror of this device with the STAG that follows (R262). -/
def State.nextForward (s : State) (d n : Nat) : Forward :=
  ⟨s.subDie (sel d n), s.subSlot (sel d n), none, d, n, ((s.sub (sel d n)).stag + 1) % 8⟩

/-- A subscription awaits the resync of an entry that has been installed with the STAG that follows. -/
def State.resyncAwaited (s : State) (d n : Nat) : State :=
  s.setSub (sel d n)
    { s.sub (sel d n) with stag := ((s.sub (sel d n)).stag + 1) % 8, awaited := true }

theorem exec_installHere_room {s : State} {d n : Nat} (h : Installable s d n)
    (hroom : s.forwardUsed (s.subDie (sel d n)) < 1024) :
    exec (.forwardEntryInstall (.here d n)) s = .next ((s.resyncAwaited d n).install (s.nextForward d n)) := by
  show execForwardEntryInstall (.here d n) s = _
  simp only [execForwardEntryInstall]
  rw [if_pos ⟨h.pending, h.unawaited, h.within, h.booted, h.reached⟩, if_neg (Nat.not_le.2 hroom)]
  rfl

theorem installed_reads (s : State) (d n : Nat) :
    let t := (s.resyncAwaited d n).install (s.nextForward d n)
    t.sub (sel d n) = { s.sub (sel d n) with stag := ((s.sub (sel d n)).stag + 1) % 8, awaited := true } ∧
    (∀ k : Nat, k ≠ sel d n → t.sub k = s.sub k) ∧ t.forwards = s.forwards ++ [s.nextForward d n] ∧
    (∃ m ∈ t.flight, m.body = .update ⟨s.cyc, none, s.subDie (sel d n), s.subSlot (sel d n), d, n,
      ((s.sub (sel d n)).stag + 1) % 8, (s.slot (sel (s.subDie (sel d n)) (s.subSlot (sel d n)))).view⟩) ∧
    t = { s with subs := t.subs, forwards := t.forwards, regs := t.regs, flight := t.flight } := by
  have hsub : ∀ k, ((s.resyncAwaited d n).install (s.nextForward d n)).sub k = (s.resyncAwaited d n).sub k := fun k => by
    rw [install_frame_own _ rfl]
    rfl
  refine ⟨?_, fun k hk => ?_, ?_, forwardView_sends _ rfl, ?_⟩
  · rw [hsub, State.resyncAwaited, sub_setSub, if_pos rfl]
  · rw [hsub, State.resyncAwaited, sub_setSub, if_neg hk]
  · rw [install_frame_own _ rfl]
    rfl
  · rw [install_frame_own _ rfl]
    rfl

theorem exec_installHere_full {s : State} {d n : Nat} (h : Installable s d n)
    (hfull : 1024 ≤ s.forwardUsed (s.subDie (sel d n))) :
    exec (.forwardEntryInstall (.here d n)) s =
      .next (s.setSub (sel d n) { s.sub (sel d n) with st := .refusedFull }) := by
  show execForwardEntryInstall (.here d n) s = _
  simp only [execForwardEntryInstall]
  rw [if_pos ⟨h.pending, h.unawaited, h.within, h.booted, h.reached⟩, if_pos hfull]

theorem exec_installToOther {s : State} {sd ss n : Nat} (dev d tag : Nat) (hroom : s.forwardUsed sd < 1024)
    (hsource : sourceSlot ss = true) (hn : 768 ≤ n) (hboot : (s.die sd).booted = true) :
    exec (.forwardEntryInstall (.toOther sd ss dev d n tag)) s = .next (s.install ⟨sd, ss, some dev, d, n, tag⟩) := by
  show execForwardEntryInstall (.toOther sd ss dev d n tag) s = _
  simp only [execForwardEntryInstall]
  rw [if_pos ⟨hroom, hsource, hn, hboot⟩]

theorem exec_installFromOther {s : State} {d n : Nat} (full : Bool) (hst : (s.sub (sel d n)).st = .pending)
    (haw : (s.sub (sel d n)).awaited = false) (hn : 768 ≤ n) :
    exec (.forwardEntryInstall (.fromOther d n full)) s = .next (s.setSub (sel d n)
      (if full then { s.sub (sel d n) with st := .refusedFull }
       else { s.sub (sel d n) with stag := ((s.sub (sel d n)).stag + 1) % 8, awaited := true })) := by
  show execForwardEntryInstall (.fromOther d n full) s = _
  simp only [execForwardEntryInstall]
  rw [if_pos ⟨hst, haw, hn⟩]

/-! MIRROR_UPDATE_RECEIVE (R253–R255, R262). -/

theorem exec_mirrorUpdateReceive {d : Nat} {u : Update} {m : Msg} {s s0 : State}
    (ha : s.arrived d MsgBody.isUpdate = some (m, s0)) (hm : m.body = .update u) :
    exec (.mirrorUpdateReceive d) s = s0.receiveUpdate d u := by
  show execMirrorUpdateReceive d s = _
  simp only [execMirrorUpdateReceive, ha, hm]

/-- A subscription awaits the resync of its forward entry (R250). -/
def State.awaitsResync (s : State) (k : Nat) : Bool := (s.sub k).st = .pending && (s.sub k).awaited

/-- An update comes from the source that its mirror's subscription names (R270). -/
def State.fromSource (s : State) (d : Nat) (u : Update) : Bool :=
  match u.dev with
  | none => decide (u.mSlot < 768) && s.subDie (sel d u.mSlot) == u.srcDie
  | some dev => decide (768 ≤ u.mSlot) && s.subDevice (sel d u.mSlot) == dev

/-- An update matches its mirror's subscription (R262). -/
def State.updateFits (s : State) (d : Nat) (u : Update) : Bool :=
  ((s.sub (sel d u.mSlot)).st = .active || s.awaitsResync (sel d u.mSlot)) &&
    (s.sub (sel d u.mSlot)).stag == u.stag && s.fromSource d u

/-- A view received for a mirror slot is stored and counted (R253); a clear of its cycle waits after all (R245). -/
def State.updateStored (s : State) (d n : Nat) (v : SlotView) : State :=
  let y := s.slot (sel d n)
  let s1 := (s.putView (sel d n) v).inc Obj.UPDATES_RECEIVED (sel d 0)
  s1.setSlot (sel d n)
    { s1.slot (sel d n) with wrote := some (s.cyc, 8), clearing := y.clearing || y.cleared == some s.cyc }

theorem updateStored_frame (s : State) (d n : Nat) (v : SlotView) : s.updateStored d n v =
    { s with slots := (s.updateStored d n v).slots, regs := (s.updateStored d n v).regs } := by
  simp only [State.updateStored]
  rw [inc_frame]
  rfl

theorem updateStored_reads (s : State) (d n : Nat) (v : SlotView) :
    ((s.updateStored d n v).slot (sel d n)).view = v ∧
    (∀ k : Nat, k ≠ sel d n → (s.updateStored d n v).slot k = s.slot k) := by
  simp only [State.updateStored]
  rw [inc_frame]
  refine ⟨?_, fun k hk => ?_⟩
  · rw [slot_setSlot, if_pos rfl]
    show ((s.putView (sel d n) v).slot (sel d n)).view = v
    rw [State.putView, slot_setSlot, if_pos rfl]
    rfl
  · rw [slot_setSlot, if_neg hk]
    show (s.putView (sel d n) v).slot k = s.slot k
    rw [State.putView, slot_setSlot, if_neg hk]

/-- An update has been written to its mirror slot, with VALID 0 and UNREACH 1 where its source is lost (R256, R257). -/
def State.updateWritten (s : State) (d : Nat) (u : Update) (lost : Bool) : State :=
  (s.updateStored d u.mSlot (if lost then { u.view with valid := false } else u.view)).setUnreach (sel d u.mSlot) lost

theorem updateWritten_frame (s : State) (d : Nat) (u : Update) (lost : Bool) : s.updateWritten d u lost =
    { s with slots := (s.updateWritten d u lost).slots, regs := (s.updateWritten d u lost).regs } := by
  rw [State.updateWritten, setUnreach_frame, updateStored_frame]

theorem updateWritten_reads (s : State) (d : Nat) (u : Update) (lost : Bool) :
    ((s.updateWritten d u lost).slot (sel d u.mSlot)).view =
      (if lost then { u.view with valid := false } else u.view) ∧
    ((s.updateWritten d u lost).slot (sel d u.mSlot)).unreach = lost ∧
    (∀ k : Nat, k ≠ sel d u.mSlot → (s.updateWritten d u lost).slot k = s.slot k) := by
  obtain ⟨hstored, hkept⟩ := updateStored_reads s d u.mSlot (if lost then { u.view with valid := false } else u.view)
  obtain ⟨hunreach, hview, hother⟩ := setUnreach_reads
    (s.updateStored d u.mSlot (if lost then { u.view with valid := false } else u.view)) (sel d u.mSlot) lost
  exact ⟨(hview _).trans hstored, hunreach, fun k hk => (hother k hk).trans (hkept k hk)⟩

/-- The route of a subscription that had one is now another (R257). -/
def Sub.routeChanged (x : Sub) (p : List Hop) : Bool :=
  match x.route with
  | some q => q != p
  | none => false

/-- The subscription `x` of a mirror has become ACTIVE, with the latency and the route that it then has (R251, R256). -/
def State.resynced (s : State) (d n : Nat) (x : Sub) : State :=
  let a := (s.subRoute d n).getD (x.latency, [])
  let s3 := s.setSub (sel d n) { x with st := .active, awaited := false, latency := a.1, route := some a.2 }
  if x.routeChanged a.2 then s3.setBit Obj.SUB_STATUS (sel d n) 4 else s3

theorem resynced_frame (s : State) (d n : Nat) (x : Sub) :
    s.resynced d n x = { s with subs := (s.resynced d n x).subs, regs := (s.resynced d n x).regs } := by
  simp only [State.resynced]
  split <;> rfl

theorem sub_resynced (s : State) (d n k : Nat) (x : Sub) : (s.resynced d n x).sub k =
    if k = sel d n then { x with
      st := .active, awaited := false, latency := ((s.subRoute d n).getD (x.latency, [])).1,
      route := some ((s.subRoute d n).getD (x.latency, [])).2 }
    else s.sub k := by
  rw [← sub_setSub]
  simp only [State.resynced]
  split <;> rfl

/-- An update that fits its subscription has been written, and an awaited resync has made the subscription ACTIVE. -/
def State.updateTaken (s : State) (d : Nat) (u : Update) : State :=
  let k := sel d u.mSlot
  let t := s.updateWritten d u ((s.slot k).unreach && !s.awaitsResync k)
  if s.awaitsResync k then t.resynced d u.mSlot (s.sub k) else t

theorem receiveUpdate_asleep {s : State} {d : Nat} (u : Update) (h : (s.die d).s3 = true) :
    s.receiveUpdate d u = .next (s.inc Obj.UPDATES_DISCARDED (sel d 0)) := if_pos h

/-- The model's reception, by whether the update fits its subscription. -/
theorem receiveUpdate_awake {s : State} {d : Nat} (u : Update) (h : (s.die d).s3 = false) :
    s.receiveUpdate d u = .next (if s.updateFits d u then s.updateTaken d u
      else (s.inc Obj.UPDATES_DISCARDED (sel d 0)).askRemoval u.dev d u.mSlot u.stag) := by
  have hawake : ¬(s.die d).s3 = true := by simp [h]
  rcases hfit : s.updateFits d u
  · exact (if_neg hawake).trans (if_pos (congrArg not hfit))
  · have hfits : ¬(!s.updateFits d u) = true := by simp [hfit]
    refine ((if_neg hawake).trans (if_neg hfits)).trans ?_
    rw [if_pos rfl, State.updateTaken]
    by_cases hre : s.awaitsResync (sel d u.mSlot) = true
    · rw [if_pos hre]
      exact (if_pos hre).trans rfl
    · rw [if_neg hre]
      exact if_neg hre

theorem fromSource_eq_true {s : State} {d : Nat} {u : Update}
    (hown : u.dev = none → u.mSlot < 768 ∧ s.subDie (sel d u.mSlot) = u.srcDie)
    (hother : ∀ dev : Nat, u.dev = some dev → 768 ≤ u.mSlot ∧ s.subDevice (sel d u.mSlot) = dev) :
    s.fromSource d u = true := by
  rcases hdev : u.dev with _ | dev
  · simp [State.fromSource, hdev, hown hdev]
  · simp [State.fromSource, hdev, hother dev hdev]

theorem updateFits_eq_true {s : State} {d : Nat} {u : Update}
    (hst : (s.sub (sel d u.mSlot)).st = .active ∨ s.awaitsResync (sel d u.mSlot) = true)
    (htag : (s.sub (sel d u.mSlot)).stag = u.stag) (hsource : s.fromSource d u = true) : s.updateFits d u = true := by
  simp [State.updateFits, hst, htag, hsource]

theorem updateFits_eq_false {s : State} {d : Nat} {u : Update}
    (h : (s.sub (sel d u.mSlot)).stag ≠ u.stag ∨ ((s.sub (sel d u.mSlot)).st ≠ .active ∧
      ((s.sub (sel d u.mSlot)).st ≠ .pending ∨ (s.sub (sel d u.mSlot)).awaited = false))) :
    s.updateFits d u = false := by
  rcases h with htag | ⟨hactive, hpending | hawaited⟩
  · simp [State.updateFits, htag]
  · simp [State.updateFits, State.awaitsResync, hactive, hpending]
  · simp [State.updateFits, State.awaitsResync, hactive, hawaited]

theorem receiveUpdate_unfit {s : State} {d : Nat} {u : Update} (hawake : (s.die d).s3 = false)
    (hfit : s.updateFits d u = false) :
    s.receiveUpdate d u =
      .next ((s.inc Obj.UPDATES_DISCARDED (sel d 0)).askRemoval u.dev d u.mSlot u.stag) := by
  rw [receiveUpdate_awake u hawake, hfit]
  rfl

theorem receiveUpdate_resync {s : State} {d : Nat} {u : Update} (hawake : (s.die d).s3 = false)
    (hst : (s.sub (sel d u.mSlot)).st = .pending) (haw : (s.sub (sel d u.mSlot)).awaited = true)
    (htag : (s.sub (sel d u.mSlot)).stag = u.stag) (hsource : s.fromSource d u = true) :
    s.receiveUpdate d u = .next ((s.updateWritten d u false).resynced d u.mSlot (s.sub (sel d u.mSlot))) := by
  have hre : s.awaitsResync (sel d u.mSlot) = true := by simp [State.awaitsResync, hst, haw]
  rw [receiveUpdate_awake u hawake, updateFits_eq_true (.inr hre) htag hsource]
  simp [State.updateTaken, hre]

theorem receiveUpdate_active {s : State} {d : Nat} {u : Update} (hawake : (s.die d).s3 = false)
    (hst : (s.sub (sel d u.mSlot)).st = .active) (htag : (s.sub (sel d u.mSlot)).stag = u.stag)
    (hsource : s.fromSource d u = true) :
    s.receiveUpdate d u = .next (s.updateWritten d u (s.slot (sel d u.mSlot)).unreach) := by
  have hre : s.awaitsResync (sel d u.mSlot) = false := by simp [State.awaitsResync, hst]
  rw [receiveUpdate_awake u hawake, updateFits_eq_true (.inl hst) htag hsource]
  simp [State.updateTaken, hre]

theorem resynced_updateWritten_reads (s : State) (d : Nat) (u : Update) (x : Sub) :
    let t := (s.updateWritten d u false).resynced d u.mSlot x
    (t.slot (sel d u.mSlot)).view = u.view ∧ (t.slot (sel d u.mSlot)).unreach = false ∧
    (t.sub (sel d u.mSlot)).st = .active ∧ (t.sub (sel d u.mSlot)).awaited = false ∧
    (∀ k : Nat, k ≠ sel d u.mSlot → t.slot k = s.slot k ∧ t.sub k = s.sub k) ∧
    t = { s with slots := t.slots, subs := t.subs, regs := t.regs } := by
  obtain ⟨hview, hunreach, hother⟩ := updateWritten_reads s d u false
  have hslot : ∀ k, ((s.updateWritten d u false).resynced d u.mSlot x).slot k = (s.updateWritten d u false).slot k :=
    fun k => by
      rw [resynced_frame]
      rfl
  refine ⟨?_, ?_, ?_, ?_, fun k hk => ⟨?_, ?_⟩, ?_⟩
  · rw [hslot, hview]
    rfl
  · rw [hslot, hunreach]
  · rw [sub_resynced, if_pos rfl]
  · rw [sub_resynced, if_pos rfl]
  · rw [hslot, hother k hk]
  · rw [sub_resynced, if_neg hk, updateWritten_frame]
    rfl
  · rw [resynced_frame, updateWritten_frame]

/-! FORWARD_REMOVAL (R262). -/

theorem exec_forwardRemoval_reads (dev : Option Nat) (d n tag : Nat) (s : State) :
    ∃ t, exec (.forwardRemoval dev d n tag) s = .next t ∧
      (∀ f : Forward, f ∈ t.forwards ↔ f ∈ s.forwards ∧ ¬(f.dev = dev ∧ f.mDie = d ∧ f.mSlot = n ∧ f.stag = tag)) ∧
      (∀ r ∈ s.removals, r.2 ≠ (d, n, tag) → r ∈ t.removals) ∧ (∀ r ∈ t.removals, r ∈ s.removals) ∧
      t = { s with forwards := t.forwards, removals := t.removals } := by
  refine ⟨_, rfl, fun f => ?_, fun r hr hne => ?_, fun r hr => (List.mem_filter.1 hr).1, rfl⟩
  · simp only [List.mem_filter, Bool.not_eq_true', ← Bool.not_eq_true, Bool.and_eq_true, beq_iff_eq, and_assoc]
  · exact List.mem_filter.2 ⟨hr, by simp [hne]⟩

/-- Settles O26: SUB_CONFIG by the subscription that ends and the one that starts (R252), an entry by whether its table has
room (R249, R251), an update by whether it fits its subscription and its resync is awaited (R253–R255, R262), and a removal by
what it keeps (R262). -/
theorem subscriptions : Obligations.Subscriptions := by
  refine ⟨fun d n v s h => ?_, fun d n v s h => ?_, fun d n s hst haw hn hboot hroute hroom => ?_,
    fun d n s hst haw hn hboot hroute hfull => exec_installHere_full ⟨hst, haw, hn, hboot, hroute⟩ hfull,
    fun sd ss dev d n tag s hroom hsource hn hboot => ?_,
    fun d n full s hst haw hn => exec_installFromOther full hst haw hn,
    fun d u m s s0 ha hm hawake hst haw htag hown hother => ?_,
    fun d u m s s0 ha hm hawake hst htag hown hother => ?_,
    fun d u m s s0 ha hm hawake hunfit => ?_, fun d u m s s0 ha hm hasleep => ?_, exec_forwardRemoval_reads⟩
  · obtain ⟨hunreach, hview, hother⟩ := subEnded_slots s d n
    refine ⟨_, exec_subConfig_legal h, rd_subConfigured_same s d n v, sub_subConfigured_same s d n v, subEnded_asks,
      hunreach, hview, hother, fun k hk => sub_subConfigured_other s v hk,
      fun id k hk => rd_subConfigured_other s v hk, subConfigured_frame s d n v⟩
  · simp [exec_subConfig, unlessError, hostError, h]
  · exact ⟨_, exec_installHere_room ⟨hst, haw, hn, hboot, hroute⟩ hroom, installed_reads s d n⟩
  · refine ⟨_, exec_installToOther dev d tag hroom hsource hn hboot, ?_, ?_⟩
    · rw [install_frame]
    · rw [install_frame]
  · obtain ⟨fl, rfl⟩ : ∃ fl, s0 = { s with flight := fl } := ⟨_, arrived_frame ha⟩
    have hsource := fromSource_eq_true hown hother
    exact ⟨_, (exec_mirrorUpdateReceive ha hm).trans (receiveUpdate_resync hawake hst haw htag hsource),
      resynced_updateWritten_reads _ d u _⟩
  · obtain ⟨fl, rfl⟩ : ∃ fl, s0 = { s with flight := fl } := ⟨_, arrived_frame ha⟩
    obtain ⟨hview, -, hslot⟩ := updateWritten_reads { s with flight := fl } d u (s.slot (sel d u.mSlot)).unreach
    have hsource := fromSource_eq_true hown hother
    exact ⟨_, (exec_mirrorUpdateReceive ha hm).trans (receiveUpdate_active hawake hst htag hsource), hview, hslot,
      updateWritten_frame _ d u _⟩
  · obtain ⟨fl, rfl⟩ : ∃ fl, s0 = { s with flight := fl } := ⟨_, arrived_frame ha⟩
    exact (exec_mirrorUpdateReceive ha hm).trans (receiveUpdate_unfit hawake (updateFits_eq_false hunfit))
  · obtain ⟨fl, rfl⟩ : ∃ fl, s0 = { s with flight := fl } := ⟨_, arrived_frame ha⟩
    exact (exec_mirrorUpdateReceive ha hm).trans (receiveUpdate_asleep u hasleep)

end Sys2Proof.Machine
end

section
/-!
PROOFS. Raw capture (R341, R342): the end of a copy, and the object in which its event leaves a mark.
-/

namespace Sys2Proof.Machine

/-- Raw capture of die 0 copies, RAW_DONE (producer 177) is candidate C3 of channel 164, which has it enabled, and another
candidate has raised an event on that channel in this cycle. -/
def copyEnding : State := { liveSession with
  acqs := [(0, { raw := { copying := true } })]
  regs := [(Obj.CHAN_CONFIG, [(sel 0 164, word (2 ^ 27))])]
  chans := [(sel 0 164, { events := [⟨0, 2, 2, false, 1, 0⟩] })] }

theorem copying_copyEnding : (copyEnding.acq 0).raw.copying = true := rfl

theorem rd_copyEnding : copyEnding.rd Obj.CHAN_STATUS (sel 0 164) = 0 := by decide +kernel

/-- RAW_DONE merges with the other event, and COINCIDENT is set (R363). -/
theorem rawCopyEnd_copyEnding : ∃ t, exec (.rawCopyEnd 0) copyEnding = .next t ∧ t.rd Obj.CHAN_STATUS (sel 0 164) = 4 :=
  ⟨_, rfl, by decide +kernel⟩

/-- Refutes O36, by its clause that RAW_COPY_END changes the buffer and the channels only (R341): where RAW_DONE merges with
another event of its cycle, COINCIDENT is set in CHAN_STATUS (R363), an object that the clause leaves as it was. Log 62, on
which the clauses of captures rest, plays no part. -/
theorem not_rawCaptureAndBuffer : ¬ Obligations.RawCaptureAndBuffer := by
  unfold Obligations.RawCaptureAndBuffer
  rintro ⟨-, -, -, -, -, -, hcopyEnd, -⟩
  obtain ⟨t, hexec, -, -, -, -, hframe⟩ := hcopyEnd 0 copyEnding copying_copyEnding
  obtain ⟨u, hends, hcoincident⟩ := rawCopyEnd_copyEnding
  cases hexec.symm.trans hends
  rw [hframe] at hcoincident
  exact absurd (rd_copyEnding.symm.trans hcoincident) (by decide)

end Sys2Proof.Machine
end

section
/-!
PROOFS. Rules of the acquisition buffer: records that are to be reserved and records that are changed (R346), and the bits of
the words that they are made of.
-/

namespace Sys2Proof.Machine

/-! Lists of records. -/

theorem mem_insRec {a r : Rec} {l : List Rec} : r ∈ insRec a l ↔ r = a ∨ r ∈ l := by
  induction l with
  | nil => simp [insRec]
  | cons b l ih =>
    rw [insRec]
    split
    · exact List.mem_cons
    · rw [List.mem_cons, ih, List.mem_cons, or_left_comm]

/-- A record changed among those of a list. -/
theorem mem_map_edit {l : List Rec} {r : Rec} {id : Nat} (f : Rec → Rec) (hr : r ∈ l) :
    (if r.id = id then f r else r) ∈ l.map (fun r => if r.id = id then f r else r) :=
  List.mem_map_of_mem hr

/-! Records that begin. -/

theorem acq_reserve_same (s : State) (d : Nat) (r : Rec) : (s.reserve d r).2.acq d = { s.acq d with
    wants := insRec { r with id := (s.acq d).nextId } (s.acq d).wants, nextId := (s.acq d).nextId + 1 } :=
  (acq_setAcq s d d _).trans (if_pos rfl)

theorem acq_reserve_other (s : State) {d k : Nat} (r : Rec) (h : k ≠ d) : (s.reserve d r).2.acq k = s.acq k :=
  (acq_setAcq s d k _).trans (if_neg h)

theorem mem_wants_reserve {s : State} {d : Nat} {r x : Rec} : x ∈ ((s.reserve d r).2.acq d).wants ↔
    x = { r with id := (s.acq d).nextId } ∨ x ∈ (s.acq d).wants := by
  rw [acq_reserve_same]
  exact mem_insRec

theorem recs_reserve (s : State) (d : Nat) (r : Rec) : ((s.reserve d r).2.acq d).recs = (s.acq d).recs := by
  rw [acq_reserve_same]

theorem forces_reserve (s : State) (d : Nat) (r : Rec) : ((s.reserve d r).2.acq d).forces = (s.acq d).forces := by
  rw [acq_reserve_same]

/-! Records that are changed. -/

theorem acq_editRec_same (s : State) (d id : Nat) (f : Rec → Rec) : (s.editRec d id f).acq d = { s.acq d with
    recs := (s.acq d).recs.map (fun r => if r.id = id then f r else r),
    wants := (s.acq d).wants.map (fun r => if r.id = id then f r else r) } :=
  (acq_setAcq s d d _).trans (if_pos rfl)

theorem acq_editRec_other (s : State) {d k : Nat} (id : Nat) (f : Rec → Rec) (h : k ≠ d) :
    (s.editRec d id f).acq k = s.acq k :=
  (acq_setAcq s d k _).trans (if_neg h)

theorem recs_editRec_same {s : State} {d id : Nat} {r : Rec} (f : Rec → Rec) (hr : r ∈ (s.acq d).recs) (hid : r.id = id) :
    f r ∈ ((s.editRec d id f).acq d).recs := by
  have hmem := mem_map_edit (id := id) f hr
  rw [if_pos hid] at hmem
  rwa [acq_editRec_same]

theorem recs_editRec_other {s : State} {d id : Nat} {r : Rec} (f : Rec → Rec) (hr : r ∈ (s.acq d).recs)
    (hid : r.id ≠ id) :
    r ∈ ((s.editRec d id f).acq d).recs := by
  have hmem := mem_map_edit (id := id) f hr
  rw [if_neg hid] at hmem
  rwa [acq_editRec_same]

theorem wants_editRec_other {s : State} {d id : Nat} {r : Rec} (f : Rec → Rec) (hr : r ∈ (s.acq d).wants)
    (hid : r.id ≠ id) :
    r ∈ ((s.editRec d id f).acq d).wants := by
  have hmem := mem_map_edit (id := id) f hr
  rw [if_neg hid] at hmem
  rwa [acq_editRec_same]

/-! Parts of the state that are as they were. -/

theorem tone_congr {s t : State} (h : t.tones = s.tones) (k : Nat) : t.tone k = s.tone k := by
  rw [State.tone, h, State.tone]

theorem maj_congr {s t : State} (h : t.majs = s.majs) (k : Nat) : t.maj k = s.maj k := by
  rw [State.maj, h, State.maj]

theorem acq_congr {s t : State} (h : t.acqs = s.acqs) (k : Nat) : t.acq k = s.acq k := by
  rw [State.acq, h, State.acq]

theorem port_congr {s t : State} (h : t.ports = s.ports) (k : Nat) : t.port k = s.port k := by
  rw [State.port, h, State.port]

theorem rd_congr {s t : State} (h : t.regs = s.regs) (id k : Nat) : t.rd id k = s.rd id k := by
  rw [State.rd, h, State.rd]

end Sys2Proof.Machine
end

section
/-!
PROOFS. Majority units (R332–R336, R351).
-/

namespace Sys2Proof.Machine

/-! What a unit reads. -/

theorem inGroup_congr {s t : State} (hdoms : t.doms = s.doms) (d u i : Nat) : t.inGroup d u i = s.inGroup d u i := by
  simp only [State.inGroup, dw_congr hdoms]

theorem members_congr {s t : State} {d u : Nat} (hrd : t.rd Obj.MAJ_CONFIG (sel d u) = s.rd Obj.MAJ_CONFIG (sel d u))
    (hdoms : t.doms = s.doms) : t.members d u = s.members d u := by
  have hmem : t.isMember d u = s.isMember d u := by
    funext i
    simp only [State.isMember, hrd, inGroup_congr hdoms]
  rw [State.members, hmem, State.members]

theorem majCount_congr {s t : State} {d u : Nat} (hrd : t.rd Obj.MAJ_CONFIG (sel d u) = s.rd Obj.MAJ_CONFIG (sel d u))
    (hmaj : t.maj (sel d u) = s.maj (sel d u)) (c : Nat) : t.majCount d u c = s.majCount d u c := by
  simp only [State.majCount, hrd, hmaj]

/-- Fires that the window has left do not count in it (R333). -/
theorem filter_inWindow (fires : List (Nat × Nat)) (t w : Nat) :
    (fires.filter (fun f => decide (t < f.2 + w + 1))).filter (fun f => decide (f.2 ≤ t) && decide (t < f.2 + w)) =
      fires.filter (fun f => decide (f.2 ≤ t) && decide (t < f.2 + w)) := by
  rw [List.filter_filter]
  refine List.filter_congr fun f _ => ?_
  by_cases h : t < f.2 + w
  · simp [h, Nat.lt_succ_of_lt h]
  · simp [h]

/-! A fire, whatever its cycle (R334, R336). -/

/-- The value that a unit posts as it fires (R334, R336). -/
def majValue (n m state : Nat) : BitVec 8 := BitVec.ofNat 8 (min n 31 * 8 + b2n (decide (m < n)) * 4 + state)

/-- Unit `u` has fired on cycle `t`: its counted fires, MAJ_FIRES and its slot (R334). -/
def State.majFired (s : State) (d u t at_ state : Nat) : State :=
  let c := s.rd Obj.MAJ_CONFIG (sel d u)
  (((s.setMaj (sel d u) { s.maj (sel d u) with
    fires := (s.maj (sel d u)).fires.filter (fun f => decide (t + bits c 35 20 < f.2)),
    deaf := some (t + bits c 35 20) }).inc Obj.MAJ_FIRES (sel d u)).offerPost d 8 at_ (128 + u)
      (majValue (s.majCount d u t) (bits c 59 48) state) (.maj u))

theorem majFired_frame (s : State) (d u t at_ state : Nat) : s.majFired d u t at_ state = { s with
    majs := (s.majFired d u t at_ state).majs, regs := (s.majFired d u t at_ state).regs,
    ports := (s.majFired d u t at_ state).ports } := by
  simp only [State.majFired]
  rw [inc_frame]
  rfl

theorem maj_majFired (s : State) (d u t at_ state k : Nat) : (s.majFired d u t at_ state).maj k =
    if k = sel d u then { s.maj (sel d u) with
      fires := (s.maj (sel d u)).fires.filter (fun f => decide (t + bits (s.rd Obj.MAJ_CONFIG (sel d u)) 35 20 < f.2)),
      deaf := some (t + bits (s.rd Obj.MAJ_CONFIG (sel d u)) 35 20) } else s.maj k := by
  simp only [State.majFired]
  rw [inc_frame]
  exact maj_setMaj s (sel d u) k _

theorem rd_majFired_same (s : State) (d u t at_ state : Nat) :
    (s.majFired d u t at_ state).rd Obj.MAJ_FIRES (sel d u) = (s.inc Obj.MAJ_FIRES (sel d u)).rd Obj.MAJ_FIRES (sel d u) :=
  rd_count_congr 1 (t := s.setMaj _ _) rfl

theorem rd_majFired_other (s : State) (d u t at_ state : Nat) {id : Nat} (k : Nat) (h : id ≠ Obj.MAJ_FIRES) :
    (s.majFired d u t at_ state).rd id k = s.rd id k :=
  rd_inc_other (s.setMaj _ _) fun h' => h h'.1

theorem posts_majFired (s : State) (d u t at_ state : Nat) :
    ((s.majFired d u t at_ state).port (d * 16 + 8)).posts = (s.port (d * 16 + 8)).posts ++ [Post.mk at_ (128 + u)
      (majValue (s.majCount d u t) (bits (s.rd Obj.MAJ_CONFIG (sel d u)) 59 48) state) (.maj u)] := by
  simp only [State.majFired]
  rw [inc_frame]
  exact congrArg WPort.posts ((port_setPort _ _ _ _).trans (if_pos rfl))

/-- The record of a fire of unit `u` on cycle `t` (R344). -/
def majRec (u t at_ n : Nat) : Rec :=
  { id := 0, typ := .majority, unit := u, at_ := at_, len := 2, tag := timeTag t 0, body := n % 4096 }

/-- A record begins where RECORD asks for it (R334). -/
def State.reserveIf (s : State) (d : Nat) (b : Bool) (r : Rec) : State := if b then (s.reserve d r).2 else s

theorem reserveIf_frame (s : State) (d : Nat) (b : Bool) (r : Rec) :
    s.reserveIf d b r = { s with acqs := (s.reserveIf d b r).acqs } := by
  cases b <;> rfl

theorem tones_reserveIf (s : State) (d : Nat) (b : Bool) (r : Rec) : (s.reserveIf d b r).tones = s.tones := by
  cases b <;> rfl

theorem recs_reserveIf (s : State) (d : Nat) (b : Bool) (r : Rec) : ((s.reserveIf d b r).acq d).recs = (s.acq d).recs := by
  cases b
  · rfl
  · exact recs_reserve s d r

theorem forces_reserveIf (s : State) (d : Nat) (b : Bool) (r : Rec) :
    ((s.reserveIf d b r).acq d).forces = (s.acq d).forces := by
  cases b
  · rfl
  · exact forces_reserve s d r

theorem acq_reserveIf_other (s : State) {d k : Nat} (b : Bool) (r : Rec) (h : k ≠ d) :
    (s.reserveIf d b r).acq k = s.acq k := by
  cases b
  · rfl
  · exact acq_reserve_other s r h

theorem mem_wants_reserveIf {s : State} {d : Nat} {b : Bool} (r : Rec) (h : b = true) :
    { r with id := (s.acq d).nextId } ∈ ((s.reserveIf d b r).acq d).wants := by
  rw [State.reserveIf, if_pos h]
  exact mem_wants_reserve.2 (.inl rfl)

/-! A fire of the next cycle (R333, R334). -/

/-- The member tones are to be forced in cycle `at_` where FORCE_RECORDS asks for it (R334). -/
def State.forceLater (s : State) (d u at_ : Nat) (b : Bool) : State :=
  if b then s.setAcq d { s.acq d with forces := (s.acq d).forces ++ [(at_, u)] } else s

theorem forceLater_frame (s : State) (d u at_ : Nat) (b : Bool) :
    s.forceLater d u at_ b = { s with acqs := (s.forceLater d u at_ b).acqs } := by
  cases b <;> rfl

theorem acq_forceLater_same (s : State) (d u at_ : Nat) (b : Bool) : (s.forceLater d u at_ b).acq d =
    { s.acq d with forces := if b then (s.acq d).forces ++ [(at_, u)] else (s.acq d).forces } := by
  cases b
  · rfl
  · exact (acq_setAcq s d d _).trans (if_pos rfl)

theorem acq_forceLater_other (s : State) {d k : Nat} (u at_ : Nat) (b : Bool) (h : k ≠ d) :
    (s.forceLater d u at_ b).acq k = s.acq k := by
  cases b
  · rfl
  · exact (acq_setAcq s d k _).trans (if_neg h)

/-- MAJu is to be raised in cycle `at_` (R334). -/
def State.raiseLater (s : State) (d u at_ : Nat) : State := { s with later := s.later ++ [(at_, d, 160 + u)] }

theorem majFire_next (s : State) (d u t state : Nat) : s.majFire d u t (s.cyc + 1) state =
    (((s.majFired d u t (s.cyc + 1) state).raiseLater d u (s.cyc + 1)).forceLater d u (s.cyc + 1)
      (bit (s.rd Obj.MAJ_CONFIG (sel d u)) 61)).reserveIf d (bit (s.rd Obj.MAJ_CONFIG (sel d u)) 60)
      (majRec u t (s.cyc + 1) (s.majCount d u t)) := by
  have hne : ¬ s.cyc + 1 = s.cyc := by omega
  simp only [State.majFire, if_neg hne]
  cases bit (s.rd Obj.MAJ_CONFIG (sel d u)) 61 <;> rfl

/-! A forced fire (R336). -/

theorem forceTone_frame (s : State) (d t : Nat) (maj : Bool) : s.forceTone d t maj =
    { s with tones := (s.forceTone d t maj).tones, acqs := (s.forceTone d t maj).acqs } := by
  simp only [State.forceTone]
  split
  · split <;> rfl
  · rfl

theorem tone_forceTone_other (s : State) {d t k : Nat} (maj : Bool) (h : k ≠ sel d t) :
    (s.forceTone d t maj).tone k = s.tone k := by
  simp only [State.forceTone]
  split
  · split <;> rfl
  · exact (tone_setTone s _ k _).trans (if_neg h)

/-- A tone that a force has reached: one that waits already keeps its cycle (R330). -/
def Tone.forced (x : Tone) (maj : Bool) (cyc : Nat) : Tone := { x with force := match x.force with
  | some (m, c) => some (m || maj, c)
  | none => some (maj, cyc) }

theorem forced_host (x : Tone) (cyc : Nat) : x.forced false cyc = { x with force := some (x.force.getD (false, cyc)) } := by
  rw [Tone.forced]
  rcases x.force with _ | ⟨m, c⟩
  · rfl
  · simp

theorem force_forced_maj (x : Tone) (cyc : Nat) :
    (x.forced true cyc).force = some (true, (x.force.getD (true, cyc)).2) := by
  rw [Tone.forced]
  rcases x.force with _ | ⟨m, c⟩
  · rfl
  · simp

/-- Outside a record a force waits for the unit's next sample (R330). -/
theorem forceTone_outside {s : State} {d t : Nat} (maj : Bool) (hcol : (s.tone (sel d t)).collecting = none)
    (hfilled : ∀ p : Nat × Nat, (s.tone (sel d t)).filled = some p → p.2 ≠ s.cyc) :
    s.forceTone d t maj = s.setTone (sel d t) ((s.tone (sel d t)).forced maj s.cyc) := by
  rcases hf : (s.tone (sel d t)).filled with _ | ⟨id, c⟩
  · simp only [State.forceTone, Tone.forced, hcol, hf] <;> rfl
  · simp only [State.forceTone, Tone.forced, hcol, hf, if_neg (hfilled (id, c) hf)] <;> rfl

theorem foldl_forceTone_frame (d : Nat) (ts : List Nat) (s : State) :
    ts.foldl (fun x t => x.forceTone d t true) s = { s with
      tones := (ts.foldl (fun x t => x.forceTone d t true) s).tones,
      acqs := (ts.foldl (fun x t => x.forceTone d t true) s).acqs } := by
  refine List.foldlRecOn (motive := fun u : State => u = { s with tones := u.tones, acqs := u.acqs }) _ _ rfl
    fun u hu t _ => ?_
  rw [forceTone_frame, hu]

theorem forceMembers_frame (s : State) (d u : Nat) : s.forceMembers d u =
    { s with tones := (s.forceMembers d u).tones, acqs := (s.forceMembers d u).acqs } :=
  foldl_forceTone_frame d (s.members d u) s

theorem tone_foldl_forceTone_other (d : Nat) {ts : List Nat} {i : Nat} (hi : i ∉ ts) (s : State) :
    (ts.foldl (fun x t => x.forceTone d t true) s).tone (sel d i) = s.tone (sel d i) := by
  induction ts generalizing s with
  | nil => rfl
  | cons t ts ih =>
    rw [List.mem_cons, not_or] at hi
    rw [List.foldl_cons, ih hi.2]
    refine tone_forceTone_other s true fun h => hi.1 ?_
    simpa [sel] using h

theorem nodup_members (s : State) (d u : Nat) : (s.members d u).Nodup := List.nodup_range.filter _

/-- A member tone outside a record is forced once (R330, R334). -/
theorem force_forceMembers {s : State} {d u i : Nat} (hi : i ∈ s.members d u)
    (hcol : (s.tone (sel d i)).collecting = none) (hfilled : (s.tone (sel d i)).filled = none) :
    ((s.forceMembers d u).tone (sel d i)).force = some (true, ((s.tone (sel d i)).force.getD (true, s.cyc)).2) := by
  obtain ⟨before, after, hts⟩ := List.append_of_mem hi
  have hnd := nodup_members s d u
  rw [hts, List.nodup_middle, List.nodup_cons, List.mem_append, not_or] at hnd
  obtain ⟨⟨hbefore, hafter⟩, -⟩ := hnd
  have hmid := tone_foldl_forceTone_other d hbefore s
  have hcyc : (before.foldl (fun x t => x.forceTone d t true) s).cyc = s.cyc := by rw [foldl_forceTone_frame]
  rw [State.forceMembers, hts, List.foldl_append, List.foldl_cons, tone_foldl_forceTone_other d hafter,
    forceTone_outside true (by rw [hmid, hcol]) (by rw [hmid, hfilled]; exact nofun), tone_setTone, if_pos rfl, hmid, hcyc]
  exact force_forced_maj _ _

/-! The rows. -/

/-- A unit that decides on cycle `t`, with the fires that may still count (R333, R336). -/
def State.majDecided (s : State) (d u t : Nat) : State :=
  s.setMaj (sel d u) { s.maj (sel d u) with decided := some t,
                                            fires := (s.maj (sel d u)).fires.filter fun f =>
                                              decide (t < f.2 + (bits (s.rd Obj.MAJ_CONFIG (sel d u)) 47 36 + 1) + 1) }

theorem maj_majDecided (s : State) (d u t k : Nat) : (s.majDecided d u t).maj k =
    if k = sel d u then { s.maj (sel d u) with
      decided := some t
      fires := (s.maj (sel d u)).fires.filter fun f =>
        decide (t < f.2 + (bits (s.rd Obj.MAJ_CONFIG (sel d u)) 47 36 + 1) + 1) }
    else s.maj k := maj_setMaj s (sel d u) k _

theorem majCount_majDecided (s : State) (d u t : Nat) : (s.majDecided d u t).majCount d u t = s.majCount d u t := by
  have hrd : (s.majDecided d u t).rd Obj.MAJ_CONFIG (sel d u) = s.rd Obj.MAJ_CONFIG (sel d u) := rfl
  simp only [State.majCount, hrd, maj_majDecided, if_true, filter_inWindow]

theorem exec_majorityDecide_due {s : State} {d u t : Nat} (hen : bit (s.rd Obj.MAJ_CONFIG (sel d u)) 63 = true)
    (hnow : s.now = t + (s.maj (sel d u)).lambda) (hnew : (s.maj (sel d u)).decided ≠ some t) (hon : s.domOn d 32 = true) :
    exec (.majorityDecide d u) s =
      if bits (s.rd Obj.MAJ_CONFIG (sel d u)) 59 48 ≤ s.majCount d u t then
        .next ((s.majDecided d u t).majFire d u t (s.cyc + 1) 1)
      else .next (s.majDecided d u t) := by
  have ht : s.now - (s.maj (sel d u)).lambda = t := by omega
  have hlate : ¬ s.now < (s.maj (sel d u)).lambda := by omega
  show execMajorityDecide d u s = _
  rw [← majCount_majDecided, execMajorityDecide]
  simp only [ht]
  exact if_neg (by simp [hen, hlate, hnew, hon])

theorem exec_majorityDecide_idle {s : State} {d u : Nat}
    (h : bit (s.rd Obj.MAJ_CONFIG (sel d u)) 63 = false ∨ s.now < (s.maj (sel d u)).lambda ∨ s.domOn d 32 = false ∨
      (s.maj (sel d u)).decided = some (s.now - (s.maj (sel d u)).lambda)) :
    exec (.majorityDecide d u) s = .next s := by
  show execMajorityDecide d u s = _
  rw [execMajorityDecide]
  refine if_pos ?_
  rcases h with h | h | h | h <;> simp [h]

theorem majFire_next_frame (s : State) (d u t state : Nat) : s.majFire d u t (s.cyc + 1) state =
    { (s.majFired d u t (s.cyc + 1) state).raiseLater d u (s.cyc + 1) with
      acqs := (s.majFire d u t (s.cyc + 1) state).acqs } := by
  rw [majFire_next, reserveIf_frame, forceLater_frame]

/-- A fire of the next cycle leaves beside the unit's own part the event that is to be raised (R334). -/
theorem majFire_next_reads (s : State) (d u t state : Nat) :
    let v := s.majFire d u t (s.cyc + 1) state
    v.majs = (s.majFired d u t (s.cyc + 1) state).majs ∧ v.regs = (s.majFired d u t (s.cyc + 1) state).regs ∧
      v.ports = (s.majFired d u t (s.cyc + 1) state).ports ∧ v.later = s.later ++ [(s.cyc + 1, d, 160 + u)] := by
  have hlater : (s.majFired d u t (s.cyc + 1) state).later = s.later := by rw [majFired_frame]
  refine ⟨?_, ?_, ?_, ?_⟩ <;> rw [majFire_next_frame, State.raiseLater]
  rw [hlater]

/-- What a fire of the next cycle leaves in the buffers (R334). -/
theorem majFire_next_acqs (s : State) (d u t state : Nat) :
    let v := s.majFire d u t (s.cyc + 1) state
    let c := s.rd Obj.MAJ_CONFIG (sel d u)
    (v.acq d).forces = (if bit c 61 then (s.acq d).forces ++ [(s.cyc + 1, u)] else (s.acq d).forces) ∧
      (if bit c 60 then ∃ r ∈ (v.acq d).wants, r.typ = RecType.majority ∧ r.unit = u ∧ r.at_ = s.cyc + 1 ∧
          r.len = 2 ∧ r.tag = timeTag t 0 ∧ r.body = s.majCount d u t % 4096
        else (v.acq d).wants = (s.acq d).wants) ∧
      (v.acq d).recs = (s.acq d).recs ∧ ∀ k : Nat, k ≠ d → v.acq k = s.acq k := by
  have hacq : ((s.majFired d u t (s.cyc + 1) state).raiseLater d u (s.cyc + 1)).acq = s.acq := by
    rw [State.raiseLater, majFired_frame]
    rfl
  simp only [majFire_next]
  refine ⟨?_, ?_, ?_, fun k hk => ?_⟩
  · rw [forces_reserveIf, acq_forceLater_same, hacq]
  · split
    · next hrecord => exact ⟨_, mem_wants_reserveIf _ hrecord, rfl, rfl, rfl, rfl, rfl, rfl⟩
    · next hplain => rw [State.reserveIf, if_neg hplain, acq_forceLater_same, hacq]
  · rw [recs_reserveIf, acq_forceLater_same, hacq]
  · rw [acq_reserveIf_other _ _ _ hk, acq_forceLater_other _ _ _ _ hk, hacq]

/-- A force of a unit: it fires at once (R336). -/
theorem exec_majForceTask {s p : State} {d u : Nat} {e : BellEvent} (h : s.deliver d (224 + u) false = (some e, p)) :
    exec (.majForceTask d u) s = .next (p.majForce d u) := by
  show execMajForceTask d u s = _
  rw [execMajForceTask, h]

theorem exec_majForceTask_none {s p : State} {d u : Nat} (h : s.deliver d (224 + u) false = (none, p)) :
    exec (.majForceTask d u) s = .next p := by
  show execMajForceTask d u s = _
  rw [execMajForceTask, h]

/-- The member tones are forced at once where FORCE_RECORDS asks for it (R336). -/
def State.forceIf (s : State) (d u : Nat) (b : Bool) : State := if b then s.forceMembers d u else s

theorem forceIf_frame (s : State) (d u : Nat) (b : Bool) :
    s.forceIf d u b = { s with tones := (s.forceIf d u b).tones, acqs := (s.forceIf d u b).acqs } := by
  cases b
  · rfl
  · exact forceMembers_frame s d u

theorem majFire_now (s : State) (d u t state : Nat) : s.majFire d u t s.cyc state =
    ((((s.majFired d u t s.cyc state).raise d (160 + u)).forceIf d u (bit (s.rd Obj.MAJ_CONFIG (sel d u)) 61))).reserveIf d
      (bit (s.rd Obj.MAJ_CONFIG (sel d u)) 60) (majRec u t s.cyc (s.majCount d u t)) := by
  simp only [State.majFire, if_true]
  cases bit (s.rd Obj.MAJ_CONFIG (sel d u)) 61 <;> rfl

theorem majFired_raise_frame (s : State) (d u t at_ state p : Nat) : (s.majFired d u t at_ state).raise d p = { s with
    majs := (s.majFired d u t at_ state).majs, ports := (s.majFired d u t at_ state).ports,
    regs := ((s.majFired d u t at_ state).raise d p).regs,
    chans := ((s.majFired d u t at_ state).raise d p).chans } := by
  rw [raise_frame, majFired_frame]

theorem majFire_now_frame (s : State) (d u t state : Nat) : s.majFire d u t s.cyc state =
    { (s.majFired d u t s.cyc state).raise d (160 + u) with
      tones := (s.majFire d u t s.cyc state).tones, acqs := (s.majFire d u t s.cyc state).acqs } := by
  rw [majFire_now, reserveIf_frame, forceIf_frame]

/-- What a fire of this cycle leaves in MAJ_FIRES and at the port (R336). -/
theorem majFire_now_reads (s : State) (d u t state : Nat) :
    let v := s.majFire d u t s.cyc state
    v.rd Obj.MAJ_FIRES (sel d u) = (s.inc Obj.MAJ_FIRES (sel d u)).rd Obj.MAJ_FIRES (sel d u) ∧
      v.ports = (s.majFired d u t s.cyc state).ports := by
  have hregs : (s.majFire d u t s.cyc state).regs = ((s.majFired d u t s.cyc state).raise d (160 + u)).regs := by
    rw [majFire_now_frame]
  refine ⟨?_, ?_⟩
  · rw [rd_congr hregs, rd_raise_other _ _ _ _ (by decide), rd_majFired_same]
  · rw [majFire_now_frame, raise_frame]

/-- What a fire of this cycle leaves in the tones and the buffer (R330, R336). -/
theorem majFire_now_forces (s : State) (d u t state : Nat) :
    let v := s.majFire d u t s.cyc state
    let c := s.rd Obj.MAJ_CONFIG (sel d u)
    (bit c 61 = false → v.tones = s.tones) ∧
      (bit c 61 = true → ∀ i ∈ s.members d u,
        (s.tone (sel d i)).collecting = none → (s.tone (sel d i)).filled = none →
        (v.tone (sel d i)).force = some (true, ((s.tone (sel d i)).force.getD (true, s.cyc)).2)) ∧
      (bit c 60 = true → ∃ r ∈ (v.acq d).wants, r.typ = RecType.majority ∧ r.unit = u ∧ r.at_ = s.cyc) ∧
      (bit c 60 = false ∧ bit c 61 = false → v.acqs = s.acqs) := by
  have hraised := majFired_raise_frame s d u t s.cyc state (160 + u)
  have hconfig : ((s.majFired d u t s.cyc state).raise d (160 + u)).rd Obj.MAJ_CONFIG (sel d u) =
      s.rd Obj.MAJ_CONFIG (sel d u) := by
    rw [rd_raise_other _ _ _ _ (by decide), rd_majFired_other _ _ _ _ _ _ _ (by decide)]
  simp only [majFire_now]
  generalize (s.majFired d u t s.cyc state).raise d (160 + u) = x at hraised hconfig
  have htone : x.tone = s.tone := by rw [hraised]; rfl
  have hcyc : x.cyc = s.cyc := by rw [hraised]
  have hmembers : x.members d u = s.members d u := members_congr hconfig (by rw [hraised])
  refine ⟨fun hplain => ?_, fun hforce i hi hcol hfilled => ?_, fun hrecord => ?_, fun ⟨hnorec, hplain⟩ => ?_⟩
  · rw [tones_reserveIf, hplain]
    show x.tones = s.tones
    rw [hraised]
  · rw [tone_congr (tones_reserveIf ..), hforce]
    show ((x.forceMembers d u).tone (sel d i)).force = _
    rw [← hmembers] at hi
    rw [← htone] at hcol hfilled
    rw [force_forceMembers hi hcol hfilled, htone, hcyc]
  · exact ⟨_, mem_wants_reserveIf _ hrecord, rfl, rfl, rfl⟩
  · rw [hnorec, hplain]
    show x.acqs = s.acqs
    rw [hraised]

/-! Configuration (R334, R351). -/

theorem or_oneBit {w i : Nat} {v : BitVec w} (h : bit v i = true) : v ||| oneBit w i = v := by
  refine BitVec.eq_of_getLsbD_eq fun j hj => ?_
  rw [oneBit, BitVec.getLsbD_or, BitVec.getLsbD_ofNat, Nat.testBit_two_pow]
  by_cases hij : i = j
  · subst hij
    rw [show v.getLsbD i = true from h, Bool.true_or]
  · simp [hij]

theorem bit_setWidth {w : Nat} (v : BitVec w) {n i : Nat} (hi : i < n) : bit (v.setWidth n) i = bit v i := by
  rw [bit, BitVec.getLsbD_setWidth, decide_eq_true hi, Bool.true_and, bit]

/-- Λ covers the delays of every member tone (R334). -/
theorem le_majLambda {s : State} {d u i : Nat} (hi : i ∈ s.members d u) :
    toneA (s.tone (sel d i)).config + toneP (s.tone (sel d i)).config + 2 ≤ s.majLambda d u := by
  rw [State.majLambda, List.foldl_eq_foldr]
  exact Nat.add_le_add_right (List.le_max_of_le' 0
    (List.mem_map_of_mem (f := fun t => toneA (s.tone (sel d t)).config + toneP (s.tone (sel d t)).config) hi) le_rfl) 2

/-- The unit's counted fires are emptied (R334). -/
def State.majEmptied (s : State) (k : Nat) : State := s.setMaj k { s.maj k with fires := [] }

theorem maj_majEmptied (s : State) (k j : Nat) :
    (s.majEmptied k).maj j = if j = k then { s.maj k with fires := [] } else s.maj j := maj_setMaj s k j _

/-- A unit whose configuration has been written, ENABLE aside (R351). -/
def State.majRewritten (s : State) (d u : Nat) (v : BitVec 64) : State :=
  (s.majEmptied (sel d u)).wr Obj.MAJ_CONFIG (sel d u) (v.setWidth 72)

/-- A unit that has been configured (R334, R351). -/
def State.majConfigured (s : State) (d u : Nat) (v : BitVec 64) : State :=
  if bit v 63 then (s.majRewritten d u v).majEnable d u true else s.majRewritten d u v

theorem exec_majConfigWrite_config {v : BitVec 64} (d u : Nat) (s : State) (h : majBad v = false) :
    exec (.majConfigWrite d u (.config v)) s = .next (s.majConfigured d u v) := by
  show unlessError (majBad v) _ = _
  rw [h]
  rfl

theorem maj_majRewritten (s : State) (d u : Nat) (v : BitVec 64) (k : Nat) : (s.majRewritten d u v).maj k =
    if k = sel d u then { s.maj (sel d u) with fires := [] } else s.maj k := by
  have hmajs : (s.majRewritten d u v).majs = (s.majEmptied (sel d u)).majs := rfl
  rw [maj_congr hmajs, maj_majEmptied]

/-- A write that sets ENABLE takes Λ (R334). -/
theorem majConfigured_enabled {v : BitVec 64} (s : State) (d u : Nat) (hen : bit v 63 = true) :
    s.majConfigured d u v = ((s.majRewritten d u v).wr Obj.MAJ_CONFIG (sel d u) (v.setWidth 72)).setMaj (sel d u)
      { s.maj (sel d u) with fires := [], lambda := (s.majRewritten d u v).majLambda d u } := by
  have hbit : bit (v.setWidth 72) 63 = true := (bit_setWidth v (by decide)).trans hen
  have hrd : (s.majRewritten d u v).rd Obj.MAJ_CONFIG (sel d u) = v.setWidth 72 := rd_wr_same _ _ _ _
  have hmaj : (s.majRewritten d u v).maj (sel d u) = { s.maj (sel d u) with fires := [] } :=
    (maj_majRewritten s d u v (sel d u)).trans (if_pos rfl)
  rw [State.majConfigured, if_pos hen]
  simp only [State.majEnable, if_true, hrd, or_oneBit hbit, hmaj]

/-- What a written configuration leaves (R334, R351). -/
theorem majConfigured_reads (s : State) (d u : Nat) (v : BitVec 64) :
    let p := s.majConfigured d u v
    p.rd Obj.MAJ_CONFIG (sel d u) = v.setWidth 72 ∧ p.doms = s.doms ∧
      p.maj (sel d u) = { s.maj (sel d u) with
        fires := [], lambda := if bit v 63 then (s.majRewritten d u v).majLambda d u else (s.maj (sel d u)).lambda } ∧
      (∀ k : Nat, k ≠ sel d u → p.maj k = s.maj k) ∧ p = { s with majs := p.majs, regs := p.regs } := by
  by_cases hen : bit v 63 = true
  · simp only [majConfigured_enabled s d u hen, hen, if_true]
    have hrd := rd_wr_same (s.majRewritten d u v) Obj.MAJ_CONFIG (sel d u) (v.setWidth 72)
    have hmajs : ((s.majRewritten d u v).wr Obj.MAJ_CONFIG (sel d u) (v.setWidth 72)).majs = (s.majRewritten d u v).majs := rfl
    have hframe : (s.majRewritten d u v).wr Obj.MAJ_CONFIG (sel d u) (v.setWidth 72) = { s with
        majs := (s.majRewritten d u v).majs,
        regs := ((s.majRewritten d u v).wr Obj.MAJ_CONFIG (sel d u) (v.setWidth 72)).regs } := rfl
    generalize (s.majRewritten d u v).wr Obj.MAJ_CONFIG (sel d u) (v.setWidth 72) = w at hrd hmajs hframe
    refine ⟨hrd, by rw [hframe]; rfl, (maj_setMaj w _ _ _).trans (if_pos rfl), fun k hk => ?_, by rw [hframe]; rfl⟩
    rw [maj_setMaj, if_neg hk, maj_congr hmajs, maj_majRewritten, if_neg hk]
  · have hoff : s.majConfigured d u v = s.majRewritten d u v := if_neg hen
    simp only [hoff, if_neg hen]
    exact ⟨rd_wr_same _ _ _ _, rfl, (maj_majRewritten s d u v (sel d u)).trans (if_pos rfl),
      fun k hk => (maj_majRewritten s d u v k).trans (if_neg hk), rfl⟩

/-- ENABLE takes a Λ that covers the delays of every member tone (R334). -/
theorem le_lambda_majConfigured {s : State} {d u i : Nat} {v : BitVec 64} (hen : bit v 63 = true)
    (hi : i ∈ (s.majConfigured d u v).members d u) :
    toneA (s.tone (sel d i)).config + toneP (s.tone (sel d i)).config + 2 ≤
      ((s.majConfigured d u v).maj (sel d u)).lambda := by
  obtain ⟨hrd, hdoms, hunit, -, -⟩ := majConfigured_reads s d u v
  rw [members_congr (s := s.majRewritten d u v) (hrd.trans (rd_wr_same _ _ _ _).symm) hdoms] at hi
  have htone : (s.majRewritten d u v).tone = s.tone := rfl
  have hle := le_majLambda hi
  rw [htone] at hle
  rw [hunit, if_pos hen]
  exact hle

/-- A group of five words written from an offset (R484). -/
theorem dw_writeWords (id k : Nat) {j : Nat} (hj : j < 5) (ws : List Word) (hlen : ws.length ≤ 5) (o : Nat) (s : State) :
    (s.writeWords id k 5 o ws).dw id k j = (ws[(j + 5 - o % 5) % 5]?).getD (s.dw id k j) := by
  induction ws generalizing o s with
  | nil => rfl
  | cons w ws ih =>
    rw [List.length_cons] at hlen
    rw [State.writeWords, ih (by omega)]
    by_cases hhere : j = o % 5
    · have hlast : (j + 5 - (o + 1) % 5) % 5 = 4 := by omega
      have hfirst : (j + 5 - o % 5) % 5 = 0 := by omega
      have hnone : ws[4]? = none := List.getElem?_eq_none (by omega)
      rw [hlast, hfirst, hnone, hhere, dw_setDw_same]
      rfl
    · have hnext : (j + 5 - o % 5) % 5 = (j + 5 - (o + 1) % 5) % 5 + 1 := by omega
      rw [hnext, List.getElem?_cons_succ, dw_setDw_other s w fun h => hhere h.2.2]

theorem dw_writeWords_other (size : Nat) {id k id' k' : Nat} (h : ¬(id' = id ∧ k' = k)) (j : Nat) (ws : List Word) (o : Nat)
    (s : State) : (s.writeWords id k size o ws).dw id' k' j = s.dw id' k' j := by
  induction ws generalizing o s with
  | nil => rfl
  | cons w ws ih => rw [State.writeWords, ih, dw_setDw_other s w fun h' => h ⟨h'.1, h'.2.1⟩]

theorem writeWords_frame (id k size : Nat) (ws : List Word) (o : Nat) (s : State) :
    s.writeWords id k size o ws = { s with doms := (s.writeWords id k size o ws).doms } := by
  induction ws generalizing o s with
  | nil => rfl
  | cons w ws ih =>
    rw [State.writeWords, ih]
    rfl

/-- The words that a write of words leaves depend on the words before it alone. -/
theorem doms_writeWords_congr {s t : State} (h : t.doms = s.doms) (id k size : Nat) (ws : List Word) (o : Nat) :
    (t.writeWords id k size o ws).doms = (s.writeWords id k size o ws).doms := by
  induction ws generalizing o s t with
  | nil => exact h
  | cons w ws ih =>
    have hset : (t.setDw id k (o % size) w).doms = (s.setDw id k (o % size) w).doms := by
      simp only [State.setDw, h]
    exact ih hset (o + 1)

theorem groupBad_congr {s t : State} (h : t.doms = s.doms) (d u : Nat) : t.groupBad d u = s.groupBad d u := by
  simp only [State.groupBad, dw_congr h]

theorem exec_majConfigWrite_group (d u o : Nat) (ws : List Word) (s : State) :
    exec (.majConfigWrite d u (.group o ws)) s = unlessError ((s.writeWords Obj.MAJ_GROUP (sel d u) 5 o ws).groupBad d u)
      ((s.majEmptied (sel d u)).writeWords Obj.MAJ_GROUP (sel d u) 5 o ws) := by
  rw [← groupBad_congr (doms_writeWords_congr (s := s) (t := s.majEmptied (sel d u)) rfl Obj.MAJ_GROUP (sel d u) 5 ws o)]
  rfl

/-- What a unit that decides to fire leaves in its own part and in the objects (R333, R334). -/
theorem decidedFire_unit (s : State) (d u t : Nat) :
    let v := (s.majDecided d u t).majFire d u t (s.cyc + 1) 1
    let last := t + bits (s.rd Obj.MAJ_CONFIG (sel d u)) 35 20
    v.rd Obj.MAJ_FIRES (sel d u) = (s.inc Obj.MAJ_FIRES (sel d u)).rd Obj.MAJ_FIRES (sel d u) ∧
      (v.maj (sel d u)).decided = some t ∧ (v.maj (sel d u)).deaf = some last ∧
      (∀ f ∈ (v.maj (sel d u)).fires, f ∈ (s.maj (sel d u)).fires ∧ last < f.2) ∧
      ∀ k : Nat, k ≠ sel d u → v.maj k = s.maj k := by
  intro v last
  obtain ⟨hmajs, hregs, -, -⟩ := majFire_next_reads (s.majDecided d u t) d u t 1
  have hunit : v.maj (sel d u) = _ :=
    (maj_congr hmajs (sel d u)).trans ((maj_majFired (s.majDecided d u t) d u t (s.cyc + 1) 1 (sel d u)).trans (if_pos rfl))
  rw [maj_majDecided, if_pos rfl] at hunit
  refine ⟨?_, ?_, ?_, ?_, fun k hk => ?_⟩
  · exact (rd_congr hregs _ _).trans ((rd_majFired_same ..).trans (rd_count_congr 1 rfl))
  · rw [hunit]
  · rw [hunit]
    rfl
  · rw [hunit]
    intro f hf
    obtain ⟨hkept, hlast⟩ := List.mem_filter.1 hf
    exact ⟨(List.mem_filter.1 hkept).1, of_decide_eq_true hlast⟩
  · exact (maj_congr hmajs k).trans ((maj_majFired (s.majDecided d u t) d u t (s.cyc + 1) 1 k).trans
      ((if_neg hk).trans ((maj_majDecided s d u t k).trans (if_neg hk))))

theorem decidedFire_posts (s : State) (d u t : Nat) :
    (((s.majDecided d u t).majFire d u t (s.cyc + 1) 1).port (d * 16 + 8)).posts =
      (s.port (d * 16 + 8)).posts ++ [Post.mk (s.cyc + 1) (128 + u)
        (majValue (s.majCount d u t) (bits (s.rd Obj.MAJ_CONFIG (sel d u)) 59 48) 1) (.maj u)] := by
  obtain ⟨-, -, hports, -⟩ := majFire_next_reads (s.majDecided d u t) d u t 1
  have hposts := posts_majFired (s.majDecided d u t) d u t (s.cyc + 1) 1
  rw [majCount_majDecided] at hposts
  exact (congrArg WPort.posts (port_congr hports (d * 16 + 8))).trans hposts

theorem decidedFire_frame (s : State) (d u t : Nat) :
    let v := (s.majDecided d u t).majFire d u t (s.cyc + 1) 1
    v = { s with majs := v.majs, regs := v.regs, ports := v.ports, later := v.later, acqs := v.acqs } := by
  obtain ⟨majs, regs, ports, later, acqs, h⟩ : ∃ majs regs ports later acqs,
      (s.majDecided d u t).majFire d u t (s.cyc + 1) 1 =
      { s with majs := majs, regs := regs, ports := ports, later := later, acqs := acqs } :=
    ⟨_, _, _, _, _, (majFire_next_frame (s.majDecided d u t) d u t 1).trans (by rw [majFired_frame]; rfl)⟩
  rw [h]

theorem majFire_now_frame_of (s : State) (d u t state : Nat) (chans : Tab Chan) (regs : Tab (Tab Word)) :
    let v := ({ s with chans := chans, regs := regs } : State).majFire d u t s.cyc state
    v = { s with
      majs := v.majs, regs := v.regs, ports := v.ports, chans := v.chans, tones := v.tones, acqs := v.acqs } := by
  obtain ⟨majs, regs', ports, chans', tones, acqs, h⟩ : ∃ majs regs' ports chans' tones acqs,
      ({ s with chans := chans, regs := regs } : State).majFire d u t s.cyc state =
        { s with majs := majs, regs := regs', ports := ports, chans := chans', tones := tones, acqs := acqs } :=
    ⟨_, _, _, _, _, _, (majFire_now_frame { s with chans := chans, regs := regs } d u t state).trans
      (by rw [majFired_raise_frame])⟩
  rw [h]

/-- Settles O35: a decision by the fire of the next cycle that it makes or not (R333, R334), a force by the fire of its own
cycle (R336), a written configuration by Λ and a written group word by word (R351). That a row which is not due changes nothing
is the model's choice (log 15), and that a force does nothing to a unit that is not enabled is its deduction (log 33). -/
theorem majorityUnits : Obligations.MajorityUnits := by
  unfold Obligations.MajorityUnits
  refine ⟨?fires, ?waits, fun d u s => exec_majorityDecide_idle, ?forced, ?unforced, ?config,
    fun d u v s h => ?badConfig, ?group, fun d u o ws s h => ?badGroup⟩
  case fires =>
    rintro d u t w n c x s rfl rfl hen hnow hnew hon rfl rfl hm
    have hcount : (s.majDecided d u t).majCount d u t = s.majCount d u t := majCount_majDecided s d u t
    obtain ⟨hfires, hdecided, hdeaf, hkept, hother⟩ := decidedFire_unit s d u t
    obtain ⟨-, -, -, hlater⟩ := majFire_next_reads (s.majDecided d u t) d u t 1
    obtain ⟨hforces, hwants, hrecs, hacqs⟩ := majFire_next_acqs (s.majDecided d u t) d u t 1
    rw [hcount] at hwants
    exact ⟨_, (exec_majorityDecide_due hen hnow hnew hon).trans (if_pos hm), hfires, hdecided, hdeaf, hkept,
      decidedFire_posts s d u t, hlater, hforces, hwants, hrecs, hother, hacqs, decidedFire_frame s d u t⟩
  case waits =>
    rintro d u t w c x s rfl rfl hen hnow hnew hon rfl hfew
    exact (exec_majorityDecide_due hen hnow hnew hon).trans (if_neg (Nat.not_le.2 hfew))
  case forced =>
    rintro d u n c e p s hdel rfl hen rfl
    have hp := deliver_channelsOnly hdel
    have hconfig : p.rd Obj.MAJ_CONFIG (sel d u) = s.rd Obj.MAJ_CONFIG (sel d u) := hp.objects _ _ (by decide) (by decide)
    obtain ⟨ch, rg, rfl⟩ : ∃ ch rg, p = { s with chans := ch, regs := rg } := ⟨_, _, hp.frame⟩
    obtain ⟨hfires, hports⟩ :=
      majFire_now_reads { s with chans := ch, regs := rg } d u (s.now - (s.maj (sel d u)).lambda - 1) 2
    obtain ⟨hplain, hforced, hrecord, hneither⟩ :=
      majFire_now_forces { s with chans := ch, regs := rg } d u (s.now - (s.maj (sel d u)).lambda - 1) 2
    rw [hconfig] at hplain hforced hrecord hneither
    refine ⟨_, (exec_majForceTask hdel).trans (congrArg _ (if_pos (by rw [hconfig]; exact hen))), ?_, ?_, hplain, ?_, hrecord,
      hneither, ?_⟩
    · exact hfires.trans (rd_count_congr 1 (hp.objects _ _ (by decide) (by decide)))
    · refine (congrArg WPort.posts (port_congr hports (d * 16 + 8))).trans ((posts_majFired _ _ _ _ _ _).trans ?_)
      rw [majCount_congr (s := s) hconfig rfl, hconfig]
      rfl
    · rwa [members_congr (s := s) hconfig rfl] at hforced
    · exact majFire_now_frame_of s d u _ 2 ch rg
  case unforced =>
    intro d u o p s hdel hnone
    rcases o with _ | e
    · exact exec_majForceTask_none hdel
    · have hconfig : p.rd Obj.MAJ_CONFIG (sel d u) = s.rd Obj.MAJ_CONFIG (sel d u) :=
        (deliver_channelsOnly hdel).objects _ _ (by decide) (by decide)
      rw [exec_majForceTask hdel, State.majForce, hconfig, hnone.resolve_left (Option.some_ne_none e)]
      rfl
  case config =>
    intro d u v s hgood
    obtain ⟨hrd, -, hunit, hother, hframe⟩ := majConfigured_reads s d u v
    exact ⟨_, exec_majConfigWrite_config d u s hgood, hrd, by rw [hunit], fun hen i => le_lambda_majConfigured hen,
      fun hoff => by rw [hunit, hoff]; rfl, hother, hframe⟩
  case badConfig =>
    show unlessError (majBad v) _ = _
    rw [h]
    rfl
  case group =>
    intro d u o ws s ho hlen hgood
    have hframe := writeWords_frame Obj.MAJ_GROUP (sel d u) 5 ws o (s.majEmptied (sel d u))
    refine ⟨_, (exec_majConfigWrite_group d u o ws s).trans (by rw [hgood]; rfl), fun j hj => ?_, fun id k j hother => ?_, ?_,
      fun k hk => ?_, ?_⟩
    · rw [dw_writeWords _ _ hj ws hlen, Nat.mod_eq_of_lt ho]
      rfl
    · exact dw_writeWords_other 5 hother j ws o _
    · rw [hframe]
      exact (maj_majEmptied s (sel d u) (sel d u)).trans (if_pos rfl)
    · rw [hframe]
      exact (maj_majEmptied s (sel d u) k).trans (if_neg hk)
    · rw [hframe]
      rfl
  case badGroup =>
    rw [exec_majConfigWrite_group, h]
    rfl

end Sys2Proof.Machine
end

section
/-!
PROOFS. Detector tones restart (R317, R318), their trigger units take commands (R325, R330, R350), and pre segments are copied
(R346).
-/

namespace Sys2Proof.Machine

/-! Records cut short (R345). -/

theorem acq_truncate_other (s : State) {d k : Nat} (t : Nat) (h : k ≠ d) : (s.truncate d t).acq k = s.acq k := by
  rcases hc : (s.tone (sel d t)).collecting with _ | ⟨id, left⟩ <;>
    rcases hb : (s.tone (sel d t)).block with _ | ⟨id', n⟩ <;>
    simp only [State.truncate, hc, hb]
  · exact acq_editRec_other s id' _ h
  · exact acq_editRec_other s id _ h
  · exact (acq_editRec_other _ id' _ h).trans (acq_editRec_other s id _ h)

/-- Where no record is in progress, none is cut short. -/
theorem truncate_idle {s : State} {d t : Nat} (hcol : (s.tone (sel d t)).collecting = none)
    (hblock : (s.tone (sel d t)).block = none) : s.truncate d t = s := by
  simp only [State.truncate, hcol, hblock]

/-- The record that collects is finished with the samples that it has (R318). -/
theorem recs_truncate {s : State} {d t left : Nat} {r : Rec} (hr : r ∈ (s.acq d).recs)
    (hcol : (s.tone (sel d t)).collecting = some (r.id, left)) (hblock : (s.tone (sel d t)).block = none) :
    { r with open_ := false, count := r.count - left, flags := r.flags ||| 4 } ∈ ((s.truncate d t).acq d).recs := by
  simp only [State.truncate, hcol, hblock]
  exact recs_editRec_same (s := s) _ hr rfl

/-- TONE_STATUS says that a record was cut short (R318). -/
theorem bit_toneStatus_truncate {s : State} {d t : Nat}
    (h : (s.tone (sel d t)).collecting ≠ none ∨ (s.tone (sel d t)).block ≠ none) :
    bit ((s.truncate d t).rd Obj.TONE_STATUS (sel d t)) 3 = true := by
  have hset (u : State) : bit ((u.setBit Obj.TONE_STATUS (sel d t) 3).rd Obj.TONE_STATUS (sel d t)) 3 = true := by
    rw [bit_setBit u _ _ 3 (by decide), decide_eq_true rfl, Bool.or_true]
  rcases hc : (s.tone (sel d t)).collecting with _ | ⟨id, left⟩ <;>
    rcases hb : (s.tone (sel d t)).block with _ | ⟨id', n⟩ <;>
    simp only [State.truncate, hc, hb]
  · rw [hc, hb] at h
    exact absurd h (by simp)
  all_goals exact hset _

/-! Restarts (R317, R318). -/

/-- A tone that restarts in cycle `cyc` with a configuration. -/
def Tone.restarted (x : Tone) (cfg : BitVec 64) (cyc : Nat) : Tone := { x with
  on := bit cfg 63, config := cfg, written := false, life := x.life + 1, restart := cyc, lastAt := none, n := 0, ring := [],
  arm := [false, false, false, false], shut := 0, collecting := none, filled := none, dead := 0, suppressed := 0,
  stored := none, since := 0, block := none }

theorem exec_toneRestart_due {s : State} {d t : Nat} (hmay : s.toneMayRun d t = true)
    (hwant : (s.tone (sel d t)).written = true ∨
      ((s.tone (sel d t)).on = false ∧ bit ((s.rd Obj.TONE_CONFIG (sel d t)).setWidth 64) 63 = true))
    (hgrid : ((s.now : Int) - s.rdN Obj.BIN_PHASE (sel d 0)) % 128 = 0) :
    exec (.toneRestart d t) s = unlessError (toneBad ((s.rd Obj.TONE_CONFIG (sel d t)).setWidth 64))
      ((s.truncate d t).setTone (sel d t)
        ((s.tone (sel d t)).restarted ((s.rd Obj.TONE_CONFIG (sel d t)).setWidth 64) s.cyc)) := by
  show execToneRestart d t s = _
  rw [execToneRestart]
  refine if_neg ?_
  rcases hwant with hwant | ⟨hoff, hon⟩
  · simp [hmay, hgrid, hwant]
  · simp [hmay, hgrid, hoff, hon]

theorem exec_toneRestart_idle {s : State} {d t : Nat}
    (h : s.toneMayRun d t = false ∨ ((s.now : Int) - s.rdN Obj.BIN_PHASE (sel d 0)) % 128 ≠ 0 ∨
      ((s.tone (sel d t)).written = false ∧
        ((s.tone (sel d t)).on = true ∨ bit (s.rd Obj.TONE_CONFIG (sel d t)) 63 = false))) :
    exec (.toneRestart d t) s = .next s := by
  show execToneRestart d t s = _
  rw [execToneRestart]
  refine if_pos ?_
  rcases h with h | h | ⟨hkept, hon | hoff⟩
  · simp [h]
  · simp [h]
  · simp [hkept, hon]
  · simp [hkept, bit_setWidth, hoff]

/-! Commands of a trigger unit (R350). -/

theorem exec_trigForce_outside {s : State} {d t : Nat} (hcol : (s.tone (sel d t)).collecting = none)
    (hfilled : (s.tone (sel d t)).filled.all (fun p => p.2 != s.cyc) = true) :
    exec (.trigForce d t) s = .next (s.setTone (sel d t) { s.tone (sel d t) with
      force := some ((s.tone (sel d t)).force.getD (false, s.cyc)) }) := by
  have hfull : ∀ p : Nat × Nat, (s.tone (sel d t)).filled = some p → p.2 ≠ s.cyc := by
    intro p hp
    simpa [hp] using hfilled
  show Host.Outcome.next (s.forceTone d t false) = _
  rw [forceTone_outside false hcol hfull, forced_host]

/-- During a record a force from the host changes nothing (R330). -/
theorem exec_trigForce_inside {s : State} {d t : Nat} (h : (s.tone (sel d t)).collecting ≠ none ∨
    (s.tone (sel d t)).filled.any (fun p => p.2 == s.cyc) = true) : exec (.trigForce d t) s = .next s := by
  show Host.Outcome.next (s.forceTone d t false) = _
  rcases hc : (s.tone (sel d t)).collecting with _ | ⟨id, left⟩ <;>
    rcases hf : (s.tone (sel d t)).filled with _ | ⟨id', c⟩
  · simp [hc, hf] at h
  · simp only [hc, hf, ne_eq, not_true_eq_false, false_or, Option.any_some, beq_iff_eq] at h
    simp [State.forceTone, hc, hf, h]
  · simp [State.forceTone, hc]
  · simp [State.forceTone, hc]

/-! Pre segments (R346). -/

/-- A record whose pre segment has been copied from its tone's ring (R346). -/
def Rec.preCopied (r : Rec) (x : Tone) (c : PreCopy) : Rec :=
  let ys := (List.range r.pre).map (fun j => x.sampleNo c.life (c.first + j))
  { r with
    preSamples := ys.map (fun y => match y with
      | some z => formatSample (b2n (bit x.config 62)) z.x
      | none => 0)
    copying := false
    flags := r.flags ||| (if ys.any (·.isNone) then (4 : BitVec 8) else 0) |||
      (if ys.any (fun y => match y with
        | some z => z.suspect
        | none => false) then (8 : BitVec 8) else 0) }

/-- A copied sample, or 0 where the ring has lost it. -/
theorem preSamples_preCopied (r : Rec) (x : Tone) (c : PreCopy) : (r.preCopied x c).preSamples =
    (List.range r.pre).map (fun j =>
      if x.life = c.life ∧ c.first + j < x.n then
        match x.ring[x.n - 1 - (c.first + j)]? with
        | some y => formatSample (b2n (bit x.config 62)) y.x
        | none => 0
      else 0) := by
  simp only [Rec.preCopied, List.map_map]
  refine List.map_congr_left fun j _ => ?_
  simp only [Function.comp, Tone.sampleNo]
  split_ifs <;> rfl

/-- A lost sample leaves TRUNC in its record. -/
theorem bit_flags_preCopied {r : Rec} {x : Tone} {c : PreCopy}
    (h : ∃ j ∈ List.range r.pre, x.sampleNo c.life (c.first + j) = none) : bit (r.preCopied x c).flags 2 = true := by
  obtain ⟨j, hj, hlost⟩ := h
  have hany : ((List.range r.pre).map (fun j => x.sampleNo c.life (c.first + j))).any (·.isNone) = true :=
    List.any_eq_true.2 ⟨_, List.mem_map_of_mem hj, by rw [hlost]; rfl⟩
  simp only [Rec.preCopied, hany, if_true]
  simp [bit]

/-- The first queued pre segment of a die has been copied. -/
def State.preCopied (s : State) (d : Nat) (c : PreCopy) (rest : List PreCopy) : State :=
  (s.setAcq d { s.acq d with copies := rest }).editRec d c.id (fun r => r.preCopied (s.tone (sel d c.tone)) c)

/-- The ring has lost a sample of a queued pre segment. -/
def State.copyLoses (s : State) (d : Nat) (c : PreCopy) : Bool :=
  (List.range ((((s.acq d).recs ++ (s.acq d).wants).find? (fun r => r.id == c.id)).map (·.pre)).toList.sum).any
    (fun j => ((s.tone (sel d c.tone)).sampleNo c.life (c.first + j)).isNone)

theorem exec_preSegmentCopy {s : State} {d : Nat} {c : PreCopy} {rest : List PreCopy} (h : (s.acq d).copies = c :: rest)
    (hdue : c.at_ ≤ s.cyc) : exec (.preSegmentCopy d) s = .next (if s.copyLoses d c then
      (s.preCopied d c rest).setBit Obj.TONE_STATUS (sel d c.tone) 3 else s.preCopied d c rest) := by
  show execPreSegmentCopy d s = _
  simp only [execPreSegmentCopy, h]
  exact if_neg (Nat.not_lt.2 hdue)

theorem preSegmentCopy_reads {s : State} {d : Nat} {c : PreCopy} {rest : List PreCopy} (h : (s.acq d).copies = c :: rest)
    (hdue : c.at_ ≤ s.cyc) : ∃ u, exec (.preSegmentCopy d) s = .next u ∧ u.acqs = (s.preCopied d c rest).acqs ∧
      u = { s with acqs := u.acqs, regs := u.regs } := by
  have hframe : s.preCopied d c rest = { s with acqs := (s.preCopied d c rest).acqs } := rfl
  refine ⟨_, exec_preSegmentCopy h hdue, ?_⟩
  generalize s.preCopied d c rest = u at hframe
  split
  · rw [setBit_frame, hframe]
    exact ⟨rfl, rfl⟩
  · rw [hframe]
    exact ⟨rfl, rfl⟩

theorem exec_preSegmentCopy_idle {s : State} {d : Nat}
    (h : (s.acq d).copies = [] ∨ ∃ c ∈ (s.acq d).copies.head?, s.cyc < c.at_) : exec (.preSegmentCopy d) s = .next s := by
  show execPreSegmentCopy d s = _
  rcases hcop : (s.acq d).copies with _ | ⟨c, rest⟩
  · simp only [execPreSegmentCopy, hcop]
  · rw [hcop] at h
    have hearly : s.cyc < c.at_ := by simpa using h
    simp only [execPreSegmentCopy, hcop]
    exact if_pos hearly

/-- What the copy leaves in the buffer. -/
theorem acq_preCopied (s : State) (d : Nat) (c : PreCopy) (rest : List PreCopy) :
    let u := s.preCopied d c rest
    (u.acq d).copies = rest ∧ (∀ r ∈ (s.acq d).recs, r.id ≠ c.id → r ∈ (u.acq d).recs) ∧
      (∀ r ∈ (s.acq d).wants, r.id ≠ c.id → r ∈ (u.acq d).wants) ∧
      (∀ r ∈ (s.acq d).recs, r.id = c.id → r.preCopied (s.tone (sel d c.tone)) c ∈ (u.acq d).recs) ∧
      ∀ k : Nat, k ≠ d → u.acq k = s.acq k := by
  have hset : (s.setAcq d { s.acq d with copies := rest }).acq d = { s.acq d with copies := rest } :=
    (acq_setAcq s d d _).trans (if_pos rfl)
  refine ⟨?_, fun r hr hid => ?_, fun r hr hid => ?_, fun r hr hid => ?_, fun k hk => ?_⟩
  · rw [State.preCopied, acq_editRec_same, hset]
  · exact recs_editRec_other _ (by rwa [hset]) hid
  · exact wants_editRec_other _ (by rwa [hset]) hid
  · exact recs_editRec_same (f := fun r => r.preCopied (s.tone (sel d c.tone)) c) (by rwa [hset]) hid
  · rw [State.preCopied, acq_editRec_other _ _ _ hk]
    exact (acq_setAcq s d k _).trans (if_neg hk)

end Sys2Proof.Machine
end

section
/-!
PROOFS. What a sample does to its tone's trigger unit and stream (R325–R331, R338–R340).
-/

namespace Sys2Proof.Machine

/-! What may change. -/

/-- From `s` to `t` only tone `k`, the buffer of die `d` and objects have changed. -/
structure ToneOnly (s t : State) (d k : Nat) : Prop where
  tones : ∀ j : Nat, j ≠ k → t.tone j = s.tone j
  acqs : ∀ j : Nat, j ≠ d → t.acq j = s.acq j
  frame : t = { s with tones := t.tones, acqs := t.acqs, regs := t.regs }

theorem ToneOnly.trans {s t u : State} {d k : Nat} (h : ToneOnly s t d k) (h' : ToneOnly t u d k) : ToneOnly s u d k where
  tones j hj := (h'.tones j hj).trans (h.tones j hj)
  acqs j hj := (h'.acqs j hj).trans (h.acqs j hj)
  frame := by rw [h'.frame, h.frame]

theorem toneOnly_setTone (s : State) (d k : Nat) (x : Tone) : ToneOnly s (s.setTone k x) d k :=
  ⟨fun j hj => (tone_setTone s k j x).trans (if_neg hj), fun _ _ => rfl, rfl⟩

theorem toneOnly_setAcq (s : State) (d k : Nat) (x : Acq) : ToneOnly s (s.setAcq d x) d k :=
  ⟨fun _ _ => rfl, fun j hj => (acq_setAcq s d j x).trans (if_neg hj), rfl⟩

/-- What the objects alone may change. -/
theorem toneOnly_of_regs {s t : State} (d k : Nat) (h : t = { s with regs := t.regs }) : ToneOnly s t d k :=
  ⟨fun j _ => by rw [h]; rfl, fun j _ => by rw [h]; rfl, by rw [h]⟩

/-- What a trigger unit may change of its tone. -/
def Tone.triggered (x : Tone) (collecting filled : Option (Nat × Nat)) (shut dead suppressed : Nat)
    (force : Option (Bool × Nat)) : Tone :=
  { x with collecting := collecting, filled := filled, shut := shut, dead := dead, suppressed := suppressed, force := force }

/-- What a stream may change of its tone. -/
def Tone.streamed (x : Tone) (stored : Option (BitVec 36)) (since : Nat) (block : Option (Nat × Nat)) : Tone :=
  { x with stored := stored, since := since, block := block }

/-! The parts of a step of a trigger unit. -/

/-- LIVE_TIME and TRIG_SUPPRESSED have counted the sample (R329). -/
def State.gateCounted (s : State) (d t : Nat) (fired : Bool) : State :=
  let x := s.tone (sel d t)
  let s1 := if x.gate then s.count64 Obj.LIVE_TIME (sel d t) (toneP x.config) else s
  if fired && !x.gate then s1.inc Obj.TRIG_SUPPRESSED (sel d t) else s1

theorem gateCounted_frame (s : State) (d t : Nat) (fired : Bool) :
    s.gateCounted d t fired = { s with regs := (s.gateCounted d t fired).regs } := by
  simp only [State.gateCounted]
  split_ifs
  · rw [inc_frame]
    rfl
  · rw [inc_frame]
  · rfl
  · rfl

theorem rd_gateCounted_other (s : State) (d t : Nat) (fired : Bool) {id : Nat} (k : Nat) (hlive : id ≠ Obj.LIVE_TIME)
    (hsup : id ≠ Obj.TRIG_SUPPRESSED) : (s.gateCounted d t fired).rd id k = s.rd id k := by
  have hcount : (s.count64 Obj.LIVE_TIME (sel d t) (toneP (s.tone (sel d t)).config)).rd id k = s.rd id k :=
    rd_wr_other s _ fun h => hlive h.1
  simp only [State.gateCounted]
  split_ifs
  · exact (rd_inc_other _ fun h => hsup h.1).trans hcount
  · exact rd_inc_other s fun h => hsup h.1
  · exact hcount
  · rfl

/-- A sample that meets an open gate counts its period as live. -/
theorem gateCounted_open {s : State} {d t : Nat} (fired : Bool) (h : (s.tone (sel d t)).gate = true) :
    s.gateCounted d t fired = s.count64 Obj.LIVE_TIME (sel d t) (toneP (s.tone (sel d t)).config) := by
  simp only [State.gateCounted, h, Bool.not_true, Bool.and_false, if_true]
  rfl

/-- A fire that meets a closed gate is counted as suppressed. -/
theorem gateCounted_closed {s : State} {d t : Nat} (h : (s.tone (sel d t)).gate = false) :
    s.gateCounted d t true = s.inc Obj.TRIG_SUPPRESSED (sel d t) := by
  simp only [State.gateCounted, h]
  rfl

theorem tone_gateCounted (s : State) (d t : Nat) (fired : Bool) (j : Nat) : (s.gateCounted d t fired).tone j = s.tone j := by
  rw [gateCounted_frame]
  rfl

theorem acq_gateCounted (s : State) (d t : Nat) (fired : Bool) (j : Nat) : (s.gateCounted d t fired).acq j = s.acq j := by
  rw [gateCounted_frame]
  rfl

/-- The record that begins on sample `y` with a trigger or a force, before it has its number (R327–R331, R344). -/
def triggerRec (s : State) (d t : Nat) (typ : RecType) (flags : Nat) (tag : Word) (y : ToneSample) : Rec :=
  let x := s.tone (sel d t)
  let w := s.dw Obj.TRIG_CONFIG (sel d t) 2
  let pre := min (bits w 71 63) x.ring.length
  { id := 0, typ := typ, unit := t,
    flags := BitVec.ofNat 8 (flags + (if pre < bits w 71 63 then 32 else 0) + (if y.suspect then 8 else 0)),
    at_ := s.cyc + 1, len := 3 + (pre + (bits w 62 51 + 1) + 1) / 2, tag := tag,
    word2 := word (min (x.dead * toneP x.config) (2 ^ 40 - 1) * 2 ^ 32 + min x.suppressed (2 ^ 32 - 1)),
    pre := pre, count := bits w 62 51 + 1, samples := [formatSample (b2n (bit x.config 62)) y.x],
    open_ := decide (1 < bits w 62 51 + 1), copying := decide (0 < pre), fullAt := s.cyc + 1 }

/-- A tone whose record `id` has begun in cycle `cyc`, by word 2 of its TRIG_CONFIG (R327). -/
def Tone.began (x : Tone) (w : Word) (id cyc : Nat) : Tone :=
  x.triggered (if bits w 62 51 + 1 = 1 then none else some (id, bits w 62 51 + 1 - 1))
    (if bits w 62 51 + 1 = 1 then some (id, cyc) else none) (bits w 62 51 + 1 + bits w 50 35 - 1) 0 0 none

/-- The pre segment of a record that begins, if it has one, is queued (R331). -/
def State.copyQueued (s : State) (d : Nat) (c : PreCopy) (pre : Nat) : State :=
  if pre = 0 then s else s.setAcq d { s.acq d with copies := (s.acq d).copies ++ [c] }

/-- The record has been reserved and its pre segment queued. -/
def State.recordBegun (s : State) (d t : Nat) (r : Rec) : State :=
  let x := s.tone (sel d t)
  (s.reserve d r).2.copyQueued d ⟨(s.acq d).nextId, t, x.life, x.n - r.pre, s.cyc + 1⟩ r.pre

theorem beginRecord_eq (s : State) (d t : Nat) (typ : RecType) (flags : Nat) (tag : Word) (y : ToneSample) :
    s.beginRecord d t typ flags tag y = ((s.recordBegun d t (triggerRec s d t typ flags tag y)).setTone (sel d t)
      ((s.tone (sel d t)).began (s.dw Obj.TRIG_CONFIG (sel d t) 2) (s.acq d).nextId s.cyc)).inc Obj.TRIG_RECORDS (sel d t) := by
  rfl


theorem recordBegun_frame (s : State) (d t : Nat) (r : Rec) : s.recordBegun d t r = { s with
    acqs := (s.recordBegun d t r).acqs } := by
  simp only [State.recordBegun, State.copyQueued]
  split <;> rfl

theorem wants_recordBegun (s : State) (d t : Nat) (r : Rec) :
    { r with id := (s.acq d).nextId } ∈ ((s.recordBegun d t r).acq d).wants ∧
      ((s.recordBegun d t r).acq d).recs = (s.acq d).recs := by
  have hwant : { r with id := (s.acq d).nextId } ∈ ((s.reserve d r).2.acq d).wants := mem_wants_reserve.2 (.inl rfl)
  have hrecs := recs_reserve s d r
  simp only [State.recordBegun, State.copyQueued]
  split
  · exact ⟨hwant, hrecs⟩
  · rw [acq_setAcq, if_pos rfl]
    exact ⟨hwant, hrecs⟩

theorem toneOnly_recordBegun (s : State) (d t k : Nat) (r : Rec) : ToneOnly s (s.recordBegun d t r) d k := by
  simp only [State.recordBegun, State.copyQueued]
  split
  · exact toneOnly_setAcq s d k _
  · exact (toneOnly_setAcq s d k _).trans (toneOnly_setAcq _ d k _)

/-- What a record that begins leaves (R327, R346). -/
theorem beginRecord_reads (s : State) (d t : Nat) (typ : RecType) (flags : Nat) (tag : Word) (y : ToneSample) :
    let u := s.beginRecord d t typ flags tag y
    ToneOnly s u d (sel d t) ∧
      { triggerRec s d t typ flags tag y with id := (s.acq d).nextId } ∈ (u.acq d).wants ∧
      (u.acq d).recs = (s.acq d).recs ∧
      u.tone (sel d t) = (s.tone (sel d t)).began (s.dw Obj.TRIG_CONFIG (sel d t) 2) (s.acq d).nextId s.cyc ∧
      u.rd Obj.TRIG_RECORDS (sel d t) = (s.inc Obj.TRIG_RECORDS (sel d t)).rd Obj.TRIG_RECORDS (sel d t) ∧
      ∀ id k : Nat, id ≠ Obj.TRIG_RECORDS → u.rd id k = s.rd id k := by
  simp only [beginRecord_eq]
  generalize triggerRec s d t typ flags tag y = r
  generalize (s.tone (sel d t)).began (s.dw Obj.TRIG_CONFIG (sel d t) 2) (s.acq d).nextId s.cyc = x
  obtain ⟨hwant, hrecs⟩ := wants_recordBegun s d t r
  have hregs : (s.recordBegun d t r).regs = s.regs := by rw [recordBegun_frame]
  have hacqs : (((s.recordBegun d t r).setTone (sel d t) x).inc Obj.TRIG_RECORDS (sel d t)).acq d =
      (s.recordBegun d t r).acq d := by rw [inc_frame]; rfl
  refine ⟨?_, by rwa [hacqs], by rwa [hacqs], ?_, ?_, fun id k hid => ?_⟩
  · exact ((toneOnly_recordBegun s d t (sel d t) r).trans (toneOnly_setTone _ d (sel d t) x)).trans
      (toneOnly_of_regs d (sel d t) (inc_frame _ _ _))
  · rw [inc_frame]
    exact (tone_setTone _ (sel d t) (sel d t) x).trans (if_pos rfl)
  · exact rd_count_congr 1 (rd_congr (s := s) (t := (s.recordBegun d t r).setTone (sel d t) x) hregs _ _)
  · exact (rd_inc_other _ fun h => hid h.1).trans (rd_congr (t := (s.recordBegun d t r).setTone (sel d t) x) hregs id k)

/-- A tone with a sample that no record of its own has taken (R329). -/
def Tone.plain (x : Tone) (fired : Bool) : Tone :=
  x.triggered x.collecting x.filled (x.shut - 1) (x.dead + b2n (!x.gate)) (x.suppressed + b2n (fired && !x.gate)) x.force

theorem plainSample_eq (s : State) (d t : Nat) (fired : Bool) :
    s.plainSample d t fired = s.setTone (sel d t) ((s.tone (sel d t)).plain fired) := rfl

/-- A tone whose record has taken a sample in cycle `cyc`, `left` having been to come (R327). -/
def Tone.collected (x : Tone) (id left cyc : Nat) : Tone :=
  x.triggered (if left ≤ 1 then none else some (id, left - 1)) (if left ≤ 1 then some (id, cyc) else none) x.shut x.dead
    x.suppressed x.force

/-- A record that takes a post sample in cycle `at_`, `left` having been to come (R327). -/
def Rec.collects (r : Rec) (v : BitVec 36) (left at_ : Nat) (suspect : Bool) : Rec :=
  { r with samples := r.samples ++ [v], open_ := decide (1 < left), fullAt := at_,
           flags := if suspect then r.flags ||| 8 else r.flags }

theorem collectSample_eq {s : State} {d t id left : Nat} (y : ToneSample)
    (h : (s.tone (sel d t)).collecting = some (id, left)) : s.collectSample d t y =
    (s.editRec d id (fun r => r.collects (formatSample (b2n (bit (s.tone (sel d t)).config 62)) y.x) left (s.cyc + 1)
      y.suspect)).setTone (sel d t) ((s.tone (sel d t)).collected id left s.cyc) := by
  simp only [State.collectSample, h]
  rfl

/-! A step of a trigger unit (R325–R331). -/

/-- A force that arrived before this cycle reaches this sample (R330). -/
def State.forcedNow (s : State) (d t : Nat) : Bool := (s.tone (sel d t)).force.any (fun f => decide (f.2 < s.cyc))

/-- MAJ of a record that begins now (R345). -/
def State.majNow (s : State) (d t : Nat) : Bool := (s.tone (sel d t)).force.any (fun f => f.1 && decide (f.2 < s.cyc))

/-- FLAGS of a record that begins now, as far as the conditions and the force give them (R345). -/
def State.fireFlags (s : State) (d t : Nat) (f0 f1 : Bool) : Nat := b2n f0 * 128 + b2n f1 * 64 + b2n (s.majNow d t) * 16

theorem triggerStep_eq (s : State) (d t : Nat) (f0 f1 : Bool) (tag plain : Word) (y : ToneSample) :
    s.triggerStep d t f0 f1 tag plain y =
      let u := s.gateCounted d t (f0 || f1)
      if (s.tone (sel d t)).collecting.isSome then (u.collectSample d t y).plainSample d t (f0 || f1)
      else if (f0 || f1) && (s.tone (sel d t)).gate then u.beginRecord d t .trigger (s.fireFlags d t f0 f1) tag y
      else if s.forcedNow d t then u.beginRecord d t .forced (s.fireFlags d t f0 f1) plain y
      else u.plainSample d t (f0 || f1) := by
  rcases hforce : (s.tone (sel d t)).force with _ | ⟨m, c⟩ <;> rcases hcol : (s.tone (sel d t)).collecting with _ | p <;>
    simp only [State.triggerStep, State.fireFlags, State.majNow, State.forcedNow, hforce, hcol] <;> rfl

/-- A tone after its record, if any, has taken the sample (R327). -/
theorem collect_plain_reads {s : State} {d t id left : Nat} (y : ToneSample) (fired : Bool)
    (h : (s.tone (sel d t)).collecting = some (id, left)) :
    let u := (s.collectSample d t y).plainSample d t fired
    ToneOnly s u d (sel d t) ∧ u.tone (sel d t) = ((s.tone (sel d t)).collected id left s.cyc).plain fired ∧
      u.acqs = (s.editRec d id (fun r => r.collects (formatSample (b2n (bit (s.tone (sel d t)).config 62)) y.x) left
        (s.cyc + 1) y.suspect)).acqs ∧ u.regs = s.regs := by
  simp only [plainSample_eq, collectSample_eq y h]
  generalize (s.tone (sel d t)).collected id left s.cyc = x
  have honly : ToneOnly s (s.editRec d id (fun r => r.collects (formatSample (b2n (bit (s.tone (sel d t)).config 62)) y.x)
    left (s.cyc + 1) y.suspect)) d (sel d t) := toneOnly_setAcq s d (sel d t) _
  have hregs : (s.editRec d id (fun r => r.collects (formatSample (b2n (bit (s.tone (sel d t)).config 62)) y.x)
    left (s.cyc + 1) y.suspect)).regs = s.regs := rfl
  generalize s.editRec d id _ = v at honly hregs
  have hmid : (v.setTone (sel d t) x).tone (sel d t) = x := (tone_setTone v _ _ x).trans (if_pos rfl)
  rw [hmid]
  exact ⟨(honly.trans (toneOnly_setTone v d _ x)).trans (toneOnly_setTone _ d _ _),
    (tone_setTone _ _ _ _).trans (if_pos rfl), rfl, hregs⟩

/-- A fire that meets an open gate begins a TRIGGER record (R327). -/
theorem triggerStep_fires {s : State} {d t : Nat} {f0 f1 : Bool} (tag plain : Word) (y : ToneSample)
    (hcol : (s.tone (sel d t)).collecting = none) (hfire : ((f0 || f1) && (s.tone (sel d t)).gate) = true) :
    s.triggerStep d t f0 f1 tag plain y =
      (s.gateCounted d t (f0 || f1)).beginRecord d t .trigger (s.fireFlags d t f0 f1) tag y :=
  (triggerStep_eq ..).trans ((if_neg (by rw [hcol]; exact Bool.false_ne_true)).trans (if_pos hfire))

/-- A force begins a FORCED record where no trigger does (R330). -/
theorem triggerStep_forces {s : State} {d t : Nat} {f0 f1 : Bool} (tag plain : Word) (y : ToneSample)
    (hcol : (s.tone (sel d t)).collecting = none) (hfire : ((f0 || f1) && (s.tone (sel d t)).gate) = false)
    (hforce : s.forcedNow d t = true) : s.triggerStep d t f0 f1 tag plain y =
      (s.gateCounted d t (f0 || f1)).beginRecord d t .forced (s.fireFlags d t f0 f1) plain y :=
  (triggerStep_eq ..).trans ((if_neg (by rw [hcol]; exact Bool.false_ne_true)).trans
    ((if_neg (by rw [hfire]; exact Bool.false_ne_true)).trans (if_pos hforce)))

/-- Else the sample is counted (R329). -/
theorem triggerStep_passes {s : State} {d t : Nat} {f0 f1 : Bool} (tag plain : Word) (y : ToneSample)
    (hcol : (s.tone (sel d t)).collecting = none) (hfire : ((f0 || f1) && (s.tone (sel d t)).gate) = false)
    (hforce : s.forcedNow d t = false) : s.triggerStep d t f0 f1 tag plain y =
      (s.gateCounted d t (f0 || f1)).plainSample d t (f0 || f1) :=
  (triggerStep_eq ..).trans ((if_neg (by rw [hcol]; exact Bool.false_ne_true)).trans
    ((if_neg (by rw [hfire]; exact Bool.false_ne_true)).trans (if_neg (by rw [hforce]; exact Bool.false_ne_true))))

/-- A record in progress takes the sample (R327). -/
theorem triggerStep_collects {s : State} {d t id left : Nat} (f0 f1 : Bool) (tag plain : Word) (y : ToneSample)
    (h : (s.tone (sel d t)).collecting = some (id, left)) :
    let u := s.triggerStep d t f0 f1 tag plain y
    ToneOnly s u d (sel d t) ∧ u.tone (sel d t) = ((s.tone (sel d t)).collected id left s.cyc).plain (f0 || f1) ∧
      u.acqs = (s.editRec d id (fun r => r.collects (formatSample (b2n (bit (s.tone (sel d t)).config 62)) y.x) left
        (s.cyc + 1) y.suspect)).acqs ∧ u.regs = (s.gateCounted d t (f0 || f1)).regs := by
  have heq : s.triggerStep d t f0 f1 tag plain y =
      ((s.gateCounted d t (f0 || f1)).collectSample d t y).plainSample d t (f0 || f1) := by
    exact (triggerStep_eq ..).trans (if_pos (by rw [h]; rfl))
  have hframe := gateCounted_frame s d t (f0 || f1)
  have hcol : ((s.gateCounted d t (f0 || f1)).tone (sel d t)).collecting = some (id, left) := by rw [tone_gateCounted, h]
  obtain ⟨honly, htone, hacqs, hregs⟩ := collect_plain_reads y (f0 || f1) hcol
  have hedit (f : Rec → Rec) : ((s.gateCounted d t (f0 || f1)).editRec d id f).acqs = (s.editRec d id f).acqs := by
    rw [hframe]
    rfl
  rw [tone_gateCounted] at htone hacqs
  rw [hedit] at hacqs
  have hcyc : (s.gateCounted d t (f0 || f1)).cyc = s.cyc := by rw [hframe]
  rw [hcyc] at htone hacqs
  simp only [heq]
  exact ⟨(toneOnly_of_regs d (sel d t) hframe).trans honly, htone, hacqs, hregs⟩

/-- A record that begins on a sample that has been counted (R327–R331). -/
theorem beginCounted_reads (s : State) (d t : Nat) (fired : Bool) (typ : RecType) (flags : Nat) (tag : Word) (y : ToneSample) :
    let u := (s.gateCounted d t fired).beginRecord d t typ flags tag y
    ToneOnly s u d (sel d t) ∧
      { triggerRec s d t typ flags tag y with id := (s.acq d).nextId } ∈ (u.acq d).wants ∧
      (u.acq d).recs = (s.acq d).recs ∧
      u.tone (sel d t) = (s.tone (sel d t)).began (s.dw Obj.TRIG_CONFIG (sel d t) 2) (s.acq d).nextId s.cyc ∧
      u.rd Obj.TRIG_RECORDS (sel d t) = (s.inc Obj.TRIG_RECORDS (sel d t)).rd Obj.TRIG_RECORDS (sel d t) ∧
      ∀ id k : Nat, id ≠ Obj.TRIG_RECORDS → u.rd id k = (s.gateCounted d t fired).rd id k := by
  obtain ⟨honly, hwant, hrecs, htone, hcount, hother⟩ := beginRecord_reads (s.gateCounted d t fired) d t typ flags tag y
  have hframe := gateCounted_frame s d t fired
  have hrec : triggerRec (s.gateCounted d t fired) d t typ flags tag y = triggerRec s d t typ flags tag y := by
    rw [hframe]
    rfl
  have hcyc : (s.gateCounted d t fired).cyc = s.cyc := by rw [hframe]
  have hdoms : (s.gateCounted d t fired).doms = s.doms := by rw [hframe]
  rw [hrec, acq_gateCounted] at hwant
  rw [acq_gateCounted] at hrecs
  rw [tone_gateCounted, acq_gateCounted, hcyc, dw_congr hdoms] at htone
  exact ⟨(toneOnly_of_regs d (sel d t) hframe).trans honly, hwant, hrecs, htone,
    hcount.trans (rd_count_congr 1 (rd_gateCounted_other s d t fired _ (by decide) (by decide))), hother⟩

/-- A sample that has been counted and is no record's (R329). -/
theorem plainCounted_reads (s : State) (d t : Nat) (fired : Bool) :
    let u := (s.gateCounted d t fired).plainSample d t fired
    ToneOnly s u d (sel d t) ∧ u.tone (sel d t) = (s.tone (sel d t)).plain fired ∧ u.acqs = s.acqs ∧
      u.regs = (s.gateCounted d t fired).regs := by
  have hframe := gateCounted_frame s d t fired
  refine ⟨(toneOnly_of_regs d (sel d t) hframe).trans (toneOnly_setTone _ d _ _), ?_, ?_, rfl⟩
  · rw [plainSample_eq, tone_setTone, if_pos rfl, tone_gateCounted]
  · rw [plainSample_eq, hframe]
    rfl

/-- From `s` to `u`, a trigger unit has taken a sample: what it leaves as it was, whatever it does. -/
structure UnitStepped (s u : State) (d t : Nat) : Prop where
  only : ToneOnly s u d (sel d t)
  tone : ∃ collecting filled shut dead suppressed force, u.tone (sel d t) =
    (s.tone (sel d t)).triggered collecting filled shut dead suppressed force
  objects : ∀ id k : Nat, id ≠ Obj.TRIG_RECORDS → id ≠ Obj.LIVE_TIME → id ≠ Obj.TRIG_SUPPRESSED →
    u.rd id k = s.rd id k
  recs : ∀ r ∈ (s.acq d).recs, (s.tone (sel d t)).collecting.all (fun p => p.1 != r.id) = true → r ∈ (u.acq d).recs

theorem triggerStep_steps (s : State) (d t : Nat) (f0 f1 : Bool) (tag plain : Word) (y : ToneSample) :
    UnitStepped s (s.triggerStep d t f0 f1 tag plain y) d t := by
  have hbegin (typ : RecType) (flags : Nat) (tag : Word) :
      UnitStepped s ((s.gateCounted d t (f0 || f1)).beginRecord d t typ flags tag y) d t := by
    obtain ⟨honly, -, hrecs, htone, -, hother⟩ := beginCounted_reads s d t (f0 || f1) typ flags tag y
    exact ⟨honly, ⟨_, _, _, _, _, _, htone⟩,
      fun id k h1 h2 h3 => (hother id k h1).trans (rd_gateCounted_other s d t _ k h2 h3), fun r hr _ => by rwa [hrecs]⟩
  rcases hcol : (s.tone (sel d t)).collecting with _ | ⟨id, left⟩
  · rcases hfire : ((f0 || f1) && (s.tone (sel d t)).gate) with _ | _
    · rcases hforce : s.forcedNow d t with _ | _
      · rw [triggerStep_passes tag plain y hcol hfire hforce]
        obtain ⟨honly, htone, hacqs, hregs⟩ := plainCounted_reads s d t (f0 || f1)
        exact ⟨honly, ⟨_, _, _, _, _, _, htone⟩, fun id k _ h2 h3 =>
          (rd_congr hregs id k).trans (rd_gateCounted_other s d t _ k h2 h3), fun r hr _ => by rwa [acq_congr hacqs]⟩
      · rw [triggerStep_forces tag plain y hcol hfire hforce]
        exact hbegin .forced (s.fireFlags d t f0 f1) plain
    · rw [triggerStep_fires tag plain y hcol hfire]
      exact hbegin .trigger (s.fireFlags d t f0 f1) tag
  · obtain ⟨honly, htone, hacqs, hregs⟩ := triggerStep_collects f0 f1 tag plain y hcol
    refine ⟨honly, ⟨_, _, _, _, _, _, htone⟩,
      fun id k _ h2 h3 => (rd_congr hregs id k).trans (rd_gateCounted_other s d t _ k h2 h3), fun r hr hid => ?_⟩
    have hne : r.id ≠ id := fun h => by simp [h, hcol] at hid
    rw [acq_congr hacqs]
    exact recs_editRec_other _ hr hne

end Sys2Proof.Machine
end

section
/-!
PROOFS. What a sample does to its tone's stream (R338–R340).
-/

namespace Sys2Proof.Machine

/-- A sample in the FORMAT of its tone (R315). -/
def State.stored (s : State) (d t : Nat) (y : ToneSample) : BitVec 36 :=
  formatSample (b2n (bit (s.tone (sel d t)).config 62)) y.x

/-- A CHANGE stream stores this sample: its first, or one beyond the deadbands of the last stored (R338). -/
def State.streamChanges (s : State) (d t : Nat) (y : ToneSample) : Bool :=
  (s.tone (sel d t)).stored.all (fun o => beyondBand (b2n (bit (s.tone (sel d t)).config 62))
    ((s.rd Obj.TONE_DEADBAND (sel d t)).setWidth 64) (s.stored d t y) o)

/-- A CHANGE stream has stored nothing for TONE_KEEPALIVE samples (R339). -/
def State.keepaliveDue (s : State) (d t : Nat) : Bool :=
  decide (0 < s.rdN Obj.TONE_KEEPALIVE (sel d t)) && decide (s.rdN Obj.TONE_KEEPALIVE (sel d t) ≤ (s.tone (sel d t)).since)

/-- The record that a CHANGE stream makes of a sample, before it has its number (R338, R339, R344). -/
def changeRec (s : State) (d t instant : Nat) (y : ToneSample) : Rec :=
  { id := 0, typ := if s.streamChanges d t y then .change else .keepalive, unit := t, flags := if y.suspect then 8 else 0,
    at_ := s.cyc + 1, len := 2, tag := timeTag instant 0, samples := [s.stored d t y], fullAt := s.cyc + 1 }

/-- The record that a BLOCK stream begins with a sample, before it has its number (R340, R344). -/
def blockRec (s : State) (d t instant : Nat) (y : ToneSample) : Rec :=
  { id := 0, typ := .block, unit := t, flags := if y.suspect then 8 else 0, at_ := s.cyc + 1, len := 130,
    tag := timeTag instant 0, samples := [s.stored d t y], count := 256, open_ := true }

/-- The record of a BLOCK stream takes a sample, `n` having come before (R340). -/
def Rec.fills (r : Rec) (v : BitVec 36) (n at_ : Nat) (suspect : Bool) : Rec :=
  { r with samples := r.samples ++ [v], open_ := decide (n + 1 < 256), fullAt := at_,
           flags := r.flags ||| (if suspect then (8 : BitVec 8) else 0) }

theorem streamSample_change {s : State} {d t : Nat} (instant : Nat) (y : ToneSample)
    (hmode : bits (s.tone (sel d t)).config 61 60 = 1) : s.streamSample d t instant y =
      if s.streamChanges d t y || s.keepaliveDue d t then
        (s.reserve d (changeRec s d t instant y)).2.setTone (sel d t)
          ((s.tone (sel d t)).streamed (some (s.stored d t y)) 0 (s.tone (sel d t)).block)
      else s.setTone (sel d t) ((s.tone (sel d t)).streamed (s.tone (sel d t)).stored ((s.tone (sel d t)).since + 1)
        (s.tone (sel d t)).block) := by
  rcases hstored : (s.tone (sel d t)).stored with _ | o <;>
    simp only [State.streamSample, State.streamChanges, changeRec, hmode, hstored] <;> rfl

theorem streamSample_block_none {s : State} {d t : Nat} (instant : Nat) (y : ToneSample)
    (hmode : bits (s.tone (sel d t)).config 61 60 = 2) (hblock : (s.tone (sel d t)).block = none) :
    s.streamSample d t instant y = (s.reserve d (blockRec s d t instant y)).2.setTone (sel d t)
      ((s.tone (sel d t)).streamed (s.tone (sel d t)).stored (s.tone (sel d t)).since (some ((s.acq d).nextId, 1))) := by
  simp only [State.streamSample, hmode, hblock]
  rfl

theorem streamSample_block_some {s : State} {d t id n : Nat} (instant : Nat) (y : ToneSample)
    (hmode : bits (s.tone (sel d t)).config 61 60 = 2) (hblock : (s.tone (sel d t)).block = some (id, n)) :
    s.streamSample d t instant y =
      (s.editRec d id (fun r => r.fills (s.stored d t y) n (s.cyc + 1) y.suspect)).setTone (sel d t)
        ((s.tone (sel d t)).streamed (s.tone (sel d t)).stored (s.tone (sel d t)).since
          (if n + 1 < 256 then some (id, n + 1) else none)) := by
  simp only [State.streamSample, hmode, hblock]
  rfl

theorem streamSample_off {s : State} {d t : Nat} (instant : Nat) (y : ToneSample)
    (hchange : bits (s.tone (sel d t)).config 61 60 ≠ 1) (hblock : bits (s.tone (sel d t)).config 61 60 ≠ 2) :
    s.streamSample d t instant y = s := by
  simp only [State.streamSample]

/-- From `s` to `u`, a stream has taken a sample: what it leaves as it was, whatever it does. -/
structure StreamStepped (s u : State) (d t : Nat) : Prop where
  only : ToneOnly s u d (sel d t)
  tone : ∃ stored since block, u.tone (sel d t) = (s.tone (sel d t)).streamed stored since block
  regs : u.regs = s.regs
  wants : ∀ r ∈ (s.acq d).wants, (s.tone (sel d t)).block.all (fun p => p.1 != r.id) = true → r ∈ (u.acq d).wants
  recs : (s.tone (sel d t)).block = none → (u.acq d).recs = (s.acq d).recs

theorem streamStepped_reserve (s : State) (d t : Nat) (r : Rec) (stored : Option (BitVec 36)) (since : Nat)
    (block : Option (Nat × Nat)) : StreamStepped s
      ((s.reserve d r).2.setTone (sel d t) ((s.tone (sel d t)).streamed stored since block)) d t :=
  ⟨(toneOnly_setAcq s d _ _).trans (toneOnly_setTone _ d _ _), ⟨_, _, _, (tone_setTone _ _ _ _).trans (if_pos rfl)⟩, rfl,
    fun _ hr _ => mem_wants_reserve.2 (.inr hr), fun _ => recs_reserve s d r⟩

theorem streamSample_steps (s : State) (d t instant : Nat) (y : ToneSample) :
    StreamStepped s (s.streamSample d t instant y) d t := by
  by_cases hchange : bits (s.tone (sel d t)).config 61 60 = 1
  · rw [streamSample_change instant y hchange]
    split
    · exact streamStepped_reserve s d t _ _ _ _
    · exact ⟨toneOnly_setTone s d _ _, ⟨_, _, _, (tone_setTone _ _ _ _).trans (if_pos rfl)⟩, rfl, fun _ hr _ => hr,
        fun _ => rfl⟩
  by_cases hmode : bits (s.tone (sel d t)).config 61 60 = 2
  · rcases hblock : (s.tone (sel d t)).block with _ | ⟨id, n⟩
    · rw [streamSample_block_none instant y hmode hblock]
      exact streamStepped_reserve s d t _ _ _ _
    · rw [streamSample_block_some instant y hmode hblock]
      refine ⟨(toneOnly_setAcq s d _ _).trans (toneOnly_setTone _ d _ _),
        ⟨_, _, _, (tone_setTone _ _ _ _).trans (if_pos rfl)⟩, rfl, fun r hr hid => ?_,
        fun h => absurd (hblock.symm.trans h) (Option.some_ne_none _)⟩
      have hne : r.id ≠ id := fun h => by simp [h, hblock] at hid
      exact wants_editRec_other _ hr hne
  · rw [streamSample_off instant y hchange hmode]
    exact ⟨toneOnly_of_regs d _ rfl, ⟨_, _, _, rfl⟩, rfl, fun _ hr _ => hr, fun _ => rfl⟩

end Sys2Proof.Machine
end

section
/-!
PROOFS. Samples of detector tones (R316, R319–R331, R338–R340): how a sample's parts follow each other, and what each
leaves.
-/

namespace Sys2Proof.Machine

/-! The parts of TONE_SAMPLE. -/

/-- The instant of the sample that arrives now, in device time (R316). -/
def toneInstant (s : State) (d t : Nat) : Nat := (s.now + 2 ^ 64 - toneA (s.tone (sel d t)).config) % 2 ^ 64

/-- The arming that the sample that arrives leaves (R320). -/
def toneArm (s : State) (d t : Nat) : List Bool :=
  [(toneCond s d t 0).2.1, (toneCond s d t 0).2.2, (toneCond s d t 1).2.1, (toneCond s d t 1).2.2]

/-- The time tag and the fire cycle of condition `c` on the sample that arrives (R324), or those given where it does not
fire. -/
def State.condTag (s : State) (d t c : Nat) (plain : Word × Nat) (u : State) : Word × Nat × State :=
  match (toneCond s d t c).1 with
  | some b => u.fireTag (s.dw Obj.TRIG_CONFIG (sel d t) c) (toneArrives s d t).x
      ((s.tone (sel d t)).ring.map (fun y => y.x)) b (toneInstant s d t) (toneP (s.tone (sel d t)).config)
  | none => (plain.1, plain.2, u)

/-- The tag of C1's fire, with the conditions' arming in force. -/
def State.tag1 (s : State) (d t : Nat) : Word × Nat × State :=
  s.condTag d t 1 (timeTag (toneInstant s d t) 0, toneInstant s d t)
    (s.setTone (sel d t) { s.tone (sel d t) with arm := toneArm s d t })

/-- The tag of C0's fire, else of C1's. -/
def State.tag0 (s : State) (d t : Nat) : Word × Nat × State :=
  s.condTag d t 0 ((s.tag1 d t).1, (s.tag1 d t).2.1) (s.tag1 d t).2.2

/-- The trigger unit has taken the sample that arrives. -/
def State.unitStepped (s : State) (d t : Nat) : State :=
  (s.tag0 d t).2.2.triggerStep d t (toneCond s d t 0).1.isSome (toneCond s d t 1).1.isSome (s.tag0 d t).1
    (timeTag (toneInstant s d t) 0) (toneArrives s d t)

/-- The stream has taken it too. -/
def State.stepped (s : State) (d t : Nat) : State :=
  (s.unitStepped d t).streamSample d t (toneInstant s d t) (toneArrives s d t)

/-- A fire reaches the majority units where the trigger unit says so (R331). -/
def State.majHears (s : State) (d t : Nat) (b : Bool) (cyc : Nat) : State := if b then s.majFires d t cyc else s

/-- A sample whose instant was cycle `c` is the newest of its tone's ring and stands in TONE_LATEST (R316, R325). -/
def State.ringTook (s : State) (k : Nat) (y : ToneSample) (c : Nat) : State :=
  (s.setTone k { s.tone k with
    ring := (y :: (s.tone k).ring).take 512, n := (s.tone k).n + 1, lastAt := some c }).wr Obj.TONE_LATEST k
      ((formatSample (b2n (bit (s.tone k).config 62)) y.x).setWidth 72)

theorem exec_toneSample (s : State) (d t : Nat) : exec (.toneSample d t () ()) s =
    if !toneDue s d t then .next s
    else unlessError (s.trigBad (sel d t) || bits (s.rd Obj.TONE_DEADBAND (sel d t)) 63 36 != 0)
      ((((s.stepped d t).majHears d t ((toneCond s d t 0).1.isSome && bit (s.dw Obj.TRIG_CONFIG (sel d t) 2) 34)
        (s.tag0 d t).2.1).majHears d t ((toneCond s d t 1).1.isSome && bit (s.dw Obj.TRIG_CONFIG (sel d t) 2) 33)
        (s.tag1 d t).2.1).ringTook (sel d t) (toneArrives s d t) (s.cyc - toneA (s.tone (sel d t)).config)) := by
  rfl

theorem exec_toneSample_idle {s : State} {d t : Nat} (h : toneDue s d t = false) :
    exec (.toneSample d t () ()) s = .next s := by
  rw [exec_toneSample, h]
  rfl

/-- A configuration is legal exactly where the row finds no host error. -/
theorem not_toneLegal (s : State) (d t : Nat) :
    (s.trigBad (sel d t) || bits (s.rd Obj.TONE_DEADBAND (sel d t)) 63 36 != 0) = !toneLegal s d t := by
  rw [toneLegal, Bool.not_and, Bool.not_not]
  rfl

theorem exec_toneSample_illegal {s : State} {d t : Nat} (h : toneDue s d t = true) (hbad : toneLegal s d t = false) :
    exec (.toneSample d t () ()) s = hostError := by
  rw [exec_toneSample, h, not_toneLegal, hbad]
  rfl

/-! The conditions (R320–R324). -/

/-- Where a fire's fraction is stated, its tag is (R324); a free value may be taken. -/
theorem fireTag_reads (s : State) (w : Word) (x : Sample) (prev : List Sample) (b : Int) (t p : Nat) :
    (∃ f, (s.fireTag w x prev b t p).2.2 = { s with free := f }) ∧
      ∀ f : Nat, fraction b ((condValue w prev).getD ((condValue w (x :: prev)).getD 0)) ((condValue w (x :: prev)).getD 0) =
        some f → (s.fireTag w x prev b t p).1 = if f < 256 then timeTag (t - p) f else timeTag t 0 := by
  simp only [State.fireTag]
  rcases fraction b ((condValue w prev).getD ((condValue w (x :: prev)).getD 0)) ((condValue w (x :: prev)).getD 0) with _ | f
  · exact ⟨⟨_, rfl⟩, nofun⟩
  · refine ⟨⟨s.free, ?_⟩, ?_⟩
    · simp only
      split <;> rfl
    · rintro f' ⟨⟩
      simp only
      split <;> rfl

/-- From `s` to `e`, the conditions of a tone have been evaluated: its arming is new and free values may have been taken. -/
structure Evaluated (s e : State) (d t : Nat) : Prop where
  tone : e.tone (sel d t) = { s.tone (sel d t) with arm := toneArm s d t }
  tones : ∀ j : Nat, j ≠ sel d t → e.tone j = s.tone j
  frame : e = { s with tones := e.tones, free := e.free }

theorem condTag_free (s : State) (d t c : Nat) (plain : Word × Nat) (u : State) :
    ∃ f, (s.condTag d t c plain u).2.2 = { u with free := f } := by
  simp only [State.condTag]
  split
  · exact (fireTag_reads ..).1
  · exact ⟨u.free, rfl⟩

theorem evaluated_tag0 (s : State) (d t : Nat) : Evaluated s (s.tag0 d t).2.2 d t := by
  obtain ⟨f1, h1⟩ := condTag_free s d t 1 (timeTag (toneInstant s d t) 0, toneInstant s d t)
    (s.setTone (sel d t) { s.tone (sel d t) with arm := toneArm s d t })
  obtain ⟨f0, h0⟩ := condTag_free s d t 0 ((s.tag1 d t).1, (s.tag1 d t).2.1) (s.tag1 d t).2.2
  have heq : (s.tag0 d t).2.2 =
      { s.setTone (sel d t) { s.tone (sel d t) with arm := toneArm s d t } with free := f0 } := by
    rw [State.tag0, h0, State.tag1, h1]
  rw [heq]
  exact ⟨(tone_setTone s _ _ _).trans (if_pos rfl), fun j hj => (tone_setTone s _ j _).trans (if_neg hj), rfl⟩

/-- The tag of a fire of C0 whose fraction is stated (R324). -/
theorem tag0_fires {s : State} {d t : Nat} {b : Int} (h : (toneCond s d t 0).1 = some b) (f : Nat)
    (hf : fraction b
      ((condValue (s.dw Obj.TRIG_CONFIG (sel d t) 0) ((s.tone (sel d t)).ring.map (fun y => y.x))).getD
        ((condValue (s.dw Obj.TRIG_CONFIG (sel d t) 0)
          ((toneArrives s d t).x :: (s.tone (sel d t)).ring.map (fun y => y.x))).getD 0))
      ((condValue (s.dw Obj.TRIG_CONFIG (sel d t) 0)
        ((toneArrives s d t).x :: (s.tone (sel d t)).ring.map (fun y => y.x))).getD 0) = some f) :
    (s.tag0 d t).1 = if f < 256 then timeTag (toneInstant s d t - toneP (s.tone (sel d t)).config) f
      else timeTag (toneInstant s d t) 0 := by
  rw [State.tag0, State.condTag, h]
  exact (fireTag_reads ..).2 f hf

theorem Evaluated.acq {s e : State} {d t : Nat} (h : Evaluated s e d t) (k : Nat) : e.acq k = s.acq k := by
  rw [h.frame]
  rfl

theorem Evaluated.rd {s e : State} {d t : Nat} (h : Evaluated s e d t) (id k : Nat) : e.rd id k = s.rd id k := by
  rw [h.frame]
  rfl

theorem Evaluated.dw {s e : State} {d t : Nat} (h : Evaluated s e d t) (id k w : Nat) : e.dw id k w = s.dw id k w := by
  rw [h.frame]
  rfl

theorem Evaluated.cyc {s e : State} {d t : Nat} (h : Evaluated s e d t) : e.cyc = s.cyc := by rw [h.frame]

theorem Evaluated.gate {s e : State} {d t : Nat} (h : Evaluated s e d t) :
    (e.tone (sel d t)).gate = (s.tone (sel d t)).gate := by
  rw [h.tone]
  rfl

theorem Evaluated.triggerRec {s e : State} {d t : Nat} (h : Evaluated s e d t) (typ : RecType) (flags : Nat) (tag : Word)
    (y : ToneSample) : triggerRec e d t typ flags tag y = Machine.triggerRec s d t typ flags tag y := by
  simp only [Machine.triggerRec, h.tone, h.dw, h.cyc]

/-! What follows the stream. -/

/-- A fire of tone `t` reaches majority unit `v` (R331, R333, R334). -/
def State.majFireTo (s : State) (d t cyc v : Nat) : State :=
  if bit (s.rd Obj.MAJ_CONFIG (sel d v)) 63 && s.isMember d v t then
    if cyc + (s.maj (sel d v)).lambda < s.now + 1 then s.inc Obj.MAJ_LATE (sel d v)
    else if (s.maj (sel d v)).deaf.any (fun c => decide (cyc ≤ c)) then s
    else s.setMaj (sel d v) { s.maj (sel d v) with fires := (s.maj (sel d v)).fires ++ [(t, cyc)] }
  else s

theorem majFires_eq (s : State) (d t cyc : Nat) :
    s.majFires d t cyc = (List.range 16).foldl (fun u v => u.majFireTo d t cyc v) s := by
  rw [State.majFires]
  congr 1
  funext u v
  rcases hdeaf : (u.maj (sel d v)).deaf with _ | c <;> simp only [State.majFireTo, hdeaf] <;> rfl

/-- A fire changes majority units and MAJ_LATE only. -/
theorem majFireTo_reads (s : State) (d t cyc v : Nat) :
    s.majFireTo d t cyc v = { s with majs := (s.majFireTo d t cyc v).majs, regs := (s.majFireTo d t cyc v).regs } ∧
      ∀ id k : Nat, id ≠ Obj.MAJ_LATE → (s.majFireTo d t cyc v).rd id k = s.rd id k := by
  rw [State.majFireTo]
  split_ifs
  · exact ⟨by rw [inc_frame], fun id k h => rd_inc_other s fun h' => h h'.1⟩
  all_goals exact ⟨rfl, fun _ _ _ => rfl⟩

theorem majFires_reads (s : State) (d t cyc : Nat) :
    s.majFires d t cyc = { s with majs := (s.majFires d t cyc).majs, regs := (s.majFires d t cyc).regs } ∧
      ∀ id k : Nat, id ≠ Obj.MAJ_LATE → (s.majFires d t cyc).rd id k = s.rd id k := by
  rw [majFires_eq]
  refine List.foldlRecOn (motive := fun u : State => u = { s with majs := u.majs, regs := u.regs } ∧
    ∀ id k : Nat, id ≠ Obj.MAJ_LATE → u.rd id k = s.rd id k) _ _ ⟨rfl, fun _ _ _ => rfl⟩ fun u hu v _ => ?_
  obtain ⟨hframe, hrd⟩ := majFireTo_reads u d t cyc v
  exact ⟨by rw [hframe, hu.1], fun id k h => (hrd id k h).trans (hu.2 id k h)⟩

theorem majHears_reads (s : State) (d t : Nat) (b : Bool) (cyc : Nat) :
    (s.majHears d t b cyc) = { s with majs := (s.majHears d t b cyc).majs, regs := (s.majHears d t b cyc).regs } ∧
      ∀ id k : Nat, id ≠ Obj.MAJ_LATE → (s.majHears d t b cyc).rd id k = s.rd id k := by
  rw [State.majHears]
  split
  · exact majFires_reads s d t cyc
  · exact ⟨rfl, fun _ _ _ => rfl⟩

/-- From `v` to `u`, the majority units have heard the fires of a sample, and the ring has taken it. -/
structure SampleKept (v u : State) (k : Nat) (y : ToneSample) (c : Nat) : Prop where
  tone : u.tone k = { v.tone k with
    ring := (y :: (v.tone k).ring).take 512, n := (v.tone k).n + 1, lastAt := some c }
  tones : ∀ j : Nat, j ≠ k → u.tone j = v.tone j
  acqs : u.acqs = v.acqs
  latest : u.rd Obj.TONE_LATEST k = (formatSample (b2n (bit (v.tone k).config 62)) y.x).setWidth 72
  objects : ∀ id j : Nat, id ≠ Obj.TONE_LATEST → id ≠ Obj.MAJ_LATE → u.rd id j = v.rd id j
  frame : u = { v with tones := u.tones, regs := u.regs, majs := u.majs }

/-- A due sample of a tone whose trigger words are legal is taken by its unit, its stream and its ring. -/
theorem exec_toneSample_due {s : State} {d t : Nat} (h : toneDue s d t = true) (hlegal : toneLegal s d t = true) :
    ∃ u, exec (.toneSample d t () ()) s = .next u ∧
      SampleKept (s.stepped d t) u (sel d t) (toneArrives s d t) (s.cyc - toneA (s.tone (sel d t)).config) := by
  have hexec := exec_toneSample s d t
  rw [h, not_toneLegal, hlegal] at hexec
  refine ⟨_, hexec, ?_⟩
  generalize s.stepped d t = v
  generalize ((toneCond s d t 0).1.isSome && bit (s.dw Obj.TRIG_CONFIG (sel d t) 2) 34) = b0
  generalize ((toneCond s d t 1).1.isSome && bit (s.dw Obj.TRIG_CONFIG (sel d t) 2) 33) = b1
  obtain ⟨hframe0, hrd0⟩ := majHears_reads v d t b0 (s.tag0 d t).2.1
  obtain ⟨hframe1, hrd1⟩ := majHears_reads (v.majHears d t b0 (s.tag0 d t).2.1) d t b1 (s.tag1 d t).2.1
  generalize (v.majHears d t b0 (s.tag0 d t).2.1).majHears d t b1 (s.tag1 d t).2.1 = x at hframe1 hrd1
  have hframe : x = { v with majs := x.majs, regs := x.regs } := by rw [hframe1, hframe0]
  have htone (j : Nat) : x.tone j = v.tone j := by
    rw [hframe]
    rfl
  refine ⟨?_, fun j hj => ?_, ?_, ?_, fun id j hlatest hlate => ?_, ?_⟩
  · rw [← htone]
    exact (tone_setTone x _ _ _).trans (if_pos rfl)
  · rw [← htone]
    exact (tone_setTone x _ j _).trans (if_neg hj)
  · show x.acqs = v.acqs
    rw [hframe]
  · rw [← htone]
    exact rd_wr_same _ _ _ _
  · exact (rd_wr_other (x.setTone _ _) _ fun h => hlatest h.1).trans ((hrd1 id j hlate).trans (hrd0 id j hlate))
  · rw [hframe]
    rfl

end Sys2Proof.Machine
end

section
/-!
PROOFS. Detector tones, their trigger units and their streams (R316–R350).
-/

namespace Sys2Proof.Machine

/-! The trigger unit's part of a sample. -/

theorem unitStepped_steps (s : State) (d t : Nat) : UnitStepped (s.tag0 d t).2.2 (s.unitStepped d t) d t :=
  triggerStep_steps _ d t _ _ _ _ _

theorem stepped_steps (s : State) (d t : Nat) : StreamStepped (s.unitStepped d t) (s.stepped d t) d t :=
  streamSample_steps _ d t _ _

/-- What the stream meets of its tone after the trigger unit's part. -/
theorem tone_unitStepped (s : State) (d t : Nat) : ∃ collecting filled shut dead suppressed force,
    (s.unitStepped d t).tone (sel d t) =
      ({ s.tone (sel d t) with arm := toneArm s d t } : Tone).triggered collecting filled shut dead suppressed force := by
  obtain ⟨collecting, filled, shut, dead, suppressed, force, htone⟩ := (unitStepped_steps s d t).tone
  exact ⟨collecting, filled, shut, dead, suppressed, force, by rw [htone, (evaluated_tag0 s d t).tone]⟩

theorem rd_unitStepped (s : State) (d t : Nat) {id : Nat} (k : Nat) (h1 : id ≠ Obj.TRIG_RECORDS) (h2 : id ≠ Obj.LIVE_TIME)
    (h3 : id ≠ Obj.TRIG_SUPPRESSED) : (s.unitStepped d t).rd id k = s.rd id k :=
  ((unitStepped_steps s d t).objects id k h1 h2 h3).trans ((evaluated_tag0 s d t).rd id k)

theorem cyc_unitStepped (s : State) (d t : Nat) : (s.unitStepped d t).cyc = s.cyc := by
  rw [(unitStepped_steps s d t).only.frame]
  exact (evaluated_tag0 s d t).cyc

theorem stored_unitStepped (s : State) (d t : Nat) :
    (s.unitStepped d t).stored d t (toneArrives s d t) = toneStored s d t := by
  obtain ⟨_, _, _, _, _, _, htone⟩ := tone_unitStepped s d t
  rw [State.stored, htone]
  rfl

/-- What a record that begins leaves of its trigger unit, whatever the stream does: the samples that it still collects and those
for which the gate stays shut (R327). -/
theorem began_reads {x y : Tone} {w : Word} {id cyc : Nat} {stored : Option (BitVec 36)} {since : Nat}
    {block : Option (Nat × Nat)} {ring : List ToneSample} {n : Nat} {lastAt : Option Nat}
    (h : y = { (x.began w id cyc).streamed stored since block with ring := ring, n := n, lastAt := lastAt }) :
    y.shut = bits w 62 51 + bits w 50 35 ∧ y.dead = 0 ∧ y.suppressed = 0 ∧ y.force = none ∧
      y.collecting = if bits w 62 51 = 0 then none else some (id, bits w 62 51) := by
  subst h
  refine ⟨?_, rfl, rfl, rfl, ?_⟩
  · show bits w 62 51 + 1 + bits w 50 35 - 1 = _
    omega
  · show (if bits w 62 51 + 1 = 1 then none else some (id, bits w 62 51 + 1 - 1)) = _
    rw [Nat.add_sub_cancel]
    exact if_congr (by omega) rfl rfl

/-! A sample that has been taken. -/

section
variable {s u : State} {d t : Nat}
  (h : SampleKept (s.stepped d t) u (sel d t) (toneArrives s d t) (s.cyc - toneA (s.tone (sel d t)).config))
include h

/-- The tone after a sample: what its unit and its stream have made of it, and the sample in its ring. -/
theorem SampleKept.shape : ∃ stored since block, u.tone (sel d t) =
    { ((s.unitStepped d t).tone (sel d t)).streamed stored since block with
      ring := (toneArrives s d t :: (s.tone (sel d t)).ring).take 512, n := (s.tone (sel d t)).n + 1,
      lastAt := some (s.cyc - toneA (s.tone (sel d t)).config) } := by
  obtain ⟨stored, since, block, hstream⟩ := (stepped_steps s d t).tone
  obtain ⟨_, _, _, _, _, _, hunit⟩ := tone_unitStepped s d t
  refine ⟨stored, since, block, ?_⟩
  rw [h.tone, hstream, hunit]
  rfl

theorem SampleKept.rd_unit (id k : Nat) (hlatest : id ≠ Obj.TONE_LATEST) (hlate : id ≠ Obj.MAJ_LATE) :
    u.rd id k = (s.unitStepped d t).rd id k :=
  (h.objects id k hlatest hlate).trans (rd_congr (stepped_steps s d t).regs id k)

/-- A record that the trigger unit begins is not the one that the stream's block fills. -/
theorem SampleKept.wants {r : Rec} (hr : r ∈ ((s.unitStepped d t).acq d).wants)
    (hblock : (s.tone (sel d t)).block.all (fun p => p.1 != r.id) = true) : r ∈ (u.acq d).wants := by
  obtain ⟨_, _, _, _, _, _, hunit⟩ := tone_unitStepped s d t
  rw [acq_congr h.acqs]
  exact (stepped_steps s d t).wants r hr (by rw [hunit]; exact hblock)

theorem SampleKept.frame_of : u = { s with
    tones := u.tones, acqs := u.acqs, regs := u.regs, majs := u.majs, free := u.free } := by
  rw [h.frame, (stepped_steps s d t).only.frame, (unitStepped_steps s d t).only.frame, (evaluated_tag0 s d t).frame]

/-- A record that begins on the sample (R327–R331). -/
theorem SampleKept.begins {fired : Bool} {typ : RecType} {flags : Nat} {tag : Word}
    (hunit : s.unitStepped d t = ((s.tag0 d t).2.2.gateCounted d t fired).beginRecord d t typ flags tag (toneArrives s d t))
    (hblock : (s.tone (sel d t)).block.all (fun p => p.1 != (s.acq d).nextId) = true) :
    { triggerRec s d t typ flags tag (toneArrives s d t) with id := (s.acq d).nextId } ∈ (u.acq d).wants ∧
      u.rd Obj.TRIG_RECORDS (sel d t) = (s.inc Obj.TRIG_RECORDS (sel d t)).rd Obj.TRIG_RECORDS (sel d t) ∧
      u.rd Obj.LIVE_TIME (sel d t) = ((s.tag0 d t).2.2.gateCounted d t fired).rd Obj.LIVE_TIME (sel d t) ∧
      (u.tone (sel d t)).shut =
        bits (s.dw Obj.TRIG_CONFIG (sel d t) 2) 62 51 + bits (s.dw Obj.TRIG_CONFIG (sel d t) 2) 50 35 ∧
      (u.tone (sel d t)).dead = 0 ∧ (u.tone (sel d t)).suppressed = 0 ∧ (u.tone (sel d t)).force = none ∧
      (u.tone (sel d t)).collecting = (if bits (s.dw Obj.TRIG_CONFIG (sel d t) 2) 62 51 = 0 then none
        else some ((s.acq d).nextId, bits (s.dw Obj.TRIG_CONFIG (sel d t) 2) 62 51)) := by
  have he := evaluated_tag0 s d t
  obtain ⟨-, hwant, -, htone, hcount, hother⟩ :=
    beginCounted_reads (s.tag0 d t).2.2 d t fired typ flags tag (toneArrives s d t)
  rw [← hunit] at hwant htone hcount hother
  rw [he.triggerRec, he.acq] at hwant
  rw [he.tone, he.dw, he.acq, he.cyc] at htone
  refine ⟨h.wants hwant hblock, ?_, ?_, ?_⟩
  · rw [h.rd_unit _ _ (by decide) (by decide), hcount]
    exact rd_count_congr 1 (he.rd _ _)
  · rw [h.rd_unit _ _ (by decide) (by decide), hother _ _ (by decide)]
  · obtain ⟨stored, since, block, hshape⟩ := h.shape
    exact began_reads (by rw [hshape, htone])

/-- A sample that is no record's: a force that waits goes on waiting, and the gate's closure runs on (R329). -/
theorem SampleKept.passes {fired : Bool}
    (hunit : s.unitStepped d t = ((s.tag0 d t).2.2.gateCounted d t fired).plainSample d t fired) :
    (bits (s.tone (sel d t)).config 61 60 = 0 → u.acqs = s.acqs) ∧
      (∀ id k : Nat, id ≠ Obj.TONE_LATEST → id ≠ Obj.MAJ_LATE →
        u.rd id k = ((s.tag0 d t).2.2.gateCounted d t fired).rd id k) ∧
      (u.tone (sel d t)).dead = (s.tone (sel d t)).dead + b2n (!(s.tone (sel d t)).gate) ∧
      (u.tone (sel d t)).suppressed = (s.tone (sel d t)).suppressed + b2n (fired && !(s.tone (sel d t)).gate) ∧
      (u.tone (sel d t)).shut = (s.tone (sel d t)).shut - 1 ∧ (u.tone (sel d t)).force = (s.tone (sel d t)).force := by
  have he := evaluated_tag0 s d t
  obtain ⟨-, htone, hacqs, hregs⟩ := plainCounted_reads (s.tag0 d t).2.2 d t fired
  rw [← hunit] at htone hacqs hregs
  rw [he.tone] at htone
  refine ⟨fun hoff => ?_, fun id k hlatest hlate => ?_, ?_⟩
  · have hmode : bits ((s.unitStepped d t).tone (sel d t)).config 61 60 = 0 := by
      rw [htone]
      exact hoff
    rw [h.acqs, State.stepped, streamSample_off _ _ (by rw [hmode]; decide) (by rw [hmode]; decide), hacqs, he.frame]
  · exact (h.rd_unit id k hlatest hlate).trans (rd_congr hregs id k)
  · obtain ⟨stored, since, block, hshape⟩ := h.shape
    rw [hshape, htone]
    exact ⟨rfl, rfl, rfl, rfl⟩

/-- The record in progress takes the sample (R327). -/
theorem SampleKept.collects {id left : Nat} (hcol : (s.tone (sel d t)).collecting = some (id, left))
    (hblock : (s.tone (sel d t)).block = none) :
    (u.acq d).recs = (s.acq d).recs.map (fun r => if r.id = id then
      r.collects (toneStored s d t) left (s.cyc + 1) (toneArrives s d t).suspect else r) ∧
      (u.tone (sel d t)).collecting = (if left ≤ 1 then none else some (id, left - 1)) ∧
      u.rd Obj.TRIG_RECORDS (sel d t) = s.rd Obj.TRIG_RECORDS (sel d t) := by
  have he := evaluated_tag0 s d t
  have hcol' : ((s.tag0 d t).2.2.tone (sel d t)).collecting = some (id, left) := by
    rw [he.tone]
    exact hcol
  obtain ⟨-, htone, hacqs, hregs⟩ := triggerStep_collects (toneCond s d t 0).1.isSome (toneCond s d t 1).1.isSome
    (s.tag0 d t).1 (timeTag (toneInstant s d t) 0) (toneArrives s d t) hcol'
  have hunit : (s.unitStepped d t).acq d = _ := (acq_congr hacqs d).trans (acq_editRec_same _ d id _)
  obtain ⟨_, _, _, _, _, _, hsteps⟩ := tone_unitStepped s d t
  obtain ⟨stored, since, block, hshape⟩ := h.shape
  refine ⟨?_, ?_, ?_⟩
  · rw [acq_congr h.acqs, (stepped_steps s d t).recs (by rw [hsteps]; exact hblock), hunit, he.acq, he.cyc, he.tone]
    rfl
  · rw [hshape]
    show ((s.unitStepped d t).tone (sel d t)).collecting = _
    rw [State.unitStepped, htone]
    rfl
  · rw [h.rd_unit _ _ (by decide) (by decide), rd_congr (t := s.unitStepped d t) hregs,
      rd_gateCounted_other _ _ _ _ _ (by decide) (by decide), he.rd]

/-! The stream's part. -/

/-- What the stream has made of the buffer and of its own part of the tone is left so. -/
theorem SampleKept.stream : u.acq d = (s.stepped d t).acq d ∧
    (u.tone (sel d t)).stored = ((s.stepped d t).tone (sel d t)).stored ∧
    (u.tone (sel d t)).since = ((s.stepped d t).tone (sel d t)).since ∧
    (u.tone (sel d t)).block = ((s.stepped d t).tone (sel d t)).block := by
  rw [h.tone]
  exact ⟨acq_congr h.acqs d, rfl, rfl, rfl⟩

/-- A CHANGE stream that makes a record of the sample (R338, R339). -/
theorem SampleKept.streamStores (hmode : bits (s.tone (sel d t)).config 61 60 = 1)
    (hstore : ((s.unitStepped d t).streamChanges d t (toneArrives s d t) || (s.unitStepped d t).keepaliveDue d t) = true) :
    (∃ r ∈ (u.acq d).wants,
      r.typ = (if (s.unitStepped d t).streamChanges d t (toneArrives s d t) then .change else .keepalive) ∧ r.unit = t ∧
      r.at_ = s.cyc + 1 ∧ r.len = 2 ∧ r.tag = timeTag (toneInstant s d t) 0 ∧ r.samples = [toneStored s d t]) ∧
      (u.tone (sel d t)).stored = some (toneStored s d t) ∧ (u.tone (sel d t)).since = 0 := by
  obtain ⟨_, _, _, _, _, _, hunit⟩ := tone_unitStepped s d t
  obtain ⟨hacq, hstored, hsince, -⟩ := h.stream
  have hmode' : bits ((s.unitStepped d t).tone (sel d t)).config 61 60 = 1 := by
    rw [hunit]
    exact hmode
  have hv : s.stepped d t = _ := (streamSample_change (toneInstant s d t) (toneArrives s d t) hmode').trans (if_pos hstore)
  rw [hv, tone_setTone, if_pos rfl, stored_unitStepped] at hstored
  rw [hv, tone_setTone, if_pos rfl] at hsince
  refine ⟨⟨{ changeRec (s.unitStepped d t) d t (toneInstant s d t) (toneArrives s d t) with
    id := ((s.unitStepped d t).acq d).nextId }, ?_, rfl, rfl, congrArg (· + 1) (cyc_unitStepped s d t), rfl, rfl,
    congrArg (fun v => [v]) (stored_unitStepped s d t)⟩, hstored, hsince⟩
  rw [hacq, hv]
  exact mem_wants_reserve.2 (.inl rfl)

/-- A CHANGE stream that makes no record of the sample counts it (R339). -/
theorem SampleKept.streamCounts (hmode : bits (s.tone (sel d t)).config 61 60 = 1)
    (hstore : ((s.unitStepped d t).streamChanges d t (toneArrives s d t) || (s.unitStepped d t).keepaliveDue d t) = false) :
    (u.tone (sel d t)).stored = (s.tone (sel d t)).stored ∧ (u.tone (sel d t)).since = (s.tone (sel d t)).since + 1 := by
  obtain ⟨_, _, _, _, _, _, hunit⟩ := tone_unitStepped s d t
  obtain ⟨-, hstored, hsince, -⟩ := h.stream
  have hmode' : bits ((s.unitStepped d t).tone (sel d t)).config 61 60 = 1 := by
    rw [hunit]
    exact hmode
  have hv : s.stepped d t = _ := (streamSample_change (toneInstant s d t) (toneArrives s d t) hmode').trans
    (if_neg (by rw [hstore]; exact Bool.false_ne_true))
  rw [hv, tone_setTone, if_pos rfl, hunit] at hstored hsince
  exact ⟨hstored, hsince⟩

/-- A BLOCK stream begins a record with the sample (R340). -/
theorem SampleKept.blockBegins (hmode : bits (s.tone (sel d t)).config 61 60 = 2) (hblock : (s.tone (sel d t)).block = none) :
    ∃ r ∈ (u.acq d).wants, r.typ = RecType.block ∧ r.unit = t ∧ r.at_ = s.cyc + 1 ∧ r.len = 130 ∧ r.count = 256 ∧
      r.open_ = true ∧ r.samples = [toneStored s d t] ∧ (u.tone (sel d t)).block = some (r.id, 1) := by
  obtain ⟨_, _, _, _, _, _, hunit⟩ := tone_unitStepped s d t
  obtain ⟨hacq, -, -, hfills⟩ := h.stream
  have hv : s.stepped d t = _ := streamSample_block_none (s := s.unitStepped d t) (toneInstant s d t) (toneArrives s d t)
    (by rw [hunit]; exact hmode) (by rw [hunit]; exact hblock)
  rw [hv, tone_setTone, if_pos rfl] at hfills
  refine ⟨{ blockRec (s.unitStepped d t) d t (toneInstant s d t) (toneArrives s d t) with
    id := ((s.unitStepped d t).acq d).nextId }, ?_, rfl, rfl, congrArg (· + 1) (cyc_unitStepped s d t), rfl, rfl, rfl,
    congrArg (fun v => [v]) (stored_unitStepped s d t), hfills⟩
  rw [hacq, hv]
  exact mem_wants_reserve.2 (.inl rfl)

/-- The record of a BLOCK stream takes the sample (R340). -/
theorem SampleKept.blockFills {id n : Nat} (hmode : bits (s.tone (sel d t)).config 61 60 = 2)
    (hblock : (s.tone (sel d t)).block = some (id, n))
    (hcol : (s.tone (sel d t)).collecting.all (fun p => p.1 != id) = true) :
    (∀ r ∈ (s.acq d).recs, r.id = id →
      r.fills (toneStored s d t) n (s.cyc + 1) (toneArrives s d t).suspect ∈ (u.acq d).recs) ∧
      (u.tone (sel d t)).block = (if n + 1 < 256 then some (id, n + 1) else none) := by
  have he := evaluated_tag0 s d t
  obtain ⟨_, _, _, _, _, _, hunit⟩ := tone_unitStepped s d t
  obtain ⟨hacq, -, -, hfills⟩ := h.stream
  have hv : s.stepped d t = _ := streamSample_block_some (s := s.unitStepped d t) (toneInstant s d t) (toneArrives s d t)
    (by rw [hunit]; exact hmode) (by rw [hunit]; exact hblock)
  rw [hv, tone_setTone, if_pos rfl] at hfills
  refine ⟨fun r hr hid => ?_, hfills⟩
  have hkept : r ∈ ((s.unitStepped d t).acq d).recs :=
    (unitStepped_steps s d t).recs r (by rwa [he.acq]) (by rw [he.tone, hid]; exact hcol)
  rw [hacq, hv, stored_unitStepped, cyc_unitStepped]
  exact recs_editRec_same (s := s.unitStepped d t) _ hkept hid

end

/-- Whether a CHANGE stream stores the sample does not depend on the trigger unit's part (R338). -/
theorem streamChanges_unitStepped (s : State) (d t : Nat) : (s.unitStepped d t).streamChanges d t (toneArrives s d t) =
    (s.tone (sel d t)).stored.all (fun o => beyondBand (b2n (bit (s.tone (sel d t)).config 62))
      ((s.rd Obj.TONE_DEADBAND (sel d t)).setWidth 64) (toneStored s d t) o) := by
  obtain ⟨_, _, _, _, _, _, hunit⟩ := tone_unitStepped s d t
  rw [State.streamChanges, stored_unitStepped, rd_unitStepped _ _ _ _ (by decide) (by decide) (by decide), hunit]
  rfl

theorem keepaliveDue_unitStepped (s : State) (d t : Nat) : (s.unitStepped d t).keepaliveDue d t =
    decide (0 < s.rdN Obj.TONE_KEEPALIVE (sel d t) ∧ s.rdN Obj.TONE_KEEPALIVE (sel d t) ≤ (s.tone (sel d t)).since) := by
  obtain ⟨_, _, _, _, _, _, hunit⟩ := tone_unitStepped s d t
  rw [State.keepaliveDue, State.rdN, rd_unitStepped _ _ _ _ (by decide) (by decide) (by decide), hunit, Bool.decide_and]
  rfl

/-! FLAGS of a record that begins (R345). -/

theorem bits_recordFlags : ∀ f0 f1 maj short suspect : Bool,
    let v := BitVec.ofNat 8 (b2n f0 * 128 + b2n f1 * 64 + b2n maj * 16 + (if short then 32 else 0) + (if suspect then 8 else 0))
    bit v 7 = f0 ∧ bit v 6 = f1 ∧ bit v 5 = short ∧ bit v 4 = maj ∧ bit v 3 = suspect := by
  decide

theorem bits_flags_triggerRec (s : State) (d t : Nat) (typ : RecType) (f0 f1 maj : Bool) (tag : Word) (y : ToneSample) :
    let r := triggerRec s d t typ (b2n f0 * 128 + b2n f1 * 64 + b2n maj * 16) tag y
    bit r.flags 7 = f0 ∧ bit r.flags 6 = f1 ∧
      bit r.flags 5 = decide ((s.tone (sel d t)).ring.length < bits (s.dw Obj.TRIG_CONFIG (sel d t) 2) 71 63) ∧
      bit r.flags 4 = maj ∧ bit r.flags 3 = y.suspect := by
  have hflags := bits_recordFlags f0 f1 maj
    (decide ((s.tone (sel d t)).ring.length < bits (s.dw Obj.TRIG_CONFIG (sel d t) 2) 71 63)) y.suspect
  have hshort : min (bits (s.dw Obj.TRIG_CONFIG (sel d t) 2) 71 63) (s.tone (sel d t)).ring.length <
      bits (s.dw Obj.TRIG_CONFIG (sel d t) 2) 71 63 ↔
      (s.tone (sel d t)).ring.length < bits (s.dw Obj.TRIG_CONFIG (sel d t) 2) 71 63 := by omega
  simp only [decide_eq_true_eq] at hflags
  simp only [triggerRec, hshort]
  exact hflags

/-! What the trigger unit does with the sample (R325–R330). -/

/-- C0 fires with the gate open and no record in progress: a TRIGGER record begins (R327). -/
theorem unitStepped_fires {s : State} {d t : Nat} (hgate : (s.tone (sel d t)).gate = true)
    (hcol : (s.tone (sel d t)).collecting = none) (hfire : (toneCond s d t 0).1.isSome = true) :
    s.unitStepped d t = ((s.tag0 d t).2.2.gateCounted d t true).beginRecord d t .trigger
      ((s.tag0 d t).2.2.fireFlags d t true (toneCond s d t 1).1.isSome) (s.tag0 d t).1 (toneArrives s d t) := by
  have he := evaluated_tag0 s d t
  have hfires := triggerStep_fires (s := (s.tag0 d t).2.2) (d := d) (t := t) (f0 := true) (f1 := (toneCond s d t 1).1.isSome)
    (s.tag0 d t).1 (timeTag (toneInstant s d t) 0) (toneArrives s d t) (by rw [he.tone]; exact hcol)
    (by rw [he.gate, hgate]; rfl)
  rw [State.unitStepped, hfire]
  exact hfires

/-- A force that waits begins a FORCED record where no trigger does (R330). -/
theorem unitStepped_forces {s : State} {d t c : Nat} {m : Bool} (hforce : (s.tone (sel d t)).force = some (m, c))
    (hc : c < s.cyc) (hcol : (s.tone (sel d t)).collecting = none)
    (hfire : (((toneCond s d t 0).1.isSome || (toneCond s d t 1).1.isSome) && (s.tone (sel d t)).gate) = false) :
    s.unitStepped d t = ((s.tag0 d t).2.2.gateCounted d t
      ((toneCond s d t 0).1.isSome || (toneCond s d t 1).1.isSome)).beginRecord d t .forced
      ((s.tag0 d t).2.2.fireFlags d t (toneCond s d t 0).1.isSome (toneCond s d t 1).1.isSome)
      (timeTag (toneInstant s d t) 0) (toneArrives s d t) := by
  have he := evaluated_tag0 s d t
  refine triggerStep_forces _ _ _ (by rw [he.tone]; exact hcol) (by rw [he.gate, hfire]) ?_
  rw [State.forcedNow, he.tone, he.cyc]
  show (s.tone (sel d t)).force.any _ = true
  rw [hforce]
  exact decide_eq_true hc

/-- With the gate shut and no force, a fire of C0 is only counted (R329). -/
theorem unitStepped_suppresses {s : State} {d t : Nat} (hgate : (s.tone (sel d t)).gate = false)
    (hcol : (s.tone (sel d t)).collecting = none)
    (hforce : (s.tone (sel d t)).force.all (fun f => decide (s.cyc ≤ f.2)) = true)
    (hfire : (toneCond s d t 0).1.isSome = true) :
    s.unitStepped d t = ((s.tag0 d t).2.2.gateCounted d t true).plainSample d t true := by
  have he := evaluated_tag0 s d t
  have hnow : (s.tag0 d t).2.2.forcedNow d t = false := by
    rw [State.forcedNow, he.tone, he.cyc]
    show (s.tone (sel d t)).force.any _ = false
    rcases hf : (s.tone (sel d t)).force with _ | ⟨m, c⟩
    · rfl
    · rw [hf] at hforce
      exact decide_eq_false (Nat.not_lt.2 (of_decide_eq_true hforce))
  have hpasses := triggerStep_passes (s := (s.tag0 d t).2.2) (d := d) (t := t) (f0 := true) (f1 := (toneCond s d t 1).1.isSome)
    (s.tag0 d t).1 (timeTag (toneInstant s d t) 0) (toneArrives s d t) (by rw [he.tone]; exact hcol)
    (by rw [he.gate, hgate]; exact Bool.and_false _) hnow
  rw [State.unitStepped, hfire]
  exact hpasses

/-- MAJ of a record that begins is that of a force that arrived before this cycle (R345). -/
theorem fireFlags_forced {s : State} {d t c : Nat} {m : Bool} (hforce : (s.tone (sel d t)).force = some (m, c))
    (hc : c < s.cyc) (f0 f1 : Bool) :
    (s.tag0 d t).2.2.fireFlags d t f0 f1 = b2n f0 * 128 + b2n f1 * 64 + b2n m * 16 := by
  have he := evaluated_tag0 s d t
  have hmaj : (s.tag0 d t).2.2.majNow d t = m := by
    rw [State.majNow, he.tone, he.cyc]
    show (s.tone (sel d t)).force.any _ = m
    rw [hforce, Option.any_some, decide_eq_true hc, Bool.and_true]
  rw [State.fireFlags, hmaj]

/-- A tone that runs has its gate open exactly where it is armed and not shut (R325). -/
theorem on_of_toneDue {s : State} {d t : Nat} (h : toneDue s d t = true) : (s.tone (sel d t)).on = true := by
  simp only [toneDue, Bool.and_eq_true] at h
  exact h.1.1.1.1

theorem gate_of_armed {x : Tone} (hon : x.on = true) (harmed : x.armed = true) (hshut : x.shut = 0) : x.gate = true := by
  simp [Tone.gate, hon, harmed, hshut]

theorem gate_of_shut {x : Tone} (h : x.armed = false ∨ 0 < x.shut) : x.gate = false := by
  rcases h with h | h
  · simp [Tone.gate, h]
  · simp [Tone.gate, Nat.ne_of_gt h]

/-- What a 64-bit counter reads once raised depends on its value alone. -/
theorem rd_count64_congr {s u : State} {id k : Nat} (n : Nat) (h : u.rd id k = s.rd id k) :
    (u.count64 id k n).rd id k = (s.count64 id k n).rd id k := by
  simp only [State.count64, rd_wr_same, State.rdN, h]

/-! The clauses. -/

/-- Settles O34: a restart by what it cuts short (R317, R318), a sample by its unit's part and its stream's part, each in turn
(R325–R331, R338–R340), a copy by the pre segment it leaves (R346), and each command of the unit (R350). The signal is free
(log 62), and that a row which is not due changes nothing is the model's choice (log 15). -/
theorem tonesAndTriggers : Obligations.TonesAndTriggers := by
  unfold Obligations.TonesAndTriggers
  refine ⟨?restart, ?badRestart, fun d t s => exec_toneRestart_idle, ?sample,
    fun d t s hdue hbad => exec_toneSample_illegal hdue hbad, fun d t s => exec_toneSample_idle, ?trigger, ?forced, ?suppressed,
    ?collecting, ?changed, ?keepalive, ?blockBegins, ?blockFills, ?copy, fun d s => exec_preSegmentCopy_idle, fun d t s => rfl,
    fun d t s => rfl, fun d t s => exec_trigForce_outside, fun d t s => exec_trigForce_inside⟩
  case restart =>
    rintro d t cfg x s rfl rfl hmay hwant hgrid hgood
    have hexec := exec_toneRestart_due hmay hwant hgrid
    rw [hgood] at hexec
    refine ⟨_, hexec, (tone_setTone _ _ _ _).trans (if_pos rfl), fun k hk => ?_, fun k hk => acq_truncate_other s t hk,
      fun ⟨hcol, hblock⟩ => ?_, fun hblock r hr left hcol => recs_truncate hr hcol hblock,
      fun h => bit_toneStatus_truncate h, ?_⟩
    · rw [tone_setTone, if_neg hk, truncate_frame]
      rfl
    · rw [truncate_idle hcol hblock]
      exact ⟨rfl, rfl⟩
    · rw [truncate_frame]
      rfl
  case badRestart =>
    rintro d t cfg s rfl hmay hwant hgrid hbad
    rw [exec_toneRestart_due hmay hwant hgrid, hbad]
    rfl
  case sample =>
    intro d t s hdue hlegal
    obtain ⟨u, hexec, h⟩ := exec_toneSample_due hdue hlegal
    obtain ⟨stored, since, block, hshape⟩ := h.shape
    obtain ⟨_, _, _, _, _, _, hunit⟩ := tone_unitStepped s d t
    have hstream := stepped_steps s d t
    have hsteps := unitStepped_steps s d t
    have he := evaluated_tag0 s d t
    refine ⟨u, hexec, by rw [hshape], by rw [hshape], by rw [hshape], by rw [hshape, hunit]; rfl, ?_, fun k hk => ?_,
      fun k hk => ?_, h.frame_of⟩
    · obtain ⟨_, _, _, htone⟩ := hstream.tone
      rw [h.latest, htone, hunit]
      rfl
    · rw [h.tones k hk, hstream.only.tones k hk, hsteps.only.tones k hk, he.tones k hk]
    · rw [acq_congr h.acqs, hstream.only.acqs k hk, hsteps.only.acqs k hk, he.acq]
  case trigger =>
    rintro d t b z w2 prev s hdue hlegal rfl rfl rfl hb harmed hshut hcol hblock
    obtain ⟨u, hexec, h⟩ := exec_toneSample_due hdue hlegal
    have he := evaluated_tag0 s d t
    have hgate := gate_of_armed (on_of_toneDue hdue) harmed hshut
    obtain ⟨hwant, hrecords, hlive, hunit⟩ :=
      h.begins (unitStepped_fires hgate hcol (by rw [hb]; rfl)) hblock
    obtain ⟨h7, h6, h5, -, h3⟩ := bits_flags_triggerRec s d t .trigger true (toneCond s d t 1).1.isSome
      ((s.tag0 d t).2.2.majNow d t) (s.tag0 d t).1 (toneArrives s d t)
    rw [gateCounted_open true (he.gate.trans hgate)] at hlive
    refine ⟨u, hexec, ⟨_, hwant, rfl, rfl, rfl, rfl, rfl, rfl, rfl, rfl, ?_, rfl, h7, h6, h5, h3, rfl, fun f hf => ?_⟩,
      hrecords, ?_, hunit⟩
    · exact decide_eq_decide.2 (by omega)
    · exact tag0_fires hb f hf
    · rw [hlive, he.tone]
      exact rd_count64_congr _ (he.rd _ _)
  case forced =>
    rintro d t c m z w2 s hdue hlegal rfl rfl hforce hc hcol hno hblock
    obtain ⟨u, hexec, h⟩ := exec_toneSample_due hdue hlegal
    have hfire : (((toneCond s d t 0).1.isSome || (toneCond s d t 1).1.isSome) && (s.tone (sel d t)).gate) = false := by
      rcases hno with hshut | hshut | ⟨h0, h1⟩
      · rw [gate_of_shut (.inl hshut), Bool.and_false]
      · rw [gate_of_shut (.inr hshut), Bool.and_false]
      · rw [h0, h1]
        rfl
    have hunit := unitStepped_forces hforce hc hcol hfire
    rw [fireFlags_forced hforce hc] at hunit
    obtain ⟨hwant, hrecords, -, hshut, -, -, hwaits, -⟩ := h.begins hunit hblock
    obtain ⟨-, -, -, h4, -⟩ := bits_flags_triggerRec s d t .forced (toneCond s d t 0).1.isSome (toneCond s d t 1).1.isSome m
      (timeTag (toneInstant s d t) 0) (toneArrives s d t)
    refine ⟨u, hexec, ⟨_, hwant, rfl, rfl, rfl, rfl, rfl, rfl, h4, rfl, rfl⟩, hrecords, hshut, hwaits⟩
  case suppressed =>
    rintro d t z s hdue hlegal rfl hshut hcol hforce hfire
    obtain ⟨u, hexec, h⟩ := exec_toneSample_due hdue hlegal
    have he := evaluated_tag0 s d t
    have hgate := gate_of_shut hshut
    obtain ⟨hoff, hrd, hdead, hcounted, hnext, hkept⟩ := h.passes (unitStepped_suppresses hgate hcol hforce hfire)
    rw [gateCounted_closed (he.gate.trans hgate)] at hrd
    have hsame {id : Nat} (h1 : id ≠ Obj.TONE_LATEST) (h2 : id ≠ Obj.MAJ_LATE) (h3 : id ≠ Obj.TRIG_SUPPRESSED) :
        u.rd id (sel d t) = s.rd id (sel d t) :=
      (hrd id _ h1 h2).trans ((rd_inc_other _ fun h => h3 h.1).trans (he.rd id _))
    rw [hgate] at hdead hcounted
    exact ⟨u, hexec, hoff, (hrd _ _ (by decide) (by decide)).trans (rd_count_congr 1 (he.rd _ _)),
      hsame (by decide) (by decide) (by decide), hsame (by decide) (by decide) (by decide), hdead, hcounted, hnext, hkept⟩
  case collecting =>
    rintro d t id left z s hdue hlegal rfl hcol hblock
    obtain ⟨u, hexec, h⟩ := exec_toneSample_due hdue hlegal
    obtain ⟨hrecs, hleft, hrecords⟩ := h.collects hcol hblock
    refine ⟨u, hexec, fun r hr hid => ?_, fun r hr hid => ?_, hleft, hrecords⟩
    · have hmem := mem_map_edit (id := id)
        (fun r => r.collects (toneStored s d t) left (s.cyc + 1) (toneArrives s d t).suspect) hr
      rw [if_pos hid, ← hrecs] at hmem
      exact hmem
    · have hmem := mem_map_edit (id := id)
        (fun r => r.collects (toneStored s d t) left (s.cyc + 1) (toneArrives s d t).suspect) hr
      rwa [if_neg hid, ← hrecs] at hmem
  case changed =>
    rintro d t z s hdue hlegal rfl hmode hch
    obtain ⟨u, hexec, h⟩ := exec_toneSample_due hdue hlegal
    rw [← streamChanges_unitStepped] at hch
    obtain ⟨⟨r, hr, htyp, hunit, hat, hlen, htag, hsamples⟩, hstored, hsince⟩ :=
      h.streamStores hmode (by rw [hch, Bool.true_or])
    rw [hch, if_pos rfl] at htyp
    exact ⟨u, hexec, ⟨r, hr, htyp, hunit, hat, hlen, htag, hsamples⟩, hstored, hsince⟩
  case keepalive =>
    rintro d t o z s hdue hlegal rfl hmode ho hsame
    obtain ⟨u, hexec, h⟩ := exec_toneSample_due hdue hlegal
    have hch : (s.unitStepped d t).streamChanges d t (toneArrives s d t) = false := by
      rw [streamChanges_unitStepped, ho]
      exact hsame
    refine ⟨u, hexec, ?_⟩
    split
    · next hdue =>
      obtain ⟨⟨r, hr, htyp, hunit, hat, -, -, hsamples⟩, hstored, hsince⟩ :=
        h.streamStores hmode (by rw [hch, keepaliveDue_unitStepped, decide_eq_true hdue]; rfl)
      rw [hch, if_neg Bool.false_ne_true] at htyp
      exact ⟨⟨r, hr, htyp, hunit, hat, hsamples⟩, hstored, hsince⟩
    · next hearly =>
      obtain ⟨hstored, hsince⟩ :=
        h.streamCounts hmode (by rw [hch, keepaliveDue_unitStepped, decide_eq_false hearly]; rfl)
      exact ⟨hstored.trans ho, hsince⟩
  case blockBegins =>
    rintro d t z s hdue hlegal rfl hmode hblock
    obtain ⟨u, hexec, h⟩ := exec_toneSample_due hdue hlegal
    exact ⟨u, hexec, h.blockBegins hmode hblock⟩
  case blockFills =>
    rintro d t id n z s hdue hlegal rfl hmode hblock hcol
    obtain ⟨u, hexec, h⟩ := exec_toneSample_due hdue hlegal
    exact ⟨u, hexec, h.blockFills hmode hblock hcol⟩
  case copy =>
    rintro d c rest z s hcop hdue rfl
    obtain ⟨hcopies, hrecs, hwants, hcopied, hothers⟩ := acq_preCopied s d c rest
    obtain ⟨u, hexec, hacqs, hframe⟩ := preSegmentCopy_reads hcop hdue
    rw [← acq_congr hacqs] at hcopies hrecs hwants hcopied
    exact ⟨u, hexec, hcopies, hrecs, hwants,
      fun r hr hid => ⟨_, hcopied r hr hid, rfl, rfl, rfl, preSamples_preCopied r _ c, bit_flags_preCopied⟩,
      fun k hk => (acq_congr hacqs k).trans (hothers k hk), hframe⟩

end Sys2Proof.Machine
end
